-- ==== Sys2Proof/Word.lean ====
section
/-! DEFINITION. The word types of the machine and the plain table type every part of State is built of. -/

namespace Sys2Proof

/-- One byte. -/
abbrev Byte := BitVec 8

/-- One X register, CSR or 64-bit memory word (R15). -/
abbrev Word := BitVec 64

/-- A finite table: keyed data, smallest key first. A key that is not listed has the default of its table. -/
abbrev Tab (α : Type) := List (Nat × α)

end Sys2Proof
end

