-- ==== Sys2Proof/Payload.lean ====
section
/-! DEFINITION. The data that the events of the opcode table carry: packets of the mesh and the links, replies, the
requests of the host, of management and of other packages. Plain data only. -/

namespace Sys2Proof

/-- A message packet of SEND (R245, R248): destination and sender context addresses, size code, payload in the low
bits, the TSTAMP of its SEND, the colour of its core and whether a drop buffer has counted it (R418). -/
structure Msg where
  dst : Word
  src : Word
  sz : BitVec 2
  payload : BitVec 512
  stamp : Nat
  colour : Bool
  counted : Bool := false
  deriving DecidableEq, Repr

/-- A CBR contribution (R257, R261). -/
structure Contribution where
  group : Nat
  vf : Nat
  member : Word
  round : BitVec 32
  site : BitVec 52
  op : BitVec 2
  pred : Bool
  deriving DecidableEq, Repr

/-- One element of a Whisk contribution (R329, R330): an exact integer (SUM.I, MAXV.I, MINV.I, and SUM.F after Fix),
an FP32 value, a pair of value and index, or a mark carried by SUM.F. -/
inductive WElt where
  | int (i : Int)
  | fp (b : BitVec 32)
  | pair (val idx : BitVec 32)
  | nan
  | posInf
  | negInf
  deriving DecidableEq, Repr

/-- A Whisk contribution on its way to the owner die, with its place in the sender's program order and, for a row of MDRAIN, the
row (R185, R329). -/
structure WhiskMsg where
  id : Word
  vf : Nat
  src : Word
  elts : List WElt
  colour : Bool
  n : Nat := 0
  row : Nat := 0
  deriving DecidableEq, Repr

/-- The fields of a stream context that a CTX seed packet carries (R338, R358). -/
structure StreamFields where
  vf : Nat
  own : Nat
  npg : Nat
  aq : List Word
  hor : BitVec 16
  kid : BitVec 6
  layer : BitVec 16
  ret : BitVec 32
  hash : BitVec 128
  ver : BitVec 32
  fam : BitVec 32
  ford : BitVec 16
  par : BitVec 32
  inf : Bool
  deriving DecidableEq, Repr

/-- The STRM forms that a Samovar performs on a named stream (R353). -/
inductive StrmForm where
  | fork | next | ret | retire | retireSub | mig | infeas | apush | apop | stat | pin | unpin
  deriving DecidableEq, Repr

/-- The JOIN forms (R368). -/
inductive JoinForm where
  | jopen | jwait | jpoll | jclose
  deriving DecidableEq, Repr

/-- The reply of a remote STRM or JOIN operation (R353, R369): the value of rd, the values of JVAL and JSTAT (JOIN
forms only), the flags to OR into FFLAGS (SRET); or a trap with its TVAL and unit code. -/
inductive Reply where
  | ok (v jval jstat : Word) (flags : BitVec 6)
  | trap (cause : BitVec 6) (tval : Word) (unit : BitVec 4 := 0)
  deriving DecidableEq, Repr

/-- What a COLX.JOIN that asked another package is told (R255, R452): to create the group, or joined, with the number of earlier
joins and the open round, or refused, or that the group is aborted. -/
inductive GroupReply where
  | make
  | joined (v : Nat) (round : BitVec 32)
  | refused
  | aborted (round : BitVec 32)
  deriving DecidableEq, Repr

/-- A packet of the mesh or of the Leaf links. `groupAsk` to `groupGone` carry the joining and leaving of a group over the
packages of a partition (R254, R452; log entry 81); `room` says whether a context of another package accepts a message (R249;
log entry 11). `gone` and `moved` tell a family record on another package that a member has retired or migrated (R362, R363).
`forkAsk`, `forkGrant` and `forkDone` take the ordinal of a fork from a record on another package and tell it the child
(R356, R363), and `subAsk` has it perform an SRETIRE.SUB (R355). `migReq` asks a grove of another package to take a stream,
`migGrant` answers the stream's Samovar, and `migDrop` gives the reservation back (R357). `retire` is an order of a record,
`resolved` where its family's resolution retires the stream (R367), and with `ack` the answer to the context whose SRETIRE.SUB asked for it; `endOwner` ends the owner launch of a stream at its
own package (R351, R455), `memData` answers a load or an atomic of another package, and `memAck` acknowledges its store (R448).
`whiskAck` tells the sender of a contribution that the owner's router has taken it (R292, R330). The requests of a context
carry the time at which they were sent, and so do their replies. `result` is a round's result on its way to the members on
another package (R452): taken or not, or the abort code. A seed packet carries the colour of its sender until it is counted
(R418; log entry 47). `heartbeat` tells a neighbour that a package lives (R458), and `ckpt` brings the checkpoint of a partition
to the package's partner (R459; log entry 12). -/
inductive Packet where
  | msg (m : Msg)
  | contrib (c : Contribution)
  | result (members : List Word) (taken : Bool) (code : Nat)
  | groupAsk (src : Word) (vf id n : Nat)
  | groupReply (dst : Word) (vf id n home : Nat) (r : GroupReply)
  | groupLeave (member : Word) (vf id : Nat)
  | groupGone (vf id : Nat)
  | room (dst : Word) (full : Bool)
  | whisk (w : WhiskMsg)
  | seedCtx (newh src : BitVec 32) (f : StreamFields) (colour : Option Bool)
  | seedPage (newh src : BitVec 32) (slot : Nat) (bytes : List Host.Cell) (pin : Bool) (poison : List Nat) (colour : Option Bool)
  | seedEnd (newh src : BitVec 32) (colour : Option Bool)
  | seedAck (src : BitVec 32) (slot : Option Nat)
  | report (fam handle : BitVec 32) (ford : BitVec 16) (ret : BitVec 32) (inf : Bool) (ver : BitVec 32)
  | retire (fam handle : BitVec 32) (vf : Nat) (resolved : Bool) (ack : Option (Word × Nat))
  | gone (fam handle : BitVec 32) (ford : BitVec 16)
  | moved (fam handle newh : BitVec 32) (ford : BitVec 16)
  | forkAsk (src : Word) (sent vf : Nat) (fam parent : BitVec 32) (pord : BitVec 16)
  | forkGrant (src : Word) (sent vf : Nat) (fam parent : BitVec 32) (ord : BitVec 16) (ver : BitVec 32)
  | forkDone (fam child : BitVec 32) (ord : BitVec 16)
  | subAsk (src : Word) (sent vf : Nat) (fam handle : BitVec 32) (ord : BitVec 16)
  | strmReq (src : Word) (sent vf : Nat) (form : StrmForm) (handle opnd : Word)
  | joinReq (src : Word) (sent vf : Nat) (form : JoinForm) (fam opnd dl : Word)
  | reply (dst : Word) (sent : Nat) (r : Reply)
  | migReq (src : Word) (sent : Nat) (old : BitVec 32) (grove : Nat) (f : StreamFields) (quota : Nat) (hdr loga : Word) (b win logn : Nat)
  | migGrant (src : Word) (sent vf : Nat) (old newh : BitVec 32)
  | migDrop (newh : BitVec 32)
  | endOwner (own st : Nat)
  | memData (bytes : List Byte) (poison : Bool)
  | memAck
  | whiskAck (dst : Word) (n row : Nat)
  | heartbeat (src : Nat)
  | ckpt (src part : Nat)
  deriving DecidableEq, Repr

/-- Where an arriving packet comes from: the n-th packet in flight in this package, or a Leaf link, from where it comes with its
flow and its sequence number in it (R445, R446). -/
inductive Arrival where
  | net (n : Nat)
  | leaf (flow seq : Nat) (p : Packet)
  deriving DecidableEq, Repr

/-- The operation performed at a point of coherence (R306 to R308). -/
inductive AtomOp where
  | swap | add | and | or | xor | max | min | maxu | minu | cas | fadd | fmin | fmax | store | read
  deriving DecidableEq, Repr

/-- A request performed at the home slice of another package's frame (R448): a producer, a posted store or an atomic
of a context of this package, or an access of another package to a frame of this one. -/
inductive RemoteReq where
  | producer (c i k : Nat)
  | posted (c i k : Nat)
  | atomic (c : Nat)
  | foreignLoad (src : Nat) (pa size : Nat)
  | foreignStore (src : Nat) (pa : Nat) (bytes : List Byte)
  | foreignAtomic (src : Nat) (pa size : Nat) (op : AtomOp) (b e : Word)
  deriving DecidableEq, Repr

/-- A unit that can be self-tested and fenced (R401 to R403). -/
inductive UnitId where
  | core (n : Nat)
  | grove (n : Nat)
  | stack (n : Nat)
  | frame (g n : Nat)
  | podEntry (g n : Nat)
  | nearPage (n : Nat)
  | link (n : Nat)
  deriving DecidableEq, Repr

/-- Where an uncorrectable error lies (R399). Classes of registers are those of R22. -/
inductive PoisonAt where
  | l1 (core granule : Nat)
  | l2 (grove granule : Nat)
  | reg (c : Nat) (cls : BitVec 2) (n : Nat)
  | slot (core n : Nat)
  | pod (g n : Nat)
  | frame (g n granule : Nat)
  | mem (granule : Nat)
  | scratch (core granule : Nat)
  deriving DecidableEq, Repr

/-- A request to register a weight region (R423). -/
structure RegionReq where
  vf : Nat
  base : Nat
  len : Nat
  pol : Bool
  owner : BitVec 256
  deregKey : BitVec 256
  sig : BitVec 10240
  deriving DecidableEq, Repr

/-- A HANDOVER report as presented to a replacement device: its fields and its signature (R428, R429). -/
structure HandoverReport where
  kind : BitVec 64
  seq : BitVec 64
  devid : BitVec 256
  deploy : BitVec 128
  owner : BitVec 256
  region : BitVec 16
  vf : BitVec 16
  epoch : BitVec 32
  ops : BitVec 64
  bytes : BitVec 64
  stamp : BitVec 64
  target : BitVec 256
  nonce : BitVec 128
  restarts : BitVec 64
  sig : BitVec 10240
  deriving DecidableEq, Repr

/-- The two sides of R429. -/
inductive HandoverReq where
  | sign (region : Nat) (target : BitVec 256) (nonce : BitVec 128)
  | accept (region : Nat) (r : HandoverReport)
  deriving DecidableEq, Repr

/-- A host access to a register of a function's page (R420): a write of a value, or a read. -/
structure PageAccess where
  vf : Nat
  off : Nat
  val : Option Word
  deriving DecidableEq, Repr

/-- A host agent's access to host-tier memory (R301). -/
inductive HostAccess where
  | load (pa size : Nat)
  | store (pa : Nat) (bytes : List Byte)
  deriving DecidableEq, Repr

/-- A handler context that the Kettle starts (R29, R405): its virtual function, where it starts, and whether it becomes the
servicer of its grove's retry ring (R280). -/
structure HandlerStart where
  vf : Nat
  pc : Word
  servicer : Bool := false
  deriving DecidableEq, Repr

/-- A context that starts to run: of the task that is bound to it (R198), or as a handler context (R29). -/
structure TaskBegin where
  ctx : Nat
  handler : Option HandlerStart := none
  deriving DecidableEq, Repr

/-- One event of an access that is performed granule by granule (R284): the access, by its place in the list that holds it,
and which of its events it is. -/
structure GranuleEvent where
  entry : Nat
  part : Nat := 0
  deriving DecidableEq, Repr

/-- A window of the host tier as the Kettle records it at enumeration (R310, R456): the package and the offsets it covers,
the I/O die of its port, whether the port runs CXL.cache, and whether its root port completes AtomicOps of 32 and of 64
bits. -/
structure HostWindow where
  pkg : Nat
  base : Nat
  len : Nat
  port : Nat := 0
  cxlCache : Bool := false
  atomic32 : Bool := false
  atomic64 : Bool := false
  deriving DecidableEq, Repr

/-- A firmware image (R470): which image (0 Sencha, 1 Kettle, 2 Infuser), its digest, version and signature. -/
structure Firmware where
  which : Nat
  digest : BitVec 256
  version : Nat
  rev : Nat
  sig : BitVec 10240
  deriving DecidableEq, Repr, Inhabited

/-- A management request with a payload of one number: the cap of POWERCAP, or a command byte that the table of R473 does not
name (log entry 51). -/
inductive CapReq where
  | watts (n : Nat)
  | unknown (byte : Nat)
  deriving DecidableEq, Repr

end Sys2Proof
end

