-- ==== Sys2Proof/Config.lean ====
section
/-! DEFINITION. What an implementation fixes and the free values: opaque constants that nothing can evaluate. A value
that the spec leaves open within a set is chosen by a free value applied to a plain counter of State (log entry 4); what a
key of the device would give is an opaque function of its input (log entry 5). -/

namespace Sys2Proof

/-- The n-th free choice among the values that the spec allows (R4, R268, R296, R322; log entry 4). -/
opaque Config.freeBit : Nat → Bool

/-- The n-th free byte (log entry 4). -/
opaque Config.freeByte : Nat → Byte

/-- The device identity: SHAKE256 of the device identity key (R471; log entry 5). -/
opaque Config.devid : BitVec 256

/-- The Falcon-1024 signature of this device over a 64-byte digest, in padded format (R428, R472; log entry 5). -/
opaque Config.sign : BitVec 512 → BitVec 10240

/-- Whether a padded Falcon-1024 signature over a message verifies under the key whose SHAKE256 digest is given
(R423, R429, R470, R471; log entry 5). -/
opaque Config.verify : BitVec 256 → List Byte → BitVec 10240 → Bool

/-- The digest of the Folnov public key, held by the boot ROM (R470; log entry 5). -/
opaque Config.folnovKey : BitVec 256

/-- The digest of the operator's public key (R471; log entry 5). -/
opaque Config.operatorKey : BitVec 256

/-- The windows of the host tier as the Kettle finds them at enumeration: each port, its protocol and its AtomicOp completers
(R310, R456; log entry 67). -/
opaque Config.hostWindows : List HostWindow

/-- How many launches a submission queue holds (R420; log entry 4). -/
opaque Config.submitCapacity : Nat

/-- How many cycles the n-th management request is served for (R473; log entry 6). -/
opaque Config.serviceTime : Nat → Nat

/-- Firmware image 0 to 2 as built into bank 0, with its digest, signature and version, and for the Infuser's the revision in
ICFG (R226, R470, R472; log entry 5). -/
opaque Config.firmware : Nat → Firmware

/-- The capacity of the expander that port 0 or 1 finds when its decoder is programmed (R457; log entry 67). -/
opaque Config.farCapacity : Nat → Nat

/-- The byte that a load reads of a frame to which translations give two homes, by its address and the cycle (R275; log entry 90). -/
opaque Config.staleByte : Nat → Nat → Byte

/-- Whether a near or far frame of another package is installed there and not fenced: its address in units of 2 MiB, and the cycle
(R271, R457, R469; log entry 68). -/
opaque Config.awayInstalled : Nat → Nat → Bool

/-- TVAL of the METER trap of an MMA whose slot tags name a region frozen by a handover, by the region: the rules give an MMA no
address (R389, R429; log entry 93). -/
opaque Config.frozenValue : Nat → BitVec 64

/-- Whether a partition spans a grove of another package, numbered 48 times the package plus the grove (R412; log entry 11). -/
opaque Config.spans : Nat → Nat → Bool

end Sys2Proof
end

