-- ==== Sys2Proof/Syntax.lean ====
section
/-! DEFINITION. The instruction set: one constructor for each row of spec/opcode_table.json. An encoded row has the
fields the table gives its word (s is the static mark, l is LONE, t, u and v are the T bits, the other letters are the
format fields of R46 and R47); an event row has the data the event carries. No meaning stands here. -/

namespace Sys2Proof

/-- One step of the machine: an instruction of the opcode map (R51 to R54) or an event of the device. -/
inductive Instr where
  /-- NOP (R117). -/
  | nop (s : Bool) (l : Bool)
  /-- HALT (R118). -/
  | halt (s : Bool) (l : Bool)
  /-- ECALL (R119). -/
  | ecall (s : Bool) (l : Bool)
  /-- EBREAK (R117). -/
  | ebreak (s : Bool) (l : Bool)
  /-- HRET (R392). -/
  | hret (s : Bool) (l : Bool)
  /-- YIELD (R120). -/
  | yield (s : Bool) (l : Bool)
  /-- CSRR (R116). -/
  | csrr (s : Bool) (l : Bool) (d : BitVec 5) (c : BitVec 11)
  /-- CSRW (R116). -/
  | csrw (s : Bool) (l : Bool) (d : BitVec 5) (a : BitVec 5) (c : BitVec 11)
  /-- CSRS (R116). -/
  | csrs (s : Bool) (l : Bool) (d : BitVec 5) (a : BitVec 5) (c : BitVec 11)
  /-- CSRC (R116). -/
  | csrc (s : Bool) (l : Bool) (d : BitVec 5) (a : BitVec 5) (c : BitVec 11)
  /-- BEQ (R107). -/
  | beq (s : Bool) (l : Bool) (a : BitVec 5) (b : BitVec 5) (o : BitVec 12)
  /-- BNE (R107). -/
  | bne (s : Bool) (l : Bool) (a : BitVec 5) (b : BitVec 5) (o : BitVec 12)
  /-- BLT (R107). -/
  | blt (s : Bool) (l : Bool) (a : BitVec 5) (b : BitVec 5) (o : BitVec 12)
  /-- BGE (R107). -/
  | bge (s : Bool) (l : Bool) (a : BitVec 5) (b : BitVec 5) (o : BitVec 12)
  /-- BLTU (R107). -/
  | bltu (s : Bool) (l : Bool) (a : BitVec 5) (b : BitVec 5) (o : BitVec 12)
  /-- BGEU (R107). -/
  | bgeu (s : Bool) (l : Bool) (a : BitVec 5) (b : BitVec 5) (o : BitVec 12)
  /-- BMSK_ANY (R108). -/
  | bmskAny (s : Bool) (l : Bool) (k : BitVec 3) (o : BitVec 12)
  /-- BMSK_NONE (R108). -/
  | bmskNone (s : Bool) (l : Bool) (k : BitVec 3) (o : BitVec 12)
  /-- BMSK_ALL (R108). -/
  | bmskAll (s : Bool) (l : Bool) (k : BitVec 3) (o : BitVec 12)
  /-- BMSK_NALL (R108). -/
  | bmskNall (s : Bool) (l : Bool) (k : BitVec 3) (o : BitVec 12)
  /-- JAL (R109). -/
  | jal (s : Bool) (l : Bool) (d : BitVec 5) (o : BitVec 18)
  /-- JALR (R109). -/
  | jalr (s : Bool) (l : Bool) (d : BitVec 5) (a : BitVec 5) (t : Bool) (i : BitVec 12)
  /-- LOOP (R111). -/
  | loop (s : Bool) (l : Bool) (n : Bool) (a : BitVec 5) (t : Bool) (i : BitVec 12)
  /-- REP (R113). -/
  | rep (s : Bool) (l : Bool) (a : BitVec 5) (t : Bool) (i : BitVec 12)
  /-- LDG (R122). -/
  | ldg (s : Bool) (l : Bool) (d : BitVec 5) (a : BitVec 5) (o : BitVec 8) (z : BitVec 2) (w : BitVec 2) (e : Bool)
  /-- STG (R122). -/
  | stg (s : Bool) (l : Bool) (d : BitVec 5) (a : BitVec 5) (o : BitVec 8) (z : BitVec 2) (w : BitVec 2) (t : Bool)
  /-- LDS (R122). -/
  | lds (s : Bool) (l : Bool) (d : BitVec 5) (a : BitVec 5) (o : BitVec 8) (z : BitVec 2) (w : BitVec 2) (e : Bool)
  /-- STS (R122). -/
  | sts (s : Bool) (l : Bool) (d : BitVec 5) (a : BitVec 5) (o : BitVec 8) (z : BitVec 2) (w : BitVec 2) (t : Bool)
  /-- LDW (R122). -/
  | ldw (s : Bool) (l : Bool) (d : BitVec 5) (a : BitVec 5) (o : BitVec 8) (z : BitVec 2) (w : BitVec 2) (e : Bool)
  /-- STW (R350). -/
  | stw (s : Bool) (l : Bool) (d : BitVec 5) (a : BitVec 5) (o : BitVec 8) (z : BitVec 2) (w : BitVec 2) (t : Bool)
  /-- VLDG (R133). -/
  | vldg (s : Bool) (l : Bool) (d : BitVec 5) (a : BitVec 5) (o : BitVec 8) (z : BitVec 2) (w : BitVec 2)
  /-- VSTG (R133). -/
  | vstg (s : Bool) (l : Bool) (d : BitVec 5) (a : BitVec 5) (o : BitVec 8) (z : BitVec 2) (w : BitVec 2) (t : Bool)
  /-- VLDS (R133). -/
  | vlds (s : Bool) (l : Bool) (d : BitVec 5) (a : BitVec 5) (o : BitVec 8) (z : BitVec 2) (w : BitVec 2)
  /-- VSTS (R133). -/
  | vsts (s : Bool) (l : Bool) (d : BitVec 5) (a : BitVec 5) (o : BitVec 8) (z : BitVec 2) (w : BitVec 2) (t : Bool)
  /-- VGATH (R136). -/
  | vgath (s : Bool) (l : Bool) (d : BitVec 5) (a : BitVec 5) (b : BitVec 5) (t : Bool) (u : Bool) (p : BitVec 2) (m : BitVec 3)
  /-- VSCAT (R136). -/
  | vscat (s : Bool) (l : Bool) (d : BitVec 5) (a : BitVec 5) (b : BitVec 5) (t : Bool) (u : Bool) (p : BitVec 2) (m : BitVec 3)
  /-- LDO (R306). -/
  | ldo (s : Bool) (l : Bool) (d : BitVec 5) (a : BitVec 5) (z : BitVec 2) (e : Bool) (o : BitVec 2) (c : BitVec 2)
  /-- STO (R306). -/
  | sto (s : Bool) (l : Bool) (a : BitVec 5) (b : BitVec 5) (z : BitVec 2) (o : BitVec 2) (c : BitVec 2)
  /-- AMO_SWAP (R308). -/
  | amoSwap (s : Bool) (l : Bool) (d : BitVec 5) (a : BitVec 5) (b : BitVec 5) (z : Bool) (o : BitVec 2) (c : BitVec 2)
  /-- AMO_ADD (R308). -/
  | amoAdd (s : Bool) (l : Bool) (d : BitVec 5) (a : BitVec 5) (b : BitVec 5) (z : Bool) (o : BitVec 2) (c : BitVec 2)
  /-- AMO_AND (R308). -/
  | amoAnd (s : Bool) (l : Bool) (d : BitVec 5) (a : BitVec 5) (b : BitVec 5) (z : Bool) (o : BitVec 2) (c : BitVec 2)
  /-- AMO_OR (R308). -/
  | amoOr (s : Bool) (l : Bool) (d : BitVec 5) (a : BitVec 5) (b : BitVec 5) (z : Bool) (o : BitVec 2) (c : BitVec 2)
  /-- AMO_XOR (R308). -/
  | amoXor (s : Bool) (l : Bool) (d : BitVec 5) (a : BitVec 5) (b : BitVec 5) (z : Bool) (o : BitVec 2) (c : BitVec 2)
  /-- AMO_MAX (R308). -/
  | amoMax (s : Bool) (l : Bool) (d : BitVec 5) (a : BitVec 5) (b : BitVec 5) (z : Bool) (o : BitVec 2) (c : BitVec 2)
  /-- AMO_MIN (R308). -/
  | amoMin (s : Bool) (l : Bool) (d : BitVec 5) (a : BitVec 5) (b : BitVec 5) (z : Bool) (o : BitVec 2) (c : BitVec 2)
  /-- AMO_MAXU (R308). -/
  | amoMaxu (s : Bool) (l : Bool) (d : BitVec 5) (a : BitVec 5) (b : BitVec 5) (z : Bool) (o : BitVec 2) (c : BitVec 2)
  /-- AMOX_MINU (R308). -/
  | amoxMinu (s : Bool) (l : Bool) (d : BitVec 5) (a : BitVec 5) (b : BitVec 5) (z : Bool) (o : BitVec 2) (c : BitVec 2)
  /-- AMOX_CAS (R308). -/
  | amoxCas (s : Bool) (l : Bool) (d : BitVec 5) (a : BitVec 5) (b : BitVec 5) (z : Bool) (o : BitVec 2) (c : BitVec 2)
  /-- AMOX_FADD (R308). -/
  | amoxFadd (s : Bool) (l : Bool) (d : BitVec 5) (a : BitVec 5) (b : BitVec 5) (o : BitVec 2) (c : BitVec 2)
  /-- AMOX_FMIN (R308). -/
  | amoxFmin (s : Bool) (l : Bool) (d : BitVec 5) (a : BitVec 5) (b : BitVec 5) (o : BitVec 2) (c : BitVec 2)
  /-- AMOX_FMAX (R308). -/
  | amoxFmax (s : Bool) (l : Bool) (d : BitVec 5) (a : BitVec 5) (b : BitVec 5) (o : BitVec 2) (c : BitVec 2)
  /-- FENCE (R311). -/
  | fence (s : Bool) (l : Bool) (o : BitVec 2) (c : BitVec 2)
  /-- WAITC (R312). -/
  | waitc (s : Bool) (l : Bool) (c : BitVec 2)
  /-- WAITA (R313). -/
  | waita (s : Bool) (l : Bool) (d : BitVec 5) (a : BitVec 5) (b : BitVec 5) (t : Bool) (u : Bool) (z : Bool) (c : BitVec 2)
  /-- QBIND (R244). -/
  | qbind (s : Bool) (l : Bool) (d : BitVec 5) (a : BitVec 5) (t : Bool)
  /-- QUNBIND (R244). -/
  | qunbind (s : Bool) (l : Bool) (d : BitVec 5)
  /-- TTRUN (R252). -/
  | ttrun (s : Bool) (l : Bool) (d : BitVec 5) (a : BitVec 5) (t : Bool)
  /-- SEND (R245). -/
  | send (s : Bool) (l : Bool) (a : BitVec 5) (b : BitVec 5) (t : Bool) (u : Bool) (z : BitVec 2)
  /-- QNEW (R244). -/
  | qnew (s : Bool) (l : Bool) (d : BitVec 5) (c : BitVec 2)
  /-- CBR_ANY (R257). -/
  | cbrAny (s : Bool) (l : Bool) (a : BitVec 5) (h : BitVec 2) (o : BitVec 12)
  /-- CBR_ALL (R257). -/
  | cbrAll (s : Bool) (l : Bool) (a : BitVec 5) (h : BitVec 2) (o : BitVec 12)
  /-- CBR_MAJ (R257). -/
  | cbrMaj (s : Bool) (l : Bool) (a : BitVec 5) (h : BitVec 2) (o : BitVec 12)
  /-- COLX_JOIN (R255). -/
  | colxJoin (s : Bool) (l : Bool) (d : BitVec 5) (a : BitVec 5) (b : BitVec 5) (t : Bool) (u : Bool)
  /-- COLX_LEAVE (R255). -/
  | colxLeave (s : Bool) (l : Bool)
  /-- SPT_CPY (R319). -/
  | sptCpy (s : Bool) (l : Bool) (d : BitVec 5) (a : BitVec 5) (t : Bool)
  /-- SPT_CAN (R321). -/
  | sptCan (s : Bool) (l : Bool) (d : BitVec 5) (a : BitVec 5) (t : Bool)
  /-- SPT_POLL (R321). -/
  | sptPoll (s : Bool) (l : Bool) (d : BitVec 5) (a : BitVec 5) (t : Bool)
  /-- BAR_INIT (R325). -/
  | barInit (s : Bool) (l : Bool) (a : BitVec 5) (b : BitVec 5) (t : Bool) (u : Bool)
  /-- BAR_EXP (R325). -/
  | barExp (s : Bool) (l : Bool) (a : BitVec 5) (b : BitVec 5) (t : Bool) (u : Bool)
  /-- BAR_ARV (R325). -/
  | barArv (s : Bool) (l : Bool) (d : BitVec 5) (a : BitVec 5) (t : Bool)
  /-- BAR_WT (R326). -/
  | barWt (s : Bool) (l : Bool) (d : BitVec 5) (a : BitVec 5) (b : BitVec 5) (t : Bool) (u : Bool)
  /-- MCLAIM (R170). -/
  | mclaim (s : Bool) (l : Bool) (d : BitVec 5) (a : BitVec 5) (t : Bool)
  /-- MREL (R170). -/
  | mrel (s : Bool) (l : Bool) (a : BitVec 5) (t : Bool)
  /-- MLD (R172). -/
  | mld (s : Bool) (l : Bool) (d : BitVec 5) (a : BitVec 5) (b : BitVec 5) (t : Bool) (u : Bool) (c : Bool) (p : BitVec 2)
  /-- MST_F32 (R183). -/
  | mstF32 (s : Bool) (l : Bool) (n : BitVec 2) (a : BitVec 5) (b : BitVec 5) (t : Bool) (u : Bool) (m : Bool) (p : BitVec 2)
  /-- MST_H (R183). -/
  | mstH (s : Bool) (l : Bool) (n : BitVec 2) (a : BitVec 5) (b : BitVec 5) (t : Bool) (u : Bool) (m : Bool) (p : BitVec 2)
  /-- MST_B (R183). -/
  | mstB (s : Bool) (l : Bool) (n : BitVec 2) (a : BitVec 5) (b : BitVec 5) (t : Bool) (u : Bool) (m : Bool) (p : BitVec 2)
  /-- MDRAIN (R185). -/
  | mdrain (s : Bool) (l : Bool) (n : BitVec 2) (a : BitVec 5) (b : BitVec 5) (t : Bool) (u : Bool)
  /-- CTLD (R96). -/
  | ctld (s : Bool) (l : Bool) (a : BitVec 5) (t : Bool) (p : Bool) (n : Bool)
  /-- HLD_G (R158). -/
  | hldG (s : Bool) (l : Bool) (h : BitVec 3) (a : BitVec 5) (t : Bool)
  /-- HLD_S (R158). -/
  | hldS (s : Bool) (l : Bool) (h : BitVec 3) (a : BitVec 5) (t : Bool)
  /-- HST_G (R158). -/
  | hstG (s : Bool) (l : Bool) (a : BitVec 5) (h : BitVec 3) (t : Bool) (u : Bool)
  /-- HST_S (R158). -/
  | hstS (s : Bool) (l : Bool) (a : BitVec 5) (h : BitVec 3) (t : Bool) (u : Bool)
  /-- PODW (R161). -/
  | podw (s : Bool) (l : Bool) (a : BitVec 5) (h : BitVec 3) (t : Bool) (u : Bool)
  /-- PODS (R162). -/
  | pods (s : Bool) (l : Bool) (d : BitVec 5) (h : BitVec 3) (u : Bool)
  /-- PODR (R161). -/
  | podr (s : Bool) (l : Bool) (h : BitVec 3) (a : BitVec 5) (t : Bool)
  /-- SSPAWN (R344). -/
  | sspawn (s : Bool) (l : Bool) (d : BitVec 5) (a : BitVec 5) (t : Bool)
  /-- SFORK (R356). -/
  | sfork (s : Bool) (l : Bool) (d : BitVec 5) (a : BitVec 5) (t : Bool)
  /-- SNEXT (R355). -/
  | snext (s : Bool) (l : Bool) (a : BitVec 5) (b : BitVec 5) (t : Bool) (u : Bool)
  /-- SRET (R355). -/
  | sret (s : Bool) (l : Bool) (a : BitVec 5) (b : BitVec 5) (t : Bool) (u : Bool)
  /-- SRETIRE (R355). -/
  | sretire (s : Bool) (l : Bool) (a : BitVec 5) (t : Bool)
  /-- SRETIRE_SUB (R355). -/
  | sretireSub (s : Bool) (l : Bool) (a : BitVec 5) (t : Bool)
  /-- SMIG (R357). -/
  | smig (s : Bool) (l : Bool) (d : BitVec 5) (a : BitVec 5) (b : BitVec 5) (t : Bool) (u : Bool)
  /-- SINFEAS (R355). -/
  | sinfeas (s : Bool) (l : Bool) (a : BitVec 5) (t : Bool)
  /-- SAPUSH (R355). -/
  | sapush (s : Bool) (l : Bool) (d : BitVec 5) (a : BitVec 5) (b : BitVec 5) (t : Bool) (u : Bool)
  /-- SAPOP (R355). -/
  | sapop (s : Bool) (l : Bool) (d : BitVec 5) (a : BitVec 5) (t : Bool)
  /-- SSTAT (R355). -/
  | sstat (s : Bool) (l : Bool) (d : BitVec 5) (a : BitVec 5) (t : Bool)
  /-- SPIN (R355). -/
  | spin (s : Bool) (l : Bool) (a : BitVec 5) (b : BitVec 5) (t : Bool) (u : Bool)
  /-- SUNPIN (R355). -/
  | sunpin (s : Bool) (l : Bool) (a : BitVec 5) (b : BitVec 5) (t : Bool) (u : Bool)
  /-- JOPEN (R369). -/
  | jopen (s : Bool) (l : Bool) (d : BitVec 5) (a : BitVec 5) (b : BitVec 5) (t : Bool) (u : Bool)
  /-- JWAIT (R369). -/
  | jwait (s : Bool) (l : Bool) (d : BitVec 5) (a : BitVec 5) (t : Bool)
  /-- JPOLL (R369). -/
  | jpoll (s : Bool) (l : Bool) (d : BitVec 5) (a : BitVec 5) (b : BitVec 5) (t : Bool) (u : Bool)
  /-- JCLOSE (R369). -/
  | jclose (s : Bool) (l : Bool) (a : BitVec 5) (b : BitVec 5) (t : Bool) (u : Bool)
  /-- WOPEN (R328). -/
  | wopen (s : Bool) (l : Bool) (d : BitVec 5) (a : BitVec 5) (t : Bool)
  /-- WSUM_I (R329). -/
  | wsumI (s : Bool) (l : Bool) (a : BitVec 5) (b : BitVec 5) (t : Bool) (u : Bool)
  /-- WSUM_F (R329). -/
  | wsumF (s : Bool) (l : Bool) (a : BitVec 5) (b : BitVec 5) (t : Bool) (u : Bool)
  /-- WMAXV_I (R329). -/
  | wmaxvI (s : Bool) (l : Bool) (a : BitVec 5) (b : BitVec 5) (t : Bool) (u : Bool)
  /-- WMAXV_F (R329). -/
  | wmaxvF (s : Bool) (l : Bool) (a : BitVec 5) (b : BitVec 5) (t : Bool) (u : Bool)
  /-- WMINV_I (R329). -/
  | wminvI (s : Bool) (l : Bool) (a : BitVec 5) (b : BitVec 5) (t : Bool) (u : Bool)
  /-- WMINV_F (R329). -/
  | wminvF (s : Bool) (l : Bool) (a : BitVec 5) (b : BitVec 5) (t : Bool) (u : Bool)
  /-- WMAX (R329). -/
  | wmax (s : Bool) (l : Bool) (a : BitVec 5) (b : BitVec 5) (t : Bool) (u : Bool)
  /-- REPLAY (R406). -/
  | replay (s : Bool) (l : Bool) (d : BitVec 5) (a : BitVec 5) (t : Bool)
  /-- TLBINV (R407). -/
  | tlbinv (s : Bool) (l : Bool) (a : BitVec 5) (b : BitVec 5) (t : Bool) (u : Bool)
  /-- CFLIP (R408). -/
  | cflip (s : Bool) (l : Bool) (a : BitVec 5) (t : Bool)
  /-- MTRD (R409). -/
  | mtrd (s : Bool) (l : Bool) (d : BitVec 5) (a : BitVec 5) (b : BitVec 5) (t : Bool) (u : Bool)
  /-- LUI (R106). -/
  | lui (s : Bool) (l : Bool) (d : BitVec 5) (k : BitVec 16)
  /-- LUI_SH (R106). -/
  | luiSh (s : Bool) (l : Bool) (d : BitVec 5) (k : BitVec 16)
  /-- LNCH (R210). -/
  | lnch (s : Bool) (l : Bool) (d : BitVec 5) (a : BitVec 5) (t : Bool)
  /-- LNCH_POLL (R211). -/
  | lnchPoll (s : Bool) (l : Bool) (d : BitVec 5) (a : BitVec 5) (t : Bool)
  /-- LNCH_WAIT (R211). -/
  | lnchWait (s : Bool) (l : Bool) (d : BitVec 5) (a : BitVec 5) (t : Bool)
  /-- ADD (R100). -/
  | add (s : Bool) (d : BitVec 5) (a : BitVec 5) (b : BitVec 5) (t : Bool) (u : Bool) (x : Bool)
  /-- SUB (R100). -/
  | sub (s : Bool) (d : BitVec 5) (a : BitVec 5) (b : BitVec 5) (t : Bool) (u : Bool) (x : Bool)
  /-- AND (R100). -/
  | and (s : Bool) (d : BitVec 5) (a : BitVec 5) (b : BitVec 5) (t : Bool) (u : Bool) (x : Bool)
  /-- OR (R100). -/
  | or (s : Bool) (d : BitVec 5) (a : BitVec 5) (b : BitVec 5) (t : Bool) (u : Bool) (x : Bool)
  /-- XOR (R100). -/
  | xor (s : Bool) (d : BitVec 5) (a : BitVec 5) (b : BitVec 5) (t : Bool) (u : Bool) (x : Bool)
  /-- ANDN (R100). -/
  | andn (s : Bool) (d : BitVec 5) (a : BitVec 5) (b : BitVec 5) (t : Bool) (u : Bool) (x : Bool)
  /-- SLL (R100). -/
  | sll (s : Bool) (d : BitVec 5) (a : BitVec 5) (b : BitVec 5) (t : Bool) (u : Bool) (x : Bool)
  /-- SRL (R100). -/
  | srl (s : Bool) (d : BitVec 5) (a : BitVec 5) (b : BitVec 5) (t : Bool) (u : Bool) (x : Bool)
  /-- SRA (R100). -/
  | sra (s : Bool) (d : BitVec 5) (a : BitVec 5) (b : BitVec 5) (t : Bool) (u : Bool) (x : Bool)
  /-- ROR (R100). -/
  | ror (s : Bool) (d : BitVec 5) (a : BitVec 5) (b : BitVec 5) (t : Bool) (u : Bool) (x : Bool)
  /-- SLT (R100). -/
  | slt (s : Bool) (d : BitVec 5) (a : BitVec 5) (b : BitVec 5) (t : Bool) (u : Bool) (x : Bool)
  /-- SLTU (R100). -/
  | sltu (s : Bool) (d : BitVec 5) (a : BitVec 5) (b : BitVec 5) (t : Bool) (u : Bool) (x : Bool)
  /-- MIN (R100). -/
  | min (s : Bool) (d : BitVec 5) (a : BitVec 5) (b : BitVec 5) (t : Bool) (u : Bool) (x : Bool)
  /-- MAX (R100). -/
  | max (s : Bool) (d : BitVec 5) (a : BitVec 5) (b : BitVec 5) (t : Bool) (u : Bool) (x : Bool)
  /-- MINU (R100). -/
  | minu (s : Bool) (d : BitVec 5) (a : BitVec 5) (b : BitVec 5) (t : Bool) (u : Bool) (x : Bool)
  /-- MAXU (R100). -/
  | maxu (s : Bool) (d : BitVec 5) (a : BitVec 5) (b : BitVec 5) (t : Bool) (u : Bool) (x : Bool)
  /-- MUL (R100). -/
  | mul (s : Bool) (d : BitVec 5) (a : BitVec 5) (b : BitVec 5) (t : Bool) (u : Bool) (x : Bool)
  /-- MULH (R100). -/
  | mulh (s : Bool) (d : BitVec 5) (a : BitVec 5) (b : BitVec 5) (t : Bool) (u : Bool)
  /-- MULHU (R100). -/
  | mulhu (s : Bool) (d : BitVec 5) (a : BitVec 5) (b : BitVec 5) (t : Bool) (u : Bool)
  /-- DIV (R100). -/
  | div (s : Bool) (d : BitVec 5) (a : BitVec 5) (b : BitVec 5) (t : Bool) (u : Bool) (x : Bool)
  /-- DIVU (R100). -/
  | divu (s : Bool) (d : BitVec 5) (a : BitVec 5) (b : BitVec 5) (t : Bool) (u : Bool) (x : Bool)
  /-- REM (R100). -/
  | rem (s : Bool) (d : BitVec 5) (a : BitVec 5) (b : BitVec 5) (t : Bool) (u : Bool) (x : Bool)
  /-- REMU (R100). -/
  | remu (s : Bool) (d : BitVec 5) (a : BitVec 5) (b : BitVec 5) (t : Bool) (u : Bool) (x : Bool)
  /-- ADDS (R100). -/
  | adds (s : Bool) (d : BitVec 5) (a : BitVec 5) (b : BitVec 5) (t : Bool) (u : Bool) (x : Bool)
  /-- SUBS (R100). -/
  | subs (s : Bool) (d : BitVec 5) (a : BitVec 5) (b : BitVec 5) (t : Bool) (u : Bool) (x : Bool)
  /-- CLZ (R100). -/
  | clz (s : Bool) (d : BitVec 5) (a : BitVec 5) (t : Bool) (x : Bool)
  /-- CTZ (R100). -/
  | ctz (s : Bool) (d : BitVec 5) (a : BitVec 5) (t : Bool) (x : Bool)
  /-- POPC (R100). -/
  | popc (s : Bool) (d : BitVec 5) (a : BitVec 5) (t : Bool) (x : Bool)
  /-- WFLD (R101). -/
  | wfld (s : Bool) (d : BitVec 5) (a : BitVec 5) (b : BitVec 5) (t : Bool) (u : Bool)
  /-- CHKB (R102). -/
  | chkb (s : Bool) (d : BitVec 5) (a : BitVec 5) (b : BitVec 5) (t : Bool) (u : Bool)
  /-- ADDI (R103). -/
  | addi (s : Bool) (d : BitVec 5) (a : BitVec 5) (t : Bool) (i : BitVec 13)
  /-- ANDI (R103). -/
  | andi (s : Bool) (d : BitVec 5) (a : BitVec 5) (t : Bool) (i : BitVec 13)
  /-- ORI (R103). -/
  | ori (s : Bool) (d : BitVec 5) (a : BitVec 5) (t : Bool) (i : BitVec 13)
  /-- XORI (R103). -/
  | xori (s : Bool) (d : BitVec 5) (a : BitVec 5) (t : Bool) (i : BitVec 13)
  /-- SLTI (R103). -/
  | slti (s : Bool) (d : BitVec 5) (a : BitVec 5) (t : Bool) (i : BitVec 13)
  /-- SLLI (R104). -/
  | slli (s : Bool) (d : BitVec 5) (a : BitVec 5) (t : Bool) (w : Bool) (c : BitVec 6)
  /-- SRLI (R104). -/
  | srli (s : Bool) (d : BitVec 5) (a : BitVec 5) (t : Bool) (w : Bool) (c : BitVec 6)
  /-- SRAI (R104). -/
  | srai (s : Bool) (d : BitVec 5) (a : BitVec 5) (t : Bool) (w : Bool) (c : BitVec 6)
  /-- RORI (R104). -/
  | rori (s : Bool) (d : BitVec 5) (a : BitVec 5) (t : Bool) (w : Bool) (c : BitVec 6)
  /-- SEL (R105). -/
  | sel (s : Bool) (d : BitVec 5) (a : BitVec 5) (b : BitVec 5) (c : BitVec 5) (t : Bool) (u : Bool) (v : Bool)
  /-- SEL_N (R105). -/
  | selN (s : Bool) (d : BitVec 5) (a : BitVec 5) (b : BitVec 5) (c : BitVec 5) (t : Bool) (u : Bool) (v : Bool)
  /-- FADD (R126). -/
  | fadd (s : Bool) (d : BitVec 5) (a : BitVec 5) (b : BitVec 5) (t : Bool) (u : Bool)
  /-- FSUB (R126). -/
  | fsub (s : Bool) (d : BitVec 5) (a : BitVec 5) (b : BitVec 5) (t : Bool) (u : Bool)
  /-- FMUL (R126). -/
  | fmul (s : Bool) (d : BitVec 5) (a : BitVec 5) (b : BitVec 5) (t : Bool) (u : Bool)
  /-- FDIV (R126). -/
  | fdiv (s : Bool) (d : BitVec 5) (a : BitVec 5) (b : BitVec 5) (t : Bool) (u : Bool)
  /-- FMIN (R126). -/
  | fmin (s : Bool) (d : BitVec 5) (a : BitVec 5) (b : BitVec 5) (t : Bool) (u : Bool)
  /-- FMAX (R126). -/
  | fmax (s : Bool) (d : BitVec 5) (a : BitVec 5) (b : BitVec 5) (t : Bool) (u : Bool)
  /-- FSQRT (R126). -/
  | fsqrt (s : Bool) (d : BitVec 5) (a : BitVec 5) (t : Bool)
  /-- FABS (R126). -/
  | fabs (s : Bool) (d : BitVec 5) (a : BitVec 5) (t : Bool)
  /-- FNEG (R126). -/
  | fneg (s : Bool) (d : BitVec 5) (a : BitVec 5) (t : Bool)
  /-- FSGNJ (R126). -/
  | fsgnj (s : Bool) (d : BitVec 5) (a : BitVec 5) (b : BitVec 5) (t : Bool) (u : Bool)
  /-- FEQ (R126). -/
  | feq (s : Bool) (d : BitVec 5) (a : BitVec 5) (b : BitVec 5) (t : Bool) (u : Bool)
  /-- FLT (R126). -/
  | flt (s : Bool) (d : BitVec 5) (a : BitVec 5) (b : BitVec 5) (t : Bool) (u : Bool)
  /-- FLE (R126). -/
  | fle (s : Bool) (d : BitVec 5) (a : BitVec 5) (b : BitVec 5) (t : Bool) (u : Bool)
  /-- FCLASS (R126). -/
  | fclass (s : Bool) (d : BitVec 5) (a : BitVec 5) (t : Bool)
  /-- FMV_XF (R126). -/
  | fmvXf (s : Bool) (d : BitVec 5) (a : BitVec 5) (t : Bool)
  /-- FMV_FX (R126). -/
  | fmvFx (s : Bool) (d : BitVec 5) (a : BitVec 5) (t : Bool)
  /-- FMADD (R127). -/
  | fmadd (s : Bool) (d : BitVec 5) (a : BitVec 5) (b : BitVec 5) (c : BitVec 5) (t : Bool) (u : Bool) (v : Bool)
  /-- FMSUB (R127). -/
  | fmsub (s : Bool) (d : BitVec 5) (a : BitVec 5) (b : BitVec 5) (c : BitVec 5) (t : Bool) (u : Bool) (v : Bool)
  /-- FCVT_F_I (R95). -/
  | fcvtFI (s : Bool) (d : BitVec 5) (a : BitVec 5) (t : Bool)
  /-- FCVT_F_U (R95). -/
  | fcvtFU (s : Bool) (d : BitVec 5) (a : BitVec 5) (t : Bool)
  /-- FCVT_I_F (R95). -/
  | fcvtIF (s : Bool) (d : BitVec 5) (a : BitVec 5) (t : Bool)
  /-- FCVT_U_F (R95). -/
  | fcvtUF (s : Bool) (d : BitVec 5) (a : BitVec 5) (t : Bool)
  /-- FCVT_H_F (R95). -/
  | fcvtHF (s : Bool) (d : BitVec 5) (a : BitVec 5) (t : Bool)
  /-- FCVT_F_H (R95). -/
  | fcvtFH (s : Bool) (d : BitVec 5) (a : BitVec 5) (t : Bool)
  /-- FCVT_B_F (R95). -/
  | fcvtBF (s : Bool) (d : BitVec 5) (a : BitVec 5) (t : Bool)
  /-- FCVT_F_B (R95). -/
  | fcvtFB (s : Bool) (d : BitVec 5) (a : BitVec 5) (t : Bool)
  /-- FCVT_T8_F (R95). -/
  | fcvtT8F (s : Bool) (d : BitVec 5) (a : BitVec 5) (t : Bool)
  /-- FCVT_F_T8 (R95). -/
  | fcvtFT8 (s : Bool) (d : BitVec 5) (a : BitVec 5) (t : Bool)
  /-- FCVT_T4_F (R95). -/
  | fcvtT4F (s : Bool) (d : BitVec 5) (a : BitVec 5) (t : Bool)
  /-- FCVT_F_T4 (R95). -/
  | fcvtFT4 (s : Bool) (d : BitVec 5) (a : BitVec 5) (t : Bool)
  /-- VADD (R138). -/
  | vadd (s : Bool) (d : BitVec 5) (a : BitVec 5) (b : BitVec 5) (m : BitVec 3) (y : BitVec 3)
  /-- VSUB (R138). -/
  | vsub (s : Bool) (d : BitVec 5) (a : BitVec 5) (b : BitVec 5) (m : BitVec 3) (y : BitVec 3)
  /-- VADDS (R138). -/
  | vadds (s : Bool) (d : BitVec 5) (a : BitVec 5) (b : BitVec 5) (m : BitVec 3) (y : BitVec 3)
  /-- VSUBS (R138). -/
  | vsubs (s : Bool) (d : BitVec 5) (a : BitVec 5) (b : BitVec 5) (m : BitVec 3) (y : BitVec 3)
  /-- VMUL (R138). -/
  | vmul (s : Bool) (d : BitVec 5) (a : BitVec 5) (b : BitVec 5) (m : BitVec 3) (y : BitVec 3)
  /-- VMIN (R138). -/
  | vmin (s : Bool) (d : BitVec 5) (a : BitVec 5) (b : BitVec 5) (m : BitVec 3) (y : BitVec 3)
  /-- VMAX (R138). -/
  | vmax (s : Bool) (d : BitVec 5) (a : BitVec 5) (b : BitVec 5) (m : BitVec 3) (y : BitVec 3)
  /-- VSH (R139). -/
  | vsh (s : Bool) (d : BitVec 5) (a : BitVec 5) (b : BitVec 5) (m : BitVec 3) (y : BitVec 3)
  /-- VAND (R138). -/
  | vand (s : Bool) (d : BitVec 5) (a : BitVec 5) (b : BitVec 5) (m : BitVec 3)
  /-- VOR (R138). -/
  | vor (s : Bool) (d : BitVec 5) (a : BitVec 5) (b : BitVec 5) (m : BitVec 3)
  /-- VXOR (R138). -/
  | vxor (s : Bool) (d : BitVec 5) (a : BitVec 5) (b : BitVec 5) (m : BitVec 3)
  /-- VANDN (R138). -/
  | vandn (s : Bool) (d : BitVec 5) (a : BitVec 5) (b : BitVec 5) (m : BitVec 3)
  /-- VNOT (R138). -/
  | vnot (s : Bool) (d : BitVec 5) (a : BitVec 5) (m : BitVec 3)
  /-- VMOV (R138). -/
  | vmov (s : Bool) (d : BitVec 5) (a : BitVec 5) (m : BitVec 3)
  /-- VFADD (R140). -/
  | vfadd (s : Bool) (d : BitVec 5) (a : BitVec 5) (b : BitVec 5) (m : BitVec 3) (f : BitVec 3)
  /-- VFSUB (R140). -/
  | vfsub (s : Bool) (d : BitVec 5) (a : BitVec 5) (b : BitVec 5) (m : BitVec 3) (f : BitVec 3)
  /-- VFMUL (R140). -/
  | vfmul (s : Bool) (d : BitVec 5) (a : BitVec 5) (b : BitVec 5) (m : BitVec 3) (f : BitVec 3)
  /-- VFDIV (R140). -/
  | vfdiv (s : Bool) (d : BitVec 5) (a : BitVec 5) (b : BitVec 5) (m : BitVec 3) (f : BitVec 3)
  /-- VFMIN (R140). -/
  | vfmin (s : Bool) (d : BitVec 5) (a : BitVec 5) (b : BitVec 5) (m : BitVec 3) (f : BitVec 3)
  /-- VFMAX (R140). -/
  | vfmax (s : Bool) (d : BitVec 5) (a : BitVec 5) (b : BitVec 5) (m : BitVec 3) (f : BitVec 3)
  /-- VFABS (R140). -/
  | vfabs (s : Bool) (d : BitVec 5) (a : BitVec 5) (m : BitVec 3) (f : BitVec 3)
  /-- VFNEG (R140). -/
  | vfneg (s : Bool) (d : BitVec 5) (a : BitVec 5) (m : BitVec 3) (f : BitVec 3)
  /-- VFMADD (R141). -/
  | vfmadd (s : Bool) (d : BitVec 5) (a : BitVec 5) (b : BitVec 5) (m : BitVec 3) (f : BitVec 3)
  /-- VFMSUB (R141). -/
  | vfmsub (s : Bool) (d : BitVec 5) (a : BitVec 5) (b : BitVec 5) (m : BitVec 3) (f : BitVec 3)
  /-- VFNMADD (R141). -/
  | vfnmadd (s : Bool) (d : BitVec 5) (a : BitVec 5) (b : BitVec 5) (m : BitVec 3) (f : BitVec 3)
  /-- VFNMSUB (R141). -/
  | vfnmsub (s : Bool) (d : BitVec 5) (a : BitVec 5) (b : BitVec 5) (m : BitVec 3) (f : BitVec 3)
  /-- VFDOT2 (R142). -/
  | vfdot2 (s : Bool) (d : BitVec 5) (a : BitVec 5) (b : BitVec 5) (m : BitVec 3) (f : BitVec 3)
  /-- VRSUM (R144). -/
  | vrsum (s : Bool) (d : BitVec 5) (a : BitVec 5) (m : BitVec 3) (y : BitVec 3)
  /-- VRMAX (R144). -/
  | vrmax (s : Bool) (d : BitVec 5) (a : BitVec 5) (m : BitVec 3) (y : BitVec 3)
  /-- VRMIN (R144). -/
  | vrmin (s : Bool) (d : BitVec 5) (a : BitVec 5) (m : BitVec 3) (y : BitVec 3)
  /-- VRARGMAX (R145). -/
  | vrargmax (s : Bool) (d : BitVec 5) (a : BitVec 5) (m : BitVec 3) (y : BitVec 3)
  /-- VRARGMIN (R145). -/
  | vrargmin (s : Bool) (d : BitVec 5) (a : BitVec 5) (m : BitVec 3) (y : BitVec 3)
  /-- VRBAND (R144). -/
  | vrband (s : Bool) (d : BitVec 5) (a : BitVec 5) (m : BitVec 3) (y : BitVec 3)
  /-- VRBOR (R144). -/
  | vrbor (s : Bool) (d : BitVec 5) (a : BitVec 5) (m : BitVec 3) (y : BitVec 3)
  /-- VRBXOR (R144). -/
  | vrbxor (s : Bool) (d : BitVec 5) (a : BitVec 5) (m : BitVec 3) (y : BitVec 3)
  /-- VPERM (R146). -/
  | vperm (s : Bool) (d : BitVec 5) (a : BitVec 5) (b : BitVec 5) (m : BitVec 3) (y : BitVec 3)
  /-- VBCAST (R146). -/
  | vbcast (s : Bool) (d : BitVec 5) (a : BitVec 5) (m : BitVec 3) (y : BitVec 3)
  /-- VBCASTX (R146). -/
  | vbcastx (s : Bool) (d : BitVec 5) (a : BitVec 5) (m : BitVec 3) (y : BitVec 3)
  /-- VROT (R146). -/
  | vrot (s : Bool) (d : BitVec 5) (a : BitVec 5) (b : BitVec 5) (m : BitVec 3) (y : BitVec 3)
  /-- VCOMP (R146). -/
  | vcomp (s : Bool) (d : BitVec 5) (a : BitVec 5) (m : BitVec 3) (y : BitVec 3)
  /-- VEXPD (R146). -/
  | vexpd (s : Bool) (d : BitVec 5) (a : BitVec 5) (m : BitVec 3) (y : BitVec 3)
  /-- VINSX (R146). -/
  | vinsx (s : Bool) (d : BitVec 5) (a : BitVec 5) (b : BitVec 5) (y : BitVec 3)
  /-- VEXTX (R146). -/
  | vextx (s : Bool) (d : BitVec 5) (a : BitVec 5) (b : BitVec 5) (y : BitVec 3)
  /-- VCMP_EQ (R147). -/
  | vcmpEq (s : Bool) (d : BitVec 3) (a : BitVec 5) (b : BitVec 5) (m : BitVec 3) (y : BitVec 3)
  /-- VCMP_NE (R147). -/
  | vcmpNe (s : Bool) (d : BitVec 3) (a : BitVec 5) (b : BitVec 5) (m : BitVec 3) (y : BitVec 3)
  /-- VCMP_LT (R147). -/
  | vcmpLt (s : Bool) (d : BitVec 3) (a : BitVec 5) (b : BitVec 5) (m : BitVec 3) (y : BitVec 3)
  /-- VCMP_LE (R147). -/
  | vcmpLe (s : Bool) (d : BitVec 3) (a : BitVec 5) (b : BitVec 5) (m : BitVec 3) (y : BitVec 3)
  /-- VCMP_GT (R147). -/
  | vcmpGt (s : Bool) (d : BitVec 3) (a : BitVec 5) (b : BitVec 5) (m : BitVec 3) (y : BitVec 3)
  /-- VCMP_GE (R147). -/
  | vcmpGe (s : Bool) (d : BitVec 3) (a : BitVec 5) (b : BitVec 5) (m : BitVec 3) (y : BitVec 3)
  /-- VCMP_UNORD (R147). -/
  | vcmpUnord (s : Bool) (d : BitVec 3) (a : BitVec 5) (b : BitVec 5) (m : BitVec 3)
  /-- VCVT_FI (R148). -/
  | vcvtFi (s : Bool) (d : BitVec 5) (a : BitVec 5) (m : BitVec 3) (y : BitVec 3)
  /-- VCVT_IF (R148). -/
  | vcvtIf (s : Bool) (d : BitVec 5) (a : BitVec 5) (m : BitVec 3) (y : BitVec 3)
  /-- VCVT_NAR (R148). -/
  | vcvtNar (s : Bool) (d : BitVec 5) (a : BitVec 5) (b : BitVec 5) (m : BitVec 3) (y : BitVec 3)
  /-- VCVT_WID (R148). -/
  | vcvtWid (s : Bool) (d : BitVec 5) (a : BitVec 5) (q : BitVec 5) (m : BitVec 3) (y : BitVec 3)
  /-- VCVT_ET8 (R149). -/
  | vcvtEt8 (s : Bool) (d : BitVec 5) (a : BitVec 5) (q : BitVec 5) (m : BitVec 3)
  /-- VCVT_DT8 (R149). -/
  | vcvtDt8 (s : Bool) (d : BitVec 5) (a : BitVec 5) (q : BitVec 5) (m : BitVec 3)
  /-- VCVT_ET4 (R149). -/
  | vcvtEt4 (s : Bool) (d : BitVec 5) (a : BitVec 5) (q : BitVec 5) (m : BitVec 3)
  /-- VCVT_DT4 (R149). -/
  | vcvtDt4 (s : Bool) (d : BitVec 5) (a : BitVec 5) (q : BitVec 5) (m : BitVec 3)
  /-- VEXP2 (R143). -/
  | vexp2 (s : Bool) (d : BitVec 5) (a : BitVec 5) (m : BitVec 3) (f : BitVec 3)
  /-- VLOG2 (R143). -/
  | vlog2 (s : Bool) (d : BitVec 5) (a : BitVec 5) (m : BitVec 3) (f : BitVec 3)
  /-- VRCP (R143). -/
  | vrcp (s : Bool) (d : BitVec 5) (a : BitVec 5) (m : BitVec 3) (f : BitVec 3)
  /-- VRSQRT (R143). -/
  | vrsqrt (s : Bool) (d : BitVec 5) (a : BitVec 5) (m : BitVec 3) (f : BitVec 3)
  /-- VSQRT (R143). -/
  | vsqrt (s : Bool) (d : BitVec 5) (a : BitVec 5) (m : BitVec 3) (f : BitVec 3)
  /-- VTANH (R143). -/
  | vtanh (s : Bool) (d : BitVec 5) (a : BitVec 5) (m : BitVec 3) (f : BitVec 3)
  /-- VSIGM (R143). -/
  | vsigm (s : Bool) (d : BitVec 5) (a : BitVec 5) (m : BitVec 3) (f : BitVec 3)
  /-- VGELU (R143). -/
  | vgelu (s : Bool) (d : BitVec 5) (a : BitVec 5) (m : BitVec 3) (f : BitVec 3)
  /-- MAND (R150). -/
  | mand (s : Bool) (d : BitVec 5) (a : BitVec 5) (b : BitVec 5)
  /-- MOR (R150). -/
  | mor (s : Bool) (d : BitVec 5) (a : BitVec 5) (b : BitVec 5)
  /-- MXOR (R150). -/
  | mxor (s : Bool) (d : BitVec 5) (a : BitVec 5) (b : BitVec 5)
  /-- MANDN (R150). -/
  | mandn (s : Bool) (d : BitVec 5) (a : BitVec 5) (b : BitVec 5)
  /-- MNOT (R150). -/
  | mnot (s : Bool) (d : BitVec 5) (a : BitVec 5)
  /-- MFIRST (R150). -/
  | mfirst (s : Bool) (d : BitVec 5) (a : BitVec 5)
  /-- MFROMX (R150). -/
  | mfromx (s : Bool) (d : BitVec 5) (a : BitVec 5)
  /-- MTOX (R150). -/
  | mtox (s : Bool) (d : BitVec 5) (a : BitVec 5)
  /-- MMA_H (R178). -/
  | mmaH (s : Bool) (c : BitVec 2) (k : Bool) (z : Bool) (a : BitVec 5) (b : BitVec 5) (f : BitVec 5) (r : BitVec 3)
  /-- MMA_B (R178). -/
  | mmaB (s : Bool) (c : BitVec 2) (k : Bool) (z : Bool) (a : BitVec 5) (b : BitVec 5) (f : BitVec 5) (r : BitVec 3)
  /-- MMA_T8 (R178). -/
  | mmaT8 (s : Bool) (c : BitVec 2) (k : Bool) (z : Bool) (a : BitVec 5) (b : BitVec 5) (f : BitVec 5) (r : BitVec 3)
  /-- MMA_T84 (R178). -/
  | mmaT84 (s : Bool) (c : BitVec 2) (k : Bool) (z : Bool) (a : BitVec 5) (b : BitVec 5) (f : BitVec 5) (r : BitVec 3)
  /-- MMA_T4 (R178). -/
  | mmaT4 (s : Bool) (c : BitVec 2) (k : Bool) (z : Bool) (a : BitVec 5) (b : BitVec 5) (f : BitVec 5) (r : BitVec 3)
  /-- MMA_I8 (R178). -/
  | mmaI8 (s : Bool) (c : BitVec 2) (k : Bool) (z : Bool) (a : BitVec 5) (b : BitVec 5) (t : Bool)
  /-- MZERO (R181). -/
  | mzero (s : Bool) (d : BitVec 5)
  /-- MEDGE (R175). -/
  | medge (s : Bool) (a : BitVec 5) (t : Bool)
  /-- MROWR (R181). -/
  | mrowr (s : Bool) (d : BitVec 5) (a : BitVec 5) (b : BitVec 5) (u : Bool)
  /-- MROWW (R181). -/
  | mroww (s : Bool) (d : BitVec 5) (a : BitVec 5) (b : BitVec 5) (t : Bool) (u : Bool)
  /-- HBIND (R154). -/
  | hbind (s : Bool) (d : BitVec 3) (a : BitVec 3) (b : BitVec 3) (t : Bool)
  /-- HPERM (R154). -/
  | hperm (s : Bool) (d : BitVec 3) (a : BitVec 3) (t : Bool) (i : BitVec 12)
  /-- HNOT (R154). -/
  | hnot (s : Bool) (d : BitVec 3) (a : BitVec 3) (t : Bool)
  /-- HMOV (R154). -/
  | hmov (s : Bool) (d : BitVec 3) (a : BitVec 3) (t : Bool)
  /-- HBUNDLE (R155). -/
  | hbundle (s : Bool) (a : BitVec 3) (b : BitVec 2) (t : Bool)
  /-- HCLR (R155). -/
  | hclr (s : Bool) (b : BitVec 2)
  /-- HTHR (R155). -/
  | hthr (s : Bool) (d : BitVec 3) (a : BitVec 3) (b : BitVec 2) (t : Bool)
  /-- HDIST (R156). -/
  | hdist (s : Bool) (a : BitVec 3) (b : BitVec 3) (t : Bool) (d : BitVec 5)
  /-- HPOP (R156). -/
  | hpop (s : Bool) (a : BitVec 3) (t : Bool) (d : BitVec 5)
  /-- NOISE (R376). -/
  | noise (s : Bool) (d : BitVec 5) (a : BitVec 5) (b : BitVec 5) (m : BitVec 3)
  /-- CHASH (R377). -/
  | chash (s : Bool) (d : BitVec 5) (a : BitVec 5) (b : BitVec 5)
  /-- CHASH_LD (R377). -/
  | chashLd (s : Bool) (d : BitVec 5) (b : BitVec 5)
  /-- CHASH_ST (R377). -/
  | chashSt (s : Bool) (a : BitVec 5) (b : BitVec 5)
  /-- HRAND (R378). -/
  | hrand (s : Bool) (d : BitVec 3) (a : BitVec 5)
  /-- RSEED (R97). -/
  | rseed (s : Bool) (a : BitVec 5)
  /-- RBITS (R97). -/
  | rbits (s : Bool) (d : BitVec 5)
  /-- SPOUT_PORT_PUSH (R317). -/
  | spoutPortPush (c : Nat) (a : Word)
  /-- LONG_LATENCY_WRITE (R20). -/
  | longLatencyWrite (c : Nat) (n : GranuleEvent)
  /-- SLOT_FILL_COMPLETE (R172). -/
  | slotFillComplete (core : Nat) (slot : GranuleEvent)
  /-- POSTED_STORE_ACK (R292). -/
  | postedStoreAck (c : Nat) (n : GranuleEvent)
  /-- WAITA_WAKE (R313). -/
  | waitaWake (c : Nat)
  /-- HALT_COMPLETE (R118). -/
  | haltComplete (c : Nat)
  /-- BATCH_WINDOW_EXPIRY (R345). -/
  | batchWindowExpiry (g kid layer : Nat)
  /-- LAYER_TASK_START (R346). -/
  | layerTaskStart (c : Nat)
  /-- BACKGROUND_SPILL (R351). -/
  | backgroundSpill (g : Nat)
  /-- SPILL_COMPLETE (R352). -/
  | spillComplete (g entry : Nat)
  /-- RELOAD_COMPLETE (R352). -/
  | reloadComplete (g entry : Nat)
  /-- SEED_PACKET_ARRIVAL (R358). -/
  | seedPacketArrival (a : Arrival)
  /-- SEED_ACK (R455). -/
  | seedAck (a : Arrival)
  /-- FORWARDING_EXPIRY (R339). -/
  | forwardingExpiry (g n : Nat)
  /-- REMOTE_STREAM_REQUEST (R353). -/
  | remoteStreamRequest (a : Arrival)
  /-- REMOTE_REPLY (R353). -/
  | remoteReply (a : Arrival)
  /-- FAMILY_REPORT (R363). -/
  | familyReport (a : Arrival)
  /-- JOIN_DEADLINE (R366). -/
  | joinDeadline (g n : Nat)
  /-- RETIRE_ORDER (R366). -/
  | retireOrder (a : Arrival)
  /-- REMOTE_JOIN_REQUEST (R369). -/
  | remoteJoinRequest (a : Arrival)
  /-- MESSAGE_ARRIVAL (R247). -/
  | messageArrival (a : Arrival)
  /-- TIMETABLE_RELEASE (R252). -/
  | timetableRelease (die e : Nat)
  /-- CONTRIBUTION_ARRIVAL (R261). -/
  | contributionArrival (a : Arrival)
  /-- CBR_RESULT (R259). -/
  | cbrResult (c : Nat)
  /-- ROUND_TIMEOUT (R261). -/
  | roundTimeout (group : Nat)
  /-- COPY_START (R322). -/
  | copyStart (g n : Nat)
  /-- COPY_COMPLETE (R323). -/
  | copyComplete (g n : Nat)
  /-- CANCEL_ACK (R321). -/
  | cancelAck (g n : Nat)
  /-- WHISK_CONTRIBUTION_ARRIVAL (R330). -/
  | whiskContributionArrival (a : Arrival)
  /-- REMOTE_MEMORY_REQUEST (R448). -/
  | remoteMemoryRequest (r : RemoteReq)
  /-- HOST_ATOMIC_UR (R310). -/
  | hostAtomicUr (c : Nat)
  /-- PAGE_MIGRATION (R278). -/
  | pageMigration (vf : Nat) (va src dst bytes : Nat) (ptes : List (Nat × Word))
  /-- RETRY_FAULT_LAUNCH (R280). -/
  | retryFaultLaunch (g tag : Nat)
  /-- PAGE_SERVICE (R395). -/
  | pageService (c : Nat) (ptes : List (Nat × Word)) (resolved : Bool)
  /-- SETVEC (R394). -/
  | setvec (c : Nat)
  /-- EVENT (R394). -/
  | event (c : Nat)
  /-- REPLY_TIMEOUT (R400). -/
  | replyTimeout (c : Nat)
  /-- ACK_LOST (R400). -/
  | ackLost (c i : Nat)
  /-- SELF_TEST_COMPLETE (R402). -/
  | selfTestComplete (u : UnitId) (pass : Bool)
  /-- DEADLOCK_SCAN (R250). -/
  | deadlockScan
  /-- SCHEDULING_PASS (R201). -/
  | schedulingPass (plan : List Nat)
  /-- GANG_RESERVATION (R208). -/
  | gangReservation (launch : Nat)
  /-- INFUSION_COMPLETE (R199). -/
  | infusionComplete (die launch : Nat)
  /-- TASK_START (R198). -/
  | taskStart (c : TaskBegin)
  /-- GANG_SWITCH_POST (R413). -/
  | gangSwitchPost (p t : Nat) (cut : Option (BitVec 32))
  /-- GANG_SWITCH_STOP (R413). -/
  | gangSwitchStop (p : Nat)
  /-- PARTITION_SAVE (R413). -/
  | partitionSave (p : Nat) (next : Nat)
  /-- PARTITION_RESUME (R416). -/
  | partitionResume (p : Nat) (place : List (Nat × Nat))
  /-- CUT_EVALUATION (R418). -/
  | cutEvaluation (p : Nat) (others : Int)
  /-- HEARTBEAT (R458). -/
  | heartbeat (missed : List (Nat × List Nat))
  /-- DOMAIN_RECOVERY (R460). -/
  | domainRecovery (failed : Nat) (standby : Option Nat)
  /-- LINK_FAILURE (R446). -/
  | linkFailure (port : Nat)
  /-- SUBMIT (R420). -/
  | submit (vf : Nat) (addr : Word)
  /-- STATUSQ (R420). -/
  | statusq (vf : Nat) (lid : Word)
  /-- EVTAIL (R420). -/
  | evtail (vf : Nat) (val : Word)
  /-- VF_REGISTER_WRITE (R420). -/
  | vfRegisterWrite (w : PageAccess)
  /-- BAR2_READ (R425). -/
  | bar2Read (vf : Nat) (va : Word) (size : Nat)
  /-- BAR2_WRITE (R425). -/
  | bar2Write (vf : Nat) (va : Word) (bytes : List Byte)
  /-- REGION_REGISTER (R423). -/
  | regionRegister (r : RegionReq)
  /-- REGION_DEREGISTER (R423). -/
  | regionDeregister (region : Nat) (nonce : BitVec 128) (sig : BitVec 10240)
  /-- METER_REPORT_REQUEST (R428). -/
  | meterReportRequest (vf region : Nat) (nonce : BitVec 128)
  /-- HANDOVER (R429). -/
  | handover (r : HandoverReq)
  /-- MAILBOX_ATTEST (R472). -/
  | mailboxAttest (vf : Nat) (nonce : BitVec 128)
  /-- OKEY_SET (R372). -/
  | okeySet (vf : Nat) (key : BitVec 128)
  /-- HOME_DESCRIPTOR_SET (R421). -/
  | homeDescriptorSet (vf idx : Nat) (val : Word)
  /-- STASH_SIZE_SET (R421). -/
  | stashSizeSet (vf core kib : Nat)
  /-- CEILING_PERSIST (R427). -/
  | ceilingPersist (region : Nat) (isBytes : Bool)
  /-- SENSORS (R473). -/
  | sensors
  /-- FENCES (R473). -/
  | fences
  /-- ATTEST (R472). -/
  | attest (nonce : BitVec 128)
  /-- METER (R428). -/
  | meter (region : Nat) (nonce : BitVec 128)
  /-- POWERCAP (R475). -/
  | powercap (cap : CapReq)
  /-- DEBUG (R232). -/
  | debugAttach (vf : Nat) (infuse : Bool)
  /-- UNDEBUG (R473). -/
  | debugDetach (vf : Nat)
  /-- DEPLOY (R471). -/
  | deploy (val : BitVec 128) (sig : BitVec 10240)
  /-- RESET (R473). -/
  | reset
  /-- FIRMWARE_STAGE (R470). -/
  | firmwareStage (f : Firmware)
  /-- POWER_GOOD (R468). -/
  | powerGood
  /-- STAGE_1 (R468). -/
  | stage1 (failed : List UnitId)
  /-- STAGE_2 (R468). -/
  | stage2 (failed : List UnitId)
  /-- STAGE_TIMEOUT (R468). -/
  | stageTimeout
  /-- RAIL_FAULT (R476). -/
  | railFault (rail : Nat)
  /-- THERMAL_THROTTLE (R475). -/
  | thermalThrottle (temps : List Int) (watts : Nat)
  /-- DIE_OVERTEMP (R475). -/
  | dieOvertemp (die : Nat)
  /-- DIE_COOLED (R475). -/
  | dieCooled (die : Nat) (failed : List UnitId)
  /-- HOME_SLICE_PERFORM (R308). -/
  | homeSlicePerform (c : Nat)
  /-- POD_REQUEST_SERVED (R164). -/
  | podRequestServed (g : Nat)
  /-- UNCORRECTABLE_ERROR (R399). -/
  | uncorrectableError (at_ : PoisonAt)
  /-- CORRECTED_ERROR (R401). -/
  | correctedError (u : UnitId)
  /-- HOST_AGENT_ACCESS (R301). -/
  | hostAgentAccess (a : HostAccess)
  /-- EXPANDER_LINK_DOWN (R457). -/
  | expanderLinkDown (port : Nat)
  /-- ORDERLY_SHUTDOWN (R427). -/
  | orderlyShutdown
  /-- MAPPING_CHANGE (R273). -/
  | mappingChange (vf : Nat) (va : Word) (ptes : List (Nat × Word))
  /-- DEBUGGER_RESUME (R394). -/
  | debuggerResume (c : Nat)
  deriving DecidableEq, Repr

end Sys2Proof
end

