-- ==== Sys2Proof/Machine/State.lean ====
section
/-! DEFINITION. The state of one package (R1, R6) as plain data, the reasons a step can stop, and the state after reset.
Contexts are numbered cid = ((die * 12 + grove) * 24 + core) * 4 + ctx, cores cid / 4, groves cid / 96 and dies
cid / 1152. A table entry that is not listed has its default, which is its reset value. -/

namespace Sys2Proof.Machine

/-- A place that bytes are read from or written to: a physical address (R266), a byte of a core's scratchpad (R264),
a byte of a Caddy frame of a grove (R340), or a byte of a launch's header in the launch window (R197). -/
inductive Loc where
  | mem (pa : Nat)
  | scr (core off : Nat)
  | frame (g n off : Nat)
  | hdr (l off : Nat)
  deriving DecidableEq, Repr

/-- The registers and CSRs of one context that a collective checkpoint holds (R15, R33, R82, R258). CSRs are keyed by
their address; TSTAT holds its fields HM, PHM and STEP. -/
structure Regs where
  x : Tab Word := []
  f : Tab (BitVec 32) := []
  v : Tab (BitVec 512) := []
  m : Tab (BitVec 16) := []
  h : Tab (BitVec 4096) := []
  b : Tab (BitVec 32768) := []
  acc : Tab (BitVec 8192) := []
  xE : BitVec 32 := 0
  fE : BitVec 32 := 0
  vE : BitVec 32 := 0
  hE : BitVec 8 := 0
  xP : BitVec 32 := 0
  fP : BitVec 32 := 0
  vP : BitVec 32 := 0
  hP : BitVec 8 := 0
  csr : Tab Word := []
  rhi : Word := 0
  rlo : Word := 0
  ct8 : Tab (BitVec 32) := []
  ct4 : Tab (BitVec 32) := []
  pc : Word := 0
  deriving DecidableEq, Repr

/-- One read that a wide access still has to make (R284): the element it fills, the place, the virtual address, and the tier
of an uncached page (R276). `side` marks the sideband of a tile load (R172). -/
structure Piece where
  ix : Nat
  loc : Loc
  va : Word
  uc : Option Nat := none
  side : Bool := false
  deriving DecidableEq, Repr

/-- What an outstanding long-latency producer will write (R20): a known value, bytes still to be read as one event, elements
of `w` bytes each still to be read, one event each, over those already known (R136, R284), a Pod search that the Pod
has not served (R162), or, for a push to the Spout, the descriptor at the address that has arrived, its granules still to be
read over those already known (R284, R317). -/
inductive ProdSrc where
  | value (bits : Nat)
  | load (loc : Loc) (size : Nat) (sext : Bool) (va : Word)
  | gather (w base : Nat) (parts : List Piece)
  | search (first len maxd : Nat) (query : BitVec 4096)
  | desc (a : Word) (base : Nat) (parts : List Piece)
  deriving DecidableEq, Repr

/-- An outstanding long-latency producer: its place in program order, its destination by class and number (R22), the
port it pushes to when the destination is a bound queue register (R26), and whether it was issued under the unresolved
collective branch (R259). `acq` marks an acquire load, which every later access follows (R306); `uc` is the tier of an
uncached page, whose accesses keep program order (R276). -/
structure Prod where
  n : Nat
  cls : BitVec 2
  reg : Nat
  push : Option Nat := none
  spec : Bool := false
  issued : Nat := 0
  acq : Bool := false
  uc : Option Nat := none
  src : ProdSrc
  deriving DecidableEq, Repr

/-- Bytes written at a place, with the tier of an uncached page (R276). -/
structure Write where
  loc : Loc
  bytes : List Byte
  uc : Option Nat := none
  deriving DecidableEq, Repr

/-- A posted store that has not been wholly performed (R124, R292): its class (true for PCB) and the writes that it has still
to make, those of one granule together as one event (R284); `own` marks a store to the own scratchpad, which is not counted;
for a Whisk contribution, which writes none, its owner die over the domain, its row, the contribution while the window keeps it
back (R451), and whether the owner's router has taken it (R292) and a drop buffer has counted it (R418). `drained` marks a store that a right prediction has released: such stores are performed in program order (R259, R287). -/
structure Posted where
  n : Nat
  clsB : Bool
  events : List (List Write)
  own : Bool := false
  colour : Bool := false
  tree : Option Nat := none
  row : Nat := 0
  unsent : Option WhiskMsg := none
  taken : Bool := false
  counted : Bool := false
  drained : Bool := false
  deriving DecidableEq, Repr

/-- A store held in the speculative store buffer (R258): its entries, its class (none for the own scratchpad and the
window), its bytes, and the census entry that it keeps resident (R478). -/
structure Held where
  n : Nat
  entries : Nat
  cls : Option Bool
  writes : List Write
  page : Option (Nat × Nat) := none
  deriving DecidableEq, Repr

/-- The record of a trap (R390). -/
structure TrapRec where
  cause : BitVec 6
  tval : Word
  epc : Word
  aw : Bool := false
  hld : Bool := false
  dfr : Bool := false
  unit : BitVec 4 := 0
  acc : BitVec 4 := 4
  kind : BitVec 4 := 0
  lone : Bool := true
  deriving DecidableEq, Repr

/-- An unresolved collective branch (R257 to R259): the checkpoint, what CSPEC shows, the unit's next sequential address
and its target, the round and group, whether the checkpoint is
still to be taken, the held stores and the held trap, and the deferred MCEs of loads that precede the branch. -/
structure Spec where
  cp : Regs
  pred : Bool
  own : Bool
  op : BitVec 2
  site : BitVec 52
  epc : Word
  next : Word
  target : Word
  group : Nat
  round : BitVec 32
  fresh : Bool := true
  held : List Held := []
  trap : Option TrapRec := none
  mce : List (Word × BitVec 4) := []
  deriving DecidableEq, Repr

/-- The result of a round as it reaches a member: taken or not, or the abort code (R259, R261). -/
inductive RoundResult where
  | taken (t : Bool)
  | abort (code : Nat)
  deriving DecidableEq, Repr

/-- An operation that a context has sent and whose completion it waits for (R118, R161, R255, R257, R308, R313, R321, R353,
R369): the unit's address and what was sent. `result` is the value for rd once the operation has been performed. `read` and
`write` are the granules of an operand that the unit has still to read or write before it retires, one event each (R284), with
the access code of TINFO; `lnch` is a child launch on its way to the Kettle (R210, R400). -/
inductive PendOp where
  | atom (op : AtomOp) (loc : Loc) (size : Nat) (b e : Word) (va : Word) (uc : Option Nat)
  | sleep (loc : Loc) (size v : Nat)
  | cancel (g : Nat) (handle : Word)
  | strm (h : Word)
  | join (h : Word) (waits : Bool)
  | ttrun
  | halt (lone : Bool)
  | cbr
  | podw (entry : Nat) (v : BitVec 4096)
  | podr (entry window : Nat)
  | colx (id n : Nat)
  | read (acc : BitVec 4) (parts : List Piece)
  | write (parts : List (List Write))
  | lnch (h : Word)
  deriving DecidableEq, Repr

/-- An entry that a unit pops when it retires (R26, R44): the port, and in a queue the entry's serial number. -/
structure Pop where
  port : Nat
  n : Nat
  deriving DecidableEq, Repr

/-- A pending operation with its result (for PODR the entry read), the entries that its unit has read from queue registers,
by operand place, and pops when it retires (R26, R44), the words of its unit, which have been fetched, and the granules that it
has read from memory so far, by their places (R284). -/
structure Pend where
  pc : Word
  op : PendOp
  result : Option Reply := none
  entry : BitVec 4096 := 0
  since : Nat := 0
  latched : Tab Word := []
  pops : List Pop := []
  words : List Instr := []
  got : Tab Word := []
  deriving DecidableEq, Repr

/-- A message in an inbox: its remaining words, and whether no word has been popped (R241). -/
structure InMsg where
  words : List Word
  whole : Bool := true
  deriving DecidableEq, Repr

/-- A wait that publishes wait-for edges (R250): a pop of an empty port, a push to a full one, a SEND that its destination
cannot accept, and the resolution of a CBR. -/
inductive WaitOn where
  | pop (port : Nat)
  | push (port : Nat)
  | send (d : Word)
  | cbr
  deriving DecidableEq, Repr

/-- Whether a context is free, runs a task or handler, waits for a Kettle service (R394, R395) or is stopped for a
debugger (R394), with the CSRs that its resumption restores (R395). -/
inductive Status where
  | free
  | run
  | service (r : TrapRec)
  | debug (r : TrapRec) (csr : Tab Word)
  deriving DecidableEq, Repr

/-- What a context is bound to run: the launch, and the role of a DUAL copy (R200, R205). Copy 0 is a primary or plain
task, 1 the shadow, 2 the third copy, 3 the last primary. -/
structure TaskOf where
  launch : Nat
  ord : Nat
  copy : Nat := 0
  deriving DecidableEq, Repr

/-- What a context place keeps apart from its occupant: the generation that it gave last, and when that wrapped (R239, R248).
A saved context that resumes has an earlier generation. -/
structure Place where
  gen : BitVec 16 := 0
  wrapped : Option Nat := none
  deriving DecidableEq, Repr

/-- One thread context (R28). `owed` names the contexts of the core whose issue turns a YIELD still waits for (R120). In a DUAL
launch `wrote` holds the global stores of the copy in program order, and `olds` what their bytes held before (R205, R206). -/
structure Ctx where
  status : Status := .free
  wait : Nat := 0
  waitOn : Option WaitOn := none
  regs : Regs := {}
  gen : BitVec 16 := 0
  vf : Nat := 0
  task : Option TaskOf := none
  handler : Bool := false
  nseq : Nat := 0
  prods : List Prod := []
  posted : List Posted := []
  pca : Nat := 0
  pcb : Nat := 0
  inbox : List InMsg := []
  spec : Option Spec := none
  result : Option RoundResult := none
  pend : Option Pend := none
  skipBkp : Bool := false
  mce : List (Word × BitVec 4) := []
  sptSeq : BitVec 25 := 0
  owed : List Nat := []
  joinedGang : Bool := false
  wrote : List (Word × List Byte) := []
  olds : List (Word × List Byte) := []
  deriving DecidableEq, Repr

/-- A tile load under way (R172, R173): its place in program order, when it issued (R400), the granules that it has still to read, the data and
sideband read so far, and whether poisoned data was met. -/
structure Fill where
  n : Nat
  parts : List Piece
  data : BitVec 4096 := 0
  side : BitVec 256 := 0
  bad : Bool := false
  since : Nat := 0
  deriving DecidableEq, Repr

/-- One operand slot (R19, R167 to R169): owner, busy mark, data, sideband, meter tag, poison, and the fill under way with
the tag it will give. -/
structure Slot where
  owner : Option Nat := none
  busy : Bool := false
  data : BitVec 4096 := 0
  side : BitVec 256 := 0
  tag : Option Nat := none
  poison : Bool := false
  fill : Option (Fill × Option Nat) := none
  deriving DecidableEq, Repr

/-- A translation held by a core's L1 translation buffer or by a grove translation unit (R272): the virtual function, the
page's number in units of `2 ^ bits` bytes, the address of its entry and the entry as it was read. -/
structure Xlated where
  vf : Nat
  page : Nat
  bits : Nat
  ea : Nat
  leaf : Nat
  deriving DecidableEq, Repr

/-- A timetable that has arrived at an exchange barrier: its context, the participant count that it gives and its entries
(R251). -/
structure Arrived where
  ctx : Nat
  need : Nat
  es : List (Word × Word)
  deriving DecidableEq, Repr

/-- One core: its scratchpad (R264), operand slots, colour and cut (R418), which of its contexts
had the last issue turn (R209), its L1 translation buffer, oldest first (R272), and the places of the live barrier objects in
its scratchpad, in units of 16 bytes (R324), and while it is under test the messages for its contexts and
their timetables at the barriers, by die and barrier (R249, R253, R401). -/
structure Core where
  scratch : List Host.Cell := []
  tlb : List Xlated := []
  live : List Nat := []
  poison : List Nat := []
  slots : Tab Slot := []
  mail : Tab (List Msg) := []
  bars : List (Nat × Nat × List Arrived) := []
  colour : Bool := false
  cutid : BitVec 32 := 0
  sent0 : Nat := 0
  sent1 : Nat := 0
  recv0 : Nat := 0
  recv1 : Nat := 0
  turn : Nat := 3
  fenced : Bool := false
  testing : Bool := false
  deriving DecidableEq, Repr

/-- An entry of the retry ring (R279). `ctx` and `gen` are the context address's context and generation; `n` is the
place of the access in the context's program order; `offered` says that the ring port still offers it (R280). -/
structure RingEntry where
  tag : Nat
  kind : Nat
  va : Word
  pkg : Nat := 0
  ctx : Nat
  gen : BitVec 16
  n : Nat
  size : Nat
  store : Bool
  zext : Bool
  cls : BitVec 2
  reg : Nat
  push : Option Nat := none
  data : List Byte := []
  vf : Nat
  offered : Bool := true
  deriving DecidableEq, Repr

/-- A queue entry: its serial number in the queue, the context that pushed it with that context's generation (R27; log entry
66), and its word. -/
structure QItem where
  n : Nat
  ctx : Nat
  gen : BitVec 16
  w : Word
  deriving DecidableEq, Repr

/-- A queue of a grove's queue table (R242): the launch it belongs to, its scope, the address of the context that created it,
from which the scope is measured, its entries, and the serial number of the next one. -/
structure Queue where
  launch : Nat
  vf : Nat
  scope : BitVec 2
  by_ : Word
  items : List QItem := []
  seq : Nat := 0
  deriving DecidableEq, Repr

/-- A Spout copy (R318 to R323): handle, issuing context and its generation, virtual function, the descriptor's words,
its status of R320 and, for a fault, the address, kind and unit; the row and byte that it reads next, the writes that it has
still to make, and whether a fault has stopped it (R322). -/
structure Copy where
  handle : Word
  ctx : Nat
  gen : BitVec 16 := 0
  vf : Nat
  launch : Nat
  desc : List Word
  classB : Bool
  status : Nat
  fva : Word := 0
  fkind : Nat := 0
  funit : Nat := 0
  cancel : Bool := false
  seq : Nat := 0
  row : Nat := 0
  off : Nat := 0
  out : List Write := []
  bad : Bool := false
  deriving DecidableEq, Repr

/-- A stream context (R338, R339). `map` is meaningful while the status names a map (R341); `parked` says that the
stream is in its bucket, and `since` is the time it parked (R345); `fwd` is the end of FORWARDING. `own` is the owner launch's
number, with `2 ^ 40` times one more than the package of a launch of another package (log entry 9). A context that a
migration has reserved is `arriving`, with the census entries reserved for its pages in `resv` and the old handle in `newh`
(R357); `dieOnArrival` says that it is retired when it arrives (R366), and `resolved` that its family's resolution has
retired it (R367). `sentPages` are the
map slots whose seed packets have been acknowledged (R455). -/
structure Stream where
  st : Nat := 0
  gen : Nat := 1
  vf : Nat := 0
  own : Nat := 0
  map : Nat := 0
  npg : Nat := 0
  aq : List Word := []
  hor : BitVec 16 := 0
  kid : Nat := 0
  layer : BitVec 16 := 0
  ret : BitVec 32 := 0
  hash : BitVec 128 := 0
  ver : BitVec 32 := 0
  fam : BitVec 32 := 0
  ford : BitVec 16 := 0
  par : BitVec 32 := 0
  inf : Bool := false
  resolved : Bool := false
  migp : Bool := false
  newh : BitVec 32 := 0
  since : Nat := 0
  parked : Bool := false
  fwd : Nat := 0
  dieOnArrival : Bool := false
  arriving : Bool := false
  resv : List Nat := []
  sentPages : List Nat := []
  deriving DecidableEq, Repr

/-- A census entry (R340). `last` is the time of the page's latest access (R351), `slot` the kept spill slot (R352),
`vf` the function of its spill area; `spilling` is 1 during a background spill and 2 when an access has since kept the page
resident; `into` is the frame of a reload under way. -/
structure Census where
  v : Bool := false
  pin : Bool := false
  dirty : Bool := false
  spl : Bool := false
  ref : Nat := 0
  loc : Nat := 0
  last : Nat := 0
  slot : Option Nat := none
  vf : Nat := 0
  own : Nat := 0
  spilling : Nat := 0
  into : Option Nat := none
  deriving DecidableEq, Repr

/-- A state map (R341): its count and the census index of each map slot. -/
structure SMap where
  mref : Nat := 0
  pages : List Nat := []
  deriving DecidableEq, Repr

/-- An entry of the layer table (R342): its function, header address and copy, batching parameters, LID number, key
copy and next batch serial. -/
structure Layer where
  vf : Nat
  hdrA : Word
  b : Nat
  win : Nat
  loga : Word
  logn : Nat
  launch : Nat
  bser : Nat := 1
  deriving DecidableEq, Repr

/-- A batch formed and not yet started, or running (R345, R346): its layer entry, layer, rows in order, serial, and the
context that runs it. -/
structure Batch where
  kid : Nat
  layer : BitVec 16
  rows : List (BitVec 32)
  bser : Nat
  ctx : Option Nat := none
  forks : List (BitVec 32) := []
  deriving DecidableEq, Repr

/-- The latest report of a member to its family record (R363), with what the record knows of its place: the current
handle, 0 while the grove of another package has not yet told which context the fork took, and whether it is DONE. -/
structure Member where
  handle : BitVec 32
  ford : BitVec 16
  ver : BitVec 32
  done : Bool := false
  ret : BitVec 32 := 0
  inf : Bool := false
  par : BitVec 32 := 0
  deriving DecidableEq, Repr

/-- A family record (R362), with the context addresses of the JWAITs that wait on it and the times at which they were sent
(R369), and the fork ordinals of each child and its parent (R355). -/
structure Family where
  fam : BitVec 32
  vf : Nat
  own : Nat
  nord : Nat := 1
  curv : BitVec 32 := 0
  jst : Nat := 0
  op : BitVec 2 := 0
  k : Nat := 0
  dl : Word := 0
  kept : BitVec 32 := 0
  kval : BitVec 32 := 0
  kord : BitVec 16 := 0
  resW : List (BitVec 32 × BitVec 32 × BitVec 16) := []
  resSt : Nat := 0
  resCand : Nat := 0
  resCut : Nat := 0
  resStale : Nat := 0
  waiters : List (Word × Nat) := []
  tree : List (BitVec 16 × BitVec 16) := []
  members : List Member := []
  deriving DecidableEq, Repr

/-- One grove: the Pod (R159 to R165), retry ring (R279), queue table (R242), Spout (R319), orphan ring and ORPHANS
(R247), servicer (R280), Pod grants by launch (R203), and the Samovar, Caddy and Strainer (R337 to R345, R362); `draining`
while background spills go on (R351); the grove translation unit, oldest first (R272); and the context whose copies the Spout
serves, with the bytes served in its turn (R322). -/
structure Grove where
  gtu : List Xlated := []
  pod : Tab (BitVec 4096) := []
  podPoison : List Nat := []
  podQ : List (Nat × Nat) := []
  grants : Tab (Nat × Nat) := []
  ring : List RingEntry := []
  ringPop : List Word := []
  queues : Tab Queue := []
  copies : List Copy := []
  spoutAt : Nat := 0
  spoutRun : Nat := 0
  orphans : Word := 0
  orphanRing : List Msg := []
  servicer : Option Nat := none
  streams : Tab Stream := []
  census : Tab Census := []
  maps : Tab SMap := []
  frames : Tab (List Host.Cell) := []
  framePoison : List (Nat × Nat) := []
  frameFenced : List Nat := []
  podFenced : List Nat := []
  layers : Tab Layer := []
  batches : List Batch := []
  draining : Bool := false
  families : Tab Family := []
  fenced : Bool := false
  testing : Bool := false
  deriving DecidableEq, Repr

/-- A Whisk slot (R327 to R331): the serial of its last opening, and while open its owner's context address,
virtual function, configuration, accepted contributions and the result words not yet popped. -/
structure WSlot where
  ser : BitVec 8 := 0
  opened : Bool := false
  owner : Word := 0
  vf : Nat := 0
  kind : Nat := 0
  fsc : BitVec 8 := 0
  n : Nat := 0
  got : List (List WElt) := []
  result : List Word := []
  deriving DecidableEq, Repr

/-- Bytes of a beat that have left and are to be written in a cycle after the release (R252). -/
structure Flying where
  cycle : Nat
  loc : Loc
  bytes : List Byte
  deriving DecidableEq, Repr

/-- One exchange at a barrier (R252): the arrived timetables, the release cycle once all have arrived, and once it runs the number of
beats that have left and the bytes in flight. A barrier holds its exchanges in order; only the last still waits for arrivals. -/
structure ExBar where
  arrived : List Arrived := []
  t0 : Option Nat := none
  ran : Option Nat := none
  fly : List Flying := []
  deriving DecidableEq, Repr

/-- A residual in a die's specialisation cache (R226 to R229): key, owner, words, back map and last use. -/
structure Residual where
  key : BitVec 128
  vf : Nat
  words : List Nat
  back : List Nat
  used : Nat := 0
  deriving DecidableEq, Repr

/-- A bind record (R200): the launch with its slot in the die's launch table, and the gang for which the context is reserved. -/
structure Bind where
  launch : Option Nat := none
  lslot : Nat := 0
  rsv : Option Nat := none
  prio : Nat := 0
  deriving DecidableEq, Repr

/-- One compute die: its launch table (R200), Whisk slots and WDROP (R327, R330), exchange barriers (R252), specialisation cache
(R227). -/
structure Die where
  launchTab : Tab Nat := []
  wslots : Tab WSlot := []
  wdrop : Nat := 0
  bars : Tab (List ExBar) := []
  cache : List Residual := []
  stopped : Bool := false
  deriving DecidableEq, Repr

/-- The copies of one task of a DUAL launch (R205, R206): the signature of each copy that has halted, and how many
copies have been started, on which contexts, and whether in residual code (R234); the global stores of the primaries, those of all copies, and what the bytes held
before. -/
structure Dual where
  sigs : Tab (BitVec 256) := []
  started : Nat := 0
  places : List Nat := []
  resid : Bool := false
  stores : List (Word × List Byte) := []
  wrote : List (Word × List Byte) := []
  olds : List (Word × List Byte) := []
  deriving DecidableEq, Repr

/-- A launch known to the Kettle (R193 to R211): virtual function, the copied header and its address, status of R211, parent
launch, ordinals per die as pairs lo and hi (R204), next gang (R207), tasks halted, when it was queued and last received a
context, the image as it was admitted where it is to be infused (R213, R226), the dies that have its residual (R199), whether
infusion was abandoned, the key copy (R372), DUAL records, for a layer entry its grove and index (R342), and for a waiting
gang the grove and first core of its reserved run (R208). -/
structure Launch where
  vf : Nat
  hdr : List Byte
  status : Nat := 1
  parent : Option Nat := none
  child : Bool := false
  kettle : Bool := false
  admitted : Bool := false
  split : Bool := false
  tickets : Tab (Nat × Nat) := []
  nextGang : Nat := 0
  halted : Nat := 0
  queued : Nat := 0
  lastCtx : Nat := 0
  image : List Byte := []
  ready : List Nat := []
  infusing : List Nat := []
  plain : Bool := false
  residual : Option (BitVec 128) := none
  okey : BitVec 128 := 0
  dual : Tab Dual := []
  layerOf : Option (Nat × Nat) := none
  run : Option (Nat × Nat) := none
  finished : Nat := 0
  retired : Bool := false
  deriving DecidableEq, Repr

/-- A collective group (R254, R255, R452, R479): its home package, expected count, open round, aborted mark, creation count,
joins, the context addresses of its members, and the contributions accepted for the open round with the time of the first. Of a
group whose home is another package only the members of this one are held. -/
structure Group where
  id : Nat
  vf : Nat
  home : Nat
  launch : Option Nat := none
  gang : Option Nat := none
  exp : Nat
  round : BitVec 32 := 0
  aborted : Bool := false
  created : Nat
  joins : Nat := 0
  members : List Word := []
  got : List Contribution := []
  first : Nat := 0
  deriving DecidableEq, Repr

/-- One virtual function (R419, R420, R268, R269, R372, R352): page-table root, home descriptors, register page, event
ring in the Kettle, queues of launches, key, spill area, debugger, and the stash sizes of its cores in KiB (R277, R421). -/
structure Vf where
  enabled : Bool := false
  root : Nat := 0
  hd : Tab Word := []
  evbase : Word := 0
  evhead : Word := 0
  evtail : Word := 0
  evlost : Word := 0
  evheld : List (List Word) := []
  dualcnt : Word := 0
  mailbox : Word := 0
  submitRes : Word := 0
  statusSel : Word := 0
  submitQ : List Nat := []
  childQ : List Nat := []
  childDone : Nat := 0
  okey : BitVec 128 := 0
  spillBase : Nat := 0
  spillSlots : Nat := 0
  spillUsed : List Nat := []
  debug : Bool := false
  debugInfuse : Bool := false
  debugAsk : Option Bool := none
  stash : Tab Nat := []
  msix : List Nat := []
  deriving DecidableEq, Repr

/-- A saved core of a partition (R414): where it was, its contexts, scratchpad, slots. -/
structure SavedCore where
  core : Nat
  ctxs : List (Nat × Ctx)
  binds : Tab Bind := []
  data : Core
  mail : Tab (List Msg) := []
  deriving DecidableEq, Repr

/-- What a gang switch saves of one virtual function in a partition (R413, R414); `bars` are the timetables arrived at the
barriers of a die (R253). The reductions of saved owners keep their slots (R332). -/
structure SavedSet where
  vf : Nat
  cores : List SavedCore := []
  groves : List (Nat × Grove) := []
  bars : List (Nat × Nat × List Arrived) := []
  drop : List Packet := []
  deriving DecidableEq, Repr

/-- A move of a page between tiers under way (R278): its function and address, the frames' places and size, the entries
to be written at its end, and where the functions map it: function, address and size. -/
structure Moving where
  vf : Nat
  va : Nat
  src : Nat
  dst : Nat
  bytes : Nat
  ptes : List (Nat × Word)
  places : List (Nat × Nat × Nat) := []
  deriving DecidableEq, Repr

/-- A checkpoint of a partition (R418, R459): the saved sets, the drop buffers, the groves with their Caddies, the
partition's near-memory pages with their bytes and poison, and what the Kettle knows of the functions' launches and groups
(log entry 12). -/
structure Ckpt where
  vf : Nat
  sets : List SavedSet := []
  drop : List Packet := []
  groves : List (Nat × Grove) := []
  wslots : List (Nat × Nat × WSlot) := []
  pages : List Nat := []
  near : List Host.Cell := []
  poison : List Nat := []
  launches : Tab Launch := []
  vfs : Tab Vf := []
  groups : List Group := []
  deriving DecidableEq, Repr

/-- A partition (R412): its groves, the virtual function it serves, the posted gang-switch time, the cut, and the saved
sets of the functions that share it. `phase` is 0 running, 1 posted, 2 stopped, 3 saved. -/
structure Part where
  groves : List Nat := []
  vf : Nat := 0
  last : Nat := 0
  phase : Nat := 0
  time : Nat := 0
  cut : Option (BitVec 32) := none
  closed : Bool := false
  saved : List SavedSet := []
  ckpt : Option Ckpt := none
  drop : List Packet := []
  deriving DecidableEq, Repr

/-- A weight region as the Sencha records it (R422, R427, R429). -/
structure Region where
  vf : Nat
  base : Nat
  len : Nat
  pol : Bool
  owner : BitVec 256
  epoch : BitVec 32 := 0
  ops : Nat := 0
  bytes : Nat := 0
  ceilo : Nat := 0
  ceilb : Nat := 0
  restarts : Nat := 0
  frozen : Bool := false
  deriving DecidableEq, Repr

/-- The Sencha (R427 to R429, R470, R471): regions by number, report sequence, next epoch, accepted handover sequences,
deployment, and the two firmware banks with version floors. -/
structure Sencha where
  regions : Tab Region := []
  used : List (Nat × BitVec 32) := []
  seq : Nat := 0
  epoch : BitVec 32 := 0
  seen : List (BitVec 256 × Nat) := []
  deploy : BitVec 128 := 0
  deploySet : Bool := false
  running : Tab Firmware := []
  staged : Tab Firmware := []
  floors : Tab Nat := []
  deriving DecidableEq, Repr

/-- Start, clocks, power and links (R401 to R403, R443, R456, R457, R468, R473, R475, R476): the highest stage ended (none
before stage 0 ends) and whether the next one failed to end, the domain word, fenced packages, links and units, ports of the
host, far capacity, sensors, the units under test, the times of upsets and corrected errors, and until when the lead Kettle
serves a request. -/
structure Mgmt where
  powered : Bool := false
  stage : Option Nat := none
  stopped : Bool := false
  reports : List (List Byte) := []
  domain : Word := 3932160
  fencedPkgs : List Nat := []
  portsDown : List Nat := []
  windows : List HostWindow := []
  far0 : Nat := 0
  far1 : Nat := 0
  farDown : List Nat := []
  fencedStacks : List Nat := []
  fencedPages : List Nat := []
  fencedUnits : List UnitId := []
  testing : List UnitId := []
  upsets : List (UnitId × Nat) := []
  corrected : List (UnitId × Nat) := []
  busy : Nat := 0
  served : Nat := 0
  stuck : Bool := false
  rails : List Nat := []
  temps : Tab Int := []
  watts : Nat := 0
  cap : Nat := 2400
  clock : Nat := 100
  hbMissed : Tab Nat := []
  failed : List Nat := []
  deriving DecidableEq, Repr

/-- Why an instruction traps: cause, TVAL and the fields of TINFO (R389, R390). A trap of no access has the access code 4,
engine or other. -/
structure Why where
  cause : BitVec 6
  tval : Word
  unit : BitVec 4 := 0
  acc : BitVec 4 := 4
  kind : BitVec 4 := 0
  deriving DecidableEq, Repr

/-- How a word of the unit under way ended (R44): it retired, jumped, trapped, waits, waits for the
reload of a page (R352), or has sent an operation whose completion it waits for. -/
inductive WordEnd where
  | none
  | done
  | jump (pc : Word)
  | trap (r : TrapRec)
  | wait (on : Option WaitOn)
  | hold
  | stall (g p : Nat)
  | quit
  deriving DecidableEq, Repr

/-- The issue unit under way: 0 a lone word, 1 the C word and 2 the A word of a pair (R40 to R44); the entries that its queue
registers have read, by operand place, and that it pops when it retires (R26, R44); the pushes its destinations make; the trap
that the A word raises before it executes (R45); how its word ended; the slots that the A word sees (R41, R169); whether the
unit resumes at TEPC (R398). -/
structure IUnit where
  mode : Nat := 0
  latched : Tab Word := []
  pops : List Pop := []
  pushes : List (Nat × Word) := []
  late : Option Why := none
  ended : WordEnd := .none
  slots : Option (Tab Slot) := none
  resume : Bool := false
  deriving DecidableEq, Repr

/-- The machine: one package with all its dies, groves, cores and contexts (R1). `mem` holds the global physical memory,
keyed by the 52-bit physical address of R266, of this package and, for frames a partition may map, of the others. `groupDir`
gives the home package of a group by function and id, where it is another one (log entry 81); `awayFull` lists the context
addresses of other packages that accept no message (R249; log entry 11); `quotas` the quotas of the owner launches of other
packages whose streams are here (R351); `invals` names the functions of which an invalidation is still to complete (R273),
and `moving` the pages under a move (R278). `cachePoison` lists
the granules of memory whose copy in an L1 or L2 cache is poisoned: 2 with the core or 3 with the grove, and the granule (R399).
`flows` gives the next sequence number of each flow that enters over the links, and `early` holds what came before its turn,
with flow and number (R446). `agenda` is the input from outside and from the units whose timing is not stated:
events with the delay after which each happens (log entry 6). `freeIx` counts the free values taken (log entry 4). -/
structure State where
  cur : Nat := 0
  unit : IUnit := {}
  tick : Nat := 0
  freeIx : Nat := 0
  agenda : List (Nat × Instr) := []
  mem : List Host.Cell := []
  memPoison : List Nat := []
  cachePoison : List (Nat × Nat × Nat) := []
  invals : List Nat := []
  moving : List Moving := []
  ctxs : Tab Ctx := []
  places : Tab Place := []
  binds : Tab Bind := []
  cores : Tab Core := []
  groves : Tab Grove := []
  dies : Tab Die := []
  launches : Tab Launch := []
  nextNum : Nat := 1
  vfs : Tab Vf := []
  rr : Nat := 0
  groups : List Group := []
  nextGang : Nat := 32768
  groupDir : List (Nat × Nat × Nat) := []
  awayFull : List Word := []
  quotas : Tab Nat := []
  parts : Tab Part := [(0, { groves := [0, 1, 2, 3, 4, 5, 6, 7, 8, 9, 10, 11, 12, 13, 14, 15, 16, 17, 18, 19, 20, 21, 22,
    23, 24, 25, 26, 27, 28, 29, 30, 31, 32, 33, 34, 35, 36, 37, 38, 39, 40, 41, 42, 43, 44, 45, 46, 47] })]
  forwards : List (Word × Word × Nat) := []
  scanned : Nat := 0
  knots : List (List Nat) := []
  reported : List (List Nat) := []
  net : List Packet := []
  flows : Tab Nat := []
  early : List (Nat × Nat × Packet) := []
  leafOut : List (Nat × Packet) := []
  hostOut : List (List Byte) := []
  sencha : Sencha := {}
  mgmt : Mgmt := {}
  deriving DecidableEq, Repr

/-- Why the machine stops with a fault. -/
inductive Fault where
  /-- Raised by `step` when the module is stopped by a rail outside its limits (R476): the spec gives no further step
  before the next power-good. Safe: the machine stops where the hardware is off. -/
  | stopped
  deriving DecidableEq, Repr

/-- Why an instruction has no meaning. -/
inductive Refusal where
  /-- Raised by an arm of `exec` whose instruction has no meaning yet. Safe: the model stops. -/
  | notModelled (mnemonic : String)
  deriving DecidableEq, Repr

/-- The machine right after device reset (R35, R468): every context free with its reset values, every full/empty bit
full, every slot FREE, memory with nothing listed, no launch, no virtual function enabled before the stages have run. -/
def State.reset : State := {}

end Sys2Proof.Machine
end

