-- ==== Sys2Proof/Machine/Bits.lean ====
section
/-! DEFINITION. Bit fields, extension and byte order: the helpers by which a number is read as fields, bytes and lanes
(R17, R37, R38, R46 to R48, R74). All on natural numbers and bit vectors, by structural recursion. -/

namespace Sys2Proof

/-- The `len`-bit field of `w` whose lowest bit is bit `lo`. -/
def fld (w lo len : Nat) : Nat := w / 2 ^ lo % 2 ^ len

/-- Bit `k` of `w`. -/
def bitAt (w k : Nat) : Bool := w / 2 ^ k % 2 == 1

/-- A Boolean as the value of a one-bit field. -/
def b2n (b : Bool) : Nat := if b then 1 else 0

/-- SExt(v, n) of R98 on naturals: the low `n` bits of `v` read as two's complement. -/
def sextInt (n v : Nat) : Int :=
  if v % 2 ^ n < 2 ^ (n - 1) then (v % 2 ^ n : Nat) else (v % 2 ^ n : Nat) - (2 ^ n : Nat)

/-- An integer as a word, modulo 2^64 (R73). -/
def wordOf (i : Int) : Word := BitVec.ofInt 64 i

/-- A number as a word, modulo 2^64. -/
def natW (n : Nat) : Word := BitVec.ofNat 64 n

/-- SExt of R98: the low `n` bits of `v` extended to 64 bits. -/
def sextW (n v : Nat) : Word := wordOf (sextInt n v)

/-- All ones: -1 as a word. -/
def minusOne : Word := BitVec.ofNat 64 (2 ^ 64 - 1)

/-- The bits 0 to n - 1 of a number, lowest first. -/
def bitsOf : Nat → Nat → List Bool
  | 0, _ => []
  | n + 1, v => (v % 2 == 1) :: bitsOf n (v / 2)

/-- The number whose bits, lowest first, are `bs`. -/
def ofBits : List Bool → Nat
  | [] => 0
  | b :: t => b2n b + 2 * ofBits t

/-- The number of 1 bits among the lowest `n` bits. -/
def popcount : Nat → Nat → Nat
  | 0, _ => 0
  | n + 1, v => v % 2 + popcount n (v / 2)

/-- The position of the lowest 1 bit among the lowest `n` bits, or `n`. -/
def lowestSet : Nat → Nat → Nat
  | 0, _ => 0
  | n + 1, v => if v % 2 == 1 then 0 else lowestSet n (v / 2) + 1

/-- The number of leading zeros of `v` seen as `n` bits. -/
def leadingZeros (n v : Nat) : Nat := if v % 2 ^ n = 0 then n else n - 1 - Nat.log2 (v % 2 ^ n)

/-- The little-endian bytes 0 to n - 1 of a number (R37, R122). -/
def bytesOf : Nat → Nat → List Byte
  | 0, _ => []
  | n + 1, v => BitVec.ofNat 8 v :: bytesOf n (v / 256)

/-- The number whose little-endian bytes are `bs`. -/
def ofBytes : List Byte → Nat
  | [] => 0
  | b :: t => b.toNat + 256 * ofBytes t

/-- The lanes 0 to n - 1 of width `w` of a register (R17). -/
def lanesOf (w : Nat) : Nat → Nat → List Nat
  | 0, _ => []
  | n + 1, v => v % 2 ^ w :: lanesOf w n (v / 2 ^ w)

/-- The register whose lanes of width `w` are `ls` (R17). -/
def ofLanes (w : Nat) : List Nat → Nat
  | [] => 0
  | l :: t => l % 2 ^ w + 2 ^ w * ofLanes w t

/-- Lane `i` of width `w` (R17). -/
def lane (w i v : Nat) : Nat := v / 2 ^ (w * i) % 2 ^ w

/-- The numbers lo to lo + n - 1. -/
def upFrom : Nat → Nat → List Nat
  | _, 0 => []
  | lo, n + 1 => lo :: upFrom (lo + 1) n

/-- The element at place `n` of a list, or the given value. -/
def nth {α : Type} (d : α) : List α → Nat → α
  | [], _ => d
  | x :: _, 0 => x
  | _ :: t, n + 1 => nth d t n

/-- The list with place `n` replaced. -/
def setNth {α : Type} (x : α) : List α → Nat → List α
  | [], _ => []
  | _ :: t, 0 => x :: t
  | y :: t, n + 1 => y :: setNth x t n

/-- The list without place `n`. -/
def dropNth {α : Type} : List α → Nat → List α
  | [], _ => []
  | _ :: t, 0 => t
  | y :: t, n + 1 => y :: dropNth t n

/-- The place of the first element that meets `p`. -/
def placeOf {α : Type} (p : α → Bool) : List α → Option Nat
  | [] => none
  | x :: t => if p x then some 0 else (placeOf p t).map (· + 1)

/-- The smaller and the larger of two integers. -/
def imin (a b : Int) : Int := if a ≤ b then a else b
def imax (a b : Int) : Int := if a ≤ b then b else a

/-- `v` clamped to the range lo to hi (R73). -/
def clampI (lo hi v : Int) : Int := imax lo (imin hi v)

/-- The signed range of width `w`. -/
def smin (w : Nat) : Int := -((2 ^ (w - 1) : Nat) : Int)
def smax (w : Nat) : Int := ((2 ^ (w - 1) : Nat) : Int) - 1

end Sys2Proof
end

