-- ==== Sys2Proof/Machine/Tab.lean ====
section
/-! DEFINITION. Tables and byte memories: how plain keyed data is read and written. A table lists its keys in rising
order; a byte memory lists in addition no byte equal to what an unlisted address reads as (0, log entry 2). -/

namespace Sys2Proof

/-- The entry of key `k`, or the table's default. -/
def tabGet {α : Type} (d : α) : Tab α → Nat → α
  | [], _ => d
  | (j, v) :: t, k => if j = k then v else tabGet d t k

/-- The entry of key `k`, if it is listed. -/
def tabFind {α : Type} : Tab α → Nat → Option α
  | [], _ => none
  | (j, v) :: t, k => if j = k then some v else tabFind t k

/-- The table with key `k` holding `v`. -/
def tabSet {α : Type} (k : Nat) (v : α) : Tab α → Tab α
  | [] => [(k, v)]
  | (j, u) :: t => if k = j then (k, v) :: t else if k < j then (k, v) :: (j, u) :: t else (j, u) :: tabSet k v t

/-- The table without key `k`. -/
def tabDel {α : Type} (k : Nat) : Tab α → Tab α
  | [] => []
  | (j, u) :: t => if j = k then tabDel k t else (j, u) :: tabDel k t

/-- The keys of a table. -/
def tabKeys {α : Type} (t : Tab α) : List Nat := t.map (·.1)

/-- The smallest number from 0 on, below `n`, that is no key of the table. -/
def tabFree {α : Type} (t : Tab α) (n : Nat) : Option Nat :=
  (upFrom 0 n).find? (fun k => (tabFind t k).isNone)

/-- Three tables of one register file: what the C word of a pair left, over what the A word left (R41, R42). A key
takes C's entry where C's differs from the one before the pair, and A's entry elsewhere. -/
def tabMerge {α : Type} [DecidableEq α] (d : α) (old c a : Tab α) : Tab α :=
  (c ++ old).foldl (fun r kv => if tabGet d old kv.1 = tabGet d c kv.1 then r else tabSet kv.1 (tabGet d c kv.1) r) a

/-- The byte at an address: an unlisted address reads as 0 (log entry 2). -/
def memGet : List Host.Cell → Nat → Byte
  | [], _ => 0
  | (j, v) :: t, k => if j = k then v else memGet t k

/-- The memory with one byte stored, in canonical form. -/
def memPut (k : Nat) (v : Byte) : List Host.Cell → List Host.Cell
  | [] => if v = 0 then [] else [(k, v)]
  | (j, u) :: t =>
    if k = j then (if v = 0 then memPut k v t else (k, v) :: t)
    else if k < j then (if v = 0 then (j, u) :: memPut k v t else (k, v) :: (j, u) :: t)
    else (j, u) :: memPut k v t

/-- The `n` bytes from address `a` upward. -/
def memRead (m : List Host.Cell) : Nat → Nat → List Byte
  | _, 0 => []
  | a, n + 1 => memGet m a :: memRead m (a + 1) n

/-- The memory with `bs` stored from address `a` upward. -/
def memWrite : Nat → List Byte → List Host.Cell → List Host.Cell
  | _, [], m => m
  | a, b :: t, m => memWrite (a + 1) t (memPut a b m)

/-- The canonical form of a byte memory: addresses strictly rising from `lo`, and no byte listed that is 0. -/
def memWfFrom : Nat → List Host.Cell → Bool
  | _, [] => true
  | lo, (k, v) :: t => (lo ≤ k) && (v != 0) && memWfFrom (k + 1) t

/-- The canonical form of a byte memory. -/
def Memory.wf (m : List Host.Cell) : Bool := memWfFrom 0 m

end Sys2Proof
end

