-- ==== Sys2Proof/Machine/Base.lean ====
section
/-! DEFINITION. How the parts of State are named, read and replaced: contexts, cores, groves, dies, launches, functions,
registers (R15 to R18), CSRs (R33) and full/empty bits (R20). -/

namespace Sys2Proof.Machine

/-- A number put in a list, or taken out of it. -/
def markIn (b : Bool) (n : Nat) (l : List Nat) : List Nat := if b then (if l.contains n then l else l ++ [n]) else l.filter (· != n)

/-! Numbers of places -/

/-- The core, grove and die of a context. -/
def coreOf (c : Nat) : Nat := c / 4
def groveOf (c : Nat) : Nat := c / 96
def dieOf (c : Nat) : Nat := c / 1152

/-- The number of contexts, cores and groves of a package: 4 dies of 12 groves of 24 cores of 4 contexts. -/
def numCtx : Nat := 4608
def numCore : Nat := 1152
def numGrove : Nat := 48

/-! Parts of the state -/

def State.ctx (s : State) (c : Nat) : Ctx := tabGet {} s.ctxs c
def State.setCtx (s : State) (c : Nat) (x : Ctx) : State := { s with ctxs := tabSet c x s.ctxs }
def State.place (s : State) (c : Nat) : Place := tabGet {} s.places c
def State.setPlace (s : State) (c : Nat) (x : Place) : State := { s with places := tabSet c x s.places }
def State.core (s : State) (k : Nat) : Core := tabGet {} s.cores k
def State.setCore (s : State) (k : Nat) (x : Core) : State := { s with cores := tabSet k x s.cores }
def State.grove (s : State) (g : Nat) : Grove := tabGet {} s.groves g
def State.setGrove (s : State) (g : Nat) (x : Grove) : State := { s with groves := tabSet g x s.groves }
def State.die (s : State) (d : Nat) : Die := tabGet {} s.dies d
def State.setDie (s : State) (d : Nat) (x : Die) : State := { s with dies := tabSet d x s.dies }
def State.vf (s : State) (v : Nat) : Vf := tabGet {} s.vfs v
def State.setVf (s : State) (v : Nat) (x : Vf) : State := { s with vfs := tabSet v x s.vfs }
def State.setLaunch (s : State) (l : Nat) (x : Launch) : State := { s with launches := tabSet l x s.launches }
def State.bind (s : State) (c : Nat) : Bind := tabGet {} s.binds c
def State.setBind (s : State) (c : Nat) (x : Bind) : State := { s with binds := tabSet c x s.binds }

/-- The current context. -/
def State.me (s : State) : Ctx := s.ctx s.cur
def State.setMe (s : State) (x : Ctx) : State := s.setCtx s.cur x

/-- The registers of the current context. -/
def State.regs (s : State) : Regs := s.me.regs
def State.setRegs (s : State) (r : Regs) : State := s.setMe { s.me with regs := r }

/-- The address of the issue unit under way (R40). -/
def State.pc (s : State) : Word := s.regs.pc

/-- The next free value (log entry 4). -/
def State.freeBit (s : State) : Bool × State := (Config.freeBit s.freeIx, { s with freeIx := s.freeIx + 1 })
def State.freeByte (s : State) : Byte × State := (Config.freeByte s.freeIx, { s with freeIx := s.freeIx + 1 })

/-! CSR addresses (R33) -/

def csrTSTAT : Nat := 0x000
def csrTCAUSE : Nat := 0x001
def csrTVAL : Nat := 0x002
def csrTEPC : Nat := 0x003
def csrTSRC : Nat := 0x004
def csrTITER : Nat := 0x005
def csrTVEC : Nat := 0x006
def csrTSCRATCH : Nat := 0x007
def csrFRM : Nat := 0x010
def csrFFLAGS : Nat := 0x011
def csrJOBSEED : Nat := 0x012
def csrWID : Nat := 0x020
def csrWIDW : Nat := 0x021
def csrLID : Nat := 0x022
def csrLC0 : Nat := 0x030
def csrLS0 : Nat := 0x031
def csrLE0 : Nat := 0x032
def csrLC1 : Nat := 0x033
def csrLS1 : Nat := 0x034
def csrLE1 : Nat := 0x035
def csrRC : Nat := 0x036
def csrRI : Nat := 0x037
def csrCMEMB : Nat := 0x040
def csrCSEQ : Nat := 0x041
def csrCSPEC : Nat := 0x042
def csrCADDR : Nat := 0x043
def csrORPHANS : Nat := 0x044
def csrMGM : Nat := 0x050
def csrMGN : Nat := 0x051
def csrMGK : Nat := 0x052
def csrMGOM : Nat := 0x053
def csrMGON : Nat := 0x054
def csrHWIN : Nat := 0x060
def csrSCUR : Nat := 0x070
def csrSB0 : Nat := 0x071
def csrSBN : Nat := 0x081
def csrJVAL : Nat := 0x090
def csrJSTAT : Nat := 0x091
def csrQB0 : Nat := 0x0A0
def csrTSTAMP : Nat := 0x0B0
def csrPCA : Nat := 0x0B1
def csrPCB : Nat := 0x0B2
def csrCOLOR : Nat := 0x0C0
def csrCUTID : Nat := 0x0C1
def csrTLC0 : Nat := 0x100
def csrTINFO : Nat := 0x108
def csrXCTX : Nat := 0x109
def csrBKP0 : Nat := 0x10A

/-- The value that a context's CSR holds. -/
def Regs.csrAt (r : Regs) (a : Nat) : Word := tabGet 0 r.csr a
def Regs.setCsr (r : Regs) (a : Nat) (v : Word) : Regs := { r with csr := tabSet a v r.csr }

/-- The mode bit TSTAT.HM, the bits PHM and STEP (R29). -/
def Regs.hm (r : Regs) : Bool := (r.csrAt csrTSTAT).getLsbD 0
def Regs.phm (r : Regs) : Bool := (r.csrAt csrTSTAT).getLsbD 1
def Regs.stepBit (r : Regs) : Bool := (r.csrAt csrTSTAT).getLsbD 2

/-- TSTAT with the given bits HM, PHM and STEP (R29). -/
def tstatOf (hm phm step : Bool) : Word := natW (b2n hm + 2 * b2n phm + 4 * b2n step)

/-- The repeat count and index (R31, R114). -/
def Regs.rc (r : Regs) : Nat := (r.csrAt csrRC).toNat
def Regs.ri (r : Regs) : Nat := (r.csrAt csrRI).toNat

/-- FRM (R78). -/
def Regs.frm (r : Regs) : Nat := (r.csrAt csrFRM).toNat

/-- FFLAGS with more bits set (R79). -/
def Regs.orFlags (r : Regs) (f : Nat) : Regs := r.setCsr csrFFLAGS (r.csrAt csrFFLAGS ||| natW f)

/-! Registers (R15 to R18) -/

/-- X0 reads 0 (R15). -/
def Regs.xAt (r : Regs) (n : Nat) : Word := if n = 0 then 0 else tabGet 0 r.x n

/-- A write sets X full and clears its poison mark; a write to X0 is discarded (R16, R20, R399). -/
def Regs.setX (r : Regs) (n : Nat) (v : Word) : Regs :=
  if n = 0 then r
  else { r with x := tabSet n v r.x, xE := r.xE &&& ~~~(1#32 <<< n), xP := r.xP &&& ~~~(1#32 <<< n) }

def Regs.fAt (r : Regs) (n : Nat) : BitVec 32 := tabGet 0 r.f n
def Regs.setF (r : Regs) (n : Nat) (v : BitVec 32) : Regs :=
  { r with f := tabSet n v r.f, fE := r.fE &&& ~~~(1#32 <<< n), fP := r.fP &&& ~~~(1#32 <<< n) }

def Regs.vAt (r : Regs) (n : Nat) : BitVec 512 := tabGet 0 r.v n
def Regs.setV (r : Regs) (n : Nat) (v : BitVec 512) : Regs :=
  { r with v := tabSet n v r.v, vE := r.vE &&& ~~~(1#32 <<< n), vP := r.vP &&& ~~~(1#32 <<< n) }

/-- M0 reads 0xFFFF (R15); a write to M0 is discarded (R18). -/
def Regs.mAt (r : Regs) (n : Nat) : BitVec 16 := if n = 0 then 0xFFFF else tabGet 0xFFFF r.m n
def Regs.setM (r : Regs) (n : Nat) (v : BitVec 16) : Regs := if n = 0 then r else { r with m := tabSet n v r.m }

def Regs.hAt (r : Regs) (n : Nat) : BitVec 4096 := tabGet 0 r.h n
def Regs.setH (r : Regs) (n : Nat) (v : BitVec 4096) : Regs :=
  { r with h := tabSet n v r.h, hE := r.hE &&& ~~~(1#8 <<< n), hP := r.hP &&& ~~~(1#8 <<< n) }

def Regs.bAt (r : Regs) (n : Nat) : BitVec 32768 := tabGet 0 r.b n
def Regs.setB (r : Regs) (n : Nat) (v : BitVec 32768) : Regs := { r with b := tabSet n v r.b }

def Regs.accAt (r : Regs) (n : Nat) : BitVec 8192 := tabGet 0 r.acc n
def Regs.setAcc (r : Regs) (n : Nat) (v : BitVec 8192) : Regs := { r with acc := tabSet n v r.acc }

/-- Whether a register of class 0 X, 1 F, 2 V, 3 H is empty (R20, R22). -/
def Regs.emptyAt (r : Regs) (cls n : Nat) : Bool :=
  match cls with
  | 0 => n != 0 && r.xE.getLsbD n
  | 1 => r.fE.getLsbD n
  | 2 => r.vE.getLsbD n
  | _ => r.hE.getLsbD n

/-- The register marked empty by a long-latency producer (R20). X0 is always full. -/
def Regs.setEmpty (r : Regs) (cls n : Nat) : Regs :=
  match cls with
  | 0 => if n = 0 then r else { r with xE := r.xE ||| (1#32 <<< n) }
  | 1 => { r with fE := r.fE ||| (1#32 <<< n) }
  | 2 => { r with vE := r.vE ||| (1#32 <<< n) }
  | _ => { r with hE := r.hE ||| (1#8 <<< n) }

/-- Whether a register is marked poisoned (R399). -/
def Regs.poisonAt (r : Regs) (cls n : Nat) : Bool :=
  match cls with
  | 0 => r.xP.getLsbD n
  | 1 => r.fP.getLsbD n
  | 2 => r.vP.getLsbD n
  | _ => r.hP.getLsbD n

/-- The register marked poisoned, and full (R399). -/
def Regs.setPoison (r : Regs) (cls n : Nat) : Regs :=
  match cls with
  | 0 => if n = 0 then r else { r with xP := r.xP ||| (1#32 <<< n), xE := r.xE &&& ~~~(1#32 <<< n) }
  | 1 => { r with fP := r.fP ||| (1#32 <<< n), fE := r.fE &&& ~~~(1#32 <<< n) }
  | 2 => { r with vP := r.vP ||| (1#32 <<< n), vE := r.vE &&& ~~~(1#32 <<< n) }
  | _ => { r with hP := r.hP ||| (1#8 <<< n), hE := r.hE &&& ~~~(1#8 <<< n) }

/-- The bits of a register of class 0 to 3, and their replacement; a write sets it full. -/
def Regs.bitsAt (r : Regs) (cls n : Nat) : Nat :=
  match cls with
  | 0 => (r.xAt n).toNat
  | 1 => (r.fAt n).toNat
  | 2 => (r.vAt n).toNat
  | _ => (r.hAt n).toNat
def Regs.setBits (r : Regs) (cls n v : Nat) : Regs :=
  match cls with
  | 0 => r.setX n (natW v)
  | 1 => r.setF n (BitVec.ofNat 32 v)
  | 2 => r.setV n (BitVec.ofNat 512 v)
  | _ => r.setH n (BitVec.ofNat 4096 v)

/-- Element e of an accumulator (R17). -/
def accElt (a : BitVec 8192) (e : Nat) : BitVec 32 := BitVec.ofNat 32 (a.toNat / 2 ^ (32 * e))

/-- The full package number of this package (R443). -/
def State.self (s : State) : Nat := fld s.mgmt.domain.toNat 9 9

/-- A package is present when its coordinates lie below the extents and it is not fenced (R442). -/
def State.present (s : State) (p : Nat) : Bool :=
  let d := s.mgmt.domain.toNat
  decide (fld p 0 3 ≤ fld d 0 3) && decide (fld p 3 3 ≤ fld d 3 3) && decide (fld p 6 3 ≤ fld d 6 3)
    && decide (p < 512) && !(s.mgmt.fencedPkgs.contains p)

/-- The context address of an occupancy of a context of this package (R239). -/
def State.caddrGen (s : State) (c : Nat) (gen : BitVec 16) : Word :=
  natW (2 ^ 32 * s.self + 2 ^ 30 * dieOf c + 2 ^ 26 * (groveOf c % 12) + 2 ^ 21 * (coreOf c % 24) + 2 ^ 19 * (c % 4) + gen.toNat)

/-- The context address of a context of this package with its current generation (R239). -/
def State.caddr (s : State) (c : Nat) : Word := s.caddrGen c (s.ctx c).gen

/-- A saved context of the given occupancy (R414). -/
def State.savedCtx (s : State) (c : Nat) (gen : BitVec 16) : Option Ctx :=
  s.parts.findSome? (fun (p : Nat × Part) => p.2.saved.findSome? (fun (v : SavedSet) => v.cores.findSome? (fun (k : SavedCore) =>
    (k.ctxs.find? (fun x => x.1 == c && x.2.gen == gen && x.2.status != .free)).map (·.2))))

/-- The context of an occupancy, resident or saved (R24, R262). -/
def State.owner (s : State) (c : Nat) (gen : BitVec 16) : Option Ctx :=
  if (s.ctx c).status ≠ .free ∧ (s.ctx c).gen = gen then some (s.ctx c) else s.savedCtx c gen

/-- A change of the context of an occupancy, resident or saved. -/
def State.setOwner (s : State) (c : Nat) (gen : BitVec 16) (f : Ctx → Ctx) : State :=
  if (s.ctx c).status ≠ .free ∧ (s.ctx c).gen = gen then s.setCtx c (f (s.ctx c))
  else { s with parts := s.parts.map (fun (p : Nat × Part) => (p.1, { p.2 with saved := p.2.saved.map (fun (v : SavedSet) => { v with
    cores := v.cores.map (fun (k : SavedCore) => { k with
      ctxs := k.ctxs.map (fun x => if x.1 = c ∧ x.2.gen = gen ∧ x.2.status ≠ .free then (x.1, f x.2) else x) }) }) })) }

/-- The context that a context address names within its package (R239). -/
def ctxOfAddr (a : Word) : Nat :=
  ((fld a.toNat 30 2 * 12 + fld a.toNat 26 4) * 24 + fld a.toNat 21 5) * 4 + fld a.toNat 19 2

/-- The hidden counts of coloured items (R418): an item sent by a core in its colour, and an item received in its own. -/
def State.countSent (s : State) (k : Nat) : State :=
  let x := s.core k
  s.setCore k (if x.colour then { x with sent1 := x.sent1 + 1 } else { x with sent0 := x.sent0 + 1 })
def State.countRecv (s : State) (k : Nat) (colour : Bool) : State :=
  let x := s.core k
  s.setCore k (if colour then { x with recv1 := x.recv1 + 1 } else { x with recv0 := x.recv0 + 1 })

/-- A message counted as received, once (R418). -/
def State.countMsg (s : State) (m : Msg) : State := if m.counted then s else s.countRecv (coreOf (ctxOfAddr m.dst)) m.colour

/-- The partition that holds a grove (R412). -/
def State.partOf (s : State) (g : Nat) : Option Nat :=
  (s.parts.find? (fun p => p.2.groves.contains g)).map (·.1)

/-- A partition spans a package (R412, R442). -/
def State.spans (s : State) (p pkg : Nat) : Bool :=
  pkg == s.self || (s.present pkg && (upFrom 0 48).any (fun g => Config.spans p (48 * pkg + g)))

/-- A grove of a package lies in the partition of grove `g` of this one (R412; log entry 11). -/
def State.sharesPart (s : State) (g pkg h : Nat) : Bool :=
  match s.partOf g with
  | some p => if pkg = s.self then s.partOf h == some p else s.present pkg && Config.spans p (48 * pkg + h)
  | none => false

/-- A package that a partition of a function spans: any other counts as absent for it (R442, R448). -/
def State.spansFor (s : State) (vf pkg : Nat) : Bool :=
  pkg == s.self || s.parts.any (fun p => (p.2.vf == vf || p.2.saved.any (·.vf == vf)) && s.spans p.1 pkg)

/-- A packet sent to a package: in the mesh of this one, or out on the links. -/
def State.sendPacket (s : State) (pkg : Nat) (p : Packet) : State :=
  if pkg = s.self then { s with net := s.net ++ [p] } else { s with leafOut := s.leafOut ++ [(pkg, p)] }

/-- The current address of the context that an address names: the forwards of moved contexts followed (R416). -/
def State.forwarded (s : State) (d : Word) : Word :=
  s.forwards.foldl (fun r f => if f.1 = r then f.2.1 else r) d

/-- A partition issues and starts work: no gang switch has reached its time (R412, R413). -/
def State.partRuns (s : State) (p : Part) : Bool := p.phase == 0 || (p.phase == 1 && decide (s.tick < p.time))

/-- A grove's partition serves a function and runs (R412, R413). -/
def State.runsFor (s : State) (g vf : Nat) : Bool := s.parts.any (fun p => p.2.groves.contains g && p.2.vf == vf && s.partRuns p.2)

/-- The launch of a context's task. -/
def State.launchOf (s : State) (c : Nat) : Option Launch :=
  match (s.ctx c).task with
  | some t => tabFind s.launches t.launch
  | none => none

/-- An 8-byte little-endian word of a launch header (R193). -/
def hdrWord (h : List Byte) (off : Nat) : Nat := ofBytes ((h.drop off).take 8)

/-- KIMG, CTL, EXTM1 and their fields (R193 to R195). -/
def Launch.kimg (l : Launch) : Nat := hdrWord l.hdr 0
def Launch.ctl (l : Launch) : Nat := hdrWord l.hdr 8
def Launch.extm1 (l : Launch) : Nat := hdrWord l.hdr 16
def Launch.seed (l : Launch) : Word := natW (hdrWord l.hdr 24)
def Launch.kaddr (l : Launch) : Nat := fld l.kimg 6 46 * 64
def Launch.klen (l : Launch) : Nat := fld l.kimg 52 12
def Launch.podg (l : Launch) : Nat := fld l.kimg 0 6
def Launch.quota (l : Launch) : Nat := fld l.ctl 44 17
def Launch.qscope (l : Launch) : Nat := fld l.ctl 42 2
def Launch.gang (l : Launch) : Bool := bitAt l.ctl 41
def Launch.isDual (l : Launch) : Bool := bitAt l.ctl 40
def Launch.infuse (l : Launch) : Bool := bitAt l.ctl 39
def Launch.prio (l : Launch) : Nat := fld l.ctl 36 3
def Launch.width (l : Launch) (n : Nat) : Nat := fld l.ctl (6 * n) 6

/-- The extent of level 0 (R190): the size of a gang (R207). -/
def Launch.e0 (l : Launch) : Nat := fld l.extm1 0 (l.width 0) + 1

/-- The context runs a task of a DUAL launch (R205). -/
def State.inDual (s : State) : Bool :=
  match s.launchOf s.cur with
  | some l => l.isDual
  | none => false

/-- The context runs a shadow copy: its global stores are not performed (R205, R206). -/
def State.inShadow (s : State) : Bool :=
  match s.me.task with
  | some t => t.copy = 1 || t.copy = 2
  | none => false

/-- A Kettle context: the grove's servicer, or a context that the Kettle started as a handler context (R405). -/
def State.isKettle (s : State) : Bool := s.me.handler || (s.grove (groveOf s.cur)).servicer == some s.cur

end Sys2Proof.Machine
end

