-- ==== Sys2Proof/Machine/Memory.lean ====
section
/-! DEFINITION. The levels of memory (R263 to R281): places, bytes and poison, the checks of each space (R123, R263, R264),
translation by the page tables (R268 to R271), metering of weight regions (R422 to R427). -/

namespace Sys2Proof.Machine

/-! Cause codes (R389) -/

def cILLEGAL : BitVec 6 := 0x01
def cRESERVED : BitVec 6 := 0x02
def cPRIV : BitVec 6 := 0x03
def cMISALIGN : BitVec 6 := 0x04
def cPROT : BitVec 6 := 0x05
def cPAGE : BitVec 6 := 0x06
def cEMPTY : BitVec 6 := 0x07
def cSLOT : BitVec 6 := 0x08
def cPOD : BitVec 6 := 0x09
def cSTREAM : BitVec 6 := 0x0A
def cMOVED : BitVec 6 := 0x0B
def cQUOTA : BitVec 6 := 0x0C
def cJOIN : BitVec 6 := 0x0D
def cCOLLABORT : BitVec 6 := 0x0E
def cCOLLNEST : BitVec 6 := 0x0F
def cBOUND : BitVec 6 := 0x10
def cBREAK : BitVec 6 := 0x11
def cSTEP : BitVec 6 := 0x12
def cECALL : BitVec 6 := 0x13
def cHOSTATOM : BitVec 6 := 0x14
def cMETER : BitVec 6 := 0x15
def cSPOUT : BitVec 6 := 0x16
def cTIMEOUT : BitVec 6 := 0x17
def cMCE : BitVec 6 := 0x18

/-! Places -/

/-- The place `k` bytes further on. -/
def Loc.add : Loc → Nat → Loc
  | .mem a, k => .mem (a + k)
  | .scr c o, k => .scr c (o + k)
  | .frame g n o, k => .frame g n (o + k)
  | .hdr l o, k => .hdr l (o + k)

/-- The byte memory that holds a place, and the byte's key in it. -/
def State.byteAt (s : State) : Loc → Byte
  | .mem a => memGet s.mem a
  | .scr c o => memGet (s.core c).scratch o
  | .frame g n o => memGet (tabGet [] (s.grove g).frames n) o
  | .hdr l o =>
    match tabFind s.launches l with
    | some x => nth 0 x.hdr o
    | none => 0

/-- The `n` bytes from a place upward. -/
def State.readLoc (s : State) (l : Loc) : Nat → List Byte
  | 0 => []
  | n + 1 => s.byteAt l :: s.readLoc (l.add 1) n

/-- The naturally aligned granules that lie wholly in `n` bytes from `a` (R284, R399). -/
def wholeGranules (a n : Nat) : List Nat :=
  (upFrom (a / 8) (n / 8 + 2)).filter (fun g => decide (a ≤ 8 * g) && decide (8 * g + 8 ≤ a + n))

/-- The granules that `n` bytes from `a` touch. -/
def touchedGranules (a n : Nat) : List Nat :=
  (upFrom (a / 8) (n / 8 + 2)).filter (fun g => decide (8 * g < a + n) && decide (a < 8 * g + 8))

/-- The state with bytes stored at a place. A store that covers a whole poisoned granule clears its poison (R399). The
launch window is never written (R197). -/
def State.writeLoc (s : State) (l : Loc) (bs : List Byte) : State :=
  match l with
  | .mem a =>
    { s with mem := memWrite a bs s.mem
             memPoison := s.memPoison.filter (fun g => !((wholeGranules a bs.length).contains g))
             cachePoison := s.cachePoison.filter (fun g => !((wholeGranules a bs.length).contains g.2.2)) }
  | .scr c o =>
    let k := s.core c
    s.setCore c { k with scratch := memWrite o bs k.scratch
                         poison := k.poison.filter (fun g => !((wholeGranules o bs.length).contains g)) }
  | .frame g n o =>
    let v := s.grove g
    s.setGrove g { v with frames := tabSet n (memWrite o bs (tabGet [] v.frames n)) v.frames
                          framePoison := v.framePoison.filter (fun p => !(p.1 == n && (wholeGranules o bs.length).contains p.2)) }
  | .hdr _ _ => s

/-- The unit code of TINFO (R390) of poisoned data that `n` bytes from a place touch, if any are poisoned (R399). -/
def State.poisonedLoc (s : State) (l : Loc) (n : Nat) : Option (BitVec 4) :=
  match l with
  | .mem a =>
    if (touchedGranules a n).any (fun g => s.memPoison.contains g) then
      some (if fld a 41 2 = 0 then 8 else if fld a 41 2 = 1 then 9 else 10)
    else none
  | .scr c o => if (touchedGranules o n).any (fun g => (s.core c).poison.contains g) then some 4 else none
  | .frame g k o => if (touchedGranules o n).any (fun p => (s.grove g).framePoison.contains (k, p)) then some 7 else none
  | .hdr _ _ => none

/-- The home descriptor of a function at an index; its reset value is MODE 0 with every core (R269). -/
def State.homeDesc (s : State) (vf i : Nat) : Nat := (tabGet 0xFFFFFF (s.vf vf).hd i).toNat

/-- The core whose L2 slice is the home of a line under a home descriptor (R275). -/
def homeOf (pa hd : Nat) : Nat :=
  let grove := 12 * fld hd 36 2 + fld hd 32 4
  if fld hd 62 2 = 1 then 24 * grove + fld hd 0 5
  else
    let cores := (upFrom 0 24).filter (fun k => bitAt hd k)
    let l := fld pa 6 46
    24 * grove + nth 0 cores ((l ^^^ (l / 2 ^ 12)) % cores.length)

/-- The homes of a line under the translations that the units hold of its frame: one, while software keeps one HIDX for a page in
every mapping (R275). A page that is not cached has none. -/
def State.homesOf (s : State) (pa : Nat) : List Nat :=
  let es := (s.cores.map (fun k => k.2.tlb)).flatten ++ (s.groves.map (fun g => g.2.gtu)).flatten
  let hit := fun (e : Xlated) => !(bitAt e.leaf 56) && fld e.leaf 12 40 * 4096 / 2 ^ e.bits == pa / 2 ^ e.bits
  ((es.filter hit).map (fun e => homeOf pa (s.homeDesc e.vf (fld e.leaf 58 6)))).eraseDups

/-- The unit code of poisoned data that a load of context `c` meets: in the L1 cache of its core, in the L2 cache of the line's
home grove, or where the data lies (R275, R399). -/
def State.poisonedFor (s : State) (c : Nat) (l : Loc) (n : Nat) : Option (BitVec 4) :=
  match l with
  | .mem a =>
    let hit := fun (k : Nat × Nat × Nat) =>
      (touchedGranules a n).contains k.2.2 && ((k.1 == 2 && k.2.1 == coreOf c) || (k.1 == 3 && (s.homesOf a).any (fun h => h / 24 == k.2.1)))
    match s.cachePoison.find? hit with
    | some k => some (BitVec.ofNat 4 k.1)
    | none => s.poisonedLoc l n
  | _ => s.poisonedLoc l n

/-- Two places lie in one byte memory; their distance. -/
def Loc.offsetIn : Loc → Loc → Option Int
  | .mem a, .mem b => some ((a : Int) - b)
  | .scr c a, .scr d b => if c = d then some ((a : Int) - b) else none
  | .frame g n a, .frame h m b => if g = h ∧ n = m then some ((a : Int) - b) else none
  | _, _ => none

/-- Bytes read at `l` with one later write laid over them (R124, R288). -/
def overlay1 (l : Loc) (w : Write) (bs : List Byte) : List Byte :=
  match l.offsetIn w.loc with
  | none => bs
  | some d =>
    (bs.zip (upFrom 0 bs.length)).map (fun p =>
      let k : Int := d + p.2
      if 0 ≤ k ∧ k < w.bytes.length then nth 0 w.bytes k.toNat else p.1)

/-- Bytes read at `l` with a list of writes, oldest first, laid over them. -/
def overlay (l : Loc) (ws : List Write) (bs : List Byte) : List Byte :=
  ws.foldl (fun r w => overlay1 l w r) bs

/-- Two ranges of bytes touch a common granule (R281, R284, R286 row 1). -/
def Loc.overlaps (l : Loc) (n : Nat) (k : Loc) (m : Nat) : Bool :=
  match l, k with
  | .mem a, .mem b => decide (a / 8 * 8 < b + m) && decide (b / 8 * 8 < a + n)
  | .scr c a, .scr d b => c == d && decide (a / 8 * 8 < b + m) && decide (b / 8 * 8 < a + n)
  | .frame g i a, .frame h j b => g == h && i == j && decide (a / 8 * 8 < b + m) && decide (b / 8 * 8 < a + n)
  | _, _ => false

/-- A write overlaps `n` bytes at a place. -/
def Write.overlaps (w : Write) (l : Loc) (n : Nat) : Bool := w.loc.overlaps w.bytes.length l n

/-- The fields of the two words of a barrier object: first bit and width (R324). -/
def barFields (second : Bool) : List (Nat × Nat) :=
  if second then [(56, 8), (40, 16), (0, 40)] else [(63, 1), (62, 1), (61, 1), (56, 5), (40, 16), (0, 40)]

/-- A word whose fields each hold the old or the new value, as a free choice. -/
def State.blend (s : State) (old new : Nat) : List (Nat × Nat) → Nat × State
  | [] => (0, s)
  | (lo, n) :: t =>
    let (b, s1) := s.freeBit
    let (w, s2) := s1.blend old new t
    (w + 2 ^ lo * fld (if b then new else old) lo n, s2)

/-- A plain store of at most 8 bytes within a granule performed. In a live barrier object each field that it touches takes the
held or the stored value, which is not specified (R324; log entry 77). -/
def State.storeLoc (s : State) (l : Loc) (bs : List Byte) : State :=
  match l with
  | .scr c o =>
    if (s.core c).live.contains (o / 16) then
      let g := Loc.scr c (o / 8 * 8)
      let old := ofBytes (s.readLoc g 8)
      let new := ofBytes ((s.writeLoc l bs).readLoc g 8)
      let (w, s1) := s.blend old new (barFields (o / 8 % 2 == 1))
      (s1.writeLoc l bs).writeLoc g (bytesOf 8 w)
    else s.writeLoc l bs
  | _ => s.writeLoc l bs

/-- The writes of one event performed. -/
def State.perform (s : State) (ws : List Write) : State := ws.foldl (fun r w => r.storeLoc w.loc w.bytes) s

/-- A write of more than 8 bytes divided into its granules (R284). -/
def Write.granules (w : Write) : List Write :=
  if w.bytes.length ≤ 8 then [w]
  else (upFrom 0 (w.bytes.length / 8)).map (fun k => { w with loc := w.loc.add (8 * k), bytes := (w.bytes.drop (8 * k)).take 8 })

/-- Two places lie in one granule. -/
def Loc.sameGranule (l k : Loc) : Bool := l.overlaps 1 k 1

/-- Writes grouped into events: those next to each other in one granule are one (R284). -/
def joinWrites : List Write → List (List Write)
  | [] => []
  | w :: t =>
    match joinWrites t with
    | [] => [[w]]
    | e :: r => if e.any (fun v => v.loc.sameGranule w.loc) then (w :: e) :: r else [w] :: e :: r

/-- The events of one store (R284). -/
def eventsOf (ws : List Write) : List (List Write) := joinWrites ((ws.map Write.granules).flatten)

/-- The writes that a posted store has still to make. -/
def Posted.writes (p : Posted) : List Write := p.events.flatten

/-- The writes of a context that precede program-order place `n` and are not yet performed: its posted stores and its
held stores (R124, R258, R288). -/
def Ctx.ownWrites (x : Ctx) (n : Nat) : List Write :=
  ((x.posted.filter (fun p => decide (p.n < n))).map (·.writes)).flatten
    ++ (match x.spec with
        | some sp => ((sp.held.filter (fun h => decide (h.n < n))).map (·.writes)).flatten
        | none => [])

/-! Order among the accesses of a context (R124, R276, R285, R286) -/

/-- The places that an outstanding read still reads. -/
def ProdSrc.places : ProdSrc → List (Loc × Nat)
  | .load l n _ _ => [(l, n)]
  | .gather w _ ps => ps.map (fun p => (p.loc, w))
  | .desc _ _ ps => ps.map (fun p => (p.loc, 8))
  | _ => []
def Fill.places (f : Fill) : List (Loc × Nat) := f.parts.map (fun p => (p.loc, 8))

/-- The tiers of the uncached pages that an outstanding read still reads. -/
def Prod.tiers (p : Prod) : List (Option Nat) :=
  match p.src with
  | .gather _ _ ps => ps.map (·.uc)
  | _ => [p.uc]
def Fill.tiers (f : Fill) : List (Option Nat) := f.parts.map (·.uc)

/-- The fills under way in the slots of a context that precede program-order place `n`. -/
def State.fillsBefore (s : State) (c n : Nat) : List Fill :=
  (s.core (coreOf c)).slots.filterMap (fun k =>
    match k.2.owner == some c, k.2.fill with
    | true, some (f, _) => if f.n < n then some f else none
    | _, _ => none)

/-- The outstanding reads of a context that precede program-order place `n`. -/
def State.readsBefore (s : State) (c n : Nat) : List (Loc × Nat) :=
  (((s.ctx c).prods.filter (fun p => decide (p.n < n))).map (fun p => p.src.places)).flatten
    ++ ((s.fillsBefore c n).map (·.places)).flatten

/-- The HBM4E stack of a near offset (R441): die times 2 plus the stack of that die. -/
def stackOf (off : Nat) : Nat :=
  let n := fld off 21 18
  2 * ((fld n 0 2) ^^^ (fld n 4 2)) + ((fld n 2 1) ^^^ (fld n 6 1))

/-- A place in memory under self-test, which takes no work until the test ends (R401). -/
def State.resting (s : State) : Loc → Bool
  | .mem a =>
    fld a 43 9 == s.self && fld a 41 2 == 0 &&
      s.mgmt.testing.any (fun u => match u with
        | .nearPage n => n == fld a 21 18
        | .stack n => n == stackOf (fld a 0 41)
        | _ => false)
  | _ => false

/-- A read of `len` bytes at place `n` of a context must follow an earlier read of the same context (R285), or the self-test of its
memory (R401). -/
def State.readBlocked (s : State) (c n : Nat) (l : Loc) (len : Nat) : Bool :=
  s.resting l || (s.readsBefore c n).any (fun r => r.1.overlaps r.2 l len)

/-- An access of an uncached page of a tier must follow an earlier one of the context (R276). -/
def State.ucBlocked (s : State) (c n : Nat) (uc : Option Nat) : Bool :=
  uc.isSome &&
  ((s.ctx c).prods.any (fun p => decide (p.n < n) && p.tiers.contains uc)
    || (s.ctx c).posted.any (fun p => decide (p.n < n) && p.writes.any (fun w => w.uc == uc))
    || (s.fillsBefore c n).any (fun f => f.tiers.contains uc))

/-- An acquire load is outstanding: every later access waits for it (R286 row 2). -/
def State.acquiring (s : State) : Bool := s.me.prods.any (·.acq)

/-- A place in the own scratchpad of a context. -/
def Loc.ownOf (c : Nat) : Loc → Bool
  | .scr k _ => k == coreOf c
  | _ => false

/-- An earlier access of the current context to its own scratchpad has not been performed: a later one waits (R124, R286
row 10). -/
def State.ownBusy (s : State) : Bool :=
  (s.readsBefore s.cur s.me.nseq).any (fun r => r.1.ownOf s.cur) || s.me.posted.any (·.own)

/-- A long-latency producer of the current context, or one of its parked loads, is still to push to the Spout: the descriptor
that the push reads is not known yet (R26, R317). -/
def State.sptPending (s : State) : Bool :=
  s.me.prods.any (fun p => p.push == some 0x01000000)
    || s.groves.any (fun g => g.2.ring.any (fun e => e.ctx == s.cur && e.gen == s.me.gen && e.push == some 0x01000000))

/-- An access to a place waits for earlier ones to the own scratchpad; while a descriptor is still to be read, every access to
the scratchpad space waits (R286 rows 1 and 10). -/
def State.ownWaits (s : State) (l : Loc) : Bool :=
  match l with
  | .scr _ _ => (l.ownOf s.cur && s.ownBusy) || s.sptPending
  | _ => false

/-- The bytes of a place as loads find them: between two homes of a frame coherence is not kept, and a load of one with two homes
reads free bytes (R275; log entry 90). -/
def State.coherent (s : State) (l : Loc) (len : Nat) : List Byte :=
  match l with
  | .mem a => if (s.homesOf a).length ≤ 1 then s.readLoc l len else (upFrom a len).map (fun k => Config.staleByte k s.tick)
  | _ => s.readLoc l len

/-- What a load of a context at program-order place `n` reads (R288). -/
def State.readFor (s : State) (c n : Nat) (l : Loc) (len : Nat) : List Byte :=
  overlay l ((s.ctx c).ownWrites n) (s.coherent l len)

/-- The package of a place of global memory (R266). -/
def Loc.pkg (self : Nat) : Loc → Nat
  | .mem a => fld a 43 9
  | _ => self

/-- A physical address of this package (R266). -/
def State.paOf (s : State) (tier off : Nat) : Nat := 2 ^ 43 * s.self + 2 ^ 41 * tier + off

/-! Scratchpad space (R264) -/

/-- The stash of a core in KiB: the size that the function which its partition serves has asked for (R277, R421). -/
def State.stashOf (s : State) (k : Nat) : Nat :=
  match s.partOf (k / 24) with
  | some p => tabGet 0 (s.vf (tabGet {} s.parts p).vf).stash k
  | none => 0

/-- The place of `n` bytes at scratchpad address `a`, seen from context `c`; none where R264 traps PROT. -/
def State.scrLoc (s : State) (c a n : Nat) : Option Loc :=
  let r : Option (Nat × Nat) :=
    if a + n ≤ 0x40000 then some (coreOf c, a)
    else if 0x800000 ≤ a ∧ a + n ≤ 0xE00000 then some (groveOf c * 24 + (a - 0x800000) / 0x40000, (a - 0x800000) % 0x40000)
    else none
  match r with
  | none => none
  | some (k, o) => if o + n ≤ 0x40000 - 1024 * s.stashOf k then some (.scr k o) else none

/-! Metering (R422 to R427) -/

/-- The registered weight region that holds a virtual address of a function. -/
def State.regionAt (s : State) (vf va : Nat) : Option (Nat × Region) :=
  s.sencha.regions.find? (fun p => p.2.vf == vf && decide (p.2.base ≤ va) && decide (va < p.2.base + p.2.len))

/-- How an address is accessed. -/
inductive Acc where
  | load | store | atomic | fetch
  deriving DecidableEq, Repr

/-- An access that writes. -/
def Acc.writes : Acc → Bool
  | .store => true
  | .atomic => true
  | _ => false

/-- The TINFO access code (R393). -/
def accCode : Acc → BitVec 4
  | .load => 0
  | .store => 1
  | .atomic => 2
  | .fetch => 3

/-- The METER check of R425, made before the page walk; `tile` marks an MLD.G. A frozen region refuses every read
(R429). -/
def State.meterTrap (s : State) (vf : Nat) (va : Word) (acc : Acc) (tile : Bool) : Bool :=
  match s.regionAt vf va.toNat with
  | none => false
  | some (_, r) =>
    match acc with
    | .fetch => r.frozen || r.pol
    | .load => r.frozen || (r.pol && !tile)
    | _ => true

def opsStep : Nat := 2 ^ 36
def bytesStep : Nat := 2 ^ 40
def max64 : Nat := 2 ^ 64 - 1

/-- A counter raised by `n`; none where it would pass a ceiling that has not been renewed (R427). -/
def raiseCount (v ceil n : Nat) : Option Nat :=
  let t := min (v + n) max64
  if t ≤ ceil ∨ ceil = max64 then some t else none

/-- BYTES of the region at `va` raised by the bytes read (R424); none where the count waits for a ceiling. -/
def State.countBytes (s : State) (vf : Nat) (va n : Nat) : Option State :=
  match s.regionAt vf va with
  | none => some s
  | some (k, r) =>
    (raiseCount r.bytes r.ceilb n).map (fun b =>
      { s with sencha := { s.sencha with regions := tabSet k { r with bytes := b } s.sencha.regions } })

/-- OPS of a region raised by 1 (R180, R424); none where the count waits for a ceiling. -/
def State.countOp (s : State) (k : Nat) : Option State :=
  match tabFind s.sencha.regions k with
  | none => some s
  | some r =>
    (raiseCount r.ops r.ceilo 1).map (fun b =>
      { s with sencha := { s.sencha with regions := tabSet k { r with ops := b } s.sencha.regions } })

/-! Translation (R268 to R271) -/

/-- The far tier's offset lies in installed memory (R457). -/
def State.farHas (s : State) (off : Nat) : Bool :=
  let m := s.mgmt
  if m.far0 = m.far1 then
    decide (off < m.far0 + m.far1) && !(m.farDown.contains (fld off 16 1))
  else if off < m.far0 then !(m.farDown.contains 0)
  else decide (off < m.far0 + m.far1) && !(m.farDown.contains 1)

/-- The frame exists: its package is present, and its memory is installed and not fenced (R266, R271 NOMEM, R442, R469). What
another package has installed and fenced is a free value (log entry 68). -/
def State.installed (s : State) (pa : Nat) : Bool :=
  let here := fld pa 43 9 == s.self
  s.present (fld pa 43 9) &&
  (match fld pa 41 2 with
    | 0 => decide (fld pa 0 41 < 2 ^ 39) && (if here then
        !(s.mgmt.fencedStacks.contains (stackOf (fld pa 0 41))) && !(s.mgmt.fencedPages.contains (fld pa 21 18))
        else Config.awayInstalled (pa / 2 ^ 21) s.tick)
    | 1 => if here then s.farHas (fld pa 0 41) else Config.awayInstalled (pa / 2 ^ 21) s.tick
    | 2 => true
    | _ => false)

/-- The recorded window of the host tier that holds a place (R310, R456). -/
def State.hostWindow (s : State) (pa : Nat) : Option HostWindow :=
  s.mgmt.windows.find? (fun w => w.pkg == fld pa 43 9 && decide (w.base ≤ fld pa 0 41) && decide (fld pa 0 41 < w.base + w.len))

/-- The host port behind a frame runs CXL.cache (R271, R456). -/
def State.hostCached (s : State) (pa : Nat) : Bool := (s.hostWindow pa).any (·.cxlCache)

/-- The 8-byte word of memory at a physical address. -/
def State.mem64 (s : State) (pa : Nat) : Nat := ofBytes (memRead s.mem pa 8)

/-- The outcome of a translation: the physical address, the leaf and its entry's address, and the state with A and D set; or
the fault kind. -/
inductive Xlat where
  | ok (pa leaf ea : Nat) (s : State)
  | fault (kind : Nat)

/-- A reserved bit of a page-table entry is set (R268). -/
def pteReserved (e : Nat) : Bool := fld e 52 4 != 0 || fld e 9 3 != 0 || fld e 4 1 != 0

/-- A home descriptor that makes a leaf malformed (R271). -/
def hdBad (d : Nat) : Bool :=
  if fld d 62 2 = 0 then fld d 0 24 == 0
  else if fld d 62 2 = 1 then decide (23 < fld d 0 5)
  else true

/-- The leaf checks of R271 items 2 to 5 on entry `e` at table address `ea`, for a leaf of `2 ^ bits` bytes. R268 obliges
software to align a leaf's frame to its page size and names no consequence: the model takes the page that holds the frame
address (DESIGN CHOICE, log entry 69). -/
def State.leaf (s : State) (vf va : Nat) (acc : Acc) (e ea bits : Nat) : Xlat :=
  let tier := fld e 41 2
  let wantBits := if tier = 0 then 21 else if tier = 1 then 16 else 12
  if pteReserved e || tier == 3 || bits != wantBits then .fault 3
  else if hdBad (s.homeDesc vf (fld e 58 6)) then .fault 3
  else if tier == 2 && !(bitAt e 56) && !s.hostCached (fld e 12 40 * 4096) then .fault 3
  else
    let okPerm := match acc with
      | .load => bitAt e 1
      | .store => bitAt e 2
      | .atomic => bitAt e 1 && bitAt e 2
      | .fetch => bitAt e 3
    if !okPerm then .fault 2
    else
      let frame := fld e 12 40 * 4096 / 2 ^ bits * 2 ^ bits
      if !(s.installed frame && s.spansFor vf (fld frame 43 9)) then .fault 4
      else
        let e1 := if bitAt e 6 then e else e + 2 ^ 6
        let e2 := if acc.writes && !(bitAt e1 5) then e1 + 2 ^ 5 else e1
        let s1 := if e2 = e then s else { s with mem := memWrite ea (bytesOf 8 e2) s.mem }
        .ok (frame + va % 2 ^ bits) e ea s1

/-- The entry that describes a page of the last level: for a 64 KiB page whose 16 entries differ beyond A and D, which one
is unspecified and is a free choice (R268, log entry 4). -/
def State.groupEntry (s : State) (table i : Nat) : Nat × State :=
  let own := s.mem64 (table + 8 * i)
  let es := (upFrom 0 16).map (fun k => s.mem64 (table + 8 * (i / 16 * 16 + k)))
  let strip := fun e => e - 2 ^ 6 * fld e 6 1 - 2 ^ 5 * fld e 5 1
  if es.any (fun e => fld e 7 2 == 2) && es.any (fun e => strip e != strip own) then
    let b := fun k => b2n (Config.freeBit (s.freeIx + k))
    (i / 16 * 16 + b 0 + 2 * b 1 + 4 * b 2 + 8 * b 3, { s with freeIx := s.freeIx + 4 })
  else (i, s)

/-- The walk from the table at `t`, over the remaining levels given by their lowest index bits (R268, R271). -/
def State.walkFrom (s : State) (vf va : Nat) (acc : Acc) : List Nat → Nat → Xlat
  | [], _ => .fault 3
  | lo :: more, t =>
    let i0 := if lo = 48 then fld va lo 4 else fld va lo 9
    let (i, s1) := if lo = 12 then s.groupEntry t i0 else (i0, s)
    let ea := t + 8 * i
    let e := s1.mem64 ea
    if !(bitAt e 0) then .fault 1
    else
      match fld e 7 2 with
      | 0 => if pteReserved e || fld e 41 2 == 3 || lo == 12 then .fault 3
             else s.walkFrom vf va acc more (fld e 12 40 * 4096)
      | 1 => if lo = 12 then s1.leaf vf va acc e ea 12 else .fault 3
      | 2 => if lo = 12 then s1.leaf vf va acc e ea 16 else .fault 3
      | _ => if lo = 21 then s1.leaf vf va acc e ea 21 else .fault 3

/-- The translation of a virtual address of a function (R268 to R271). -/
def State.walk (s : State) (vf va : Nat) (acc : Acc) : Xlat :=
  s.walkFrom vf va acc [48, 39, 30, 21, 12] (s.vf vf).root

/-! Translation buffers (R272, R273) -/

/-- An entry covers a virtual address of a function. -/
def Xlated.covers (e : Xlated) (vf va : Nat) : Bool := e.vf == vf && e.page == va / 2 ^ e.bits

/-- A buffer of `n` entries with one more: it takes the place of an entry for the same page, or of the oldest (DESIGN CHOICE,
log entry 70). -/
def fillBuffer (n : Nat) (e : Xlated) (t : List Xlated) : List Xlated :=
  let t1 := t.filter (fun x => !(x.vf == e.vf && x.page == e.page && x.bits == e.bits))
  (if n ≤ t1.length then t1.drop 1 else t1) ++ [e]

/-- The units that translate for a core: its L1 buffer, where it has a part in the access, and its grove's unit. -/
structure Units where
  core : Option Nat
  grove : Nat
  deriving DecidableEq, Repr

/-- The units of a context. -/
def unitsOf (c : Nat) : Units := { core := some (coreOf c), grove := groveOf c }

/-- The translation that the units hold for an address, if they hold one (R272). -/
def State.held (s : State) (u : Units) (vf va : Nat) : Option Xlated :=
  match (u.core.bind (fun k => (s.core k).tlb.find? (·.covers vf va))) with
  | some e => some e
  | none => (s.grove u.grove).gtu.find? (·.covers vf va)

/-- A translation put in the units: 64 entries in a core, 8,192 in a grove (R272). -/
def State.hold (s : State) (u : Units) (e : Xlated) : State :=
  let s1 := s.setGrove u.grove { s.grove u.grove with gtu := fillBuffer 8192 e (s.grove u.grove).gtu }
  match u.core with
  | some k => s1.setCore k { s1.core k with tlb := fillBuffer 64 e (s1.core k).tlb }
  | none => s1

/-- The size of a leaf in address bits (R268). -/
def leafBits (e : Nat) : Nat :=
  match fld e 7 2 with
  | 1 => 12
  | 2 => 16
  | _ => 21

/-- The translation of a walk put in the units; a fault is held by none (R272). -/
def Xlat.fill (u : Units) (vf va : Nat) : Xlat → Xlat
  | .ok pa leaf ea s =>
    .ok pa leaf ea (s.hold u { vf := vf, page := va / 2 ^ leafBits leaf, bits := leafBits leaf, ea := ea, leaf := s.mem64 ea })
  | f => f

/-- Two translations agree. -/
def Xlat.same : Xlat → Xlat → Bool
  | .ok pa leaf _ _, .ok pb lefb _ _ => pa == pb && leaf == lefb
  | .fault j, .fault k => j == k
  | _, _ => false

/-- The translation of an access (R272, R273): a held entry is used, but where the tables now say something else either may be
used, as a free choice, until the invalidation. A first write through a held entry walks again, to set D. -/
def State.translate (s : State) (u : Units) (vf va : Nat) (acc : Acc) : Xlat :=
  let new := s.walk vf va acc
  match s.held u vf va with
  | none => new.fill u vf va
  | some e =>
    if acc.writes && !(bitAt e.leaf 5) then new.fill u vf va
    else
      let old := s.leaf vf va acc e.leaf e.ea e.bits
      if old.same new then old
      else if Config.freeBit s.freeIx then { s with freeIx := s.freeIx + 1 }.leaf vf va acc e.leaf e.ea e.bits
      else ({ s with freeIx := s.freeIx + 1 }.walk vf va acc).fill u vf va

/-- Held translations dropped. -/
def State.dropHeld (s : State) (p : Xlated → Bool) : State :=
  { s with
    cores := s.cores.map (fun (k : Nat × Core) => (k.1, { k.2 with tlb := k.2.tlb.filter (fun e => !(p e)) }))
    groves := s.groves.map (fun (g : Nat × Grove) => (g.1, { g.2 with gtu := g.2.gtu.filter (fun e => !(p e)) })) }

/-- The leaf is of an uncached page (R268). -/
def uncached (leaf : Nat) : Bool := bitAt leaf 56

/-! The checks of each space (R123, R263, R264, R349) -/

def deviceBase : Nat := 0x000FFFFFFFF00000
def residualBase : Nat := 0x000FFFFFFFFE0000
def launchBase : Nat := 0x000FFFFFFFFFFF00

/-- The stream context that row `r` of the context's batch names: its grove and index (R346, R349). -/
def handleGrove (h : Nat) : Nat := fld h 21 2 * 12 + fld h 17 4
def handleCtx (h : Nat) : Nat := fld h 7 10
def State.rowStream (s : State) (c r : Nat) : Nat × Nat × Stream :=
  let h := ((s.ctx c).regs.csrAt (csrSB0 + r)).toNat
  (handleGrove h, handleCtx h, tabGet {} (s.grove (handleGrove h)).streams (handleCtx h))

/-- CheckSpace of R123 for space 0 global, 1 scratchpad, 2 stream window, on the address `a` alone. The launch window is read
only (R197). In a DUAL launch a store to another core's scratchpad traps PROT (R205). -/
def State.checkSpace (s : State) (sp : Nat) (a : Word) (acc : Acc) : Option Why :=
  let v := a.toNat
  let prot : Why := { cause := cPROT, tval := a, acc := accCode acc }
  match sp with
  | 0 =>
    if 2 ^ 52 ≤ v then some prot
    else if deviceBase ≤ v then (if !acc.writes && decide (launchBase ≤ v) then none else some prot)
    else none
  | 1 =>
    match s.scrLoc s.cur v 1 with
    | none => some prot
    | some (.scr k _) => if acc.writes && s.inDual && k != coreOf s.cur then some prot else none
    | some _ => none
  | _ =>
    if 2 ^ 24 ≤ v then some prot
    else if (s.regs.csrAt csrSBN).toNat ≤ fld v 20 4 then some { prot with cause := cSTREAM }
    else if (s.rowStream s.cur (fld v 20 4)).2.2.npg ≤ fld v 14 6 then some { prot with cause := cSTREAM }
    else none

/-- A natural alignment check (R122). -/
def alignTrap (a : Word) (m : Nat) (acc : Acc) : Option Why :=
  if a.toNat % m = 0 then none else some { cause := cMISALIGN, tval := a, acc := accCode acc }

/-- The checks of an address before its translation: its space, then its alignment (R122, R303). -/
def State.checkAddr (s : State) (sp : Nat) (a : Word) (m : Nat) (acc : Acc) : Option Why :=
  match s.checkSpace sp a acc with
  | some y => some y
  | none => alignTrap a m acc

/-- Where a checked global access goes: a place with the state after the walk; a trap; or a translation fault of the given
kind (R271). -/
inductive Reach where
  | at_ (l : Loc) (leaf : Nat) (s : State)
  | trap (w : Why)
  | fault (kind : Nat)

/-- A global access that has passed its space and alignment checks (R197, R271, R425). -/
def State.reach (s : State) (a : Word) (acc : Acc) (tile : Bool) : Reach :=
  let va := a.toNat
  if launchBase ≤ va then
    match s.me.task with
    | some t => .at_ (.hdr t.launch (va - launchBase)) 0 s
    | none => .at_ (.hdr 0 (va - launchBase)) 0 s
  else if s.meterTrap s.me.vf a acc tile then .trap { cause := cMETER, tval := a, acc := accCode acc }
  else
    match s.translate (unitsOf s.cur) s.me.vf va acc with
    | .ok pa leaf _ s1 => .at_ (.mem pa) leaf s1
    | .fault k => .fault k

/-- A precise PAGE trap (R271). -/
def pageTrap (a : Word) (acc : Acc) (kind : Nat) : Why :=
  { cause := cPAGE, tval := a, acc := accCode acc, kind := BitVec.ofNat 4 kind }

end Sys2Proof.Machine
end

