-- ==== Sys2Proof/Machine/Ops.lean ====
section
/-! DEFINITION. The shared operations of the machine: events to tenants (R404, R420), collective groups (R254 to R261),
freeing a context (R35, R118), taking a trap and returning from it (R390 to R395), the next PC (R112, R114). -/

namespace Sys2Proof.Machine

/-! Events (R404, R420) -/

/-- The bytes of a 64-byte event record of at most 8 words. -/
def eventBytes (ws : List Word) : List Byte :=
  ((upFrom 0 8).map (fun k => bytesOf 8 (nth 0 ws k).toNat)).flatten

/-- Events held in the Kettle written to the ring while there is room: the device never overwrites an unconsumed
record (R420). -/
def Vf.drain (pa : Nat → Nat) : Nat → Vf → List Host.Cell → Vf × List Host.Cell
  | 0, v, m => (v, m)
  | n + 1, v, m =>
    match v.evheld with
    | [] => (v, m)
    | e :: t =>
      if (v.evhead.toNat + 1) % 4096 = v.evtail.toNat % 4096 then (v, m)
      else
        let v1 := { v with evheld := t, evhead := natW ((v.evhead.toNat + 1) % 4096) }
        v1.drain pa n (memWrite (pa (v.evbase.toNat + 64 * v.evhead.toNat)) (eventBytes e) m)

/-- Move held events of a function into its ring. -/
def State.drainEvents (s : State) (vf : Nat) : State :=
  let (v, m) := (s.vf vf).drain (fun o => s.paOf 2 o) 1024 s.mem
  { s.setVf vf v with mem := m }

/-- Post an event record to a tenant, with the MSI-X vector raised: 1 event, 2 fault (R404, R419). Beyond 1,024 events
held in the Kettle, EVLOST counts. -/
def State.postEvent (s : State) (vf vec : Nat) (ws : List Word) : State :=
  let v := s.vf vf
  let v1 := if v.evheld.length < 1024 then { v with evheld := v.evheld ++ [ws], msix := v.msix ++ [vec] }
            else { v with evlost := v.evlost + 1 }
  (s.setVf vf v1).drainEvents vf

/-- The LID value of a launch number (R191). -/
def lidOf (vf num : Nat) : Word := natW (vf * 2 ^ 40 + num)

/-! Collective groups (R254 to R261, R479) -/

/-- The package that knows where the groups of a partition have their homes: the one of the lowest number (DESIGN CHOICE, log
entry 81). -/
def State.dirPkg (s : State) (vf : Nat) : Nat :=
  match s.parts.find? (fun p => p.2.vf == vf || p.2.saved.any (·.vf == vf)) with
  | some p => ((upFrom 0 512).find? (s.spans p.1)).getD s.self
  | none => s.self

/-- The group of which the context of an address is a member (R479). -/
def State.groupAt (s : State) (a : Word) : Option Group := s.groups.find? (fun g => g.members.contains a)

/-- The group of which a context is a member (R479). -/
def State.groupOf (s : State) (c : Nat) : Option Group := s.groupAt (s.caddr c)

/-- The group of an id as seen by a virtual function (R254). -/
def State.groupById (s : State) (vf id : Nat) : Option Group := s.groups.find? (fun g => g.id == id && g.vf == vf)

/-- The group list with one group replaced. -/
def setGroup (g : Group) (gs : List Group) : List Group :=
  gs.map (fun h => if h.id = g.id ∧ h.vf = g.vf then g else h)

/-- The result of a full round: ANY, ALL or MAJ over its predicates (R257). -/
def roundTaken (op : BitVec 2) (ps : List Bool) : Bool :=
  let t := ps.countP (fun p => p)
  match op.toNat with
  | 0 => decide (0 < t)
  | 1 => t == ps.length
  | _ => decide (ps.length < 2 * t)

/-- A result sent to one contributor: recorded in its context or its save area (R262), where CBR_RESULT applies it, or sent
over the links (R259, R452). -/
def State.sendResult (s : State) (m : Word) (r : RoundResult) : State :=
  if fld m.toNat 32 9 = s.self then
    s.setOwner (ctxOfAddr m) (BitVec.ofNat 16 m.toNat) (fun x => { x with result := some r })
  else
    let p := match r with
      | .taken t => Packet.result [m] t 0
      | .abort k => Packet.result [m] false k
    { s with leafOut := s.leafOut ++ [(fld m.toNat 32 9, p)] }

/-- A result sent to contributors: to those of another package in one packet, since all members on one package receive it at one
TSTAMP value (R259, R452). -/
def State.sendResults (s : State) (ms : List Word) (r : RoundResult) : State :=
  let pkg := fun (m : Word) => fld m.toNat 32 9
  let s1 := (ms.filter (fun m => pkg m == s.self)).foldl (fun (q : State) m => q.sendResult m r) s
  ((ms.filter (fun m => pkg m != s.self)).map pkg).eraseDups.foldl (fun (q : State) k =>
    let away := ms.filter (fun m => pkg m == k)
    let p := match r with
      | .taken t => Packet.result away t 0
      | .abort e => Packet.result away false e
    { q with leafOut := q.leafOut ++ [(k, p)] }) s1

/-- A round whose contributions equal the expected count resolves (R256, R257). -/
def State.settleGroup (s : State) (g : Group) : State :=
  if g.aborted ∨ g.got = [] ∨ g.got.length < g.exp then { s with groups := setGroup g s.groups }
  else
    let op := (g.got.head?.map (·.op)).getD 0
    let t := roundTaken op (g.got.map (·.pred))
    let s1 := { s with groups := setGroup { g with round := g.round + 1, got := [], first := 0 } s.groups }
    s1.sendResults (g.got.map (·.member)) (.taken t)

/-- A round is aborted: every contributor takes the code, and the group is marked (R261). -/
def State.abortGroup (s : State) (g : Group) (code : Nat) : State :=
  let s1 := { s with groups := setGroup { g with aborted := true, got := [], first := 0 } s.groups }
  s1.sendResults (g.got.map (·.member)) (.abort code)

/-- TVAL of COLLABORT at a CBR or COLX.JOIN of an aborted group: round·2^32 + 6 (R261, R389; DEDUCED, log entry 18). -/
def Group.abortedTval (g : Group) : Word :=
  natW (2 ^ 32 * g.round.toNat + 6)

/-- A group deleted, and its id forgotten (R254). -/
def State.dropGroup (s : State) (g : Group) : State :=
  let s1 := { s with groups := s.groups.filter (fun h => !(h.id == g.id && h.vf == g.vf)) }
  let d := s.dirPkg g.vf
  if g.gang.isNone ∧ d ≠ s.self then s1.sendPacket d (.groupGone g.vf g.id) else s1

/-- The expected count of a group falls by one; a group of count 0 is deleted (R254, R256). -/
def State.lowerGroup (s : State) (g : Group) : State :=
  if g.exp ≤ 1 then s.dropGroup g else s.settleGroup { g with exp := g.exp - 1 }

/-- The context of an address leaves the group of which it is a member, whatever CMEMB holds (R118, R255, R479); a home on
another package is told (R452). -/
def State.leaveAt (s : State) (a : Word) : State :=
  match s.groupAt a with
  | none => s
  | some g =>
    let g1 := { g with members := g.members.filter (· != a) }
    if g.home = s.self then s.lowerGroup g1
    else
      let gs := if g1.members = [] then s.groups.filter (fun h => !(h.id == g.id && h.vf == g.vf)) else setGroup g1 s.groups
      ({ s with groups := gs } : State).sendPacket g.home (.groupLeave a g.vf g.id)

/-- A context leaves its group (R118, R255, R479). -/
def State.leaveGroup (s : State) (c : Nat) : State := s.leaveAt (s.caddr c)

/-! Freeing a context (R35, R118, R241, R331) -/

/-- A message put in a grove's orphan ring of 1,024, the oldest overwritten, and counted in ORPHANS (R247). -/
def State.orphan (s : State) (g : Nat) (m : Msg) : State :=
  let v := s.grove g
  let ring := v.orphanRing ++ [m]
  s.setGrove g { v with orphanRing := if 1024 < ring.length then ring.drop 1 else ring, orphans := v.orphans + 1 }

/-- The message that an unread inbox record holds (R241). -/
def msgOfInbox (dst : Word) (m : InMsg) : Msg :=
  let hdr := m.words.headD 0
  { dst := dst, src := hdr &&& natW (2 ^ 62 - 1), sz := BitVec.ofNat 2 (fld hdr.toNat 62 2)
    payload := BitVec.ofNat 512 (ofLanes 64 (m.words.tail.map (·.toNat))), stamp := 0, colour := false }

/-- The slots of a core that a context owns become FREE (R19). -/
def freeSlots (c : Nat) (t : Tab Slot) : Tab Slot :=
  t.map (fun p => if p.2.owner = some c then (p.1, { p.2 with owner := none, tag := none, busy := false, fill := none }) else p)

/-- The Whisk slots that the context of an address owns are freed, with their undelivered words (R331). -/
def freeWhisk (a : Word) (t : Tab WSlot) : Tab WSlot :=
  t.map (fun p => if p.2.opened ∧ p.2.owner = a then (p.1, { p.2 with opened := false, got := [], result := [] }) else p)

/-- The exchange that arrived timetables form: its release cycle is set 64 after the last arrival (R252). -/
def exchangeOf (now need : Nat) (as : List Arrived) : ExBar :=
  { arrived := as, t0 := if as.length < need then none else some (now + 64) }

/-- A timetable arrives at a barrier: at its last exchange while that waits, or else at a new one (R252). -/
def arriveBar (now : Nat) (a : Arrived) : List ExBar → List ExBar
  | [] => [exchangeOf now a.need [a]]
  | b :: t => if b.t0.isNone then exchangeOf now a.need (b.arrived ++ [a]) :: t else b :: arriveBar now a t

/-- Contexts that end or are saved leave their barrier, which waits, also when its release cycle was set, but for an exchange whose beats
already run (R253). Timetables that had formed the next exchange of the number arrive at the one that is formed again (DESIGN CHOICE,
log entry 98). -/
def leaveBar (now : Nat) (gone : Nat → Bool) : List ExBar → List ExBar
  | [] => []
  | b :: t =>
    if b.ran.isNone && b.arrived.any (fun a => gone a.ctx) then
      ((b.arrived ++ (t.map (·.arrived)).flatten).filter (fun a => !(gone a.ctx))).foldl (fun r a => arriveBar now a r) []
    else b :: leaveBar now gone t

/-- Contexts leave the barriers of every die. -/
def State.leaveBars (s : State) (gone : Nat → Bool) : State :=
  { s with dies := s.dies.map (fun (d : Nat × Die) => (d.1, { d.2 with
      bars := d.2.bars.map (fun (b : Nat × List ExBar) => (b.1, leaveBar s.tick gone b.2)) })) }

/-- The reductions that the context of an address owns are freed (R331). -/
def State.freeSlotsOf (s : State) (a : Word) : State :=
  { s with dies := s.dies.map (fun (d : Nat × Die) => (d.1, { d.2 with wslots := freeWhisk a d.2.wslots })) }

/-- The generation of a place advanced, with a wrap noted (R239, R248). -/
def Place.advance (p : Place) (now : Nat) : Place :=
  { gen := p.gen + 1, wrapped := if p.gen = 0xFFFF then some now else p.wrapped }

/-- The place of a context left empty, with the given generation. A core with no context left has no live barrier object (log
entry 77). -/
def State.leavePlace (s : State) (c : Nat) (gen : BitVec 16) : State :=
  let s1 := s.setCtx c { gen := gen }
  let k := s1.core (coreOf c)
  if (upFrom (4 * coreOf c) 4).all (fun d => (s1.ctx d).status == .free) && k.live != [] then s1.setCore (coreOf c) { k with live := [] }
  else s1

/-- The place of a freed context emptied for its next occupant, its generation advanced (R35, R239). -/
def State.emptyPlace (s : State) (c : Nat) : State :=
  let p := (s.place c).advance s.tick
  (s.setPlace c p).leavePlace c p.gen

/-- The place of a saved context left empty: its generation stays (R239). -/
def State.vacate (s : State) (c : Nat) : State := (s.leavePlace c (s.place c).gen).setBind c {}

/-- A free context as its next occupant finds it: with a new generation where a saved occupant still holds the present one (DEDUCED, log
entry 49). -/
def State.claimPlace (s : State) (c : Nat) : State :=
  if (s.savedCtx c (s.ctx c).gen).isSome then s.emptyPlace c else s

/-- A context is freed: its registers and CSRs take their reset values, its slots and reductions are freed, its whole
messages become orphans, its generation advances with a wrap noted (R35, R118, R239, R241, R248). -/
def State.freeCtx (s : State) (c : Nat) : State :=
  let x := s.ctx c
  let s0 := (x.inbox.filter (·.whole)).foldl (fun r m => r.orphan (groveOf c) (msgOfInbox (s.caddr c) m)) s
  let s1 := (tabGet [] (s.core (coreOf c)).mail c).foldl (fun r m => r.orphan (groveOf c) m) s0
  let k := s1.core (coreOf c)
  let s2 := s1.setCore (coreOf c) { k with slots := freeSlots c k.slots, mail := tabDel c k.mail
                                           bars := k.bars.map (fun b => (b.1, b.2.1, b.2.2.filter (fun a => a.ctx != c))) }
  let s3 := (s2.freeSlotsOf (s.caddr c)).leaveBars (· == c)
  let g := s3.grove (groveOf c)
  let s4 := s3.setGrove (groveOf c) { g with
    podQ := g.podQ.filter (fun q => q.1 != c)
    servicer := if g.servicer = some c then none else g.servicer }
  s4.emptyPlace c

/-- A posted store of a context counted as received, where it was sent and has not been counted (R418). -/
def State.received (s : State) (c : Nat) (p : Posted) : State :=
  if p.own || p.counted || p.unsent.isSome then s else s.countRecv (coreOf c) p.colour

/-- Posted stores of a context performed at once, oldest first (R394: those already issued complete). -/
def State.completePosted (s : State) (c : Nat) : State :=
  (s.ctx c).posted.foldl (fun r p => (r.perform p.writes).received c p) s

/-- The contexts that run tasks of a launch. -/
def State.ctxsOf (s : State) (l : Nat) : List Nat :=
  (s.ctxs.filter (fun p => p.2.task.any (fun t => t.launch == l))).map (·.1)

/-- The context addresses of the saved contexts that run tasks of a launch (R414). -/
def State.savedOf (s : State) (l : Nat) : List (Nat × BitVec 16) :=
  (s.parts.map (fun (p : Nat × Part) => (p.2.saved.map (fun (v : SavedSet) => (v.cores.map (fun (k : SavedCore) =>
    (k.ctxs.filter (fun x => x.2.task.any (fun t => t.launch == l))).map (fun x => (x.1, x.2.gen)))).flatten)).flatten)).flatten

/-- A saved context dropped from its save area, with its slots and its Whisk slots (R394). -/
def State.dropSaved (s : State) (c : Nat) (gen : BitVec 16) : State :=
  let core := fun (k : SavedCore) =>
    if k.ctxs.any (fun x => x.1 == c && x.2.gen == gen) then
      { k with ctxs := k.ctxs.filter (fun x => !(x.1 == c && x.2.gen == gen))
               data := { k.data with slots := freeSlots c k.data.slots }, mail := tabDel c k.mail }
    else k
  let s1 := s.freeSlotsOf (s.caddrGen c gen)
  { s1 with parts := s1.parts.map (fun (p : Nat × Part) => (p.1, { p.2 with saved := p.2.saved.map (fun (v : SavedSet) =>
      if v.cores.any (fun k => k.ctxs.any (fun x => x.1 == c && x.2.gen == gen)) then
        { v with cores := v.cores.map core
                 bars := v.bars.map (fun b => (b.1, b.2.1, b.2.2.filter (fun a => a.ctx != c))) }
      else v) })) }

/-- The status of R211 at which a launch is final. -/
def isFinal (st : Nat) : Bool := st == 0 || decide (3 ≤ st)

/-- The reserved run of a gang given up, with its RSV marks (R208). -/
def State.dropRun (s : State) (num : Nat) : State :=
  match tabFind s.launches num with
  | none => s
  | some l =>
    if l.run.isNone then s
    else
      { s.setLaunch num { l with run := none } with
        binds := s.binds.map (fun (b : Nat × Bind) => if b.2.rsv = some num then (b.1, { b.2 with rsv := none }) else b) }

/-- A launch takes a final status: a gang's reserved run is given up (R208), child completions of its tenant are counted for R211,
and the host is told by vector 0 of R419. -/
def State.endLaunch (s0 : State) (l st : Nat) : State :=
  let s := s0.dropRun l
  match tabFind s.launches l with
  | none => s
  | some x =>
    if isFinal x.status then s
    else
      let v := s.vf x.vf
      let done := if x.child then v.childDone + 1 else v.childDone
      (s.setLaunch l { x with status := st, finished := done }).setVf x.vf { v with childDone := done, msix := v.msix ++ [0] }

/-- The Kettle's FAULT or ABORT action on a launch (R394): its tasks stop, its queued copies are cancelled, its contexts
are freed without HALT's waits and leave their groups, the saved ones too, its ring entries are discarded, and it takes the
status. -/
def State.killLaunch (s : State) (l st : Nat) : State :=
  let cs := s.ctxsOf l
  let saved := s.savedOf l
  let all := cs.map (fun c => (c, (s.ctx c).gen)) ++ saved
  let s0 := saved.foldl (fun (r : State) x => (r.leaveAt (r.caddrGen x.1 x.2)).dropSaved x.1 x.2) s
  let s1 := cs.foldl (fun r c => ((r.completePosted c).leaveGroup c).freeCtx c) s0
  let s2 := { s1 with
    groves := s1.groves.map (fun (p : Nat × Grove) => (p.1, { p.2 with
      ring := p.2.ring.filter (fun (e : RingEntry) => !(all.contains (e.ctx, e.gen)))
      copies := p.2.copies.map (fun (k : Copy) => if k.launch = l ∧ k.status = 1 then { k with status := 4 } else k)
      batches := p.2.batches.filter (fun (b : Batch) => !(b.ctx.any (fun c => cs.contains c))) }))
    binds := s1.binds.map (fun (p : Nat × Bind) => if p.2.launch = some l then (p.1, {}) else p) }
  s2.endLaunch l st

/-- TSRC and TITER of a unit (R225, R230): from the back map in residual code; its own address elsewhere. -/
def State.sourceOf (s : State) (c : Nat) (pc : Word) : Word × Word × Bool :=
  let off := (pc.toNat - residualBase) / 4
  match s.launchOf c with
  | some l =>
    if residualBase ≤ pc.toNat ∧ pc.toNat < residualBase + 0x10000 then
      match l.residual.bind (fun k => (s.die (dieOf c)).cache.find? (fun e => e.key == k && e.vf == l.vf)) with
      | some r =>
        let e := nth 0 r.back off
        (natW (l.kaddr + 4 * fld e 19 13), natW (fld e 4 15), bitAt e 18)
      | none => (pc, 0, false)
    else (pc, 0, false)
  | none => (pc, 0, false)

/-- The words of a FAULT event (R394, R404): the whole of TCAUSE from bit 8 on, with its CAUSE as the reason (log entry 39). -/
def State.faultEvent (s : State) (c : Nat) (lid : Word) : List Word :=
  let r := (s.ctx c).regs
  [natW (4 + 256 * (r.csrAt csrTCAUSE).toNat), lid, r.csrAt csrTVAL, r.csrAt csrTEPC, r.csrAt csrTSRC,
   r.csrAt csrTITER, r.csrAt csrTINFO, s.caddr c]

/-- The default action FAULT or ABORT of a context's trap (R391, R394). A context with no launch (a handler context of
the Kettle) is freed. -/
def State.defaultAction (s : State) (c st : Nat) : State :=
  match (s.ctx c).task with
  | some t =>
    let s1 := s.postEvent (s.ctx c).vf 2 (s.faultEvent c (lidOf (s.ctx c).vf t.launch))
    s1.killLaunch t.launch st
  | none => (s.postEvent (s.ctx c).vf 2 (s.faultEvent c 0)).freeCtx c

/-! Taking a trap (R390, R391, R394 to R396) -/

/-- TCAUSE of a trap (R393). -/
def tcauseOf (r : TrapRec) : Word :=
  natW (r.cause.toNat + 2 ^ 6 * b2n r.aw + 2 ^ 7 * b2n r.hld + 2 ^ 8 * b2n r.dfr)

/-- TINFO of a trap (R393). -/
def tinfoOf (r : TrapRec) : Word := natW (r.kind.toNat + 2 ^ 4 * r.acc.toNat + 2 ^ 8 * r.unit.toNat)

/-- The loop and repeat CSRs copied to their shadows, and LC0, LC1, RC and RI cleared (R390). -/
def Regs.shadowLoops (r : Regs) : Regs :=
  let r1 := (upFrom 0 8).foldl (fun q k => q.setCsr (csrTLC0 + k) (r.csrAt (csrLC0 + k))) r
  (((r1.setCsr csrLC0 0).setCsr csrLC1 0).setCsr csrRC 0).setCsr csrRI 0

/-- The trap CSRs as R390 records them. -/
def Regs.recordTrap (r : Regs) (t : TrapRec) (src iter : Word) : Regs :=
  (((((((r.setCsr csrTCAUSE (tcauseOf t)).setCsr csrTVAL t.tval).setCsr csrTEPC t.epc).setCsr csrTSRC src).setCsr
    csrTITER iter).setCsr csrTINFO (tinfoOf t))).shadowLoops

/-- The registers at the handler's first unit: PHM := HM, HM := 1, PC := TVEC (R390). -/
def Regs.enterHandler (r : Regs) (t : TrapRec) (src iter : Word) : Regs :=
  let q := r.recordTrap t src iter
  { q.setCsr csrTSTAT (tstatOf true r.hm r.stepBit) with pc := r.csrAt csrTVEC }

/-- HRET (R392): the shadows copied back, PC := TEPC and HM := PHM. -/
def Regs.hret (r : Regs) : Regs :=
  let r1 := (upFrom 0 8).foldl (fun q k => q.setCsr (csrLC0 + k) (r.csrAt (csrTLC0 + k))) r
  { r1.setCsr csrTSTAT (tstatOf r.phm r.phm r.stepBit) with pc := r.csrAt csrTEPC }

/-- The causes whose default action is ABORT (R389). -/
def aborts (c : BitVec 6) : Bool := c == cQUOTA || c == cCOLLABORT

/-- The next PC after a unit that retired without a redirect, and the loop counts (R112). `w0` and `w1` say that the unit
wrote LC, LS or LE of loop 0 and 1. -/
def Regs.loopEnd (r : Regs) (t : Word) (w0 w1 : Bool) : Regs :=
  if r.csrAt csrLC1 ≠ 0 ∧ t = r.csrAt csrLE1 ∧ !w1 ∧ r.csrAt csrLC1 - 1 ≠ 0 then
    { r.setCsr csrLC1 (r.csrAt csrLC1 - 1) with pc := r.csrAt csrLS1 }
  else
    let r1 := if r.csrAt csrLC1 ≠ 0 ∧ t = r.csrAt csrLE1 ∧ !w1 then r.setCsr csrLC1 0 else r
    if r1.csrAt csrLC0 ≠ 0 ∧ t = r1.csrAt csrLE0 ∧ !w0 then
      let k := r1.csrAt csrLC0 - 1
      { r1.setCsr csrLC0 k with pc := if k ≠ 0 then r1.csrAt csrLS0 else t }
    else { r1 with pc := t }

/-- A trap taken (R390, R391): with a handler, in task mode, the context enters it. With none, or in handler mode, the
CSRs are recorded and the Kettle acts: the default action, or for BREAK and STEP with a debugger attached a stop (R394).
An ECALL then is a Kettle service: 1 and 2 wait for SETVEC and EVENT, any other writes X5 := -1 and resumes at TEPC + 4
(R394, R395, R119). -/
def State.deliverTrap (s : State) (c : Nat) (t : TrapRec) : State :=
  let x := s.ctx c
  let r := x.regs
  let (src, iter, _) := s.sourceOf c t.epc
  let noHandler : Bool := r.csrAt csrTVEC == 0
  if t.cause = cECALL ∧ (r.hm ∨ noHandler) then
    if r.xAt 5 = 1 ∨ r.xAt 5 = 2 then s.setCtx c { x with status := .service t }
    else
      let r1 := r.setX 5 minusOne
      let r2 := if t.lone then r1.loopEnd (t.epc + 4) false false else { r1 with pc := t.epc + 4 }
      s.setCtx c { x with regs := r2, status := .run, wait := 0, skipBkp := false }
  else if r.hm then
    (s.setCtx c { x with regs := r.recordTrap t src iter }).defaultAction c 6
  else if noHandler then
    let s1 := s.setCtx c { x with regs := r.recordTrap t src iter }
    if (t.cause = cBREAK ∨ t.cause = cSTEP) ∧ (s.vf x.vf).debug then
      s1.setCtx c { s1.ctx c with status := .debug t r.csr }
    else s1.defaultAction c (if aborts t.cause then 7 else 6)
  else s.setCtx c { x with regs := r.enterHandler t src iter, status := .run, wait := 0, waitOn := none, skipBkp := false }

/-! Saving contexts for a gang switch or a self-test (R249, R253, R401, R413) -/

/-- A wait that a gang switch abandons without effect: its unit runs again from its start on resume (R313, R369, R413). -/
def PendOp.abandoned : PendOp → Bool
  | .sleep _ _ _ => true
  | .join _ w => w
  | .halt _ => true
  | _ => false

/-- A context as it is saved: an abandoned wait is gone, and its unit is not compared with the breakpoints again (R398,
R413). -/
def Ctx.parked (x : Ctx) : Ctx :=
  match x.pend with
  | some p => if p.result.isNone && p.op.abandoned then { x with pend := none, skipBkp := true } else x
  | none => x

/-- The timetables of contexts at the exchange barriers: die, barrier and what has arrived (R253). -/
def State.barsOf (s : State) (mine : Nat → Bool) : List (Nat × Nat × List Arrived) :=
  ((s.dies.map (fun (d : Nat × Die) => d.2.bars.map (fun (b : Nat × List ExBar) =>
    (d.1, b.1, (((b.2.filter (·.ran.isNone)).map (·.arrived)).flatten).filter (fun a => mine a.ctx))))).flatten).filter (fun b => b.2.2 != [])

/-- Timetables arrive again at their barriers (R253). -/
def State.rearrive (s : State) (bs : List (Nat × Nat × List Arrived)) : State :=
  bs.foldl (fun (r : State) b =>
    let d := r.die b.1
    r.setDie b.1 { d with bars := tabSet b.2.1 (b.2.2.foldl (fun t a => arriveBar r.tick a t) (tabGet [] d.bars b.2.1)) d.bars }) s

/-- The messages of a save area moved into the inbox, behind what it held (R249). -/
def Ctx.withMail (x : Ctx) (ms : List Msg) : Ctx :=
  { x with inbox := x.inbox ++ ms.map (fun m =>
      { words := natW (2 ^ 62 * m.sz.toNat + m.src.toNat % 2 ^ 62) :: (lanesOf 64 (2 ^ m.sz.toNat) m.payload.toNat).map natW }) }

/-- A saved context as it goes on (R249, R416): a unit that was abandoned is not compared with the breakpoints again (R398). -/
def Ctx.unparked (x : Ctx) (ms : List Msg) : Ctx :=
  let y := x.withMail ms
  { y with skipBkp := y.skipBkp || y.wait != 0 || y.pend.isSome, wait := 0 }

/-- The contexts of a core saved before its self-test, as for a gang switch (R401): abandoned waits are gone, and their timetables
leave the barriers. What they hold stays in its place, which no other work takes (DEDUCED, log entry 48). -/
def State.restCore (s : State) (k : Nat) : State :=
  let mine := fun (c : Nat) => coreOf c == k
  let s1 := ((upFrom (4 * k) 4).filter (fun c => (s.ctx c).status != .free)).foldl (fun (r : State) c => r.setCtx c (r.ctx c).parked) (s.leaveBars mine)
  s1.setCore k { s1.core k with bars := s.barsOf mine }

/-- The contexts of a core after its self-test: what came meanwhile is theirs, and they run on (R249, R253, R402). -/
def State.wakeCore (s : State) (k : Nat) : State :=
  let v := s.core k
  let s1 := ((upFrom (4 * k) 4).filter (fun c => (s.ctx c).status != .free)).foldl (fun (r : State) c =>
    r.setCtx c ((r.ctx c).unparked (tabGet [] v.mail c))) s
  (s1.setCore k { s1.core k with mail := [], bars := [] }).rearrive v.bars

/-! The self-test that a machine check starts (R399, R401) -/

/-- A unit enters its self-test, in which it takes no new work, or leaves it (R401). A frame or Pod entry that is fenced stays
closed (R402). -/
def State.setTesting (s : State) (u : UnitId) (b : Bool) : State :=
  let t := s.mgmt.testing.filter (· != u)
  let s1 := { s with mgmt := { s.mgmt with testing := if b then t ++ [u] else t } }
  let shut := b || s.mgmt.fencedUnits.contains u
  match u with
  | .core n =>
    if (s.core n).testing = b then s1
    else
      let s2 := if b then s1.restCore n else s1.wakeCore n
      s2.setCore n { s2.core n with testing := b }
  | .grove n => s1.setGrove n { s1.grove n with testing := b }
  | .frame g n => s1.setGrove g { s1.grove g with frameFenced := markIn shut n (s1.grove g).frameFenced }
  | .podEntry g n => s1.setGrove g { s1.grove g with podFenced := markIn shut n (s1.grove g).podFenced }
  | _ => s1

/-- The first entry of a launch's Pod grant in a grove (R159). -/
def State.podBase (s : State) (g l : Nat) : Nat := (tabGet (0, 0) (s.grove g).grants l).1

/-- The unit that a context's machine check names by TINFO.UNIT and TVAL (R393, R399): its core, or its grove for the L2 cache;
the core of the scratchpad address, the Pod entry of the window index, the frame of the window page, or the near page of the
address. None where it lies outside this package or in a link (log entry 13). -/
def State.mceUnit (s : State) (c : Nat) (t : TrapRec) : Option UnitId :=
  let x := s.ctx c
  match t.unit.toNat with
  | 1 | 2 | 5 => some (.core (coreOf c))
  | 3 => some (.grove (groveOf c))
  | 4 => match s.scrLoc c t.tval.toNat 1 with
    | some (.scr k _) => some (.core k)
    | _ => some (.core (coreOf c))
  | 6 => x.task.map (fun k =>
      .podEntry (groveOf c) (s.podBase (groveOf c) k.launch + fld (x.regs.csrAt csrHWIN).toNat 0 12 + t.tval.toNat))
  | 7 =>
    let (g, _, row) := s.rowStream c (fld t.tval.toNat 20 4)
    let e := tabGet {} (s.grove g).census (nth 0 (tabGet {} (s.grove g).maps row.map).pages (fld t.tval.toNat 14 6))
    if e.spl then none else some (.frame g e.loc)
  | 8 => match s.walk x.vf t.tval.toNat .load with
    | .ok pa _ _ _ => if fld pa 41 2 = 0 ∧ fld pa 43 9 = s.self then some (.nearPage (fld pa 21 18)) else none
    | .fault _ => none
  | _ => none

/-- Every machine check is reported to the Kettle, which starts the self-test of its unit (R399, R401). -/
def State.checkReported (s : State) (c : Nat) (t : TrapRec) : State :=
  if t.cause = cMCE then
    match s.mceUnit c t with
    | some u => s.setTesting u true
    | none => s
  else s

/-- A trap of context `c` (R390): held under an unresolved collective branch (R396); a PAGE trap is offered to the Kettle
first (R395); an MCE is also reported for the self-test of its unit (R399, R401); every other is taken. -/
def State.takeTrap (s : State) (c : Nat) (t : TrapRec) : State :=
  let x := s.ctx c
  match x.spec with
  | some sp => s.setCtx c { x with spec := some { sp with trap := some (sp.trap.getD t) }, wait := 2, waitOn := some .cbr }
  | none =>
    if t.cause = cPAGE then s.setCtx c { x with status := .service t }
    else (s.checkReported c t).deliverTrap c t

end Sys2Proof.Machine
end

