-- ==== Sys2Proof/Machine/Caddy.lean ====
section
/-! DEFINITION. State pages in the Caddy (R340, R341, R349 to R352): the bytes of a page, the reservation of frames with
its spills and quotas, maps and their counts, copy-on-write, and reloads. -/

namespace Sys2Proof.Machine

/-- The size of a state page (R340). -/
def pageSize : Nat := 16384

/-- Census entry `p` of a grove, and its replacement. -/
def State.page (s : State) (g p : Nat) : Census := tabGet {} (s.grove g).census p
def State.setPage (s : State) (g p : Nat) (c : Census) : State :=
  s.setGrove g { s.grove g with census := tabSet p c (s.grove g).census }

/-- A map of a grove, and its replacement (R341). -/
def State.smap (s : State) (g m : Nat) : SMap := tabGet {} (s.grove g).maps m
def State.setMap (s : State) (g m : Nat) (x : SMap) : State :=
  s.setGrove g { s.grove g with maps := tabSet m x (s.grove g).maps }

/-- A stream context of a grove, and its replacement (R338). -/
def State.stream (s : State) (g c : Nat) : Stream := tabGet {} (s.grove g).streams c
def State.setStream (s : State) (g c : Nat) (x : Stream) : State :=
  s.setGrove g { s.grove g with streams := tabSet c x (s.grove g).streams }

/-- The bytes from `a` on of a byte memory that are not 0, relative to `a`. -/
def cellsIn (m : List Host.Cell) (a n : Nat) : List Host.Cell :=
  (m.filter (fun c => decide (a ≤ c.1 ∧ c.1 < a + n))).map (fun c => (c.1 - a, c.2))

/-- A byte memory with `n` bytes from `a` on replaced by the given cells. -/
def putCells (m : List Host.Cell) (a n : Nat) (cs : List Host.Cell) : List Host.Cell :=
  cs.foldl (fun r c => if c.1 < n then memPut (a + c.1) c.2 r else r) (m.filter (fun c => !(decide (a ≤ c.1 ∧ c.1 < a + n))))

/-- The bytes of a place as cells, and the poisoned granules among them, both relative to it. -/
def State.cells (s : State) (l : Loc) (n : Nat) : List Host.Cell :=
  match l with
  | .mem a => cellsIn s.mem a n
  | .scr c o => cellsIn (s.core c).scratch o n
  | .frame g f o => cellsIn (tabGet [] (s.grove g).frames f) o n
  | .hdr _ _ => []
def State.poisonOf (s : State) (l : Loc) (n : Nat) : List Nat :=
  let rel := fun (a : Nat) (gs : List Nat) => (gs.filter (fun k => decide (a / 8 ≤ k ∧ k < (a + n) / 8))).map (· - a / 8)
  match l with
  | .mem a => rel a s.memPoison
  | .scr c o => rel o (s.core c).poison
  | .frame g f o => rel o (((s.grove g).framePoison.filter (fun p => p.1 == f)).map (·.2))
  | .hdr _ _ => []

/-- The bytes of a place replaced by cells, with their poison marks (R349). -/
def State.putBlock (s : State) (l : Loc) (n : Nat) (cs : List Host.Cell) (ps : List Nat) : State :=
  let out := fun (a k : Nat) => !(decide (a / 8 ≤ k ∧ k < (a + n) / 8))
  match l with
  | .mem a => { s with mem := putCells s.mem a n cs, memPoison := s.memPoison.filter (out a) ++ ps.map (· + a / 8) }
  | .frame g f o =>
    let v := s.grove g
    s.setGrove g { v with
      frames := tabSet f (putCells (tabGet [] v.frames f) o n cs) v.frames
      framePoison := v.framePoison.filter (fun p => p.1 != f || out o p.2) ++ ps.map (fun k => (f, k + o / 8)) }
  | _ => s

/-- Where spill slot `k` of a function's spill area lies (R352). -/
def State.slotLoc (s : State) (vf k : Nat) : Loc := .mem (s.paOf 0 ((s.vf vf).spillBase + pageSize * k))

/-- Where the bytes of a page are (R340). -/
def State.pageLoc (s : State) (g p : Nat) : Loc :=
  let e := s.page g p
  if e.spl then s.slotLoc e.vf e.loc else .frame g e.loc 0

/-- A page is accessed (R351): a spill under way then keeps it resident (R352). -/
def State.touch (s : State) (g p : Nat) : State :=
  let e := s.page g p
  s.setPage g p { e with last := s.tick, spilling := if e.spilling = 0 then 0 else 2 }

/-- A page holds a frame (R351). -/
def Census.resident (e : Census) : Bool := e.v && (!e.spl || e.into.isSome)

/-- The resident pages of the device, with their places. -/
def State.residents (s : State) : List (Nat × Nat × Census) :=
  (s.groves.map (fun (g : Nat × Grove) => (g.2.census.filter (fun p => p.2.resident)).map (fun p => (g.1, p.1, p.2)))).flatten

/-- A page that a held store of an unresolved collective branch will write stays resident (R478). -/
def State.heldPage (s : State) (g p : Nat) : Bool :=
  let holds := fun (x : Nat × Ctx) => x.2.spec.any (fun sp => sp.held.any (fun h => h.page == some (g, p)))
  s.ctxs.any holds || s.parts.any (fun q => q.2.saved.any (fun v => v.cores.any (fun k => k.ctxs.any holds)))

/-- The held stores to a page write it in the frame to which it has moved (R403, R416, R478). -/
def Ctx.rebased (g p f : Nat) (x : Ctx) : Ctx :=
  let go := fun (w : Write) => match w.loc with
    | .frame _ _ o => { w with loc := .frame g f o }
    | _ => w
  { x with spec := x.spec.map (fun sp => { sp with
      held := sp.held.map (fun h => if h.page = some (g, p) then { h with writes := h.writes.map go } else h) }) }

/-- A page lies in frame `f` of its grove, where the held stores find it. -/
def State.rebase (s : State) (g p f : Nat) : State :=
  { s with
    ctxs := s.ctxs.map (fun (x : Nat × Ctx) => (x.1, x.2.rebased g p f))
    parts := s.parts.map (fun (q : Nat × Part) => (q.1, { q.2 with saved := q.2.saved.map (fun (v : SavedSet) => { v with
      cores := v.cores.map (fun (k : SavedCore) => { k with ctxs := k.ctxs.map (fun x => (x.1, x.2.rebased g p f)) }) }) })) }

/-- The pages that the held stores of a context will write (R478). -/
def Ctx.heldPages (x : Ctx) : List (Nat × Nat) := (x.spec.map (fun sp => sp.held.filterMap (·.page))).getD []

/-- A page that may be spilled: resident, not pinned, no reload under way (R351). -/
def State.spillable (s : State) (x : Nat × Nat × Census) : Bool :=
  !x.2.2.pin && !x.2.2.spl && !(s.heldPage x.1 x.2.1)

/-- The less recently accessed of two pages; ties go to the lower census entry number (R351). -/
def olderPage (a b : Nat × Nat × Census) : Nat × Nat × Census :=
  if b.2.2.last < a.2.2.last ∨ (b.2.2.last = a.2.2.last ∧ b.2.1 < a.2.1) then b else a

/-- The least recently accessed page of a list. -/
def oldestPage : List (Nat × Nat × Census) → Option (Nat × Nat × Census)
  | [] => none
  | x :: t => some (t.foldl olderPage x)

/-- A spill slot of a function taken for a page: its kept slot, or the lowest free one (R352). -/
def State.takeSlot (s : State) (g p : Nat) : Option (Nat × State) :=
  let e := s.page g p
  match e.slot with
  | some k => some (k, s)
  | none =>
    let v := s.vf e.vf
    match (upFrom 0 v.spillSlots).find? (fun k => !(v.spillUsed.contains k)) with
    | none => none
    | some k => some (k, (s.setVf e.vf { v with spillUsed := v.spillUsed ++ [k] }).setPage g p { e with slot := some k })

/-- The bytes of a page written to a spill slot (R352). -/
def State.writeSlot (s : State) (g p k : Nat) : State :=
  let l := s.pageLoc g p
  s.putBlock (s.slotLoc (s.page g p).vf k) pageSize (s.cells l pageSize) (s.poisonOf l pageSize)

/-- A frame of a grove emptied. -/
def State.clearFrame (s : State) (g f : Nat) : State :=
  let v := s.grove g
  s.setGrove g { v with frames := tabDel f v.frames, framePoison := v.framePoison.filter (fun p => p.1 != f) }

/-- A spill completed: SPL := 1, LOC := the slot, DIRTY := 0, the frame freed (R352). -/
def State.spilled (s : State) (g p k : Nat) : State :=
  let e := s.page g p
  (s.setPage g p { e with spl := true, loc := k, dirty := false, spilling := 0 }).clearFrame g e.loc

/-- A page spilled at once, as a reservation requires; a clean page with a kept slot is not written. None where the spill
area is exhausted (R352). -/
def State.spillNow (s : State) (g p : Nat) : Option State :=
  let clean := !(s.page g p).dirty && (s.page g p).slot.isSome
  (s.takeSlot g p).map (fun r => ((if clean then r.2 else r.2.writeSlot g p r.1).spilled g p r.1))

/-- The lowest free frame of a grove that is not fenced (R340, R402, R403). -/
def State.freeFrame (s : State) (g : Nat) : Option Nat :=
  let v := s.grove g
  let used := (v.census.filter (fun p => p.2.v && !p.2.spl)).map (fun p => p.2.loc) ++ v.census.filterMap (fun p => p.2.into)
  if v.fenced then none else (upFrom 0 2048).find? (fun f => !(used.contains f) && !(v.frameFenced.contains f))

/-- The resident-page quota of an owner launch (R351), of one of another package as its stream brought it. -/
def State.quotaOf (s : State) (own : Nat) : Nat :=
  match tabFind s.launches own with
  | some l => l.quota
  | none => tabGet 0 s.quotas own

/-- A frame reserved in a grove for a launch, spilling as R351 states; none where the reservation fails. -/
def State.reserveFrame (s : State) (g own : Nat) : Option (Nat × State) :=
  let mine := s.residents.filter (fun x => x.2.2.own == own)
  let s1 : Option State :=
    if mine.length + 1 ≤ s.quotaOf own then some s
    else
      match oldestPage (mine.filter s.spillable) with
      | some v => s.spillNow v.1 v.2.1
      | none => none
  s1.bind (fun r =>
    match r.freeFrame g with
    | some f => some (f, r)
    | none =>
      match oldestPage ((r.residents.filter (fun x => x.1 == g)).filter r.spillable) with
      | none => none
      | some v => (r.spillNow v.1 v.2.1).bind (fun q => (q.freeFrame g).map (fun f => (f, q))))

/-- A new page of a launch with the given bytes (R344, R350, R358): its census entry, with REF 1 and DIRTY 1. -/
def State.newPage (s : State) (g vf own : Nat) (cs : List Host.Cell) (ps : List Nat) : Option (Nat × State) :=
  match (upFrom 0 8192).find? (fun p => !(s.page g p).v) with
  | none => none
  | some p =>
    (s.reserveFrame g own).map (fun r =>
      (p, (r.2.setPage g p { v := true, dirty := true, ref := 1, loc := r.1, last := s.tick, vf := vf, own := own }).putBlock
        (.frame g r.1 0) pageSize cs ps))

/-- New pages with the given contents, in order: all of them, or none. All their frames are reserved before any is filled, so
none of them is spilled for another (R344, R351). -/
def State.newPages (s : State) (g vf own : Nat) : List (List Host.Cell × List Nat) → Option (List Nat × State)
  | [] => some ([], s)
  | b :: t =>
    match s.newPage g vf own b.1 b.2 with
    | none => none
    | some (p, s1) =>
      ((s1.setPage g p { s1.page g p with pin := true }).newPages g vf own t).map (fun r =>
        (p :: r.1, r.2.setPage g p { r.2.page g p with pin := false }))

/-- One map fewer names a page; at 0 the entry is freed with its frame and its spill slot (R341). -/
def State.dropPage (s : State) (g p : Nat) : State :=
  let e := s.page g p
  if 1 < e.ref then s.setPage g p { e with ref := e.ref - 1 }
  else
    let v := s.vf e.vf
    let s1 := match e.slot with
      | some k => s.setVf e.vf { v with spillUsed := v.spillUsed.filter (· != k) }
      | none => s
    let s2 := if e.spl then s1 else s1.clearFrame g e.loc
    s2.setPage g p {}

/-- One context fewer names a map; at 0 the map is freed and its pages are dropped (R341). -/
def State.dropMap (s : State) (g m : Nat) : State :=
  let x := s.smap g m
  if 1 < x.mref then s.setMap g m { x with mref := x.mref - 1 }
  else x.pages.foldl (fun r p => r.dropPage g p) (s.setMap g m {})

/-- The lowest map of a grove with count 0 (R341). -/
def State.freeMap (s : State) (g : Nat) : Option Nat := (upFrom 0 1024).find? (fun m => (s.smap g m).mref == 0)

/-- The reload of a page started: a frame is reserved for it (R352). -/
def State.startReload (s : State) (g p : Nat) : State :=
  let e := s.page g p
  if !e.spl || e.into.isSome then s
  else
    match s.reserveFrame g e.own with
    | some (f, s1) => s1.setPage g p { s1.page g p with into := some f }
    | none => s

/-- A reload completed: SPL := 0, DIRTY := 0, and the slot is kept (R352). -/
def State.reloaded (s : State) (g p : Nat) : State :=
  let e := s.page g p
  match e.into with
  | none => s
  | some f =>
    let l := s.pageLoc g p
    (s.putBlock (.frame g f 0) pageSize (s.cells l pageSize) (s.poisonOf l pageSize)).setPage g p
      { e with spl := false, dirty := false, loc := f, into := none, slot := some e.loc, last := s.tick }

/-- A spilled page that held stores will write made resident again before their contexts go on (R417, R478). -/
def State.reloadHeld (s : State) (g p : Nat) : State :=
  if (s.page g p).spl then
    let s1 := (s.startReload g p).reloaded g p
    if (s1.page g p).spl then s1 else s1.rebase g p (s1.page g p).loc
  else s

/-- A page as a window access finds it: resident, with the state after the access is noted; to be reloaded; or a reload
whose frame cannot be reserved. -/
inductive PageAt where
  | here (g p : Nat) (s : State)
  | reload (g p : Nat)
  | noFrame

/-- A page reached for an access (R351, R352). -/
def State.reachPage (s : State) (g p : Nat) : PageAt :=
  let e := s.page g p
  if e.spl then
    if e.into.isSome || (s.reserveFrame g e.own).isSome then .reload g p else .noFrame
  else .here g p (s.touch g p)

/-- The census steps of R350 for a store to slot `q` of stream `c` of grove `g`: the frame is reserved before the copy accesses the
page. -/
def State.copyOnWrite (s : State) (g c q : Nat) : PageAt :=
  let t := s.stream g c
  let x := s.smap g t.map
  let p := nth 0 x.pages q
  let e := s.page g p
  if x.mref ≤ 1 ∧ e.ref ≤ 1 then s.reachPage g p
  else
    let l := s.pageLoc g p
    match s.newPage g t.vf t.own (s.cells l pageSize) (s.poisonOf l pageSize) with
    | none => .noFrame
    | some (p1, s0) =>
      let s1 := s0.touch g p
      if x.mref ≤ 1 then
        let s2 := s1.setMap g t.map { x with pages := setNth p1 x.pages q }
        .here g p1 (s2.setPage g p { s2.page g p with ref := (s2.page g p).ref - 1 })
      else
        match s1.freeMap g with
        | none => .noFrame
        | some m =>
          let s2 := (s1.setMap g t.map { x with mref := x.mref - 1 }).setMap g m { mref := 1, pages := setNth p1 x.pages q }
          let s3 := s2.setStream g c { t with map := m }
          .here g p1 ((dropNth x.pages q).foldl (fun r k => r.setPage g k { r.page g k with ref := (r.page g k).ref + 1 }) s3)

/-- A page reached for one of the accesses of a word that makes several: a spilled page is reloaded at once, so that the reload of
one page may spill another of the same word (R352; DESIGN CHOICE, log entry 99). -/
def State.reachNow (s : State) (g p : Nat) : PageAt :=
  match s.reachPage g p with
  | .reload g1 p1 => ((s.startReload g1 p1).reloaded g1 p1).reachPage g p
  | r => r

/-- The census steps of one of the stores of a word that makes several (R350, R352; log entry 99). -/
def State.copyNow (s : State) (g c q : Nat) : PageAt :=
  match s.copyOnWrite g c q with
  | .reload g1 p1 => ((s.startReload g1 p1).reloaded g1 p1).copyOnWrite g c q
  | r => r

end Sys2Proof.Machine
end

