-- ==== Sys2Proof/WellFormed.lean ====
section
/-! DEFINITION. Which instructions are well formed: the reserved values of their fields (R48 to R54, R121, R149, R171, R244,
R305, R377). An encoding with a reserved value traps RESERVED and is no instruction. -/

namespace Sys2Proof

/-- The element types that the reductions and the compares accept: I32, I64, N32 and F32 (R53, R144, R147). -/
def wideType (y : BitVec 3) : Bool := y == 2 || y == 3 || y == 6 || y == 7

/-- No field of the instruction holds a reserved value. An event has no encoding and is not an instruction word. -/
def Instr.wf : Instr → Bool
  | .nop _ _ => true
  | .halt _ _ => true
  | .ecall _ _ => true
  | .ebreak _ _ => true
  | .hret _ _ => true
  | .yield _ _ => true
  | .csrr _ _ _ _ => true
  | .csrw _ _ _ _ _ => true
  | .csrs _ _ _ _ _ => true
  | .csrc _ _ _ _ _ => true
  | .beq _ _ _ _ _ => true
  | .bne _ _ _ _ _ => true
  | .blt _ _ _ _ _ => true
  | .bge _ _ _ _ _ => true
  | .bltu _ _ _ _ _ => true
  | .bgeu _ _ _ _ _ => true
  | .bmskAny _ _ _ _ => true
  | .bmskNone _ _ _ _ => true
  | .bmskAll _ _ _ _ => true
  | .bmskNall _ _ _ _ => true
  | .jal _ _ _ _ => true
  | .jalr _ _ _ _ _ _ => true
  | .loop _ _ _ _ _ _ => true
  | .rep _ _ _ _ _ => true
  | .ldg _ _ _ _ _ z _ e => !(z == 3 && e)
  | .stg _ _ _ _ _ _ _ _ => true
  | .lds _ _ _ _ _ z _ e => !(z == 3 && e)
  | .sts _ _ _ _ _ _ _ _ => true
  | .ldw _ _ _ _ _ z _ e => !(z == 3 && e)
  | .stw _ _ _ _ _ _ _ _ => true
  | .vldg _ _ _ _ _ _ _ => true
  | .vstg _ _ _ _ _ _ _ _ => true
  | .vlds _ _ _ _ _ _ _ => true
  | .vsts _ _ _ _ _ _ _ _ => true
  | .vgath _ _ _ _ _ _ _ p _ => p != 3
  | .vscat _ _ _ _ _ _ _ p _ => p != 3
  | .ldo _ _ _ _ z e o _ => decide (o.toNat < 2) && !(z == 3 && e)
  | .sto _ _ _ _ _ o _ => (o == 0 || o == 2)
  | .amoSwap _ _ _ _ _ _ _ _ => true
  | .amoAdd _ _ _ _ _ _ _ _ => true
  | .amoAnd _ _ _ _ _ _ _ _ => true
  | .amoOr _ _ _ _ _ _ _ _ => true
  | .amoXor _ _ _ _ _ _ _ _ => true
  | .amoMax _ _ _ _ _ _ _ _ => true
  | .amoMin _ _ _ _ _ _ _ _ => true
  | .amoMaxu _ _ _ _ _ _ _ _ => true
  | .amoxMinu _ _ _ _ _ _ _ _ => true
  | .amoxCas _ _ _ _ _ _ _ _ => true
  | .amoxFadd _ _ _ _ _ _ _ => true
  | .amoxFmin _ _ _ _ _ _ _ => true
  | .amoxFmax _ _ _ _ _ _ _ => true
  | .fence _ _ o _ => o != 0
  | .waitc _ _ c => c != 0
  | .waita _ _ _ _ _ _ _ _ _ => true
  | .qbind _ _ d _ _ => decide (24 ≤ d.toNat)
  | .qunbind _ _ d => decide (24 ≤ d.toNat)
  | .ttrun _ _ _ _ _ => true
  | .send _ _ _ _ _ _ _ => true
  | .qnew _ _ _ _ => true
  | .cbrAny _ _ _ h _ => h != 3
  | .cbrAll _ _ _ h _ => h != 3
  | .cbrMaj _ _ _ h _ => h != 3
  | .colxJoin _ _ _ _ _ _ _ => true
  | .colxLeave _ _ => true
  | .sptCpy _ _ _ _ _ => true
  | .sptCan _ _ _ _ _ => true
  | .sptPoll _ _ _ _ _ => true
  | .barInit _ _ _ _ _ _ => true
  | .barExp _ _ _ _ _ _ => true
  | .barArv _ _ _ _ _ => true
  | .barWt _ _ _ _ _ _ _ => true
  | .mclaim _ _ _ _ _ => true
  | .mrel _ _ _ _ => true
  | .mld _ _ _ _ b _ u c p => p != 3 && (c || (b == 0 && !u))
  | .mstF32 _ _ _ _ _ _ _ _ p => p != 3
  | .mstH _ _ _ _ _ _ _ _ p => p != 3
  | .mstB _ _ _ _ _ _ _ _ p => p != 3
  | .mdrain _ _ _ _ _ _ _ => true
  | .ctld _ _ _ _ _ _ => true
  | .hldG _ _ _ _ _ => true
  | .hldS _ _ _ _ _ => true
  | .hstG _ _ _ _ _ _ => true
  | .hstS _ _ _ _ _ _ => true
  | .podw _ _ _ _ _ _ => true
  | .pods _ _ _ _ _ => true
  | .podr _ _ _ _ _ => true
  | .sspawn _ _ _ _ _ => true
  | .sfork _ _ _ _ _ => true
  | .snext _ _ _ _ _ _ => true
  | .sret _ _ _ _ _ _ => true
  | .sretire _ _ _ _ => true
  | .sretireSub _ _ _ _ => true
  | .smig _ _ _ _ _ _ _ => true
  | .sinfeas _ _ _ _ => true
  | .sapush _ _ _ _ _ _ _ => true
  | .sapop _ _ _ _ _ => true
  | .sstat _ _ _ _ _ => true
  | .spin _ _ _ _ _ _ => true
  | .sunpin _ _ _ _ _ _ => true
  | .jopen _ _ _ _ _ _ _ => true
  | .jwait _ _ _ _ _ => true
  | .jpoll _ _ _ _ _ _ _ => true
  | .jclose _ _ _ _ _ _ => true
  | .wopen _ _ _ _ _ => true
  | .wsumI _ _ _ _ _ _ => true
  | .wsumF _ _ _ _ _ _ => true
  | .wmaxvI _ _ _ _ _ _ => true
  | .wmaxvF _ _ _ _ _ _ => true
  | .wminvI _ _ _ _ _ _ => true
  | .wminvF _ _ _ _ _ _ => true
  | .wmax _ _ _ _ _ _ => true
  | .replay _ _ _ _ _ => true
  | .tlbinv _ _ _ _ _ _ => true
  | .cflip _ _ _ _ => true
  | .mtrd _ _ _ _ _ _ _ => true
  | .lui _ _ _ _ => true
  | .luiSh _ _ _ _ => true
  | .lnch _ _ _ _ _ => true
  | .lnchPoll _ _ _ _ _ => true
  | .lnchWait _ _ _ _ _ => true
  | .add _ _ _ _ _ _ _ => true
  | .sub _ _ _ _ _ _ _ => true
  | .and _ _ _ _ _ _ _ => true
  | .or _ _ _ _ _ _ _ => true
  | .xor _ _ _ _ _ _ _ => true
  | .andn _ _ _ _ _ _ _ => true
  | .sll _ _ _ _ _ _ _ => true
  | .srl _ _ _ _ _ _ _ => true
  | .sra _ _ _ _ _ _ _ => true
  | .ror _ _ _ _ _ _ _ => true
  | .slt _ _ _ _ _ _ _ => true
  | .sltu _ _ _ _ _ _ _ => true
  | .min _ _ _ _ _ _ _ => true
  | .max _ _ _ _ _ _ _ => true
  | .minu _ _ _ _ _ _ _ => true
  | .maxu _ _ _ _ _ _ _ => true
  | .mul _ _ _ _ _ _ _ => true
  | .mulh _ _ _ _ _ _ => true
  | .mulhu _ _ _ _ _ _ => true
  | .div _ _ _ _ _ _ _ => true
  | .divu _ _ _ _ _ _ _ => true
  | .rem _ _ _ _ _ _ _ => true
  | .remu _ _ _ _ _ _ _ => true
  | .adds _ _ _ _ _ _ _ => true
  | .subs _ _ _ _ _ _ _ => true
  | .clz _ _ _ _ _ => true
  | .ctz _ _ _ _ _ => true
  | .popc _ _ _ _ _ => true
  | .wfld _ _ _ _ _ _ => true
  | .chkb _ _ _ _ _ _ => true
  | .addi _ _ _ _ _ => true
  | .andi _ _ _ _ _ => true
  | .ori _ _ _ _ _ => true
  | .xori _ _ _ _ _ => true
  | .slti _ _ _ _ _ => true
  | .slli _ _ _ _ w c => !(w && decide (32 ≤ c.toNat))
  | .srli _ _ _ _ w c => !(w && decide (32 ≤ c.toNat))
  | .srai _ _ _ _ w c => !(w && decide (32 ≤ c.toNat))
  | .rori _ _ _ _ w c => !(w && decide (32 ≤ c.toNat))
  | .sel _ _ _ _ _ _ _ _ => true
  | .selN _ _ _ _ _ _ _ _ => true
  | .fadd _ _ _ _ _ _ => true
  | .fsub _ _ _ _ _ _ => true
  | .fmul _ _ _ _ _ _ => true
  | .fdiv _ _ _ _ _ _ => true
  | .fmin _ _ _ _ _ _ => true
  | .fmax _ _ _ _ _ _ => true
  | .fsqrt _ _ _ _ => true
  | .fabs _ _ _ _ => true
  | .fneg _ _ _ _ => true
  | .fsgnj _ _ _ _ _ _ => true
  | .feq _ _ _ _ _ _ => true
  | .flt _ _ _ _ _ _ => true
  | .fle _ _ _ _ _ _ => true
  | .fclass _ _ _ _ => true
  | .fmvXf _ _ _ _ => true
  | .fmvFx _ _ _ _ => true
  | .fmadd _ _ _ _ _ _ _ _ => true
  | .fmsub _ _ _ _ _ _ _ _ => true
  | .fcvtFI _ _ _ _ => true
  | .fcvtFU _ _ _ _ => true
  | .fcvtIF _ _ _ _ => true
  | .fcvtUF _ _ _ _ => true
  | .fcvtHF _ _ _ _ => true
  | .fcvtFH _ _ _ _ => true
  | .fcvtBF _ _ _ _ => true
  | .fcvtFB _ _ _ _ => true
  | .fcvtT8F _ _ _ _ => true
  | .fcvtFT8 _ _ _ _ => true
  | .fcvtT4F _ _ _ _ => true
  | .fcvtFT4 _ _ _ _ => true
  | .vadd _ _ _ _ _ y => y != 7
  | .vsub _ _ _ _ _ y => y != 7
  | .vadds _ _ _ _ _ y => y != 7
  | .vsubs _ _ _ _ _ y => y != 7
  | .vmul _ _ _ _ _ y => y != 7
  | .vmin _ _ _ _ _ y => y != 7
  | .vmax _ _ _ _ _ y => y != 7
  | .vsh _ _ _ _ _ y => y != 7
  | .vand _ _ _ _ _ => true
  | .vor _ _ _ _ _ => true
  | .vxor _ _ _ _ _ => true
  | .vandn _ _ _ _ _ => true
  | .vnot _ _ _ _ => true
  | .vmov _ _ _ _ => true
  | .vfadd _ _ _ _ _ f => decide (f.toNat < 3)
  | .vfsub _ _ _ _ _ f => decide (f.toNat < 3)
  | .vfmul _ _ _ _ _ f => decide (f.toNat < 3)
  | .vfdiv _ _ _ _ _ f => decide (f.toNat < 3)
  | .vfmin _ _ _ _ _ f => decide (f.toNat < 3)
  | .vfmax _ _ _ _ _ f => decide (f.toNat < 3)
  | .vfabs _ _ _ _ f => decide (f.toNat < 3)
  | .vfneg _ _ _ _ f => decide (f.toNat < 3)
  | .vfmadd _ _ _ _ _ f => decide (f.toNat < 3)
  | .vfmsub _ _ _ _ _ f => decide (f.toNat < 3)
  | .vfnmadd _ _ _ _ _ f => decide (f.toNat < 3)
  | .vfnmsub _ _ _ _ _ f => decide (f.toNat < 3)
  | .vfdot2 _ _ _ _ _ f => (f == 1 || f == 2)
  | .vrsum _ _ _ _ y => wideType y
  | .vrmax _ _ _ _ y => wideType y
  | .vrmin _ _ _ _ y => wideType y
  | .vrargmax _ _ _ _ y => wideType y
  | .vrargmin _ _ _ _ y => wideType y
  | .vrband _ _ _ _ y => (wideType y && y != 7)
  | .vrbor _ _ _ _ y => (wideType y && y != 7)
  | .vrbxor _ _ _ _ y => (wideType y && y != 7)
  | .vperm _ _ _ _ _ _ => true
  | .vbcast _ _ _ _ _ => true
  | .vbcastx _ _ _ _ _ => true
  | .vrot _ _ _ _ _ _ => true
  | .vcomp _ _ _ _ _ => true
  | .vexpd _ _ _ _ _ => true
  | .vinsx _ _ _ _ _ => true
  | .vextx _ _ _ _ _ => true
  | .vcmpEq _ _ _ _ _ y => wideType y
  | .vcmpNe _ _ _ _ _ y => wideType y
  | .vcmpLt _ _ _ _ _ y => wideType y
  | .vcmpLe _ _ _ _ _ y => wideType y
  | .vcmpGt _ _ _ _ _ y => wideType y
  | .vcmpGe _ _ _ _ _ y => wideType y
  | .vcmpUnord _ _ _ _ _ => true
  | .vcvtFi _ _ _ _ y => (y != 3 && y != 7)
  | .vcvtIf _ _ _ _ y => (y != 3 && y != 7)
  | .vcvtNar _ _ _ _ _ y => decide (y.toNat < 2)
  | .vcvtWid _ _ _ q _ y => (decide (y.toNat < 2) && decide (q.toNat < 2))
  | .vcvtEt8 _ _ _ q _ => decide (q.toNat < 4)
  | .vcvtDt8 _ _ _ q _ => decide (q.toNat < 4)
  | .vcvtEt4 _ _ _ q _ => decide (q.toNat < 8)
  | .vcvtDt4 _ _ _ q _ => decide (q.toNat < 8)
  | .vexp2 _ _ _ _ f => decide (f.toNat < 3)
  | .vlog2 _ _ _ _ f => decide (f.toNat < 3)
  | .vrcp _ _ _ _ f => decide (f.toNat < 3)
  | .vrsqrt _ _ _ _ f => decide (f.toNat < 3)
  | .vsqrt _ _ _ _ f => decide (f.toNat < 3)
  | .vtanh _ _ _ _ f => decide (f.toNat < 3)
  | .vsigm _ _ _ _ f => decide (f.toNat < 3)
  | .vgelu _ _ _ _ f => decide (f.toNat < 3)
  | .mand _ d a b => (decide (d.toNat < 8) && decide (a.toNat < 8) && decide (b.toNat < 8))
  | .mor _ d a b => (decide (d.toNat < 8) && decide (a.toNat < 8) && decide (b.toNat < 8))
  | .mxor _ d a b => (decide (d.toNat < 8) && decide (a.toNat < 8) && decide (b.toNat < 8))
  | .mandn _ d a b => (decide (d.toNat < 8) && decide (a.toNat < 8) && decide (b.toNat < 8))
  | .mnot _ d a => (decide (d.toNat < 8) && decide (a.toNat < 8))
  | .mfirst _ d a => (decide (d.toNat < 8) && decide (a.toNat < 8))
  | .mfromx _ d _ => decide (d.toNat < 8)
  | .mtox _ _ a => decide (a.toNat < 8)
  | .mmaH _ _ _ _ _ _ _ r => decide (r.toNat < 6)
  | .mmaB _ _ _ _ _ _ _ r => decide (r.toNat < 6)
  | .mmaT8 _ _ _ _ _ _ _ r => decide (r.toNat < 6)
  | .mmaT84 _ _ _ _ _ _ _ r => decide (r.toNat < 6)
  | .mmaT4 _ _ _ _ _ _ _ r => decide (r.toNat < 6)
  | .mmaI8 _ _ _ _ _ _ _ => true
  | .mzero _ d => decide (d.toNat < 4)
  | .medge _ _ _ => true
  | .mrowr _ _ a _ _ => decide (a.toNat < 4)
  | .mroww _ d _ _ _ _ => decide (d.toNat < 4)
  | .hbind _ _ _ _ _ => true
  | .hperm _ _ _ _ _ => true
  | .hnot _ _ _ _ => true
  | .hmov _ _ _ _ => true
  | .hbundle _ _ _ _ => true
  | .hclr _ _ => true
  | .hthr _ _ _ _ _ => true
  | .hdist _ _ _ _ _ => true
  | .hpop _ _ _ _ => true
  | .noise _ _ _ _ _ => true
  | .chash _ _ a _ => a.toNat % 4 == 0
  | .chashLd _ _ _ => true
  | .chashSt _ _ _ => true
  | .hrand _ _ _ => true
  | .rseed _ _ => true
  | .rbits _ _ => true
  | .spoutPortPush _ _ => false
  | .longLatencyWrite _ _ => false
  | .slotFillComplete _ _ => false
  | .postedStoreAck _ _ => false
  | .waitaWake _ => false
  | .haltComplete _ => false
  | .batchWindowExpiry _ _ _ => false
  | .layerTaskStart _ => false
  | .backgroundSpill _ => false
  | .spillComplete _ _ => false
  | .reloadComplete _ _ => false
  | .seedPacketArrival _ => false
  | .seedAck _ => false
  | .forwardingExpiry _ _ => false
  | .remoteStreamRequest _ => false
  | .remoteReply _ => false
  | .familyReport _ => false
  | .joinDeadline _ _ => false
  | .retireOrder _ => false
  | .remoteJoinRequest _ => false
  | .messageArrival _ => false
  | .timetableRelease _ _ => false
  | .contributionArrival _ => false
  | .cbrResult _ => false
  | .roundTimeout _ => false
  | .copyStart _ _ => false
  | .copyComplete _ _ => false
  | .cancelAck _ _ => false
  | .whiskContributionArrival _ => false
  | .remoteMemoryRequest _ => false
  | .hostAtomicUr _ => false
  | .pageMigration _ _ _ _ _ _ => false
  | .retryFaultLaunch _ _ => false
  | .pageService _ _ _ => false
  | .setvec _ => false
  | .event _ => false
  | .replyTimeout _ => false
  | .ackLost _ _ => false
  | .selfTestComplete _ _ => false
  | .deadlockScan => false
  | .schedulingPass _ => false
  | .gangReservation _ => false
  | .infusionComplete _ _ => false
  | .taskStart _ => false
  | .gangSwitchPost _ _ _ => false
  | .gangSwitchStop _ => false
  | .partitionSave _ _ => false
  | .partitionResume _ _ => false
  | .cutEvaluation _ _ => false
  | .heartbeat _ => false
  | .domainRecovery _ _ => false
  | .linkFailure _ => false
  | .submit _ _ => false
  | .statusq _ _ => false
  | .evtail _ _ => false
  | .vfRegisterWrite _ => false
  | .bar2Read _ _ _ => false
  | .bar2Write _ _ _ => false
  | .regionRegister _ => false
  | .regionDeregister _ _ _ => false
  | .meterReportRequest _ _ _ => false
  | .handover _ => false
  | .mailboxAttest _ _ => false
  | .okeySet _ _ => false
  | .homeDescriptorSet _ _ _ => false
  | .stashSizeSet _ _ _ => false
  | .ceilingPersist _ _ => false
  | .sensors => false
  | .fences => false
  | .attest _ => false
  | .meter _ _ => false
  | .powercap _ => false
  | .debugAttach _ _ => false
  | .debugDetach _ => false
  | .deploy _ _ => false
  | .reset => false
  | .firmwareStage _ => false
  | .powerGood => false
  | .stage1 _ => false
  | .stage2 _ => false
  | .stageTimeout => false
  | .railFault _ => false
  | .thermalThrottle _ _ => false
  | .dieOvertemp _ => false
  | .dieCooled _ _ => false
  | .homeSlicePerform _ => false
  | .podRequestServed _ => false
  | .uncorrectableError _ => false
  | .correctedError _ => false
  | .hostAgentAccess _ => false
  | .expanderLinkDown _ => false
  | .orderlyShutdown => false
  | .mappingChange _ _ _ => false
  | .debuggerResume _ => false

end Sys2Proof
end

