-- ==== Sys2Proof/Decode.lean ====
section
/-! DEFINITION. Decoding and encoding of instruction words (R37 to R55). The decoder is total on any word: it answers
the instruction, or that the word traps ILLEGAL (an operation value with no assignment) or RESERVED (a reserved major,
a non-zero zero field, a reserved value), in the order of R45 rows 2, 4 and 5. The encoder writes the words of R51 to
R54. -/

namespace Sys2Proof

/-- What a word is: an instruction, or the trap that its decoding raises (R50, R55). -/
inductive Decoded where
  | ok (i : Instr)
  | illegal
  | reserved
  deriving DecidableEq, Repr

/-- A word whose operation selects `i`: `zeros` says that every zero field is 0, and `i.wf` that no field holds a
reserved value; otherwise RESERVED (R50). -/
def rowOf (zeros : Bool) (i : Instr) : Decoded := if zeros && i.wf then .ok i else .reserved

/-- C-class major 0x00 (R51): NOP, HALT, ECALL, EBREAK, HRET, YIELD. -/
def decodeC00 (w : Nat) : Decoded :=
  match fld w 0 6 with
  | 1 => rowOf (fld w 6 17 == 0) (.nop (bitAt w 30) (bitAt w 29))
  | 2 => rowOf (fld w 6 17 == 0) (.halt (bitAt w 30) (bitAt w 29))
  | 3 => rowOf (fld w 6 17 == 0) (.ecall (bitAt w 30) (bitAt w 29))
  | 4 => rowOf (fld w 6 17 == 0) (.ebreak (bitAt w 30) (bitAt w 29))
  | 5 => rowOf (fld w 6 17 == 0) (.hret (bitAt w 30) (bitAt w 29))
  | 6 => rowOf (fld w 6 17 == 0) (.yield (bitAt w 30) (bitAt w 29))
  | _ => .illegal

/-- C-class major 0x01 (R51): CSRR, CSRW, CSRS, CSRC. -/
def decodeC01 (w : Nat) : Decoded :=
  match fld w 11 2 with
  | 0 => rowOf (fld w 13 5 == 0) (.csrr (bitAt w 30) (bitAt w 29) (BitVec.ofNat 5 (fld w 18 5)) (BitVec.ofNat 11 (fld w 0 11)))
  | 1 => rowOf (true) (.csrw (bitAt w 30) (bitAt w 29) (BitVec.ofNat 5 (fld w 18 5)) (BitVec.ofNat 5 (fld w 13 5)) (BitVec.ofNat 11 (fld w 0 11)))
  | 2 => rowOf (true) (.csrs (bitAt w 30) (bitAt w 29) (BitVec.ofNat 5 (fld w 18 5)) (BitVec.ofNat 5 (fld w 13 5)) (BitVec.ofNat 11 (fld w 0 11)))
  | 3 => rowOf (true) (.csrc (bitAt w 30) (bitAt w 29) (BitVec.ofNat 5 (fld w 18 5)) (BitVec.ofNat 5 (fld w 13 5)) (BitVec.ofNat 11 (fld w 0 11)))
  | _ => .illegal

/-- C-class major 0x02 (R51): BEQ, BNE. -/
def decodeC02 (w : Nat) : Decoded :=
  match fld w 12 1 with
  | 0 => rowOf (true) (.beq (bitAt w 30) (bitAt w 29) (BitVec.ofNat 5 (fld w 18 5)) (BitVec.ofNat 5 (fld w 13 5)) (BitVec.ofNat 12 (fld w 0 12)))
  | 1 => rowOf (true) (.bne (bitAt w 30) (bitAt w 29) (BitVec.ofNat 5 (fld w 18 5)) (BitVec.ofNat 5 (fld w 13 5)) (BitVec.ofNat 12 (fld w 0 12)))
  | _ => .illegal

/-- C-class major 0x03 (R51): BLT, BGE. -/
def decodeC03 (w : Nat) : Decoded :=
  match fld w 12 1 with
  | 0 => rowOf (true) (.blt (bitAt w 30) (bitAt w 29) (BitVec.ofNat 5 (fld w 18 5)) (BitVec.ofNat 5 (fld w 13 5)) (BitVec.ofNat 12 (fld w 0 12)))
  | 1 => rowOf (true) (.bge (bitAt w 30) (bitAt w 29) (BitVec.ofNat 5 (fld w 18 5)) (BitVec.ofNat 5 (fld w 13 5)) (BitVec.ofNat 12 (fld w 0 12)))
  | _ => .illegal

/-- C-class major 0x04 (R51): BLTU, BGEU. -/
def decodeC04 (w : Nat) : Decoded :=
  match fld w 12 1 with
  | 0 => rowOf (true) (.bltu (bitAt w 30) (bitAt w 29) (BitVec.ofNat 5 (fld w 18 5)) (BitVec.ofNat 5 (fld w 13 5)) (BitVec.ofNat 12 (fld w 0 12)))
  | 1 => rowOf (true) (.bgeu (bitAt w 30) (bitAt w 29) (BitVec.ofNat 5 (fld w 18 5)) (BitVec.ofNat 5 (fld w 13 5)) (BitVec.ofNat 12 (fld w 0 12)))
  | _ => .illegal

/-- C-class major 0x05 (R51): BMSK_ANY, BMSK_NONE, BMSK_ALL, BMSK_NALL. -/
def decodeC05 (w : Nat) : Decoded :=
  match 2 * fld w 21 2 + fld w 12 1 with
  | 0 => rowOf (fld w 13 5 == 0) (.bmskAny (bitAt w 30) (bitAt w 29) (BitVec.ofNat 3 (fld w 18 3)) (BitVec.ofNat 12 (fld w 0 12)))
  | 1 => rowOf (fld w 13 5 == 0) (.bmskNone (bitAt w 30) (bitAt w 29) (BitVec.ofNat 3 (fld w 18 3)) (BitVec.ofNat 12 (fld w 0 12)))
  | 2 => rowOf (fld w 13 5 == 0) (.bmskAll (bitAt w 30) (bitAt w 29) (BitVec.ofNat 3 (fld w 18 3)) (BitVec.ofNat 12 (fld w 0 12)))
  | 3 => rowOf (fld w 13 5 == 0) (.bmskNall (bitAt w 30) (bitAt w 29) (BitVec.ofNat 3 (fld w 18 3)) (BitVec.ofNat 12 (fld w 0 12)))
  | _ => .illegal

/-- C-class major 0x06 (R51): JAL. -/
def decodeC06 (w : Nat) : Decoded :=
  rowOf (true) (.jal (bitAt w 30) (bitAt w 29) (BitVec.ofNat 5 (fld w 18 5)) (BitVec.ofNat 18 (fld w 0 18)))

/-- C-class major 0x07 (R51): JALR. -/
def decodeC07 (w : Nat) : Decoded :=
  rowOf (true) (.jalr (bitAt w 30) (bitAt w 29) (BitVec.ofNat 5 (fld w 18 5)) (BitVec.ofNat 5 (fld w 13 5)) (bitAt w 12) (BitVec.ofNat 12 (fld w 0 12)))

/-- C-class major 0x08 (R51): LOOP. -/
def decodeC08 (w : Nat) : Decoded :=
  rowOf (fld w 19 4 == 0) (.loop (bitAt w 30) (bitAt w 29) (bitAt w 18) (BitVec.ofNat 5 (fld w 13 5)) (bitAt w 12) (BitVec.ofNat 12 (fld w 0 12)))

/-- C-class major 0x09 (R51): REP. -/
def decodeC09 (w : Nat) : Decoded :=
  rowOf (fld w 18 5 == 0) (.rep (bitAt w 30) (bitAt w 29) (BitVec.ofNat 5 (fld w 13 5)) (bitAt w 12) (BitVec.ofNat 12 (fld w 0 12)))

/-- C-class major 0x0A (R51): LDG. -/
def decodeC0A (w : Nat) : Decoded :=
  rowOf (true) (.ldg (bitAt w 30) (bitAt w 29) (BitVec.ofNat 5 (fld w 18 5)) (BitVec.ofNat 5 (fld w 13 5)) (BitVec.ofNat 8 (fld w 5 8)) (BitVec.ofNat 2 (fld w 3 2)) (BitVec.ofNat 2 (fld w 1 2)) (bitAt w 0))

/-- C-class major 0x0B (R51): STG. -/
def decodeC0B (w : Nat) : Decoded :=
  rowOf (true) (.stg (bitAt w 30) (bitAt w 29) (BitVec.ofNat 5 (fld w 18 5)) (BitVec.ofNat 5 (fld w 13 5)) (BitVec.ofNat 8 (fld w 5 8)) (BitVec.ofNat 2 (fld w 3 2)) (BitVec.ofNat 2 (fld w 1 2)) (bitAt w 0))

/-- C-class major 0x0C (R51): LDS. -/
def decodeC0C (w : Nat) : Decoded :=
  rowOf (true) (.lds (bitAt w 30) (bitAt w 29) (BitVec.ofNat 5 (fld w 18 5)) (BitVec.ofNat 5 (fld w 13 5)) (BitVec.ofNat 8 (fld w 5 8)) (BitVec.ofNat 2 (fld w 3 2)) (BitVec.ofNat 2 (fld w 1 2)) (bitAt w 0))

/-- C-class major 0x0D (R51): STS. -/
def decodeC0D (w : Nat) : Decoded :=
  rowOf (true) (.sts (bitAt w 30) (bitAt w 29) (BitVec.ofNat 5 (fld w 18 5)) (BitVec.ofNat 5 (fld w 13 5)) (BitVec.ofNat 8 (fld w 5 8)) (BitVec.ofNat 2 (fld w 3 2)) (BitVec.ofNat 2 (fld w 1 2)) (bitAt w 0))

/-- C-class major 0x0E (R51): LDW. -/
def decodeC0E (w : Nat) : Decoded :=
  rowOf (true) (.ldw (bitAt w 30) (bitAt w 29) (BitVec.ofNat 5 (fld w 18 5)) (BitVec.ofNat 5 (fld w 13 5)) (BitVec.ofNat 8 (fld w 5 8)) (BitVec.ofNat 2 (fld w 3 2)) (BitVec.ofNat 2 (fld w 1 2)) (bitAt w 0))

/-- C-class major 0x0F (R51): STW. -/
def decodeC0F (w : Nat) : Decoded :=
  rowOf (true) (.stw (bitAt w 30) (bitAt w 29) (BitVec.ofNat 5 (fld w 18 5)) (BitVec.ofNat 5 (fld w 13 5)) (BitVec.ofNat 8 (fld w 5 8)) (BitVec.ofNat 2 (fld w 3 2)) (BitVec.ofNat 2 (fld w 1 2)) (bitAt w 0))

/-- C-class major 0x10 (R51): VLDG. -/
def decodeC10 (w : Nat) : Decoded :=
  rowOf (fld w 0 1 == 0) (.vldg (bitAt w 30) (bitAt w 29) (BitVec.ofNat 5 (fld w 18 5)) (BitVec.ofNat 5 (fld w 13 5)) (BitVec.ofNat 8 (fld w 5 8)) (BitVec.ofNat 2 (fld w 3 2)) (BitVec.ofNat 2 (fld w 1 2)))

/-- C-class major 0x11 (R51): VSTG. -/
def decodeC11 (w : Nat) : Decoded :=
  rowOf (true) (.vstg (bitAt w 30) (bitAt w 29) (BitVec.ofNat 5 (fld w 18 5)) (BitVec.ofNat 5 (fld w 13 5)) (BitVec.ofNat 8 (fld w 5 8)) (BitVec.ofNat 2 (fld w 3 2)) (BitVec.ofNat 2 (fld w 1 2)) (bitAt w 0))

/-- C-class major 0x12 (R51): VLDS. -/
def decodeC12 (w : Nat) : Decoded :=
  rowOf (fld w 0 1 == 0) (.vlds (bitAt w 30) (bitAt w 29) (BitVec.ofNat 5 (fld w 18 5)) (BitVec.ofNat 5 (fld w 13 5)) (BitVec.ofNat 8 (fld w 5 8)) (BitVec.ofNat 2 (fld w 3 2)) (BitVec.ofNat 2 (fld w 1 2)))

/-- C-class major 0x13 (R51): VSTS. -/
def decodeC13 (w : Nat) : Decoded :=
  rowOf (true) (.vsts (bitAt w 30) (bitAt w 29) (BitVec.ofNat 5 (fld w 18 5)) (BitVec.ofNat 5 (fld w 13 5)) (BitVec.ofNat 8 (fld w 5 8)) (BitVec.ofNat 2 (fld w 3 2)) (BitVec.ofNat 2 (fld w 1 2)) (bitAt w 0))

/-- C-class major 0x14 (R51): VGATH, VSCAT. -/
def decodeC14 (w : Nat) : Decoded :=
  match fld w 5 1 with
  | 0 => rowOf (true) (.vgath (bitAt w 30) (bitAt w 29) (BitVec.ofNat 5 (fld w 18 5)) (BitVec.ofNat 5 (fld w 13 5)) (BitVec.ofNat 5 (fld w 8 5)) (bitAt w 7) (bitAt w 6) (BitVec.ofNat 2 (fld w 3 2)) (BitVec.ofNat 3 (fld w 0 3)))
  | 1 => rowOf (true) (.vscat (bitAt w 30) (bitAt w 29) (BitVec.ofNat 5 (fld w 18 5)) (BitVec.ofNat 5 (fld w 13 5)) (BitVec.ofNat 5 (fld w 8 5)) (bitAt w 7) (bitAt w 6) (BitVec.ofNat 2 (fld w 3 2)) (BitVec.ofNat 3 (fld w 0 3)))
  | _ => .illegal

/-- C-class major 0x15 (R51): LDO, STO. -/
def decodeC15 (w : Nat) : Decoded :=
  match fld w 7 1 with
  | 0 => rowOf (fld w 8 5 == 0) (.ldo (bitAt w 30) (bitAt w 29) (BitVec.ofNat 5 (fld w 18 5)) (BitVec.ofNat 5 (fld w 13 5)) (BitVec.ofNat 2 (fld w 5 2)) (bitAt w 4) (BitVec.ofNat 2 (fld w 2 2)) (BitVec.ofNat 2 (fld w 0 2)))
  | 1 => rowOf (fld w 4 1 == 0 && fld w 18 5 == 0) (.sto (bitAt w 30) (bitAt w 29) (BitVec.ofNat 5 (fld w 13 5)) (BitVec.ofNat 5 (fld w 8 5)) (BitVec.ofNat 2 (fld w 5 2)) (BitVec.ofNat 2 (fld w 2 2)) (BitVec.ofNat 2 (fld w 0 2)))
  | _ => .illegal

/-- C-class major 0x16 (R51): AMO_SWAP, AMO_ADD, AMO_AND, AMO_OR, AMO_XOR, AMO_MAX, AMO_MIN, AMO_MAXU. -/
def decodeC16 (w : Nat) : Decoded :=
  match fld w 5 3 with
  | 0 => rowOf (true) (.amoSwap (bitAt w 30) (bitAt w 29) (BitVec.ofNat 5 (fld w 18 5)) (BitVec.ofNat 5 (fld w 13 5)) (BitVec.ofNat 5 (fld w 8 5)) (bitAt w 4) (BitVec.ofNat 2 (fld w 2 2)) (BitVec.ofNat 2 (fld w 0 2)))
  | 1 => rowOf (true) (.amoAdd (bitAt w 30) (bitAt w 29) (BitVec.ofNat 5 (fld w 18 5)) (BitVec.ofNat 5 (fld w 13 5)) (BitVec.ofNat 5 (fld w 8 5)) (bitAt w 4) (BitVec.ofNat 2 (fld w 2 2)) (BitVec.ofNat 2 (fld w 0 2)))
  | 2 => rowOf (true) (.amoAnd (bitAt w 30) (bitAt w 29) (BitVec.ofNat 5 (fld w 18 5)) (BitVec.ofNat 5 (fld w 13 5)) (BitVec.ofNat 5 (fld w 8 5)) (bitAt w 4) (BitVec.ofNat 2 (fld w 2 2)) (BitVec.ofNat 2 (fld w 0 2)))
  | 3 => rowOf (true) (.amoOr (bitAt w 30) (bitAt w 29) (BitVec.ofNat 5 (fld w 18 5)) (BitVec.ofNat 5 (fld w 13 5)) (BitVec.ofNat 5 (fld w 8 5)) (bitAt w 4) (BitVec.ofNat 2 (fld w 2 2)) (BitVec.ofNat 2 (fld w 0 2)))
  | 4 => rowOf (true) (.amoXor (bitAt w 30) (bitAt w 29) (BitVec.ofNat 5 (fld w 18 5)) (BitVec.ofNat 5 (fld w 13 5)) (BitVec.ofNat 5 (fld w 8 5)) (bitAt w 4) (BitVec.ofNat 2 (fld w 2 2)) (BitVec.ofNat 2 (fld w 0 2)))
  | 5 => rowOf (true) (.amoMax (bitAt w 30) (bitAt w 29) (BitVec.ofNat 5 (fld w 18 5)) (BitVec.ofNat 5 (fld w 13 5)) (BitVec.ofNat 5 (fld w 8 5)) (bitAt w 4) (BitVec.ofNat 2 (fld w 2 2)) (BitVec.ofNat 2 (fld w 0 2)))
  | 6 => rowOf (true) (.amoMin (bitAt w 30) (bitAt w 29) (BitVec.ofNat 5 (fld w 18 5)) (BitVec.ofNat 5 (fld w 13 5)) (BitVec.ofNat 5 (fld w 8 5)) (bitAt w 4) (BitVec.ofNat 2 (fld w 2 2)) (BitVec.ofNat 2 (fld w 0 2)))
  | 7 => rowOf (true) (.amoMaxu (bitAt w 30) (bitAt w 29) (BitVec.ofNat 5 (fld w 18 5)) (BitVec.ofNat 5 (fld w 13 5)) (BitVec.ofNat 5 (fld w 8 5)) (bitAt w 4) (BitVec.ofNat 2 (fld w 2 2)) (BitVec.ofNat 2 (fld w 0 2)))
  | _ => .illegal

/-- C-class major 0x17 (R51): AMOX_MINU, AMOX_CAS, AMOX_FADD, AMOX_FMIN, AMOX_FMAX. -/
def decodeC17 (w : Nat) : Decoded :=
  match fld w 5 3 with
  | 0 => rowOf (true) (.amoxMinu (bitAt w 30) (bitAt w 29) (BitVec.ofNat 5 (fld w 18 5)) (BitVec.ofNat 5 (fld w 13 5)) (BitVec.ofNat 5 (fld w 8 5)) (bitAt w 4) (BitVec.ofNat 2 (fld w 2 2)) (BitVec.ofNat 2 (fld w 0 2)))
  | 1 => rowOf (true) (.amoxCas (bitAt w 30) (bitAt w 29) (BitVec.ofNat 5 (fld w 18 5)) (BitVec.ofNat 5 (fld w 13 5)) (BitVec.ofNat 5 (fld w 8 5)) (bitAt w 4) (BitVec.ofNat 2 (fld w 2 2)) (BitVec.ofNat 2 (fld w 0 2)))
  | 2 => rowOf (fld w 4 1 == 0) (.amoxFadd (bitAt w 30) (bitAt w 29) (BitVec.ofNat 5 (fld w 18 5)) (BitVec.ofNat 5 (fld w 13 5)) (BitVec.ofNat 5 (fld w 8 5)) (BitVec.ofNat 2 (fld w 2 2)) (BitVec.ofNat 2 (fld w 0 2)))
  | 3 => rowOf (fld w 4 1 == 0) (.amoxFmin (bitAt w 30) (bitAt w 29) (BitVec.ofNat 5 (fld w 18 5)) (BitVec.ofNat 5 (fld w 13 5)) (BitVec.ofNat 5 (fld w 8 5)) (BitVec.ofNat 2 (fld w 2 2)) (BitVec.ofNat 2 (fld w 0 2)))
  | 4 => rowOf (fld w 4 1 == 0) (.amoxFmax (bitAt w 30) (bitAt w 29) (BitVec.ofNat 5 (fld w 18 5)) (BitVec.ofNat 5 (fld w 13 5)) (BitVec.ofNat 5 (fld w 8 5)) (BitVec.ofNat 2 (fld w 2 2)) (BitVec.ofNat 2 (fld w 0 2)))
  | _ => .illegal

/-- C-class major 0x18 (R51): FENCE, WAITC, WAITA. -/
def decodeC18 (w : Nat) : Decoded :=
  match fld w 4 2 with
  | 0 => rowOf (fld w 6 17 == 0) (.fence (bitAt w 30) (bitAt w 29) (BitVec.ofNat 2 (fld w 2 2)) (BitVec.ofNat 2 (fld w 0 2)))
  | 1 => rowOf (fld w 2 2 == 0 && fld w 6 17 == 0) (.waitc (bitAt w 30) (bitAt w 29) (BitVec.ofNat 2 (fld w 0 2)))
  | 2 => rowOf (fld w 3 1 == 0) (.waita (bitAt w 30) (bitAt w 29) (BitVec.ofNat 5 (fld w 18 5)) (BitVec.ofNat 5 (fld w 13 5)) (BitVec.ofNat 5 (fld w 8 5)) (bitAt w 7) (bitAt w 6) (bitAt w 2) (BitVec.ofNat 2 (fld w 0 2)))
  | _ => .illegal

/-- C-class major 0x19 (R51): QBIND, QUNBIND, TTRUN, SEND, QNEW. -/
def decodeC19 (w : Nat) : Decoded :=
  match fld w 0 6 with
  | 0 => rowOf (fld w 6 1 == 0 && fld w 8 5 == 0) (.qbind (bitAt w 30) (bitAt w 29) (BitVec.ofNat 5 (fld w 18 5)) (BitVec.ofNat 5 (fld w 13 5)) (bitAt w 7))
  | 1 => rowOf (fld w 6 12 == 0) (.qunbind (bitAt w 30) (bitAt w 29) (BitVec.ofNat 5 (fld w 18 5)))
  | 2 => rowOf (fld w 6 1 == 0 && fld w 8 5 == 0) (.ttrun (bitAt w 30) (bitAt w 29) (BitVec.ofNat 5 (fld w 18 5)) (BitVec.ofNat 5 (fld w 13 5)) (bitAt w 7))
  | 8 | 9 | 10 | 11 => rowOf (fld w 18 5 == 0) (.send (bitAt w 30) (bitAt w 29) (BitVec.ofNat 5 (fld w 13 5)) (BitVec.ofNat 5 (fld w 8 5)) (bitAt w 7) (bitAt w 6) (BitVec.ofNat 2 (fld w 0 2)))
  | 16 | 17 | 18 | 19 => rowOf (fld w 6 12 == 0) (.qnew (bitAt w 30) (bitAt w 29) (BitVec.ofNat 5 (fld w 18 5)) (BitVec.ofNat 2 (fld w 0 2)))
  | _ => .illegal

/-- C-class major 0x1A (R51): CBR_ANY, CBR_ALL, CBR_MAJ. -/
def decodeC1A (w : Nat) : Decoded :=
  match fld w 13 2 with
  | 0 => rowOf (fld w 12 1 == 0 && fld w 17 1 == 0) (.cbrAny (bitAt w 30) (bitAt w 29) (BitVec.ofNat 5 (fld w 18 5)) (BitVec.ofNat 2 (fld w 15 2)) (BitVec.ofNat 12 (fld w 0 12)))
  | 1 => rowOf (fld w 12 1 == 0 && fld w 17 1 == 0) (.cbrAll (bitAt w 30) (bitAt w 29) (BitVec.ofNat 5 (fld w 18 5)) (BitVec.ofNat 2 (fld w 15 2)) (BitVec.ofNat 12 (fld w 0 12)))
  | 2 => rowOf (fld w 12 1 == 0 && fld w 17 1 == 0) (.cbrMaj (bitAt w 30) (bitAt w 29) (BitVec.ofNat 5 (fld w 18 5)) (BitVec.ofNat 2 (fld w 15 2)) (BitVec.ofNat 12 (fld w 0 12)))
  | _ => .illegal

/-- C-class major 0x1B (R51): COLX_JOIN, COLX_LEAVE. -/
def decodeC1B (w : Nat) : Decoded :=
  match fld w 0 6 with
  | 0 => rowOf (true) (.colxJoin (bitAt w 30) (bitAt w 29) (BitVec.ofNat 5 (fld w 18 5)) (BitVec.ofNat 5 (fld w 13 5)) (BitVec.ofNat 5 (fld w 8 5)) (bitAt w 7) (bitAt w 6))
  | 1 => rowOf (fld w 6 17 == 0) (.colxLeave (bitAt w 30) (bitAt w 29))
  | _ => .illegal

/-- C-class major 0x1C (R51): SPT_CPY, SPT_CAN, SPT_POLL. -/
def decodeC1C (w : Nat) : Decoded :=
  match fld w 0 6 with
  | 0 => rowOf (fld w 6 1 == 0 && fld w 8 5 == 0) (.sptCpy (bitAt w 30) (bitAt w 29) (BitVec.ofNat 5 (fld w 18 5)) (BitVec.ofNat 5 (fld w 13 5)) (bitAt w 7))
  | 1 => rowOf (fld w 6 1 == 0 && fld w 8 5 == 0) (.sptCan (bitAt w 30) (bitAt w 29) (BitVec.ofNat 5 (fld w 18 5)) (BitVec.ofNat 5 (fld w 13 5)) (bitAt w 7))
  | 2 => rowOf (fld w 6 1 == 0 && fld w 8 5 == 0) (.sptPoll (bitAt w 30) (bitAt w 29) (BitVec.ofNat 5 (fld w 18 5)) (BitVec.ofNat 5 (fld w 13 5)) (bitAt w 7))
  | _ => .illegal

/-- C-class major 0x1D (R51): BAR_INIT, BAR_EXP, BAR_ARV, BAR_WT. -/
def decodeC1D (w : Nat) : Decoded :=
  match fld w 0 6 with
  | 0 => rowOf (fld w 18 5 == 0) (.barInit (bitAt w 30) (bitAt w 29) (BitVec.ofNat 5 (fld w 13 5)) (BitVec.ofNat 5 (fld w 8 5)) (bitAt w 7) (bitAt w 6))
  | 1 => rowOf (fld w 18 5 == 0) (.barExp (bitAt w 30) (bitAt w 29) (BitVec.ofNat 5 (fld w 13 5)) (BitVec.ofNat 5 (fld w 8 5)) (bitAt w 7) (bitAt w 6))
  | 2 => rowOf (fld w 6 1 == 0 && fld w 8 5 == 0) (.barArv (bitAt w 30) (bitAt w 29) (BitVec.ofNat 5 (fld w 18 5)) (BitVec.ofNat 5 (fld w 13 5)) (bitAt w 7))
  | 3 => rowOf (true) (.barWt (bitAt w 30) (bitAt w 29) (BitVec.ofNat 5 (fld w 18 5)) (BitVec.ofNat 5 (fld w 13 5)) (BitVec.ofNat 5 (fld w 8 5)) (bitAt w 7) (bitAt w 6))
  | _ => .illegal

/-- C-class major 0x1E (R51): MCLAIM, MREL, MLD, MST_F32, MST_H, MST_B, MDRAIN, CTLD. -/
def decodeC1E (w : Nat) : Decoded :=
  match fld w 0 6 with
  | 0 => rowOf (fld w 6 1 == 0 && fld w 8 5 == 0) (.mclaim (bitAt w 30) (bitAt w 29) (BitVec.ofNat 5 (fld w 18 5)) (BitVec.ofNat 5 (fld w 13 5)) (bitAt w 7))
  | 1 => rowOf (fld w 6 1 == 0 && fld w 8 5 == 0 && fld w 18 5 == 0) (.mrel (bitAt w 30) (bitAt w 29) (BitVec.ofNat 5 (fld w 13 5)) (bitAt w 7))
  | 8 | 9 | 10 | 11 | 12 | 13 | 14 | 15 => rowOf (true) (.mld (bitAt w 30) (bitAt w 29) (BitVec.ofNat 5 (fld w 18 5)) (BitVec.ofNat 5 (fld w 13 5)) (BitVec.ofNat 5 (fld w 8 5)) (bitAt w 7) (bitAt w 6) (bitAt w 2) (BitVec.ofNat 2 (fld w 0 2)))
  | 16 | 17 | 18 | 19 | 20 | 21 | 22 | 23 => rowOf (fld w 20 3 == 0) (.mstF32 (bitAt w 30) (bitAt w 29) (BitVec.ofNat 2 (fld w 18 2)) (BitVec.ofNat 5 (fld w 13 5)) (BitVec.ofNat 5 (fld w 8 5)) (bitAt w 7) (bitAt w 6) (bitAt w 2) (BitVec.ofNat 2 (fld w 0 2)))
  | 24 | 25 | 26 | 27 | 28 | 29 | 30 | 31 => rowOf (fld w 20 3 == 0) (.mstH (bitAt w 30) (bitAt w 29) (BitVec.ofNat 2 (fld w 18 2)) (BitVec.ofNat 5 (fld w 13 5)) (BitVec.ofNat 5 (fld w 8 5)) (bitAt w 7) (bitAt w 6) (bitAt w 2) (BitVec.ofNat 2 (fld w 0 2)))
  | 32 | 33 | 34 | 35 | 36 | 37 | 38 | 39 => rowOf (fld w 20 3 == 0) (.mstB (bitAt w 30) (bitAt w 29) (BitVec.ofNat 2 (fld w 18 2)) (BitVec.ofNat 5 (fld w 13 5)) (BitVec.ofNat 5 (fld w 8 5)) (bitAt w 7) (bitAt w 6) (bitAt w 2) (BitVec.ofNat 2 (fld w 0 2)))
  | 40 | 41 | 42 | 43 | 44 | 45 | 46 | 47 => rowOf (fld w 0 3 == 0 && fld w 20 3 == 0) (.mdrain (bitAt w 30) (bitAt w 29) (BitVec.ofNat 2 (fld w 18 2)) (BitVec.ofNat 5 (fld w 13 5)) (BitVec.ofNat 5 (fld w 8 5)) (bitAt w 7) (bitAt w 6))
  | 48 | 49 | 50 | 51 | 52 | 53 | 54 | 55 => rowOf (fld w 2 1 == 0 && fld w 6 1 == 0 && fld w 8 5 == 0 && fld w 18 5 == 0) (.ctld (bitAt w 30) (bitAt w 29) (BitVec.ofNat 5 (fld w 13 5)) (bitAt w 7) (bitAt w 1) (bitAt w 0))
  | _ => .illegal

/-- C-class major 0x1F (R51): HLD_G, HLD_S, HST_G, HST_S, PODW, PODS, PODR. -/
def decodeC1F (w : Nat) : Decoded :=
  match fld w 0 6 with
  | 0 => rowOf (fld w 6 1 == 0 && fld w 8 5 == 0 && fld w 21 2 == 0) (.hldG (bitAt w 30) (bitAt w 29) (BitVec.ofNat 3 (fld w 18 3)) (BitVec.ofNat 5 (fld w 13 5)) (bitAt w 7))
  | 1 => rowOf (fld w 6 1 == 0 && fld w 8 5 == 0 && fld w 21 2 == 0) (.hldS (bitAt w 30) (bitAt w 29) (BitVec.ofNat 3 (fld w 18 3)) (BitVec.ofNat 5 (fld w 13 5)) (bitAt w 7))
  | 2 => rowOf (fld w 11 2 == 0 && fld w 18 5 == 0) (.hstG (bitAt w 30) (bitAt w 29) (BitVec.ofNat 5 (fld w 13 5)) (BitVec.ofNat 3 (fld w 8 3)) (bitAt w 7) (bitAt w 6))
  | 3 => rowOf (fld w 11 2 == 0 && fld w 18 5 == 0) (.hstS (bitAt w 30) (bitAt w 29) (BitVec.ofNat 5 (fld w 13 5)) (BitVec.ofNat 3 (fld w 8 3)) (bitAt w 7) (bitAt w 6))
  | 4 => rowOf (fld w 11 2 == 0 && fld w 18 5 == 0) (.podw (bitAt w 30) (bitAt w 29) (BitVec.ofNat 5 (fld w 13 5)) (BitVec.ofNat 3 (fld w 8 3)) (bitAt w 7) (bitAt w 6))
  | 5 => rowOf (fld w 7 1 == 0 && fld w 11 7 == 0) (.pods (bitAt w 30) (bitAt w 29) (BitVec.ofNat 5 (fld w 18 5)) (BitVec.ofNat 3 (fld w 8 3)) (bitAt w 6))
  | 6 => rowOf (fld w 6 1 == 0 && fld w 8 5 == 0 && fld w 21 2 == 0) (.podr (bitAt w 30) (bitAt w 29) (BitVec.ofNat 3 (fld w 18 3)) (BitVec.ofNat 5 (fld w 13 5)) (bitAt w 7))
  | _ => .illegal

/-- C-class major 0x20 (R51): SSPAWN, SFORK, SNEXT, SRET, SRETIRE, SRETIRE_SUB, SMIG, SINFEAS, SAPUSH, SAPOP, SSTAT, SPIN,
SUNPIN. -/
def decodeC20 (w : Nat) : Decoded :=
  match fld w 0 6 with
  | 0 => rowOf (fld w 6 1 == 0 && fld w 8 5 == 0) (.sspawn (bitAt w 30) (bitAt w 29) (BitVec.ofNat 5 (fld w 18 5)) (BitVec.ofNat 5 (fld w 13 5)) (bitAt w 7))
  | 1 => rowOf (fld w 6 1 == 0 && fld w 8 5 == 0) (.sfork (bitAt w 30) (bitAt w 29) (BitVec.ofNat 5 (fld w 18 5)) (BitVec.ofNat 5 (fld w 13 5)) (bitAt w 7))
  | 2 => rowOf (fld w 18 5 == 0) (.snext (bitAt w 30) (bitAt w 29) (BitVec.ofNat 5 (fld w 13 5)) (BitVec.ofNat 5 (fld w 8 5)) (bitAt w 7) (bitAt w 6))
  | 3 => rowOf (fld w 18 5 == 0) (.sret (bitAt w 30) (bitAt w 29) (BitVec.ofNat 5 (fld w 13 5)) (BitVec.ofNat 5 (fld w 8 5)) (bitAt w 7) (bitAt w 6))
  | 4 => rowOf (fld w 6 1 == 0 && fld w 8 5 == 0 && fld w 18 5 == 0) (.sretire (bitAt w 30) (bitAt w 29) (BitVec.ofNat 5 (fld w 13 5)) (bitAt w 7))
  | 5 => rowOf (fld w 6 1 == 0 && fld w 8 5 == 0 && fld w 18 5 == 0) (.sretireSub (bitAt w 30) (bitAt w 29) (BitVec.ofNat 5 (fld w 13 5)) (bitAt w 7))
  | 6 => rowOf (true) (.smig (bitAt w 30) (bitAt w 29) (BitVec.ofNat 5 (fld w 18 5)) (BitVec.ofNat 5 (fld w 13 5)) (BitVec.ofNat 5 (fld w 8 5)) (bitAt w 7) (bitAt w 6))
  | 7 => rowOf (fld w 6 1 == 0 && fld w 8 5 == 0 && fld w 18 5 == 0) (.sinfeas (bitAt w 30) (bitAt w 29) (BitVec.ofNat 5 (fld w 13 5)) (bitAt w 7))
  | 8 => rowOf (true) (.sapush (bitAt w 30) (bitAt w 29) (BitVec.ofNat 5 (fld w 18 5)) (BitVec.ofNat 5 (fld w 13 5)) (BitVec.ofNat 5 (fld w 8 5)) (bitAt w 7) (bitAt w 6))
  | 9 => rowOf (fld w 6 1 == 0 && fld w 8 5 == 0) (.sapop (bitAt w 30) (bitAt w 29) (BitVec.ofNat 5 (fld w 18 5)) (BitVec.ofNat 5 (fld w 13 5)) (bitAt w 7))
  | 10 => rowOf (fld w 6 1 == 0 && fld w 8 5 == 0) (.sstat (bitAt w 30) (bitAt w 29) (BitVec.ofNat 5 (fld w 18 5)) (BitVec.ofNat 5 (fld w 13 5)) (bitAt w 7))
  | 11 => rowOf (fld w 18 5 == 0) (.spin (bitAt w 30) (bitAt w 29) (BitVec.ofNat 5 (fld w 13 5)) (BitVec.ofNat 5 (fld w 8 5)) (bitAt w 7) (bitAt w 6))
  | 12 => rowOf (fld w 18 5 == 0) (.sunpin (bitAt w 30) (bitAt w 29) (BitVec.ofNat 5 (fld w 13 5)) (BitVec.ofNat 5 (fld w 8 5)) (bitAt w 7) (bitAt w 6))
  | _ => .illegal

/-- C-class major 0x21 (R51): JOPEN, JWAIT, JPOLL, JCLOSE. -/
def decodeC21 (w : Nat) : Decoded :=
  match fld w 0 6 with
  | 0 => rowOf (true) (.jopen (bitAt w 30) (bitAt w 29) (BitVec.ofNat 5 (fld w 18 5)) (BitVec.ofNat 5 (fld w 13 5)) (BitVec.ofNat 5 (fld w 8 5)) (bitAt w 7) (bitAt w 6))
  | 1 => rowOf (fld w 6 1 == 0 && fld w 8 5 == 0) (.jwait (bitAt w 30) (bitAt w 29) (BitVec.ofNat 5 (fld w 18 5)) (BitVec.ofNat 5 (fld w 13 5)) (bitAt w 7))
  | 2 => rowOf (true) (.jpoll (bitAt w 30) (bitAt w 29) (BitVec.ofNat 5 (fld w 18 5)) (BitVec.ofNat 5 (fld w 13 5)) (BitVec.ofNat 5 (fld w 8 5)) (bitAt w 7) (bitAt w 6))
  | 3 => rowOf (fld w 18 5 == 0) (.jclose (bitAt w 30) (bitAt w 29) (BitVec.ofNat 5 (fld w 13 5)) (BitVec.ofNat 5 (fld w 8 5)) (bitAt w 7) (bitAt w 6))
  | _ => .illegal

/-- C-class major 0x22 (R51): WOPEN, WSUM_I, WSUM_F, WMAXV_I, WMAXV_F, WMINV_I, WMINV_F, WMAX. -/
def decodeC22 (w : Nat) : Decoded :=
  match fld w 0 6 with
  | 0 => rowOf (fld w 6 1 == 0 && fld w 8 5 == 0) (.wopen (bitAt w 30) (bitAt w 29) (BitVec.ofNat 5 (fld w 18 5)) (BitVec.ofNat 5 (fld w 13 5)) (bitAt w 7))
  | 1 => rowOf (fld w 18 5 == 0) (.wsumI (bitAt w 30) (bitAt w 29) (BitVec.ofNat 5 (fld w 13 5)) (BitVec.ofNat 5 (fld w 8 5)) (bitAt w 7) (bitAt w 6))
  | 2 => rowOf (fld w 18 5 == 0) (.wsumF (bitAt w 30) (bitAt w 29) (BitVec.ofNat 5 (fld w 13 5)) (BitVec.ofNat 5 (fld w 8 5)) (bitAt w 7) (bitAt w 6))
  | 3 => rowOf (fld w 18 5 == 0) (.wmaxvI (bitAt w 30) (bitAt w 29) (BitVec.ofNat 5 (fld w 13 5)) (BitVec.ofNat 5 (fld w 8 5)) (bitAt w 7) (bitAt w 6))
  | 4 => rowOf (fld w 18 5 == 0) (.wmaxvF (bitAt w 30) (bitAt w 29) (BitVec.ofNat 5 (fld w 13 5)) (BitVec.ofNat 5 (fld w 8 5)) (bitAt w 7) (bitAt w 6))
  | 5 => rowOf (fld w 18 5 == 0) (.wminvI (bitAt w 30) (bitAt w 29) (BitVec.ofNat 5 (fld w 13 5)) (BitVec.ofNat 5 (fld w 8 5)) (bitAt w 7) (bitAt w 6))
  | 6 => rowOf (fld w 18 5 == 0) (.wminvF (bitAt w 30) (bitAt w 29) (BitVec.ofNat 5 (fld w 13 5)) (BitVec.ofNat 5 (fld w 8 5)) (bitAt w 7) (bitAt w 6))
  | 7 => rowOf (fld w 18 5 == 0) (.wmax (bitAt w 30) (bitAt w 29) (BitVec.ofNat 5 (fld w 13 5)) (BitVec.ofNat 5 (fld w 8 5)) (bitAt w 7) (bitAt w 6))
  | _ => .illegal

/-- C-class major 0x23 (R51): REPLAY, TLBINV, CFLIP, MTRD. -/
def decodeC23 (w : Nat) : Decoded :=
  match fld w 0 6 with
  | 0 => rowOf (fld w 6 1 == 0 && fld w 8 5 == 0) (.replay (bitAt w 30) (bitAt w 29) (BitVec.ofNat 5 (fld w 18 5)) (BitVec.ofNat 5 (fld w 13 5)) (bitAt w 7))
  | 1 => rowOf (fld w 18 5 == 0) (.tlbinv (bitAt w 30) (bitAt w 29) (BitVec.ofNat 5 (fld w 13 5)) (BitVec.ofNat 5 (fld w 8 5)) (bitAt w 7) (bitAt w 6))
  | 2 => rowOf (fld w 6 1 == 0 && fld w 8 5 == 0 && fld w 18 5 == 0) (.cflip (bitAt w 30) (bitAt w 29) (BitVec.ofNat 5 (fld w 13 5)) (bitAt w 7))
  | 3 => rowOf (true) (.mtrd (bitAt w 30) (bitAt w 29) (BitVec.ofNat 5 (fld w 18 5)) (BitVec.ofNat 5 (fld w 13 5)) (BitVec.ofNat 5 (fld w 8 5)) (bitAt w 7) (bitAt w 6))
  | _ => .illegal

/-- C-class major 0x24 (R51): LUI, LUI_SH. -/
def decodeC24 (w : Nat) : Decoded :=
  match fld w 16 1 with
  | 0 => rowOf (fld w 17 1 == 0) (.lui (bitAt w 30) (bitAt w 29) (BitVec.ofNat 5 (fld w 18 5)) (BitVec.ofNat 16 (fld w 0 16)))
  | 1 => rowOf (fld w 17 1 == 0) (.luiSh (bitAt w 30) (bitAt w 29) (BitVec.ofNat 5 (fld w 18 5)) (BitVec.ofNat 16 (fld w 0 16)))
  | _ => .illegal

/-- C-class major 0x25 (R51): LNCH, LNCH_POLL, LNCH_WAIT. -/
def decodeC25 (w : Nat) : Decoded :=
  match fld w 0 6 with
  | 0 => rowOf (fld w 6 1 == 0 && fld w 8 5 == 0) (.lnch (bitAt w 30) (bitAt w 29) (BitVec.ofNat 5 (fld w 18 5)) (BitVec.ofNat 5 (fld w 13 5)) (bitAt w 7))
  | 1 => rowOf (fld w 6 1 == 0 && fld w 8 5 == 0) (.lnchPoll (bitAt w 30) (bitAt w 29) (BitVec.ofNat 5 (fld w 18 5)) (BitVec.ofNat 5 (fld w 13 5)) (bitAt w 7))
  | 2 => rowOf (fld w 6 1 == 0 && fld w 8 5 == 0) (.lnchWait (bitAt w 30) (bitAt w 29) (BitVec.ofNat 5 (fld w 18 5)) (BitVec.ofNat 5 (fld w 13 5)) (bitAt w 7))
  | _ => .illegal

/-- A-class major 0x00 (R53): ADD, SUB, AND, OR, XOR, ANDN, SLL, SRL, SRA, ROR, SLT, SLTU, MIN, MAX, MINU, MAXU, MUL, MULH,
MULHU, DIV, DIVU, REM, REMU, ADDS, SUBS, CLZ, CTZ, POPC, WFLD, CHKB. -/
def decodeA00 (w : Nat) : Decoded :=
  match fld w 3 6 with
  | 0 => rowOf (true) (.add (bitAt w 30) (BitVec.ofNat 5 (fld w 19 5)) (BitVec.ofNat 5 (fld w 14 5)) (BitVec.ofNat 5 (fld w 9 5)) (bitAt w 2) (bitAt w 1) (bitAt w 0))
  | 1 => rowOf (true) (.sub (bitAt w 30) (BitVec.ofNat 5 (fld w 19 5)) (BitVec.ofNat 5 (fld w 14 5)) (BitVec.ofNat 5 (fld w 9 5)) (bitAt w 2) (bitAt w 1) (bitAt w 0))
  | 2 => rowOf (true) (.and (bitAt w 30) (BitVec.ofNat 5 (fld w 19 5)) (BitVec.ofNat 5 (fld w 14 5)) (BitVec.ofNat 5 (fld w 9 5)) (bitAt w 2) (bitAt w 1) (bitAt w 0))
  | 3 => rowOf (true) (.or (bitAt w 30) (BitVec.ofNat 5 (fld w 19 5)) (BitVec.ofNat 5 (fld w 14 5)) (BitVec.ofNat 5 (fld w 9 5)) (bitAt w 2) (bitAt w 1) (bitAt w 0))
  | 4 => rowOf (true) (.xor (bitAt w 30) (BitVec.ofNat 5 (fld w 19 5)) (BitVec.ofNat 5 (fld w 14 5)) (BitVec.ofNat 5 (fld w 9 5)) (bitAt w 2) (bitAt w 1) (bitAt w 0))
  | 5 => rowOf (true) (.andn (bitAt w 30) (BitVec.ofNat 5 (fld w 19 5)) (BitVec.ofNat 5 (fld w 14 5)) (BitVec.ofNat 5 (fld w 9 5)) (bitAt w 2) (bitAt w 1) (bitAt w 0))
  | 6 => rowOf (true) (.sll (bitAt w 30) (BitVec.ofNat 5 (fld w 19 5)) (BitVec.ofNat 5 (fld w 14 5)) (BitVec.ofNat 5 (fld w 9 5)) (bitAt w 2) (bitAt w 1) (bitAt w 0))
  | 7 => rowOf (true) (.srl (bitAt w 30) (BitVec.ofNat 5 (fld w 19 5)) (BitVec.ofNat 5 (fld w 14 5)) (BitVec.ofNat 5 (fld w 9 5)) (bitAt w 2) (bitAt w 1) (bitAt w 0))
  | 8 => rowOf (true) (.sra (bitAt w 30) (BitVec.ofNat 5 (fld w 19 5)) (BitVec.ofNat 5 (fld w 14 5)) (BitVec.ofNat 5 (fld w 9 5)) (bitAt w 2) (bitAt w 1) (bitAt w 0))
  | 9 => rowOf (true) (.ror (bitAt w 30) (BitVec.ofNat 5 (fld w 19 5)) (BitVec.ofNat 5 (fld w 14 5)) (BitVec.ofNat 5 (fld w 9 5)) (bitAt w 2) (bitAt w 1) (bitAt w 0))
  | 10 => rowOf (true) (.slt (bitAt w 30) (BitVec.ofNat 5 (fld w 19 5)) (BitVec.ofNat 5 (fld w 14 5)) (BitVec.ofNat 5 (fld w 9 5)) (bitAt w 2) (bitAt w 1) (bitAt w 0))
  | 11 => rowOf (true) (.sltu (bitAt w 30) (BitVec.ofNat 5 (fld w 19 5)) (BitVec.ofNat 5 (fld w 14 5)) (BitVec.ofNat 5 (fld w 9 5)) (bitAt w 2) (bitAt w 1) (bitAt w 0))
  | 12 => rowOf (true) (.min (bitAt w 30) (BitVec.ofNat 5 (fld w 19 5)) (BitVec.ofNat 5 (fld w 14 5)) (BitVec.ofNat 5 (fld w 9 5)) (bitAt w 2) (bitAt w 1) (bitAt w 0))
  | 13 => rowOf (true) (.max (bitAt w 30) (BitVec.ofNat 5 (fld w 19 5)) (BitVec.ofNat 5 (fld w 14 5)) (BitVec.ofNat 5 (fld w 9 5)) (bitAt w 2) (bitAt w 1) (bitAt w 0))
  | 14 => rowOf (true) (.minu (bitAt w 30) (BitVec.ofNat 5 (fld w 19 5)) (BitVec.ofNat 5 (fld w 14 5)) (BitVec.ofNat 5 (fld w 9 5)) (bitAt w 2) (bitAt w 1) (bitAt w 0))
  | 15 => rowOf (true) (.maxu (bitAt w 30) (BitVec.ofNat 5 (fld w 19 5)) (BitVec.ofNat 5 (fld w 14 5)) (BitVec.ofNat 5 (fld w 9 5)) (bitAt w 2) (bitAt w 1) (bitAt w 0))
  | 16 => rowOf (true) (.mul (bitAt w 30) (BitVec.ofNat 5 (fld w 19 5)) (BitVec.ofNat 5 (fld w 14 5)) (BitVec.ofNat 5 (fld w 9 5)) (bitAt w 2) (bitAt w 1) (bitAt w 0))
  | 17 => rowOf (fld w 0 1 == 0) (.mulh (bitAt w 30) (BitVec.ofNat 5 (fld w 19 5)) (BitVec.ofNat 5 (fld w 14 5)) (BitVec.ofNat 5 (fld w 9 5)) (bitAt w 2) (bitAt w 1))
  | 18 => rowOf (fld w 0 1 == 0) (.mulhu (bitAt w 30) (BitVec.ofNat 5 (fld w 19 5)) (BitVec.ofNat 5 (fld w 14 5)) (BitVec.ofNat 5 (fld w 9 5)) (bitAt w 2) (bitAt w 1))
  | 19 => rowOf (true) (.div (bitAt w 30) (BitVec.ofNat 5 (fld w 19 5)) (BitVec.ofNat 5 (fld w 14 5)) (BitVec.ofNat 5 (fld w 9 5)) (bitAt w 2) (bitAt w 1) (bitAt w 0))
  | 20 => rowOf (true) (.divu (bitAt w 30) (BitVec.ofNat 5 (fld w 19 5)) (BitVec.ofNat 5 (fld w 14 5)) (BitVec.ofNat 5 (fld w 9 5)) (bitAt w 2) (bitAt w 1) (bitAt w 0))
  | 21 => rowOf (true) (.rem (bitAt w 30) (BitVec.ofNat 5 (fld w 19 5)) (BitVec.ofNat 5 (fld w 14 5)) (BitVec.ofNat 5 (fld w 9 5)) (bitAt w 2) (bitAt w 1) (bitAt w 0))
  | 22 => rowOf (true) (.remu (bitAt w 30) (BitVec.ofNat 5 (fld w 19 5)) (BitVec.ofNat 5 (fld w 14 5)) (BitVec.ofNat 5 (fld w 9 5)) (bitAt w 2) (bitAt w 1) (bitAt w 0))
  | 23 => rowOf (true) (.adds (bitAt w 30) (BitVec.ofNat 5 (fld w 19 5)) (BitVec.ofNat 5 (fld w 14 5)) (BitVec.ofNat 5 (fld w 9 5)) (bitAt w 2) (bitAt w 1) (bitAt w 0))
  | 24 => rowOf (true) (.subs (bitAt w 30) (BitVec.ofNat 5 (fld w 19 5)) (BitVec.ofNat 5 (fld w 14 5)) (BitVec.ofNat 5 (fld w 9 5)) (bitAt w 2) (bitAt w 1) (bitAt w 0))
  | 25 => rowOf (fld w 1 1 == 0 && fld w 9 5 == 0) (.clz (bitAt w 30) (BitVec.ofNat 5 (fld w 19 5)) (BitVec.ofNat 5 (fld w 14 5)) (bitAt w 2) (bitAt w 0))
  | 26 => rowOf (fld w 1 1 == 0 && fld w 9 5 == 0) (.ctz (bitAt w 30) (BitVec.ofNat 5 (fld w 19 5)) (BitVec.ofNat 5 (fld w 14 5)) (bitAt w 2) (bitAt w 0))
  | 27 => rowOf (fld w 1 1 == 0 && fld w 9 5 == 0) (.popc (bitAt w 30) (BitVec.ofNat 5 (fld w 19 5)) (BitVec.ofNat 5 (fld w 14 5)) (bitAt w 2) (bitAt w 0))
  | 28 => rowOf (fld w 0 1 == 0) (.wfld (bitAt w 30) (BitVec.ofNat 5 (fld w 19 5)) (BitVec.ofNat 5 (fld w 14 5)) (BitVec.ofNat 5 (fld w 9 5)) (bitAt w 2) (bitAt w 1))
  | 29 => rowOf (fld w 0 1 == 0) (.chkb (bitAt w 30) (BitVec.ofNat 5 (fld w 19 5)) (BitVec.ofNat 5 (fld w 14 5)) (BitVec.ofNat 5 (fld w 9 5)) (bitAt w 2) (bitAt w 1))
  | _ => .illegal

/-- A-class major 0x01 (R53): ADDI. -/
def decodeA01 (w : Nat) : Decoded :=
  rowOf (true) (.addi (bitAt w 30) (BitVec.ofNat 5 (fld w 19 5)) (BitVec.ofNat 5 (fld w 14 5)) (bitAt w 13) (BitVec.ofNat 13 (fld w 0 13)))

/-- A-class major 0x02 (R53): ANDI. -/
def decodeA02 (w : Nat) : Decoded :=
  rowOf (true) (.andi (bitAt w 30) (BitVec.ofNat 5 (fld w 19 5)) (BitVec.ofNat 5 (fld w 14 5)) (bitAt w 13) (BitVec.ofNat 13 (fld w 0 13)))

/-- A-class major 0x03 (R53): ORI. -/
def decodeA03 (w : Nat) : Decoded :=
  rowOf (true) (.ori (bitAt w 30) (BitVec.ofNat 5 (fld w 19 5)) (BitVec.ofNat 5 (fld w 14 5)) (bitAt w 13) (BitVec.ofNat 13 (fld w 0 13)))

/-- A-class major 0x04 (R53): XORI. -/
def decodeA04 (w : Nat) : Decoded :=
  rowOf (true) (.xori (bitAt w 30) (BitVec.ofNat 5 (fld w 19 5)) (BitVec.ofNat 5 (fld w 14 5)) (bitAt w 13) (BitVec.ofNat 13 (fld w 0 13)))

/-- A-class major 0x06 (R53): SLTI. -/
def decodeA06 (w : Nat) : Decoded :=
  rowOf (true) (.slti (bitAt w 30) (BitVec.ofNat 5 (fld w 19 5)) (BitVec.ofNat 5 (fld w 14 5)) (bitAt w 13) (BitVec.ofNat 13 (fld w 0 13)))

/-- A-class major 0x05 (R53): SLLI, SRLI, SRAI, RORI. -/
def decodeA05 (w : Nat) : Decoded :=
  match fld w 11 2 with
  | 0 => rowOf (fld w 7 4 == 0) (.slli (bitAt w 30) (BitVec.ofNat 5 (fld w 19 5)) (BitVec.ofNat 5 (fld w 14 5)) (bitAt w 13) (bitAt w 6) (BitVec.ofNat 6 (fld w 0 6)))
  | 1 => rowOf (fld w 7 4 == 0) (.srli (bitAt w 30) (BitVec.ofNat 5 (fld w 19 5)) (BitVec.ofNat 5 (fld w 14 5)) (bitAt w 13) (bitAt w 6) (BitVec.ofNat 6 (fld w 0 6)))
  | 2 => rowOf (fld w 7 4 == 0) (.srai (bitAt w 30) (BitVec.ofNat 5 (fld w 19 5)) (BitVec.ofNat 5 (fld w 14 5)) (bitAt w 13) (bitAt w 6) (BitVec.ofNat 6 (fld w 0 6)))
  | 3 => rowOf (fld w 7 4 == 0) (.rori (bitAt w 30) (BitVec.ofNat 5 (fld w 19 5)) (BitVec.ofNat 5 (fld w 14 5)) (bitAt w 13) (bitAt w 6) (BitVec.ofNat 6 (fld w 0 6)))
  | _ => .illegal

/-- A-class major 0x07 (R53): SEL, SEL_N. -/
def decodeA07 (w : Nat) : Decoded :=
  match fld w 0 1 with
  | 0 => rowOf (true) (.sel (bitAt w 30) (BitVec.ofNat 5 (fld w 19 5)) (BitVec.ofNat 5 (fld w 14 5)) (BitVec.ofNat 5 (fld w 9 5)) (BitVec.ofNat 5 (fld w 4 5)) (bitAt w 3) (bitAt w 2) (bitAt w 1))
  | 1 => rowOf (true) (.selN (bitAt w 30) (BitVec.ofNat 5 (fld w 19 5)) (BitVec.ofNat 5 (fld w 14 5)) (BitVec.ofNat 5 (fld w 9 5)) (BitVec.ofNat 5 (fld w 4 5)) (bitAt w 3) (bitAt w 2) (bitAt w 1))
  | _ => .illegal

/-- A-class major 0x08 (R53): FADD, FSUB, FMUL, FDIV, FMIN, FMAX, FSQRT, FABS, FNEG, FSGNJ, FEQ, FLT, FLE, FCLASS, FMV_XF,
FMV_FX. -/
def decodeA08 (w : Nat) : Decoded :=
  match fld w 3 6 with
  | 0 => rowOf (fld w 0 1 == 0) (.fadd (bitAt w 30) (BitVec.ofNat 5 (fld w 19 5)) (BitVec.ofNat 5 (fld w 14 5)) (BitVec.ofNat 5 (fld w 9 5)) (bitAt w 2) (bitAt w 1))
  | 1 => rowOf (fld w 0 1 == 0) (.fsub (bitAt w 30) (BitVec.ofNat 5 (fld w 19 5)) (BitVec.ofNat 5 (fld w 14 5)) (BitVec.ofNat 5 (fld w 9 5)) (bitAt w 2) (bitAt w 1))
  | 2 => rowOf (fld w 0 1 == 0) (.fmul (bitAt w 30) (BitVec.ofNat 5 (fld w 19 5)) (BitVec.ofNat 5 (fld w 14 5)) (BitVec.ofNat 5 (fld w 9 5)) (bitAt w 2) (bitAt w 1))
  | 3 => rowOf (fld w 0 1 == 0) (.fdiv (bitAt w 30) (BitVec.ofNat 5 (fld w 19 5)) (BitVec.ofNat 5 (fld w 14 5)) (BitVec.ofNat 5 (fld w 9 5)) (bitAt w 2) (bitAt w 1))
  | 4 => rowOf (fld w 0 1 == 0) (.fmin (bitAt w 30) (BitVec.ofNat 5 (fld w 19 5)) (BitVec.ofNat 5 (fld w 14 5)) (BitVec.ofNat 5 (fld w 9 5)) (bitAt w 2) (bitAt w 1))
  | 5 => rowOf (fld w 0 1 == 0) (.fmax (bitAt w 30) (BitVec.ofNat 5 (fld w 19 5)) (BitVec.ofNat 5 (fld w 14 5)) (BitVec.ofNat 5 (fld w 9 5)) (bitAt w 2) (bitAt w 1))
  | 6 => rowOf (fld w 0 2 == 0 && fld w 9 5 == 0) (.fsqrt (bitAt w 30) (BitVec.ofNat 5 (fld w 19 5)) (BitVec.ofNat 5 (fld w 14 5)) (bitAt w 2))
  | 7 => rowOf (fld w 0 2 == 0 && fld w 9 5 == 0) (.fabs (bitAt w 30) (BitVec.ofNat 5 (fld w 19 5)) (BitVec.ofNat 5 (fld w 14 5)) (bitAt w 2))
  | 8 => rowOf (fld w 0 2 == 0 && fld w 9 5 == 0) (.fneg (bitAt w 30) (BitVec.ofNat 5 (fld w 19 5)) (BitVec.ofNat 5 (fld w 14 5)) (bitAt w 2))
  | 9 => rowOf (fld w 0 1 == 0) (.fsgnj (bitAt w 30) (BitVec.ofNat 5 (fld w 19 5)) (BitVec.ofNat 5 (fld w 14 5)) (BitVec.ofNat 5 (fld w 9 5)) (bitAt w 2) (bitAt w 1))
  | 10 => rowOf (fld w 0 1 == 0) (.feq (bitAt w 30) (BitVec.ofNat 5 (fld w 19 5)) (BitVec.ofNat 5 (fld w 14 5)) (BitVec.ofNat 5 (fld w 9 5)) (bitAt w 2) (bitAt w 1))
  | 11 => rowOf (fld w 0 1 == 0) (.flt (bitAt w 30) (BitVec.ofNat 5 (fld w 19 5)) (BitVec.ofNat 5 (fld w 14 5)) (BitVec.ofNat 5 (fld w 9 5)) (bitAt w 2) (bitAt w 1))
  | 12 => rowOf (fld w 0 1 == 0) (.fle (bitAt w 30) (BitVec.ofNat 5 (fld w 19 5)) (BitVec.ofNat 5 (fld w 14 5)) (BitVec.ofNat 5 (fld w 9 5)) (bitAt w 2) (bitAt w 1))
  | 13 => rowOf (fld w 0 2 == 0 && fld w 9 5 == 0) (.fclass (bitAt w 30) (BitVec.ofNat 5 (fld w 19 5)) (BitVec.ofNat 5 (fld w 14 5)) (bitAt w 2))
  | 14 => rowOf (fld w 0 2 == 0 && fld w 9 5 == 0) (.fmvXf (bitAt w 30) (BitVec.ofNat 5 (fld w 19 5)) (BitVec.ofNat 5 (fld w 14 5)) (bitAt w 2))
  | 15 => rowOf (fld w 0 2 == 0 && fld w 9 5 == 0) (.fmvFx (bitAt w 30) (BitVec.ofNat 5 (fld w 19 5)) (BitVec.ofNat 5 (fld w 14 5)) (bitAt w 2))
  | _ => .illegal

/-- A-class major 0x09 (R53): FMADD, FMSUB. -/
def decodeA09 (w : Nat) : Decoded :=
  match fld w 0 1 with
  | 0 => rowOf (true) (.fmadd (bitAt w 30) (BitVec.ofNat 5 (fld w 19 5)) (BitVec.ofNat 5 (fld w 14 5)) (BitVec.ofNat 5 (fld w 9 5)) (BitVec.ofNat 5 (fld w 4 5)) (bitAt w 3) (bitAt w 2) (bitAt w 1))
  | 1 => rowOf (true) (.fmsub (bitAt w 30) (BitVec.ofNat 5 (fld w 19 5)) (BitVec.ofNat 5 (fld w 14 5)) (BitVec.ofNat 5 (fld w 9 5)) (BitVec.ofNat 5 (fld w 4 5)) (bitAt w 3) (bitAt w 2) (bitAt w 1))
  | _ => .illegal

/-- A-class major 0x0A (R53): FCVT_F_I, FCVT_F_U, FCVT_I_F, FCVT_U_F, FCVT_H_F, FCVT_F_H, FCVT_B_F, FCVT_F_B, FCVT_T8_F,
FCVT_F_T8, FCVT_T4_F, FCVT_F_T4. -/
def decodeA0A (w : Nat) : Decoded :=
  match fld w 3 6 with
  | 0 => rowOf (fld w 0 2 == 0 && fld w 9 5 == 0) (.fcvtFI (bitAt w 30) (BitVec.ofNat 5 (fld w 19 5)) (BitVec.ofNat 5 (fld w 14 5)) (bitAt w 2))
  | 1 => rowOf (fld w 0 2 == 0 && fld w 9 5 == 0) (.fcvtFU (bitAt w 30) (BitVec.ofNat 5 (fld w 19 5)) (BitVec.ofNat 5 (fld w 14 5)) (bitAt w 2))
  | 2 => rowOf (fld w 0 2 == 0 && fld w 9 5 == 0) (.fcvtIF (bitAt w 30) (BitVec.ofNat 5 (fld w 19 5)) (BitVec.ofNat 5 (fld w 14 5)) (bitAt w 2))
  | 3 => rowOf (fld w 0 2 == 0 && fld w 9 5 == 0) (.fcvtUF (bitAt w 30) (BitVec.ofNat 5 (fld w 19 5)) (BitVec.ofNat 5 (fld w 14 5)) (bitAt w 2))
  | 4 => rowOf (fld w 0 2 == 0 && fld w 9 5 == 0) (.fcvtHF (bitAt w 30) (BitVec.ofNat 5 (fld w 19 5)) (BitVec.ofNat 5 (fld w 14 5)) (bitAt w 2))
  | 5 => rowOf (fld w 0 2 == 0 && fld w 9 5 == 0) (.fcvtFH (bitAt w 30) (BitVec.ofNat 5 (fld w 19 5)) (BitVec.ofNat 5 (fld w 14 5)) (bitAt w 2))
  | 6 => rowOf (fld w 0 2 == 0 && fld w 9 5 == 0) (.fcvtBF (bitAt w 30) (BitVec.ofNat 5 (fld w 19 5)) (BitVec.ofNat 5 (fld w 14 5)) (bitAt w 2))
  | 7 => rowOf (fld w 0 2 == 0 && fld w 9 5 == 0) (.fcvtFB (bitAt w 30) (BitVec.ofNat 5 (fld w 19 5)) (BitVec.ofNat 5 (fld w 14 5)) (bitAt w 2))
  | 8 => rowOf (fld w 0 2 == 0 && fld w 9 5 == 0) (.fcvtT8F (bitAt w 30) (BitVec.ofNat 5 (fld w 19 5)) (BitVec.ofNat 5 (fld w 14 5)) (bitAt w 2))
  | 9 => rowOf (fld w 0 2 == 0 && fld w 9 5 == 0) (.fcvtFT8 (bitAt w 30) (BitVec.ofNat 5 (fld w 19 5)) (BitVec.ofNat 5 (fld w 14 5)) (bitAt w 2))
  | 10 => rowOf (fld w 0 2 == 0 && fld w 9 5 == 0) (.fcvtT4F (bitAt w 30) (BitVec.ofNat 5 (fld w 19 5)) (BitVec.ofNat 5 (fld w 14 5)) (bitAt w 2))
  | 11 => rowOf (fld w 0 2 == 0 && fld w 9 5 == 0) (.fcvtFT4 (bitAt w 30) (BitVec.ofNat 5 (fld w 19 5)) (BitVec.ofNat 5 (fld w 14 5)) (bitAt w 2))
  | _ => .illegal

/-- A-class major 0x0B (R53): VADD, VSUB, VADDS, VSUBS, VMUL, VMIN, VMAX, VSH, VAND, VOR, VXOR, VANDN, VNOT, VMOV. -/
def decodeA0B (w : Nat) : Decoded :=
  match fld w 0 6 with
  | 0 | 8 | 16 | 24 | 32 | 40 | 48 => rowOf (true) (.vadd (bitAt w 30) (BitVec.ofNat 5 (fld w 19 5)) (BitVec.ofNat 5 (fld w 14 5)) (BitVec.ofNat 5 (fld w 9 5)) (BitVec.ofNat 3 (fld w 6 3)) (BitVec.ofNat 3 (fld w 3 3)))
  | 1 | 9 | 17 | 25 | 33 | 41 | 49 => rowOf (true) (.vsub (bitAt w 30) (BitVec.ofNat 5 (fld w 19 5)) (BitVec.ofNat 5 (fld w 14 5)) (BitVec.ofNat 5 (fld w 9 5)) (BitVec.ofNat 3 (fld w 6 3)) (BitVec.ofNat 3 (fld w 3 3)))
  | 2 | 10 | 18 | 26 | 34 | 42 | 50 => rowOf (true) (.vadds (bitAt w 30) (BitVec.ofNat 5 (fld w 19 5)) (BitVec.ofNat 5 (fld w 14 5)) (BitVec.ofNat 5 (fld w 9 5)) (BitVec.ofNat 3 (fld w 6 3)) (BitVec.ofNat 3 (fld w 3 3)))
  | 3 | 11 | 19 | 27 | 35 | 43 | 51 => rowOf (true) (.vsubs (bitAt w 30) (BitVec.ofNat 5 (fld w 19 5)) (BitVec.ofNat 5 (fld w 14 5)) (BitVec.ofNat 5 (fld w 9 5)) (BitVec.ofNat 3 (fld w 6 3)) (BitVec.ofNat 3 (fld w 3 3)))
  | 4 | 12 | 20 | 28 | 36 | 44 | 52 => rowOf (true) (.vmul (bitAt w 30) (BitVec.ofNat 5 (fld w 19 5)) (BitVec.ofNat 5 (fld w 14 5)) (BitVec.ofNat 5 (fld w 9 5)) (BitVec.ofNat 3 (fld w 6 3)) (BitVec.ofNat 3 (fld w 3 3)))
  | 5 | 13 | 21 | 29 | 37 | 45 | 53 => rowOf (true) (.vmin (bitAt w 30) (BitVec.ofNat 5 (fld w 19 5)) (BitVec.ofNat 5 (fld w 14 5)) (BitVec.ofNat 5 (fld w 9 5)) (BitVec.ofNat 3 (fld w 6 3)) (BitVec.ofNat 3 (fld w 3 3)))
  | 6 | 14 | 22 | 30 | 38 | 46 | 54 => rowOf (true) (.vmax (bitAt w 30) (BitVec.ofNat 5 (fld w 19 5)) (BitVec.ofNat 5 (fld w 14 5)) (BitVec.ofNat 5 (fld w 9 5)) (BitVec.ofNat 3 (fld w 6 3)) (BitVec.ofNat 3 (fld w 3 3)))
  | 7 | 15 | 23 | 31 | 39 | 47 | 55 => rowOf (true) (.vsh (bitAt w 30) (BitVec.ofNat 5 (fld w 19 5)) (BitVec.ofNat 5 (fld w 14 5)) (BitVec.ofNat 5 (fld w 9 5)) (BitVec.ofNat 3 (fld w 6 3)) (BitVec.ofNat 3 (fld w 3 3)))
  | 56 => rowOf (true) (.vand (bitAt w 30) (BitVec.ofNat 5 (fld w 19 5)) (BitVec.ofNat 5 (fld w 14 5)) (BitVec.ofNat 5 (fld w 9 5)) (BitVec.ofNat 3 (fld w 6 3)))
  | 57 => rowOf (true) (.vor (bitAt w 30) (BitVec.ofNat 5 (fld w 19 5)) (BitVec.ofNat 5 (fld w 14 5)) (BitVec.ofNat 5 (fld w 9 5)) (BitVec.ofNat 3 (fld w 6 3)))
  | 58 => rowOf (true) (.vxor (bitAt w 30) (BitVec.ofNat 5 (fld w 19 5)) (BitVec.ofNat 5 (fld w 14 5)) (BitVec.ofNat 5 (fld w 9 5)) (BitVec.ofNat 3 (fld w 6 3)))
  | 59 => rowOf (true) (.vandn (bitAt w 30) (BitVec.ofNat 5 (fld w 19 5)) (BitVec.ofNat 5 (fld w 14 5)) (BitVec.ofNat 5 (fld w 9 5)) (BitVec.ofNat 3 (fld w 6 3)))
  | 60 => rowOf (fld w 9 5 == 0) (.vnot (bitAt w 30) (BitVec.ofNat 5 (fld w 19 5)) (BitVec.ofNat 5 (fld w 14 5)) (BitVec.ofNat 3 (fld w 6 3)))
  | 61 => rowOf (fld w 9 5 == 0) (.vmov (bitAt w 30) (BitVec.ofNat 5 (fld w 19 5)) (BitVec.ofNat 5 (fld w 14 5)) (BitVec.ofNat 3 (fld w 6 3)))
  | _ => .illegal

/-- A-class major 0x0C (R53): VFADD, VFSUB, VFMUL, VFDIV, VFMIN, VFMAX, VFABS, VFNEG. -/
def decodeA0C (w : Nat) : Decoded :=
  match fld w 3 3 with
  | 0 => rowOf (true) (.vfadd (bitAt w 30) (BitVec.ofNat 5 (fld w 19 5)) (BitVec.ofNat 5 (fld w 14 5)) (BitVec.ofNat 5 (fld w 9 5)) (BitVec.ofNat 3 (fld w 6 3)) (BitVec.ofNat 3 (fld w 0 3)))
  | 1 => rowOf (true) (.vfsub (bitAt w 30) (BitVec.ofNat 5 (fld w 19 5)) (BitVec.ofNat 5 (fld w 14 5)) (BitVec.ofNat 5 (fld w 9 5)) (BitVec.ofNat 3 (fld w 6 3)) (BitVec.ofNat 3 (fld w 0 3)))
  | 2 => rowOf (true) (.vfmul (bitAt w 30) (BitVec.ofNat 5 (fld w 19 5)) (BitVec.ofNat 5 (fld w 14 5)) (BitVec.ofNat 5 (fld w 9 5)) (BitVec.ofNat 3 (fld w 6 3)) (BitVec.ofNat 3 (fld w 0 3)))
  | 3 => rowOf (true) (.vfdiv (bitAt w 30) (BitVec.ofNat 5 (fld w 19 5)) (BitVec.ofNat 5 (fld w 14 5)) (BitVec.ofNat 5 (fld w 9 5)) (BitVec.ofNat 3 (fld w 6 3)) (BitVec.ofNat 3 (fld w 0 3)))
  | 4 => rowOf (true) (.vfmin (bitAt w 30) (BitVec.ofNat 5 (fld w 19 5)) (BitVec.ofNat 5 (fld w 14 5)) (BitVec.ofNat 5 (fld w 9 5)) (BitVec.ofNat 3 (fld w 6 3)) (BitVec.ofNat 3 (fld w 0 3)))
  | 5 => rowOf (true) (.vfmax (bitAt w 30) (BitVec.ofNat 5 (fld w 19 5)) (BitVec.ofNat 5 (fld w 14 5)) (BitVec.ofNat 5 (fld w 9 5)) (BitVec.ofNat 3 (fld w 6 3)) (BitVec.ofNat 3 (fld w 0 3)))
  | 6 => rowOf (fld w 9 5 == 0) (.vfabs (bitAt w 30) (BitVec.ofNat 5 (fld w 19 5)) (BitVec.ofNat 5 (fld w 14 5)) (BitVec.ofNat 3 (fld w 6 3)) (BitVec.ofNat 3 (fld w 0 3)))
  | 7 => rowOf (fld w 9 5 == 0) (.vfneg (bitAt w 30) (BitVec.ofNat 5 (fld w 19 5)) (BitVec.ofNat 5 (fld w 14 5)) (BitVec.ofNat 3 (fld w 6 3)) (BitVec.ofNat 3 (fld w 0 3)))
  | _ => .illegal

/-- A-class major 0x0D (R53): VFMADD, VFMSUB, VFNMADD, VFNMSUB, VFDOT2. -/
def decodeA0D (w : Nat) : Decoded :=
  match fld w 3 3 with
  | 0 => rowOf (true) (.vfmadd (bitAt w 30) (BitVec.ofNat 5 (fld w 19 5)) (BitVec.ofNat 5 (fld w 14 5)) (BitVec.ofNat 5 (fld w 9 5)) (BitVec.ofNat 3 (fld w 6 3)) (BitVec.ofNat 3 (fld w 0 3)))
  | 1 => rowOf (true) (.vfmsub (bitAt w 30) (BitVec.ofNat 5 (fld w 19 5)) (BitVec.ofNat 5 (fld w 14 5)) (BitVec.ofNat 5 (fld w 9 5)) (BitVec.ofNat 3 (fld w 6 3)) (BitVec.ofNat 3 (fld w 0 3)))
  | 2 => rowOf (true) (.vfnmadd (bitAt w 30) (BitVec.ofNat 5 (fld w 19 5)) (BitVec.ofNat 5 (fld w 14 5)) (BitVec.ofNat 5 (fld w 9 5)) (BitVec.ofNat 3 (fld w 6 3)) (BitVec.ofNat 3 (fld w 0 3)))
  | 3 => rowOf (true) (.vfnmsub (bitAt w 30) (BitVec.ofNat 5 (fld w 19 5)) (BitVec.ofNat 5 (fld w 14 5)) (BitVec.ofNat 5 (fld w 9 5)) (BitVec.ofNat 3 (fld w 6 3)) (BitVec.ofNat 3 (fld w 0 3)))
  | 4 => rowOf (true) (.vfdot2 (bitAt w 30) (BitVec.ofNat 5 (fld w 19 5)) (BitVec.ofNat 5 (fld w 14 5)) (BitVec.ofNat 5 (fld w 9 5)) (BitVec.ofNat 3 (fld w 6 3)) (BitVec.ofNat 3 (fld w 0 3)))
  | _ => .illegal

/-- A-class major 0x0E (R53): VRSUM, VRMAX, VRMIN, VRARGMAX, VRARGMIN, VRBAND, VRBOR, VRBXOR. -/
def decodeA0E (w : Nat) : Decoded :=
  match fld w 0 3 with
  | 0 => rowOf (fld w 9 5 == 0) (.vrsum (bitAt w 30) (BitVec.ofNat 5 (fld w 19 5)) (BitVec.ofNat 5 (fld w 14 5)) (BitVec.ofNat 3 (fld w 6 3)) (BitVec.ofNat 3 (fld w 3 3)))
  | 1 => rowOf (fld w 9 5 == 0) (.vrmax (bitAt w 30) (BitVec.ofNat 5 (fld w 19 5)) (BitVec.ofNat 5 (fld w 14 5)) (BitVec.ofNat 3 (fld w 6 3)) (BitVec.ofNat 3 (fld w 3 3)))
  | 2 => rowOf (fld w 9 5 == 0) (.vrmin (bitAt w 30) (BitVec.ofNat 5 (fld w 19 5)) (BitVec.ofNat 5 (fld w 14 5)) (BitVec.ofNat 3 (fld w 6 3)) (BitVec.ofNat 3 (fld w 3 3)))
  | 3 => rowOf (fld w 9 5 == 0) (.vrargmax (bitAt w 30) (BitVec.ofNat 5 (fld w 19 5)) (BitVec.ofNat 5 (fld w 14 5)) (BitVec.ofNat 3 (fld w 6 3)) (BitVec.ofNat 3 (fld w 3 3)))
  | 4 => rowOf (fld w 9 5 == 0) (.vrargmin (bitAt w 30) (BitVec.ofNat 5 (fld w 19 5)) (BitVec.ofNat 5 (fld w 14 5)) (BitVec.ofNat 3 (fld w 6 3)) (BitVec.ofNat 3 (fld w 3 3)))
  | 5 => rowOf (fld w 9 5 == 0) (.vrband (bitAt w 30) (BitVec.ofNat 5 (fld w 19 5)) (BitVec.ofNat 5 (fld w 14 5)) (BitVec.ofNat 3 (fld w 6 3)) (BitVec.ofNat 3 (fld w 3 3)))
  | 6 => rowOf (fld w 9 5 == 0) (.vrbor (bitAt w 30) (BitVec.ofNat 5 (fld w 19 5)) (BitVec.ofNat 5 (fld w 14 5)) (BitVec.ofNat 3 (fld w 6 3)) (BitVec.ofNat 3 (fld w 3 3)))
  | 7 => rowOf (fld w 9 5 == 0) (.vrbxor (bitAt w 30) (BitVec.ofNat 5 (fld w 19 5)) (BitVec.ofNat 5 (fld w 14 5)) (BitVec.ofNat 3 (fld w 6 3)) (BitVec.ofNat 3 (fld w 3 3)))
  | _ => .illegal

/-- A-class major 0x0F (R53): VPERM, VBCAST, VBCASTX, VROT, VCOMP, VEXPD, VINSX, VEXTX. -/
def decodeA0F (w : Nat) : Decoded :=
  match fld w 0 3 with
  | 0 => rowOf (true) (.vperm (bitAt w 30) (BitVec.ofNat 5 (fld w 19 5)) (BitVec.ofNat 5 (fld w 14 5)) (BitVec.ofNat 5 (fld w 9 5)) (BitVec.ofNat 3 (fld w 6 3)) (BitVec.ofNat 3 (fld w 3 3)))
  | 1 => rowOf (fld w 9 5 == 0) (.vbcast (bitAt w 30) (BitVec.ofNat 5 (fld w 19 5)) (BitVec.ofNat 5 (fld w 14 5)) (BitVec.ofNat 3 (fld w 6 3)) (BitVec.ofNat 3 (fld w 3 3)))
  | 2 => rowOf (fld w 9 5 == 0) (.vbcastx (bitAt w 30) (BitVec.ofNat 5 (fld w 19 5)) (BitVec.ofNat 5 (fld w 14 5)) (BitVec.ofNat 3 (fld w 6 3)) (BitVec.ofNat 3 (fld w 3 3)))
  | 3 => rowOf (true) (.vrot (bitAt w 30) (BitVec.ofNat 5 (fld w 19 5)) (BitVec.ofNat 5 (fld w 14 5)) (BitVec.ofNat 5 (fld w 9 5)) (BitVec.ofNat 3 (fld w 6 3)) (BitVec.ofNat 3 (fld w 3 3)))
  | 4 => rowOf (fld w 9 5 == 0) (.vcomp (bitAt w 30) (BitVec.ofNat 5 (fld w 19 5)) (BitVec.ofNat 5 (fld w 14 5)) (BitVec.ofNat 3 (fld w 6 3)) (BitVec.ofNat 3 (fld w 3 3)))
  | 5 => rowOf (fld w 9 5 == 0) (.vexpd (bitAt w 30) (BitVec.ofNat 5 (fld w 19 5)) (BitVec.ofNat 5 (fld w 14 5)) (BitVec.ofNat 3 (fld w 6 3)) (BitVec.ofNat 3 (fld w 3 3)))
  | 6 => rowOf (fld w 6 3 == 0) (.vinsx (bitAt w 30) (BitVec.ofNat 5 (fld w 19 5)) (BitVec.ofNat 5 (fld w 14 5)) (BitVec.ofNat 5 (fld w 9 5)) (BitVec.ofNat 3 (fld w 3 3)))
  | 7 => rowOf (fld w 6 3 == 0) (.vextx (bitAt w 30) (BitVec.ofNat 5 (fld w 19 5)) (BitVec.ofNat 5 (fld w 14 5)) (BitVec.ofNat 5 (fld w 9 5)) (BitVec.ofNat 3 (fld w 3 3)))
  | _ => .illegal

/-- A-class major 0x10 (R53): VCMP_EQ, VCMP_NE, VCMP_LT, VCMP_LE, VCMP_GT, VCMP_GE, VCMP_UNORD. -/
def decodeA10 (w : Nat) : Decoded :=
  match fld w 0 3 with
  | 0 => rowOf (fld w 22 2 == 0) (.vcmpEq (bitAt w 30) (BitVec.ofNat 3 (fld w 19 3)) (BitVec.ofNat 5 (fld w 14 5)) (BitVec.ofNat 5 (fld w 9 5)) (BitVec.ofNat 3 (fld w 6 3)) (BitVec.ofNat 3 (fld w 3 3)))
  | 1 => rowOf (fld w 22 2 == 0) (.vcmpNe (bitAt w 30) (BitVec.ofNat 3 (fld w 19 3)) (BitVec.ofNat 5 (fld w 14 5)) (BitVec.ofNat 5 (fld w 9 5)) (BitVec.ofNat 3 (fld w 6 3)) (BitVec.ofNat 3 (fld w 3 3)))
  | 2 => rowOf (fld w 22 2 == 0) (.vcmpLt (bitAt w 30) (BitVec.ofNat 3 (fld w 19 3)) (BitVec.ofNat 5 (fld w 14 5)) (BitVec.ofNat 5 (fld w 9 5)) (BitVec.ofNat 3 (fld w 6 3)) (BitVec.ofNat 3 (fld w 3 3)))
  | 3 => rowOf (fld w 22 2 == 0) (.vcmpLe (bitAt w 30) (BitVec.ofNat 3 (fld w 19 3)) (BitVec.ofNat 5 (fld w 14 5)) (BitVec.ofNat 5 (fld w 9 5)) (BitVec.ofNat 3 (fld w 6 3)) (BitVec.ofNat 3 (fld w 3 3)))
  | 4 => rowOf (fld w 22 2 == 0) (.vcmpGt (bitAt w 30) (BitVec.ofNat 3 (fld w 19 3)) (BitVec.ofNat 5 (fld w 14 5)) (BitVec.ofNat 5 (fld w 9 5)) (BitVec.ofNat 3 (fld w 6 3)) (BitVec.ofNat 3 (fld w 3 3)))
  | 5 => rowOf (fld w 22 2 == 0) (.vcmpGe (bitAt w 30) (BitVec.ofNat 3 (fld w 19 3)) (BitVec.ofNat 5 (fld w 14 5)) (BitVec.ofNat 5 (fld w 9 5)) (BitVec.ofNat 3 (fld w 6 3)) (BitVec.ofNat 3 (fld w 3 3)))
  | 6 => rowOf (fld w 3 3 == 7 && fld w 22 2 == 0) (.vcmpUnord (bitAt w 30) (BitVec.ofNat 3 (fld w 19 3)) (BitVec.ofNat 5 (fld w 14 5)) (BitVec.ofNat 5 (fld w 9 5)) (BitVec.ofNat 3 (fld w 6 3)))
  | _ => .illegal

/-- A-class major 0x11 (R53): VCVT_FI, VCVT_IF, VCVT_NAR, VCVT_WID, VCVT_ET8, VCVT_DT8, VCVT_ET4, VCVT_DT4. -/
noncomputable def decodeA11 (w : Nat) : Decoded :=
  match fld w 0 3 with
  | 0 => rowOf (fld w 9 5 == 0) (.vcvtFi (bitAt w 30) (BitVec.ofNat 5 (fld w 19 5)) (BitVec.ofNat 5 (fld w 14 5)) (BitVec.ofNat 3 (fld w 6 3)) (BitVec.ofNat 3 (fld w 3 3)))
  | 1 => rowOf (fld w 9 5 == 0) (.vcvtIf (bitAt w 30) (BitVec.ofNat 5 (fld w 19 5)) (BitVec.ofNat 5 (fld w 14 5)) (BitVec.ofNat 3 (fld w 6 3)) (BitVec.ofNat 3 (fld w 3 3)))
  | 2 => rowOf (true) (.vcvtNar (bitAt w 30) (BitVec.ofNat 5 (fld w 19 5)) (BitVec.ofNat 5 (fld w 14 5)) (BitVec.ofNat 5 (fld w 9 5)) (BitVec.ofNat 3 (fld w 6 3)) (BitVec.ofNat 3 (fld w 3 3)))
  | 3 => rowOf (true) (.vcvtWid (bitAt w 30) (BitVec.ofNat 5 (fld w 19 5)) (BitVec.ofNat 5 (fld w 14 5)) (BitVec.ofNat 5 (fld w 9 5)) (BitVec.ofNat 3 (fld w 6 3)) (BitVec.ofNat 3 (fld w 3 3)))
  | 4 => rowOf (fld w 3 3 == 0) (.vcvtEt8 (bitAt w 30) (BitVec.ofNat 5 (fld w 19 5)) (BitVec.ofNat 5 (fld w 14 5)) (BitVec.ofNat 5 (fld w 9 5)) (BitVec.ofNat 3 (fld w 6 3)))
  | 5 => rowOf (fld w 3 3 == 0) (.vcvtDt8 (bitAt w 30) (BitVec.ofNat 5 (fld w 19 5)) (BitVec.ofNat 5 (fld w 14 5)) (BitVec.ofNat 5 (fld w 9 5)) (BitVec.ofNat 3 (fld w 6 3)))
  | 6 => rowOf (fld w 3 3 == 0) (.vcvtEt4 (bitAt w 30) (BitVec.ofNat 5 (fld w 19 5)) (BitVec.ofNat 5 (fld w 14 5)) (BitVec.ofNat 5 (fld w 9 5)) (BitVec.ofNat 3 (fld w 6 3)))
  | 7 => rowOf (fld w 3 3 == 0) (.vcvtDt4 (bitAt w 30) (BitVec.ofNat 5 (fld w 19 5)) (BitVec.ofNat 5 (fld w 14 5)) (BitVec.ofNat 5 (fld w 9 5)) (BitVec.ofNat 3 (fld w 6 3)))
  | _ => .illegal

/-- A-class major 0x12 (R53): VEXP2, VLOG2, VRCP, VRSQRT, VSQRT, VTANH, VSIGM, VGELU. -/
noncomputable def decodeA12 (w : Nat) : Decoded :=
  match fld w 3 3 with
  | 0 => rowOf (fld w 9 5 == 0) (.vexp2 (bitAt w 30) (BitVec.ofNat 5 (fld w 19 5)) (BitVec.ofNat 5 (fld w 14 5)) (BitVec.ofNat 3 (fld w 6 3)) (BitVec.ofNat 3 (fld w 0 3)))
  | 1 => rowOf (fld w 9 5 == 0) (.vlog2 (bitAt w 30) (BitVec.ofNat 5 (fld w 19 5)) (BitVec.ofNat 5 (fld w 14 5)) (BitVec.ofNat 3 (fld w 6 3)) (BitVec.ofNat 3 (fld w 0 3)))
  | 2 => rowOf (fld w 9 5 == 0) (.vrcp (bitAt w 30) (BitVec.ofNat 5 (fld w 19 5)) (BitVec.ofNat 5 (fld w 14 5)) (BitVec.ofNat 3 (fld w 6 3)) (BitVec.ofNat 3 (fld w 0 3)))
  | 3 => rowOf (fld w 9 5 == 0) (.vrsqrt (bitAt w 30) (BitVec.ofNat 5 (fld w 19 5)) (BitVec.ofNat 5 (fld w 14 5)) (BitVec.ofNat 3 (fld w 6 3)) (BitVec.ofNat 3 (fld w 0 3)))
  | 4 => rowOf (fld w 9 5 == 0) (.vsqrt (bitAt w 30) (BitVec.ofNat 5 (fld w 19 5)) (BitVec.ofNat 5 (fld w 14 5)) (BitVec.ofNat 3 (fld w 6 3)) (BitVec.ofNat 3 (fld w 0 3)))
  | 5 => rowOf (fld w 9 5 == 0) (.vtanh (bitAt w 30) (BitVec.ofNat 5 (fld w 19 5)) (BitVec.ofNat 5 (fld w 14 5)) (BitVec.ofNat 3 (fld w 6 3)) (BitVec.ofNat 3 (fld w 0 3)))
  | 6 => rowOf (fld w 9 5 == 0) (.vsigm (bitAt w 30) (BitVec.ofNat 5 (fld w 19 5)) (BitVec.ofNat 5 (fld w 14 5)) (BitVec.ofNat 3 (fld w 6 3)) (BitVec.ofNat 3 (fld w 0 3)))
  | 7 => rowOf (fld w 9 5 == 0) (.vgelu (bitAt w 30) (BitVec.ofNat 5 (fld w 19 5)) (BitVec.ofNat 5 (fld w 14 5)) (BitVec.ofNat 3 (fld w 6 3)) (BitVec.ofNat 3 (fld w 0 3)))
  | _ => .illegal

/-- A-class major 0x13 (R53): MAND, MOR, MXOR, MANDN, MNOT, MFIRST, MFROMX, MTOX. -/
noncomputable def decodeA13 (w : Nat) : Decoded :=
  match fld w 0 3 with
  | 0 => rowOf (fld w 3 6 == 0) (.mand (bitAt w 30) (BitVec.ofNat 5 (fld w 19 5)) (BitVec.ofNat 5 (fld w 14 5)) (BitVec.ofNat 5 (fld w 9 5)))
  | 1 => rowOf (fld w 3 6 == 0) (.mor (bitAt w 30) (BitVec.ofNat 5 (fld w 19 5)) (BitVec.ofNat 5 (fld w 14 5)) (BitVec.ofNat 5 (fld w 9 5)))
  | 2 => rowOf (fld w 3 6 == 0) (.mxor (bitAt w 30) (BitVec.ofNat 5 (fld w 19 5)) (BitVec.ofNat 5 (fld w 14 5)) (BitVec.ofNat 5 (fld w 9 5)))
  | 3 => rowOf (fld w 3 6 == 0) (.mandn (bitAt w 30) (BitVec.ofNat 5 (fld w 19 5)) (BitVec.ofNat 5 (fld w 14 5)) (BitVec.ofNat 5 (fld w 9 5)))
  | 4 => rowOf (fld w 3 11 == 0) (.mnot (bitAt w 30) (BitVec.ofNat 5 (fld w 19 5)) (BitVec.ofNat 5 (fld w 14 5)))
  | 5 => rowOf (fld w 3 11 == 0) (.mfirst (bitAt w 30) (BitVec.ofNat 5 (fld w 19 5)) (BitVec.ofNat 5 (fld w 14 5)))
  | 6 => rowOf (fld w 3 11 == 0) (.mfromx (bitAt w 30) (BitVec.ofNat 5 (fld w 19 5)) (BitVec.ofNat 5 (fld w 14 5)))
  | 7 => rowOf (fld w 3 11 == 0) (.mtox (bitAt w 30) (BitVec.ofNat 5 (fld w 19 5)) (BitVec.ofNat 5 (fld w 14 5)))
  | _ => .illegal

/-- A-class major 0x14 (R53): MMA_H. -/
noncomputable def decodeA14 (w : Nat) : Decoded :=
  rowOf (fld w 0 2 == 0) (.mmaH (bitAt w 30) (BitVec.ofNat 2 (fld w 22 2)) (bitAt w 21) (bitAt w 20) (BitVec.ofNat 5 (fld w 15 5)) (BitVec.ofNat 5 (fld w 10 5)) (BitVec.ofNat 5 (fld w 5 5)) (BitVec.ofNat 3 (fld w 2 3)))

/-- A-class major 0x15 (R53): MMA_B. -/
noncomputable def decodeA15 (w : Nat) : Decoded :=
  rowOf (fld w 0 2 == 0) (.mmaB (bitAt w 30) (BitVec.ofNat 2 (fld w 22 2)) (bitAt w 21) (bitAt w 20) (BitVec.ofNat 5 (fld w 15 5)) (BitVec.ofNat 5 (fld w 10 5)) (BitVec.ofNat 5 (fld w 5 5)) (BitVec.ofNat 3 (fld w 2 3)))

/-- A-class major 0x16 (R53): MMA_T8. -/
noncomputable def decodeA16 (w : Nat) : Decoded :=
  rowOf (fld w 0 2 == 0) (.mmaT8 (bitAt w 30) (BitVec.ofNat 2 (fld w 22 2)) (bitAt w 21) (bitAt w 20) (BitVec.ofNat 5 (fld w 15 5)) (BitVec.ofNat 5 (fld w 10 5)) (BitVec.ofNat 5 (fld w 5 5)) (BitVec.ofNat 3 (fld w 2 3)))

/-- A-class major 0x17 (R53): MMA_T84. -/
noncomputable def decodeA17 (w : Nat) : Decoded :=
  rowOf (fld w 0 2 == 0) (.mmaT84 (bitAt w 30) (BitVec.ofNat 2 (fld w 22 2)) (bitAt w 21) (bitAt w 20) (BitVec.ofNat 5 (fld w 15 5)) (BitVec.ofNat 5 (fld w 10 5)) (BitVec.ofNat 5 (fld w 5 5)) (BitVec.ofNat 3 (fld w 2 3)))

/-- A-class major 0x18 (R53): MMA_T4. -/
noncomputable def decodeA18 (w : Nat) : Decoded :=
  rowOf (fld w 0 2 == 0) (.mmaT4 (bitAt w 30) (BitVec.ofNat 2 (fld w 22 2)) (bitAt w 21) (bitAt w 20) (BitVec.ofNat 5 (fld w 15 5)) (BitVec.ofNat 5 (fld w 10 5)) (BitVec.ofNat 5 (fld w 5 5)) (BitVec.ofNat 3 (fld w 2 3)))

/-- A-class major 0x19 (R53): MMA_I8. -/
noncomputable def decodeA19 (w : Nat) : Decoded :=
  rowOf (fld w 0 1 == 0 && fld w 2 8 == 0) (.mmaI8 (bitAt w 30) (BitVec.ofNat 2 (fld w 22 2)) (bitAt w 21) (bitAt w 20) (BitVec.ofNat 5 (fld w 15 5)) (BitVec.ofNat 5 (fld w 10 5)) (bitAt w 1))

/-- A-class major 0x1A (R53): MZERO, MEDGE, MROWR, MROWW. -/
noncomputable def decodeA1A (w : Nat) : Decoded :=
  match fld w 3 6 with
  | 0 => rowOf (fld w 0 3 == 0 && fld w 9 10 == 0) (.mzero (bitAt w 30) (BitVec.ofNat 5 (fld w 19 5)))
  | 1 => rowOf (fld w 0 2 == 0 && fld w 9 5 == 0 && fld w 19 5 == 0) (.medge (bitAt w 30) (BitVec.ofNat 5 (fld w 14 5)) (bitAt w 2))
  | 2 => rowOf (fld w 0 1 == 0 && fld w 2 1 == 0) (.mrowr (bitAt w 30) (BitVec.ofNat 5 (fld w 19 5)) (BitVec.ofNat 5 (fld w 14 5)) (BitVec.ofNat 5 (fld w 9 5)) (bitAt w 1))
  | 3 => rowOf (fld w 0 1 == 0) (.mroww (bitAt w 30) (BitVec.ofNat 5 (fld w 19 5)) (BitVec.ofNat 5 (fld w 14 5)) (BitVec.ofNat 5 (fld w 9 5)) (bitAt w 2) (bitAt w 1))
  | _ => .illegal

/-- A-class major 0x1B (R53): HBIND, HPERM, HNOT, HMOV. -/
noncomputable def decodeA1B (w : Nat) : Decoded :=
  match fld w 13 2 with
  | 0 => rowOf (fld w 0 12 == 0) (.hbind (bitAt w 30) (BitVec.ofNat 3 (fld w 21 3)) (BitVec.ofNat 3 (fld w 18 3)) (BitVec.ofNat 3 (fld w 15 3)) (bitAt w 12))
  | 1 => rowOf (fld w 15 3 == 0) (.hperm (bitAt w 30) (BitVec.ofNat 3 (fld w 21 3)) (BitVec.ofNat 3 (fld w 18 3)) (bitAt w 12) (BitVec.ofNat 12 (fld w 0 12)))
  | 2 => rowOf (fld w 0 12 == 0 && fld w 15 3 == 0) (.hnot (bitAt w 30) (BitVec.ofNat 3 (fld w 21 3)) (BitVec.ofNat 3 (fld w 18 3)) (bitAt w 12))
  | 3 => rowOf (fld w 0 12 == 0 && fld w 15 3 == 0) (.hmov (bitAt w 30) (BitVec.ofNat 3 (fld w 21 3)) (BitVec.ofNat 3 (fld w 18 3)) (bitAt w 12))
  | _ => .illegal

/-- A-class major 0x1C (R53): HBUNDLE, HCLR, HTHR. -/
noncomputable def decodeA1C (w : Nat) : Decoded :=
  match fld w 10 2 with
  | 0 => rowOf (fld w 0 10 == 0 && fld w 15 3 == 0 && fld w 21 3 == 0) (.hbundle (bitAt w 30) (BitVec.ofNat 3 (fld w 18 3)) (BitVec.ofNat 2 (fld w 13 2)) (bitAt w 12))
  | 1 => rowOf (fld w 0 10 == 0 && fld w 12 1 == 0 && fld w 15 9 == 0) (.hclr (bitAt w 30) (BitVec.ofNat 2 (fld w 13 2)))
  | 2 => rowOf (fld w 0 10 == 0 && fld w 15 3 == 0) (.hthr (bitAt w 30) (BitVec.ofNat 3 (fld w 21 3)) (BitVec.ofNat 3 (fld w 18 3)) (BitVec.ofNat 2 (fld w 13 2)) (bitAt w 12))
  | _ => .illegal

/-- A-class major 0x1D (R53): HDIST, HPOP. -/
noncomputable def decodeA1D (w : Nat) : Decoded :=
  match fld w 10 2 with
  | 0 => rowOf (fld w 5 5 == 0 && fld w 13 2 == 0 && fld w 21 3 == 0) (.hdist (bitAt w 30) (BitVec.ofNat 3 (fld w 18 3)) (BitVec.ofNat 3 (fld w 15 3)) (bitAt w 12) (BitVec.ofNat 5 (fld w 0 5)))
  | 1 => rowOf (fld w 5 5 == 0 && fld w 13 5 == 0 && fld w 21 3 == 0) (.hpop (bitAt w 30) (BitVec.ofNat 3 (fld w 18 3)) (bitAt w 12) (BitVec.ofNat 5 (fld w 0 5)))
  | _ => .illegal

/-- A-class major 0x1E (R53): NOISE, CHASH, CHASH_LD, CHASH_ST, HRAND, RSEED, RBITS. -/
noncomputable def decodeA1E (w : Nat) : Decoded :=
  match fld w 0 6 with
  | 0 | 8 | 16 | 24 | 32 | 40 | 48 | 56 => rowOf (fld w 3 3 == 0) (.noise (bitAt w 30) (BitVec.ofNat 5 (fld w 19 5)) (BitVec.ofNat 5 (fld w 14 5)) (BitVec.ofNat 5 (fld w 9 5)) (BitVec.ofNat 3 (fld w 6 3)))
  | 1 => rowOf (fld w 6 3 == 0) (.chash (bitAt w 30) (BitVec.ofNat 5 (fld w 19 5)) (BitVec.ofNat 5 (fld w 14 5)) (BitVec.ofNat 5 (fld w 9 5)))
  | 9 => rowOf (fld w 6 3 == 0 && fld w 14 5 == 0) (.chashLd (bitAt w 30) (BitVec.ofNat 5 (fld w 19 5)) (BitVec.ofNat 5 (fld w 9 5)))
  | 17 => rowOf (fld w 6 3 == 0 && fld w 19 5 == 0) (.chashSt (bitAt w 30) (BitVec.ofNat 5 (fld w 14 5)) (BitVec.ofNat 5 (fld w 9 5)))
  | 2 | 10 | 18 | 26 | 34 | 42 | 50 | 58 => rowOf (fld w 3 11 == 0 && fld w 22 2 == 0) (.hrand (bitAt w 30) (BitVec.ofNat 3 (fld w 19 3)) (BitVec.ofNat 5 (fld w 14 5)))
  | 3 | 11 | 19 | 27 | 35 | 43 | 51 | 59 => rowOf (fld w 3 11 == 0 && fld w 19 5 == 0) (.rseed (bitAt w 30) (BitVec.ofNat 5 (fld w 14 5)))
  | 4 | 12 | 20 | 28 | 36 | 44 | 52 | 60 => rowOf (fld w 3 16 == 0) (.rbits (bitAt w 30) (BitVec.ofNat 5 (fld w 19 5)))
  | 25 | 33 | 41 | 49 | 57 => .reserved
  | _ => .illegal

/-- A C-class word (R51). -/
def decodeC (w : Nat) : Decoded :=
  match fld w 23 6 with
  | 0 => decodeC00 w
  | 1 => decodeC01 w
  | 2 => decodeC02 w
  | 3 => decodeC03 w
  | 4 => decodeC04 w
  | 5 => decodeC05 w
  | 6 => decodeC06 w
  | 7 => decodeC07 w
  | 8 => decodeC08 w
  | 9 => decodeC09 w
  | 10 => decodeC0A w
  | 11 => decodeC0B w
  | 12 => decodeC0C w
  | 13 => decodeC0D w
  | 14 => decodeC0E w
  | 15 => decodeC0F w
  | 16 => decodeC10 w
  | 17 => decodeC11 w
  | 18 => decodeC12 w
  | 19 => decodeC13 w
  | 20 => decodeC14 w
  | 21 => decodeC15 w
  | 22 => decodeC16 w
  | 23 => decodeC17 w
  | 24 => decodeC18 w
  | 25 => decodeC19 w
  | 26 => decodeC1A w
  | 27 => decodeC1B w
  | 28 => decodeC1C w
  | 29 => decodeC1D w
  | 30 => decodeC1E w
  | 31 => decodeC1F w
  | 32 => decodeC20 w
  | 33 => decodeC21 w
  | 34 => decodeC22 w
  | 35 => decodeC23 w
  | 36 => decodeC24 w
  | 37 => decodeC25 w
  | _ => .reserved

/-- An A-class word of the majors 0x00 to 0x10 (R53). -/
def decodeALow (w : Nat) : Decoded :=
  match fld w 24 6 with
  | 0 => decodeA00 w
  | 1 => decodeA01 w
  | 2 => decodeA02 w
  | 3 => decodeA03 w
  | 4 => decodeA04 w
  | 6 => decodeA06 w
  | 5 => decodeA05 w
  | 7 => decodeA07 w
  | 8 => decodeA08 w
  | 9 => decodeA09 w
  | 10 => decodeA0A w
  | 11 => decodeA0B w
  | 12 => decodeA0C w
  | 13 => decodeA0D w
  | 14 => decodeA0E w
  | 15 => decodeA0F w
  | 16 => decodeA10 w
  | _ => .reserved

/-- An A-class word of the majors from 0x11 on (R53). -/
noncomputable def decodeAHigh (w : Nat) : Decoded :=
  match fld w 24 6 with
  | 17 => decodeA11 w
  | 18 => decodeA12 w
  | 19 => decodeA13 w
  | 20 => decodeA14 w
  | 21 => decodeA15 w
  | 22 => decodeA16 w
  | 23 => decodeA17 w
  | 24 => decodeA18 w
  | 25 => decodeA19 w
  | 26 => decodeA1A w
  | 27 => decodeA1B w
  | 28 => decodeA1C w
  | 29 => decodeA1D w
  | 30 => decodeA1E w
  | _ => .reserved

/-- The instruction of a 32-bit word, or the trap its decoding raises (R38, R45, R50 to R55). -/
noncomputable def decodeWord (w : Nat) : Decoded :=
  if bitAt w 31 then (if fld w 24 6 < 17 then decodeALow w else decodeAHigh w) else decodeC w

/-- Whether the word is of the A class (R38). -/
def isA (w : Nat) : Bool := bitAt w 31

/-- The LONE bit of a C word (R38). -/
def isLone (w : Nat) : Bool := bitAt w 29

/-- Whether the major of the word is one of the reserved majors (R45 row 2, R51, R53). -/
def reservedMajor (w : Nat) : Bool :=
  if isA w then decide (31 ≤ fld w 24 6) else decide (38 ≤ fld w 23 6)

/-- A word with each field value put at its lowest bit. -/
def place (base : Nat) : List (Nat × Nat) → Nat
  | [] => base
  | (lo, v) :: t => 2 ^ lo * v + place base t

/-- The word of an instruction, by R51 to R54. An event has no word; it is given the all-zero word, which is
illegal (R55). -/
def encode : Instr → Nat
  | .nop s l => place 1 [(30, b2n s), (29, b2n l)]
  | .halt s l => place 2 [(30, b2n s), (29, b2n l)]
  | .ecall s l => place 3 [(30, b2n s), (29, b2n l)]
  | .ebreak s l => place 4 [(30, b2n s), (29, b2n l)]
  | .hret s l => place 5 [(30, b2n s), (29, b2n l)]
  | .yield s l => place 6 [(30, b2n s), (29, b2n l)]
  | .csrr s l d c => place 8388608 [(30, b2n s), (29, b2n l), (18, d.toNat), (0, c.toNat)]
  | .csrw s l d a c => place 8390656 [(30, b2n s), (29, b2n l), (18, d.toNat), (13, a.toNat), (0, c.toNat)]
  | .csrs s l d a c => place 8392704 [(30, b2n s), (29, b2n l), (18, d.toNat), (13, a.toNat), (0, c.toNat)]
  | .csrc s l d a c => place 8394752 [(30, b2n s), (29, b2n l), (18, d.toNat), (13, a.toNat), (0, c.toNat)]
  | .beq s l a b o => place 16777216 [(30, b2n s), (29, b2n l), (18, a.toNat), (13, b.toNat), (0, o.toNat)]
  | .bne s l a b o => place 16781312 [(30, b2n s), (29, b2n l), (18, a.toNat), (13, b.toNat), (0, o.toNat)]
  | .blt s l a b o => place 25165824 [(30, b2n s), (29, b2n l), (18, a.toNat), (13, b.toNat), (0, o.toNat)]
  | .bge s l a b o => place 25169920 [(30, b2n s), (29, b2n l), (18, a.toNat), (13, b.toNat), (0, o.toNat)]
  | .bltu s l a b o => place 33554432 [(30, b2n s), (29, b2n l), (18, a.toNat), (13, b.toNat), (0, o.toNat)]
  | .bgeu s l a b o => place 33558528 [(30, b2n s), (29, b2n l), (18, a.toNat), (13, b.toNat), (0, o.toNat)]
  | .bmskAny s l k o => place 41943040 [(30, b2n s), (29, b2n l), (18, k.toNat), (0, o.toNat)]
  | .bmskNone s l k o => place 41947136 [(30, b2n s), (29, b2n l), (18, k.toNat), (0, o.toNat)]
  | .bmskAll s l k o => place 44040192 [(30, b2n s), (29, b2n l), (18, k.toNat), (0, o.toNat)]
  | .bmskNall s l k o => place 44044288 [(30, b2n s), (29, b2n l), (18, k.toNat), (0, o.toNat)]
  | .jal s l d o => place 50331648 [(30, b2n s), (29, b2n l), (18, d.toNat), (0, o.toNat)]
  | .jalr s l d a t i => place 58720256 [(30, b2n s), (29, b2n l), (18, d.toNat), (13, a.toNat), (12, b2n t), (0, i.toNat)]
  | .loop s l n a t i => place 67108864 [(30, b2n s), (29, b2n l), (18, b2n n), (13, a.toNat), (12, b2n t), (0, i.toNat)]
  | .rep s l a t i => place 75497472 [(30, b2n s), (29, b2n l), (13, a.toNat), (12, b2n t), (0, i.toNat)]
  | .ldg s l d a o z w e => place 83886080 [(30, b2n s), (29, b2n l), (18, d.toNat), (13, a.toNat), (5, o.toNat), (3, z.toNat), (1, w.toNat), (0, b2n e)]
  | .stg s l d a o z w t => place 92274688 [(30, b2n s), (29, b2n l), (18, d.toNat), (13, a.toNat), (5, o.toNat), (3, z.toNat), (1, w.toNat), (0, b2n t)]
  | .lds s l d a o z w e => place 100663296 [(30, b2n s), (29, b2n l), (18, d.toNat), (13, a.toNat), (5, o.toNat), (3, z.toNat), (1, w.toNat), (0, b2n e)]
  | .sts s l d a o z w t => place 109051904 [(30, b2n s), (29, b2n l), (18, d.toNat), (13, a.toNat), (5, o.toNat), (3, z.toNat), (1, w.toNat), (0, b2n t)]
  | .ldw s l d a o z w e => place 117440512 [(30, b2n s), (29, b2n l), (18, d.toNat), (13, a.toNat), (5, o.toNat), (3, z.toNat), (1, w.toNat), (0, b2n e)]
  | .stw s l d a o z w t => place 125829120 [(30, b2n s), (29, b2n l), (18, d.toNat), (13, a.toNat), (5, o.toNat), (3, z.toNat), (1, w.toNat), (0, b2n t)]
  | .vldg s l d a o z w => place 134217728 [(30, b2n s), (29, b2n l), (18, d.toNat), (13, a.toNat), (5, o.toNat), (3, z.toNat), (1, w.toNat)]
  | .vstg s l d a o z w t => place 142606336 [(30, b2n s), (29, b2n l), (18, d.toNat), (13, a.toNat), (5, o.toNat), (3, z.toNat), (1, w.toNat), (0, b2n t)]
  | .vlds s l d a o z w => place 150994944 [(30, b2n s), (29, b2n l), (18, d.toNat), (13, a.toNat), (5, o.toNat), (3, z.toNat), (1, w.toNat)]
  | .vsts s l d a o z w t => place 159383552 [(30, b2n s), (29, b2n l), (18, d.toNat), (13, a.toNat), (5, o.toNat), (3, z.toNat), (1, w.toNat), (0, b2n t)]
  | .vgath s l d a b t u p m => place 167772160 [(30, b2n s), (29, b2n l), (18, d.toNat), (13, a.toNat), (8, b.toNat), (7, b2n t), (6, b2n u), (3, p.toNat), (0, m.toNat)]
  | .vscat s l d a b t u p m => place 167772192 [(30, b2n s), (29, b2n l), (18, d.toNat), (13, a.toNat), (8, b.toNat), (7, b2n t), (6, b2n u), (3, p.toNat), (0, m.toNat)]
  | .ldo s l d a z e o c => place 176160768 [(30, b2n s), (29, b2n l), (18, d.toNat), (13, a.toNat), (5, z.toNat), (4, b2n e), (2, o.toNat), (0, c.toNat)]
  | .sto s l a b z o c => place 176160896 [(30, b2n s), (29, b2n l), (13, a.toNat), (8, b.toNat), (5, z.toNat), (2, o.toNat), (0, c.toNat)]
  | .amoSwap s l d a b z o c => place 184549376 [(30, b2n s), (29, b2n l), (18, d.toNat), (13, a.toNat), (8, b.toNat), (4, b2n z), (2, o.toNat), (0, c.toNat)]
  | .amoAdd s l d a b z o c => place 184549408 [(30, b2n s), (29, b2n l), (18, d.toNat), (13, a.toNat), (8, b.toNat), (4, b2n z), (2, o.toNat), (0, c.toNat)]
  | .amoAnd s l d a b z o c => place 184549440 [(30, b2n s), (29, b2n l), (18, d.toNat), (13, a.toNat), (8, b.toNat), (4, b2n z), (2, o.toNat), (0, c.toNat)]
  | .amoOr s l d a b z o c => place 184549472 [(30, b2n s), (29, b2n l), (18, d.toNat), (13, a.toNat), (8, b.toNat), (4, b2n z), (2, o.toNat), (0, c.toNat)]
  | .amoXor s l d a b z o c => place 184549504 [(30, b2n s), (29, b2n l), (18, d.toNat), (13, a.toNat), (8, b.toNat), (4, b2n z), (2, o.toNat), (0, c.toNat)]
  | .amoMax s l d a b z o c => place 184549536 [(30, b2n s), (29, b2n l), (18, d.toNat), (13, a.toNat), (8, b.toNat), (4, b2n z), (2, o.toNat), (0, c.toNat)]
  | .amoMin s l d a b z o c => place 184549568 [(30, b2n s), (29, b2n l), (18, d.toNat), (13, a.toNat), (8, b.toNat), (4, b2n z), (2, o.toNat), (0, c.toNat)]
  | .amoMaxu s l d a b z o c => place 184549600 [(30, b2n s), (29, b2n l), (18, d.toNat), (13, a.toNat), (8, b.toNat), (4, b2n z), (2, o.toNat), (0, c.toNat)]
  | .amoxMinu s l d a b z o c => place 192937984 [(30, b2n s), (29, b2n l), (18, d.toNat), (13, a.toNat), (8, b.toNat), (4, b2n z), (2, o.toNat), (0, c.toNat)]
  | .amoxCas s l d a b z o c => place 192938016 [(30, b2n s), (29, b2n l), (18, d.toNat), (13, a.toNat), (8, b.toNat), (4, b2n z), (2, o.toNat), (0, c.toNat)]
  | .amoxFadd s l d a b o c => place 192938048 [(30, b2n s), (29, b2n l), (18, d.toNat), (13, a.toNat), (8, b.toNat), (2, o.toNat), (0, c.toNat)]
  | .amoxFmin s l d a b o c => place 192938080 [(30, b2n s), (29, b2n l), (18, d.toNat), (13, a.toNat), (8, b.toNat), (2, o.toNat), (0, c.toNat)]
  | .amoxFmax s l d a b o c => place 192938112 [(30, b2n s), (29, b2n l), (18, d.toNat), (13, a.toNat), (8, b.toNat), (2, o.toNat), (0, c.toNat)]
  | .fence s l o c => place 201326592 [(30, b2n s), (29, b2n l), (2, o.toNat), (0, c.toNat)]
  | .waitc s l c => place 201326608 [(30, b2n s), (29, b2n l), (0, c.toNat)]
  | .waita s l d a b t u z c => place 201326624 [(30, b2n s), (29, b2n l), (18, d.toNat), (13, a.toNat), (8, b.toNat), (7, b2n t), (6, b2n u), (2, b2n z), (0, c.toNat)]
  | .qbind s l d a t => place 209715200 [(30, b2n s), (29, b2n l), (18, d.toNat), (13, a.toNat), (7, b2n t)]
  | .qunbind s l d => place 209715201 [(30, b2n s), (29, b2n l), (18, d.toNat)]
  | .ttrun s l d a t => place 209715202 [(30, b2n s), (29, b2n l), (18, d.toNat), (13, a.toNat), (7, b2n t)]
  | .send s l a b t u z => place 209715208 [(30, b2n s), (29, b2n l), (13, a.toNat), (8, b.toNat), (7, b2n t), (6, b2n u), (0, z.toNat)]
  | .qnew s l d c => place 209715216 [(30, b2n s), (29, b2n l), (18, d.toNat), (0, c.toNat)]
  | .cbrAny s l a h o => place 218103808 [(30, b2n s), (29, b2n l), (18, a.toNat), (15, h.toNat), (0, o.toNat)]
  | .cbrAll s l a h o => place 218112000 [(30, b2n s), (29, b2n l), (18, a.toNat), (15, h.toNat), (0, o.toNat)]
  | .cbrMaj s l a h o => place 218120192 [(30, b2n s), (29, b2n l), (18, a.toNat), (15, h.toNat), (0, o.toNat)]
  | .colxJoin s l d a b t u => place 226492416 [(30, b2n s), (29, b2n l), (18, d.toNat), (13, a.toNat), (8, b.toNat), (7, b2n t), (6, b2n u)]
  | .colxLeave s l => place 226492417 [(30, b2n s), (29, b2n l)]
  | .sptCpy s l d a t => place 234881024 [(30, b2n s), (29, b2n l), (18, d.toNat), (13, a.toNat), (7, b2n t)]
  | .sptCan s l d a t => place 234881025 [(30, b2n s), (29, b2n l), (18, d.toNat), (13, a.toNat), (7, b2n t)]
  | .sptPoll s l d a t => place 234881026 [(30, b2n s), (29, b2n l), (18, d.toNat), (13, a.toNat), (7, b2n t)]
  | .barInit s l a b t u => place 243269632 [(30, b2n s), (29, b2n l), (13, a.toNat), (8, b.toNat), (7, b2n t), (6, b2n u)]
  | .barExp s l a b t u => place 243269633 [(30, b2n s), (29, b2n l), (13, a.toNat), (8, b.toNat), (7, b2n t), (6, b2n u)]
  | .barArv s l d a t => place 243269634 [(30, b2n s), (29, b2n l), (18, d.toNat), (13, a.toNat), (7, b2n t)]
  | .barWt s l d a b t u => place 243269635 [(30, b2n s), (29, b2n l), (18, d.toNat), (13, a.toNat), (8, b.toNat), (7, b2n t), (6, b2n u)]
  | .mclaim s l d a t => place 251658240 [(30, b2n s), (29, b2n l), (18, d.toNat), (13, a.toNat), (7, b2n t)]
  | .mrel s l a t => place 251658241 [(30, b2n s), (29, b2n l), (13, a.toNat), (7, b2n t)]
  | .mld s l d a b t u c p => place 251658248 [(30, b2n s), (29, b2n l), (18, d.toNat), (13, a.toNat), (8, b.toNat), (7, b2n t), (6, b2n u), (2, b2n c), (0, p.toNat)]
  | .mstF32 s l n a b t u m p => place 251658256 [(30, b2n s), (29, b2n l), (18, n.toNat), (13, a.toNat), (8, b.toNat), (7, b2n t), (6, b2n u), (2, b2n m), (0, p.toNat)]
  | .mstH s l n a b t u m p => place 251658264 [(30, b2n s), (29, b2n l), (18, n.toNat), (13, a.toNat), (8, b.toNat), (7, b2n t), (6, b2n u), (2, b2n m), (0, p.toNat)]
  | .mstB s l n a b t u m p => place 251658272 [(30, b2n s), (29, b2n l), (18, n.toNat), (13, a.toNat), (8, b.toNat), (7, b2n t), (6, b2n u), (2, b2n m), (0, p.toNat)]
  | .mdrain s l n a b t u => place 251658280 [(30, b2n s), (29, b2n l), (18, n.toNat), (13, a.toNat), (8, b.toNat), (7, b2n t), (6, b2n u)]
  | .ctld s l a t p n => place 251658288 [(30, b2n s), (29, b2n l), (13, a.toNat), (7, b2n t), (1, b2n p), (0, b2n n)]
  | .hldG s l h a t => place 260046848 [(30, b2n s), (29, b2n l), (18, h.toNat), (13, a.toNat), (7, b2n t)]
  | .hldS s l h a t => place 260046849 [(30, b2n s), (29, b2n l), (18, h.toNat), (13, a.toNat), (7, b2n t)]
  | .hstG s l a h t u => place 260046850 [(30, b2n s), (29, b2n l), (13, a.toNat), (8, h.toNat), (7, b2n t), (6, b2n u)]
  | .hstS s l a h t u => place 260046851 [(30, b2n s), (29, b2n l), (13, a.toNat), (8, h.toNat), (7, b2n t), (6, b2n u)]
  | .podw s l a h t u => place 260046852 [(30, b2n s), (29, b2n l), (13, a.toNat), (8, h.toNat), (7, b2n t), (6, b2n u)]
  | .pods s l d h u => place 260046853 [(30, b2n s), (29, b2n l), (18, d.toNat), (8, h.toNat), (6, b2n u)]
  | .podr s l h a t => place 260046854 [(30, b2n s), (29, b2n l), (18, h.toNat), (13, a.toNat), (7, b2n t)]
  | .sspawn s l d a t => place 268435456 [(30, b2n s), (29, b2n l), (18, d.toNat), (13, a.toNat), (7, b2n t)]
  | .sfork s l d a t => place 268435457 [(30, b2n s), (29, b2n l), (18, d.toNat), (13, a.toNat), (7, b2n t)]
  | .snext s l a b t u => place 268435458 [(30, b2n s), (29, b2n l), (13, a.toNat), (8, b.toNat), (7, b2n t), (6, b2n u)]
  | .sret s l a b t u => place 268435459 [(30, b2n s), (29, b2n l), (13, a.toNat), (8, b.toNat), (7, b2n t), (6, b2n u)]
  | .sretire s l a t => place 268435460 [(30, b2n s), (29, b2n l), (13, a.toNat), (7, b2n t)]
  | .sretireSub s l a t => place 268435461 [(30, b2n s), (29, b2n l), (13, a.toNat), (7, b2n t)]
  | .smig s l d a b t u => place 268435462 [(30, b2n s), (29, b2n l), (18, d.toNat), (13, a.toNat), (8, b.toNat), (7, b2n t), (6, b2n u)]
  | .sinfeas s l a t => place 268435463 [(30, b2n s), (29, b2n l), (13, a.toNat), (7, b2n t)]
  | .sapush s l d a b t u => place 268435464 [(30, b2n s), (29, b2n l), (18, d.toNat), (13, a.toNat), (8, b.toNat), (7, b2n t), (6, b2n u)]
  | .sapop s l d a t => place 268435465 [(30, b2n s), (29, b2n l), (18, d.toNat), (13, a.toNat), (7, b2n t)]
  | .sstat s l d a t => place 268435466 [(30, b2n s), (29, b2n l), (18, d.toNat), (13, a.toNat), (7, b2n t)]
  | .spin s l a b t u => place 268435467 [(30, b2n s), (29, b2n l), (13, a.toNat), (8, b.toNat), (7, b2n t), (6, b2n u)]
  | .sunpin s l a b t u => place 268435468 [(30, b2n s), (29, b2n l), (13, a.toNat), (8, b.toNat), (7, b2n t), (6, b2n u)]
  | .jopen s l d a b t u => place 276824064 [(30, b2n s), (29, b2n l), (18, d.toNat), (13, a.toNat), (8, b.toNat), (7, b2n t), (6, b2n u)]
  | .jwait s l d a t => place 276824065 [(30, b2n s), (29, b2n l), (18, d.toNat), (13, a.toNat), (7, b2n t)]
  | .jpoll s l d a b t u => place 276824066 [(30, b2n s), (29, b2n l), (18, d.toNat), (13, a.toNat), (8, b.toNat), (7, b2n t), (6, b2n u)]
  | .jclose s l a b t u => place 276824067 [(30, b2n s), (29, b2n l), (13, a.toNat), (8, b.toNat), (7, b2n t), (6, b2n u)]
  | .wopen s l d a t => place 285212672 [(30, b2n s), (29, b2n l), (18, d.toNat), (13, a.toNat), (7, b2n t)]
  | .wsumI s l a b t u => place 285212673 [(30, b2n s), (29, b2n l), (13, a.toNat), (8, b.toNat), (7, b2n t), (6, b2n u)]
  | .wsumF s l a b t u => place 285212674 [(30, b2n s), (29, b2n l), (13, a.toNat), (8, b.toNat), (7, b2n t), (6, b2n u)]
  | .wmaxvI s l a b t u => place 285212675 [(30, b2n s), (29, b2n l), (13, a.toNat), (8, b.toNat), (7, b2n t), (6, b2n u)]
  | .wmaxvF s l a b t u => place 285212676 [(30, b2n s), (29, b2n l), (13, a.toNat), (8, b.toNat), (7, b2n t), (6, b2n u)]
  | .wminvI s l a b t u => place 285212677 [(30, b2n s), (29, b2n l), (13, a.toNat), (8, b.toNat), (7, b2n t), (6, b2n u)]
  | .wminvF s l a b t u => place 285212678 [(30, b2n s), (29, b2n l), (13, a.toNat), (8, b.toNat), (7, b2n t), (6, b2n u)]
  | .wmax s l a b t u => place 285212679 [(30, b2n s), (29, b2n l), (13, a.toNat), (8, b.toNat), (7, b2n t), (6, b2n u)]
  | .replay s l d a t => place 293601280 [(30, b2n s), (29, b2n l), (18, d.toNat), (13, a.toNat), (7, b2n t)]
  | .tlbinv s l a b t u => place 293601281 [(30, b2n s), (29, b2n l), (13, a.toNat), (8, b.toNat), (7, b2n t), (6, b2n u)]
  | .cflip s l a t => place 293601282 [(30, b2n s), (29, b2n l), (13, a.toNat), (7, b2n t)]
  | .mtrd s l d a b t u => place 293601283 [(30, b2n s), (29, b2n l), (18, d.toNat), (13, a.toNat), (8, b.toNat), (7, b2n t), (6, b2n u)]
  | .lui s l d k => place 301989888 [(30, b2n s), (29, b2n l), (18, d.toNat), (0, k.toNat)]
  | .luiSh s l d k => place 302055424 [(30, b2n s), (29, b2n l), (18, d.toNat), (0, k.toNat)]
  | .lnch s l d a t => place 310378496 [(30, b2n s), (29, b2n l), (18, d.toNat), (13, a.toNat), (7, b2n t)]
  | .lnchPoll s l d a t => place 310378497 [(30, b2n s), (29, b2n l), (18, d.toNat), (13, a.toNat), (7, b2n t)]
  | .lnchWait s l d a t => place 310378498 [(30, b2n s), (29, b2n l), (18, d.toNat), (13, a.toNat), (7, b2n t)]
  | .add s d a b t u x => place 2147483648 [(30, b2n s), (19, d.toNat), (14, a.toNat), (9, b.toNat), (2, b2n t), (1, b2n u), (0, b2n x)]
  | .sub s d a b t u x => place 2147483656 [(30, b2n s), (19, d.toNat), (14, a.toNat), (9, b.toNat), (2, b2n t), (1, b2n u), (0, b2n x)]
  | .and s d a b t u x => place 2147483664 [(30, b2n s), (19, d.toNat), (14, a.toNat), (9, b.toNat), (2, b2n t), (1, b2n u), (0, b2n x)]
  | .or s d a b t u x => place 2147483672 [(30, b2n s), (19, d.toNat), (14, a.toNat), (9, b.toNat), (2, b2n t), (1, b2n u), (0, b2n x)]
  | .xor s d a b t u x => place 2147483680 [(30, b2n s), (19, d.toNat), (14, a.toNat), (9, b.toNat), (2, b2n t), (1, b2n u), (0, b2n x)]
  | .andn s d a b t u x => place 2147483688 [(30, b2n s), (19, d.toNat), (14, a.toNat), (9, b.toNat), (2, b2n t), (1, b2n u), (0, b2n x)]
  | .sll s d a b t u x => place 2147483696 [(30, b2n s), (19, d.toNat), (14, a.toNat), (9, b.toNat), (2, b2n t), (1, b2n u), (0, b2n x)]
  | .srl s d a b t u x => place 2147483704 [(30, b2n s), (19, d.toNat), (14, a.toNat), (9, b.toNat), (2, b2n t), (1, b2n u), (0, b2n x)]
  | .sra s d a b t u x => place 2147483712 [(30, b2n s), (19, d.toNat), (14, a.toNat), (9, b.toNat), (2, b2n t), (1, b2n u), (0, b2n x)]
  | .ror s d a b t u x => place 2147483720 [(30, b2n s), (19, d.toNat), (14, a.toNat), (9, b.toNat), (2, b2n t), (1, b2n u), (0, b2n x)]
  | .slt s d a b t u x => place 2147483728 [(30, b2n s), (19, d.toNat), (14, a.toNat), (9, b.toNat), (2, b2n t), (1, b2n u), (0, b2n x)]
  | .sltu s d a b t u x => place 2147483736 [(30, b2n s), (19, d.toNat), (14, a.toNat), (9, b.toNat), (2, b2n t), (1, b2n u), (0, b2n x)]
  | .min s d a b t u x => place 2147483744 [(30, b2n s), (19, d.toNat), (14, a.toNat), (9, b.toNat), (2, b2n t), (1, b2n u), (0, b2n x)]
  | .max s d a b t u x => place 2147483752 [(30, b2n s), (19, d.toNat), (14, a.toNat), (9, b.toNat), (2, b2n t), (1, b2n u), (0, b2n x)]
  | .minu s d a b t u x => place 2147483760 [(30, b2n s), (19, d.toNat), (14, a.toNat), (9, b.toNat), (2, b2n t), (1, b2n u), (0, b2n x)]
  | .maxu s d a b t u x => place 2147483768 [(30, b2n s), (19, d.toNat), (14, a.toNat), (9, b.toNat), (2, b2n t), (1, b2n u), (0, b2n x)]
  | .mul s d a b t u x => place 2147483776 [(30, b2n s), (19, d.toNat), (14, a.toNat), (9, b.toNat), (2, b2n t), (1, b2n u), (0, b2n x)]
  | .mulh s d a b t u => place 2147483784 [(30, b2n s), (19, d.toNat), (14, a.toNat), (9, b.toNat), (2, b2n t), (1, b2n u)]
  | .mulhu s d a b t u => place 2147483792 [(30, b2n s), (19, d.toNat), (14, a.toNat), (9, b.toNat), (2, b2n t), (1, b2n u)]
  | .div s d a b t u x => place 2147483800 [(30, b2n s), (19, d.toNat), (14, a.toNat), (9, b.toNat), (2, b2n t), (1, b2n u), (0, b2n x)]
  | .divu s d a b t u x => place 2147483808 [(30, b2n s), (19, d.toNat), (14, a.toNat), (9, b.toNat), (2, b2n t), (1, b2n u), (0, b2n x)]
  | .rem s d a b t u x => place 2147483816 [(30, b2n s), (19, d.toNat), (14, a.toNat), (9, b.toNat), (2, b2n t), (1, b2n u), (0, b2n x)]
  | .remu s d a b t u x => place 2147483824 [(30, b2n s), (19, d.toNat), (14, a.toNat), (9, b.toNat), (2, b2n t), (1, b2n u), (0, b2n x)]
  | .adds s d a b t u x => place 2147483832 [(30, b2n s), (19, d.toNat), (14, a.toNat), (9, b.toNat), (2, b2n t), (1, b2n u), (0, b2n x)]
  | .subs s d a b t u x => place 2147483840 [(30, b2n s), (19, d.toNat), (14, a.toNat), (9, b.toNat), (2, b2n t), (1, b2n u), (0, b2n x)]
  | .clz s d a t x => place 2147483848 [(30, b2n s), (19, d.toNat), (14, a.toNat), (2, b2n t), (0, b2n x)]
  | .ctz s d a t x => place 2147483856 [(30, b2n s), (19, d.toNat), (14, a.toNat), (2, b2n t), (0, b2n x)]
  | .popc s d a t x => place 2147483864 [(30, b2n s), (19, d.toNat), (14, a.toNat), (2, b2n t), (0, b2n x)]
  | .wfld s d a b t u => place 2147483872 [(30, b2n s), (19, d.toNat), (14, a.toNat), (9, b.toNat), (2, b2n t), (1, b2n u)]
  | .chkb s d a b t u => place 2147483880 [(30, b2n s), (19, d.toNat), (14, a.toNat), (9, b.toNat), (2, b2n t), (1, b2n u)]
  | .addi s d a t i => place 2164260864 [(30, b2n s), (19, d.toNat), (14, a.toNat), (13, b2n t), (0, i.toNat)]
  | .andi s d a t i => place 2181038080 [(30, b2n s), (19, d.toNat), (14, a.toNat), (13, b2n t), (0, i.toNat)]
  | .ori s d a t i => place 2197815296 [(30, b2n s), (19, d.toNat), (14, a.toNat), (13, b2n t), (0, i.toNat)]
  | .xori s d a t i => place 2214592512 [(30, b2n s), (19, d.toNat), (14, a.toNat), (13, b2n t), (0, i.toNat)]
  | .slti s d a t i => place 2248146944 [(30, b2n s), (19, d.toNat), (14, a.toNat), (13, b2n t), (0, i.toNat)]
  | .slli s d a t w c => place 2231369728 [(30, b2n s), (19, d.toNat), (14, a.toNat), (13, b2n t), (6, b2n w), (0, c.toNat)]
  | .srli s d a t w c => place 2231371776 [(30, b2n s), (19, d.toNat), (14, a.toNat), (13, b2n t), (6, b2n w), (0, c.toNat)]
  | .srai s d a t w c => place 2231373824 [(30, b2n s), (19, d.toNat), (14, a.toNat), (13, b2n t), (6, b2n w), (0, c.toNat)]
  | .rori s d a t w c => place 2231375872 [(30, b2n s), (19, d.toNat), (14, a.toNat), (13, b2n t), (6, b2n w), (0, c.toNat)]
  | .sel s d a b c t u v => place 2264924160 [(30, b2n s), (19, d.toNat), (14, a.toNat), (9, b.toNat), (4, c.toNat), (3, b2n t), (2, b2n u), (1, b2n v)]
  | .selN s d a b c t u v => place 2264924161 [(30, b2n s), (19, d.toNat), (14, a.toNat), (9, b.toNat), (4, c.toNat), (3, b2n t), (2, b2n u), (1, b2n v)]
  | .fadd s d a b t u => place 2281701376 [(30, b2n s), (19, d.toNat), (14, a.toNat), (9, b.toNat), (2, b2n t), (1, b2n u)]
  | .fsub s d a b t u => place 2281701384 [(30, b2n s), (19, d.toNat), (14, a.toNat), (9, b.toNat), (2, b2n t), (1, b2n u)]
  | .fmul s d a b t u => place 2281701392 [(30, b2n s), (19, d.toNat), (14, a.toNat), (9, b.toNat), (2, b2n t), (1, b2n u)]
  | .fdiv s d a b t u => place 2281701400 [(30, b2n s), (19, d.toNat), (14, a.toNat), (9, b.toNat), (2, b2n t), (1, b2n u)]
  | .fmin s d a b t u => place 2281701408 [(30, b2n s), (19, d.toNat), (14, a.toNat), (9, b.toNat), (2, b2n t), (1, b2n u)]
  | .fmax s d a b t u => place 2281701416 [(30, b2n s), (19, d.toNat), (14, a.toNat), (9, b.toNat), (2, b2n t), (1, b2n u)]
  | .fsqrt s d a t => place 2281701424 [(30, b2n s), (19, d.toNat), (14, a.toNat), (2, b2n t)]
  | .fabs s d a t => place 2281701432 [(30, b2n s), (19, d.toNat), (14, a.toNat), (2, b2n t)]
  | .fneg s d a t => place 2281701440 [(30, b2n s), (19, d.toNat), (14, a.toNat), (2, b2n t)]
  | .fsgnj s d a b t u => place 2281701448 [(30, b2n s), (19, d.toNat), (14, a.toNat), (9, b.toNat), (2, b2n t), (1, b2n u)]
  | .feq s d a b t u => place 2281701456 [(30, b2n s), (19, d.toNat), (14, a.toNat), (9, b.toNat), (2, b2n t), (1, b2n u)]
  | .flt s d a b t u => place 2281701464 [(30, b2n s), (19, d.toNat), (14, a.toNat), (9, b.toNat), (2, b2n t), (1, b2n u)]
  | .fle s d a b t u => place 2281701472 [(30, b2n s), (19, d.toNat), (14, a.toNat), (9, b.toNat), (2, b2n t), (1, b2n u)]
  | .fclass s d a t => place 2281701480 [(30, b2n s), (19, d.toNat), (14, a.toNat), (2, b2n t)]
  | .fmvXf s d a t => place 2281701488 [(30, b2n s), (19, d.toNat), (14, a.toNat), (2, b2n t)]
  | .fmvFx s d a t => place 2281701496 [(30, b2n s), (19, d.toNat), (14, a.toNat), (2, b2n t)]
  | .fmadd s d a b c t u v => place 2298478592 [(30, b2n s), (19, d.toNat), (14, a.toNat), (9, b.toNat), (4, c.toNat), (3, b2n t), (2, b2n u), (1, b2n v)]
  | .fmsub s d a b c t u v => place 2298478593 [(30, b2n s), (19, d.toNat), (14, a.toNat), (9, b.toNat), (4, c.toNat), (3, b2n t), (2, b2n u), (1, b2n v)]
  | .fcvtFI s d a t => place 2315255808 [(30, b2n s), (19, d.toNat), (14, a.toNat), (2, b2n t)]
  | .fcvtFU s d a t => place 2315255816 [(30, b2n s), (19, d.toNat), (14, a.toNat), (2, b2n t)]
  | .fcvtIF s d a t => place 2315255824 [(30, b2n s), (19, d.toNat), (14, a.toNat), (2, b2n t)]
  | .fcvtUF s d a t => place 2315255832 [(30, b2n s), (19, d.toNat), (14, a.toNat), (2, b2n t)]
  | .fcvtHF s d a t => place 2315255840 [(30, b2n s), (19, d.toNat), (14, a.toNat), (2, b2n t)]
  | .fcvtFH s d a t => place 2315255848 [(30, b2n s), (19, d.toNat), (14, a.toNat), (2, b2n t)]
  | .fcvtBF s d a t => place 2315255856 [(30, b2n s), (19, d.toNat), (14, a.toNat), (2, b2n t)]
  | .fcvtFB s d a t => place 2315255864 [(30, b2n s), (19, d.toNat), (14, a.toNat), (2, b2n t)]
  | .fcvtT8F s d a t => place 2315255872 [(30, b2n s), (19, d.toNat), (14, a.toNat), (2, b2n t)]
  | .fcvtFT8 s d a t => place 2315255880 [(30, b2n s), (19, d.toNat), (14, a.toNat), (2, b2n t)]
  | .fcvtT4F s d a t => place 2315255888 [(30, b2n s), (19, d.toNat), (14, a.toNat), (2, b2n t)]
  | .fcvtFT4 s d a t => place 2315255896 [(30, b2n s), (19, d.toNat), (14, a.toNat), (2, b2n t)]
  | .vadd s d a b m y => place 2332033024 [(30, b2n s), (19, d.toNat), (14, a.toNat), (9, b.toNat), (6, m.toNat), (3, y.toNat)]
  | .vsub s d a b m y => place 2332033025 [(30, b2n s), (19, d.toNat), (14, a.toNat), (9, b.toNat), (6, m.toNat), (3, y.toNat)]
  | .vadds s d a b m y => place 2332033026 [(30, b2n s), (19, d.toNat), (14, a.toNat), (9, b.toNat), (6, m.toNat), (3, y.toNat)]
  | .vsubs s d a b m y => place 2332033027 [(30, b2n s), (19, d.toNat), (14, a.toNat), (9, b.toNat), (6, m.toNat), (3, y.toNat)]
  | .vmul s d a b m y => place 2332033028 [(30, b2n s), (19, d.toNat), (14, a.toNat), (9, b.toNat), (6, m.toNat), (3, y.toNat)]
  | .vmin s d a b m y => place 2332033029 [(30, b2n s), (19, d.toNat), (14, a.toNat), (9, b.toNat), (6, m.toNat), (3, y.toNat)]
  | .vmax s d a b m y => place 2332033030 [(30, b2n s), (19, d.toNat), (14, a.toNat), (9, b.toNat), (6, m.toNat), (3, y.toNat)]
  | .vsh s d a b m y => place 2332033031 [(30, b2n s), (19, d.toNat), (14, a.toNat), (9, b.toNat), (6, m.toNat), (3, y.toNat)]
  | .vand s d a b m => place 2332033080 [(30, b2n s), (19, d.toNat), (14, a.toNat), (9, b.toNat), (6, m.toNat)]
  | .vor s d a b m => place 2332033081 [(30, b2n s), (19, d.toNat), (14, a.toNat), (9, b.toNat), (6, m.toNat)]
  | .vxor s d a b m => place 2332033082 [(30, b2n s), (19, d.toNat), (14, a.toNat), (9, b.toNat), (6, m.toNat)]
  | .vandn s d a b m => place 2332033083 [(30, b2n s), (19, d.toNat), (14, a.toNat), (9, b.toNat), (6, m.toNat)]
  | .vnot s d a m => place 2332033084 [(30, b2n s), (19, d.toNat), (14, a.toNat), (6, m.toNat)]
  | .vmov s d a m => place 2332033085 [(30, b2n s), (19, d.toNat), (14, a.toNat), (6, m.toNat)]
  | .vfadd s d a b m f => place 2348810240 [(30, b2n s), (19, d.toNat), (14, a.toNat), (9, b.toNat), (6, m.toNat), (0, f.toNat)]
  | .vfsub s d a b m f => place 2348810248 [(30, b2n s), (19, d.toNat), (14, a.toNat), (9, b.toNat), (6, m.toNat), (0, f.toNat)]
  | .vfmul s d a b m f => place 2348810256 [(30, b2n s), (19, d.toNat), (14, a.toNat), (9, b.toNat), (6, m.toNat), (0, f.toNat)]
  | .vfdiv s d a b m f => place 2348810264 [(30, b2n s), (19, d.toNat), (14, a.toNat), (9, b.toNat), (6, m.toNat), (0, f.toNat)]
  | .vfmin s d a b m f => place 2348810272 [(30, b2n s), (19, d.toNat), (14, a.toNat), (9, b.toNat), (6, m.toNat), (0, f.toNat)]
  | .vfmax s d a b m f => place 2348810280 [(30, b2n s), (19, d.toNat), (14, a.toNat), (9, b.toNat), (6, m.toNat), (0, f.toNat)]
  | .vfabs s d a m f => place 2348810288 [(30, b2n s), (19, d.toNat), (14, a.toNat), (6, m.toNat), (0, f.toNat)]
  | .vfneg s d a m f => place 2348810296 [(30, b2n s), (19, d.toNat), (14, a.toNat), (6, m.toNat), (0, f.toNat)]
  | .vfmadd s d a b m f => place 2365587456 [(30, b2n s), (19, d.toNat), (14, a.toNat), (9, b.toNat), (6, m.toNat), (0, f.toNat)]
  | .vfmsub s d a b m f => place 2365587464 [(30, b2n s), (19, d.toNat), (14, a.toNat), (9, b.toNat), (6, m.toNat), (0, f.toNat)]
  | .vfnmadd s d a b m f => place 2365587472 [(30, b2n s), (19, d.toNat), (14, a.toNat), (9, b.toNat), (6, m.toNat), (0, f.toNat)]
  | .vfnmsub s d a b m f => place 2365587480 [(30, b2n s), (19, d.toNat), (14, a.toNat), (9, b.toNat), (6, m.toNat), (0, f.toNat)]
  | .vfdot2 s d a b m f => place 2365587488 [(30, b2n s), (19, d.toNat), (14, a.toNat), (9, b.toNat), (6, m.toNat), (0, f.toNat)]
  | .vrsum s d a m y => place 2382364672 [(30, b2n s), (19, d.toNat), (14, a.toNat), (6, m.toNat), (3, y.toNat)]
  | .vrmax s d a m y => place 2382364673 [(30, b2n s), (19, d.toNat), (14, a.toNat), (6, m.toNat), (3, y.toNat)]
  | .vrmin s d a m y => place 2382364674 [(30, b2n s), (19, d.toNat), (14, a.toNat), (6, m.toNat), (3, y.toNat)]
  | .vrargmax s d a m y => place 2382364675 [(30, b2n s), (19, d.toNat), (14, a.toNat), (6, m.toNat), (3, y.toNat)]
  | .vrargmin s d a m y => place 2382364676 [(30, b2n s), (19, d.toNat), (14, a.toNat), (6, m.toNat), (3, y.toNat)]
  | .vrband s d a m y => place 2382364677 [(30, b2n s), (19, d.toNat), (14, a.toNat), (6, m.toNat), (3, y.toNat)]
  | .vrbor s d a m y => place 2382364678 [(30, b2n s), (19, d.toNat), (14, a.toNat), (6, m.toNat), (3, y.toNat)]
  | .vrbxor s d a m y => place 2382364679 [(30, b2n s), (19, d.toNat), (14, a.toNat), (6, m.toNat), (3, y.toNat)]
  | .vperm s d a b m y => place 2399141888 [(30, b2n s), (19, d.toNat), (14, a.toNat), (9, b.toNat), (6, m.toNat), (3, y.toNat)]
  | .vbcast s d a m y => place 2399141889 [(30, b2n s), (19, d.toNat), (14, a.toNat), (6, m.toNat), (3, y.toNat)]
  | .vbcastx s d a m y => place 2399141890 [(30, b2n s), (19, d.toNat), (14, a.toNat), (6, m.toNat), (3, y.toNat)]
  | .vrot s d a b m y => place 2399141891 [(30, b2n s), (19, d.toNat), (14, a.toNat), (9, b.toNat), (6, m.toNat), (3, y.toNat)]
  | .vcomp s d a m y => place 2399141892 [(30, b2n s), (19, d.toNat), (14, a.toNat), (6, m.toNat), (3, y.toNat)]
  | .vexpd s d a m y => place 2399141893 [(30, b2n s), (19, d.toNat), (14, a.toNat), (6, m.toNat), (3, y.toNat)]
  | .vinsx s d a b y => place 2399141894 [(30, b2n s), (19, d.toNat), (14, a.toNat), (9, b.toNat), (3, y.toNat)]
  | .vextx s d a b y => place 2399141895 [(30, b2n s), (19, d.toNat), (14, a.toNat), (9, b.toNat), (3, y.toNat)]
  | .vcmpEq s d a b m y => place 2415919104 [(30, b2n s), (19, d.toNat), (14, a.toNat), (9, b.toNat), (6, m.toNat), (3, y.toNat)]
  | .vcmpNe s d a b m y => place 2415919105 [(30, b2n s), (19, d.toNat), (14, a.toNat), (9, b.toNat), (6, m.toNat), (3, y.toNat)]
  | .vcmpLt s d a b m y => place 2415919106 [(30, b2n s), (19, d.toNat), (14, a.toNat), (9, b.toNat), (6, m.toNat), (3, y.toNat)]
  | .vcmpLe s d a b m y => place 2415919107 [(30, b2n s), (19, d.toNat), (14, a.toNat), (9, b.toNat), (6, m.toNat), (3, y.toNat)]
  | .vcmpGt s d a b m y => place 2415919108 [(30, b2n s), (19, d.toNat), (14, a.toNat), (9, b.toNat), (6, m.toNat), (3, y.toNat)]
  | .vcmpGe s d a b m y => place 2415919109 [(30, b2n s), (19, d.toNat), (14, a.toNat), (9, b.toNat), (6, m.toNat), (3, y.toNat)]
  | .vcmpUnord s d a b m => place 2415919166 [(30, b2n s), (19, d.toNat), (14, a.toNat), (9, b.toNat), (6, m.toNat)]
  | .vcvtFi s d a m y => place 2432696320 [(30, b2n s), (19, d.toNat), (14, a.toNat), (6, m.toNat), (3, y.toNat)]
  | .vcvtIf s d a m y => place 2432696321 [(30, b2n s), (19, d.toNat), (14, a.toNat), (6, m.toNat), (3, y.toNat)]
  | .vcvtNar s d a b m y => place 2432696322 [(30, b2n s), (19, d.toNat), (14, a.toNat), (9, b.toNat), (6, m.toNat), (3, y.toNat)]
  | .vcvtWid s d a q m y => place 2432696323 [(30, b2n s), (19, d.toNat), (14, a.toNat), (9, q.toNat), (6, m.toNat), (3, y.toNat)]
  | .vcvtEt8 s d a q m => place 2432696324 [(30, b2n s), (19, d.toNat), (14, a.toNat), (9, q.toNat), (6, m.toNat)]
  | .vcvtDt8 s d a q m => place 2432696325 [(30, b2n s), (19, d.toNat), (14, a.toNat), (9, q.toNat), (6, m.toNat)]
  | .vcvtEt4 s d a q m => place 2432696326 [(30, b2n s), (19, d.toNat), (14, a.toNat), (9, q.toNat), (6, m.toNat)]
  | .vcvtDt4 s d a q m => place 2432696327 [(30, b2n s), (19, d.toNat), (14, a.toNat), (9, q.toNat), (6, m.toNat)]
  | .vexp2 s d a m f => place 2449473536 [(30, b2n s), (19, d.toNat), (14, a.toNat), (6, m.toNat), (0, f.toNat)]
  | .vlog2 s d a m f => place 2449473544 [(30, b2n s), (19, d.toNat), (14, a.toNat), (6, m.toNat), (0, f.toNat)]
  | .vrcp s d a m f => place 2449473552 [(30, b2n s), (19, d.toNat), (14, a.toNat), (6, m.toNat), (0, f.toNat)]
  | .vrsqrt s d a m f => place 2449473560 [(30, b2n s), (19, d.toNat), (14, a.toNat), (6, m.toNat), (0, f.toNat)]
  | .vsqrt s d a m f => place 2449473568 [(30, b2n s), (19, d.toNat), (14, a.toNat), (6, m.toNat), (0, f.toNat)]
  | .vtanh s d a m f => place 2449473576 [(30, b2n s), (19, d.toNat), (14, a.toNat), (6, m.toNat), (0, f.toNat)]
  | .vsigm s d a m f => place 2449473584 [(30, b2n s), (19, d.toNat), (14, a.toNat), (6, m.toNat), (0, f.toNat)]
  | .vgelu s d a m f => place 2449473592 [(30, b2n s), (19, d.toNat), (14, a.toNat), (6, m.toNat), (0, f.toNat)]
  | .mand s d a b => place 2466250752 [(30, b2n s), (19, d.toNat), (14, a.toNat), (9, b.toNat)]
  | .mor s d a b => place 2466250753 [(30, b2n s), (19, d.toNat), (14, a.toNat), (9, b.toNat)]
  | .mxor s d a b => place 2466250754 [(30, b2n s), (19, d.toNat), (14, a.toNat), (9, b.toNat)]
  | .mandn s d a b => place 2466250755 [(30, b2n s), (19, d.toNat), (14, a.toNat), (9, b.toNat)]
  | .mnot s d a => place 2466250756 [(30, b2n s), (19, d.toNat), (14, a.toNat)]
  | .mfirst s d a => place 2466250757 [(30, b2n s), (19, d.toNat), (14, a.toNat)]
  | .mfromx s d a => place 2466250758 [(30, b2n s), (19, d.toNat), (14, a.toNat)]
  | .mtox s d a => place 2466250759 [(30, b2n s), (19, d.toNat), (14, a.toNat)]
  | .mmaH s c k z a b f r => place 2483027968 [(30, b2n s), (22, c.toNat), (21, b2n k), (20, b2n z), (15, a.toNat), (10, b.toNat), (5, f.toNat), (2, r.toNat)]
  | .mmaB s c k z a b f r => place 2499805184 [(30, b2n s), (22, c.toNat), (21, b2n k), (20, b2n z), (15, a.toNat), (10, b.toNat), (5, f.toNat), (2, r.toNat)]
  | .mmaT8 s c k z a b f r => place 2516582400 [(30, b2n s), (22, c.toNat), (21, b2n k), (20, b2n z), (15, a.toNat), (10, b.toNat), (5, f.toNat), (2, r.toNat)]
  | .mmaT84 s c k z a b f r => place 2533359616 [(30, b2n s), (22, c.toNat), (21, b2n k), (20, b2n z), (15, a.toNat), (10, b.toNat), (5, f.toNat), (2, r.toNat)]
  | .mmaT4 s c k z a b f r => place 2550136832 [(30, b2n s), (22, c.toNat), (21, b2n k), (20, b2n z), (15, a.toNat), (10, b.toNat), (5, f.toNat), (2, r.toNat)]
  | .mmaI8 s c k z a b t => place 2566914048 [(30, b2n s), (22, c.toNat), (21, b2n k), (20, b2n z), (15, a.toNat), (10, b.toNat), (1, b2n t)]
  | .mzero s d => place 2583691264 [(30, b2n s), (19, d.toNat)]
  | .medge s a t => place 2583691272 [(30, b2n s), (14, a.toNat), (2, b2n t)]
  | .mrowr s d a b u => place 2583691280 [(30, b2n s), (19, d.toNat), (14, a.toNat), (9, b.toNat), (1, b2n u)]
  | .mroww s d a b t u => place 2583691288 [(30, b2n s), (19, d.toNat), (14, a.toNat), (9, b.toNat), (2, b2n t), (1, b2n u)]
  | .hbind s d a b t => place 2600468480 [(30, b2n s), (21, d.toNat), (18, a.toNat), (15, b.toNat), (12, b2n t)]
  | .hperm s d a t i => place 2600476672 [(30, b2n s), (21, d.toNat), (18, a.toNat), (12, b2n t), (0, i.toNat)]
  | .hnot s d a t => place 2600484864 [(30, b2n s), (21, d.toNat), (18, a.toNat), (12, b2n t)]
  | .hmov s d a t => place 2600493056 [(30, b2n s), (21, d.toNat), (18, a.toNat), (12, b2n t)]
  | .hbundle s a b t => place 2617245696 [(30, b2n s), (18, a.toNat), (13, b.toNat), (12, b2n t)]
  | .hclr s b => place 2617246720 [(30, b2n s), (13, b.toNat)]
  | .hthr s d a b t => place 2617247744 [(30, b2n s), (21, d.toNat), (18, a.toNat), (13, b.toNat), (12, b2n t)]
  | .hdist s a b t d => place 2634022912 [(30, b2n s), (18, a.toNat), (15, b.toNat), (12, b2n t), (0, d.toNat)]
  | .hpop s a t d => place 2634023936 [(30, b2n s), (18, a.toNat), (12, b2n t), (0, d.toNat)]
  | .noise s d a b m => place 2650800128 [(30, b2n s), (19, d.toNat), (14, a.toNat), (9, b.toNat), (6, m.toNat)]
  | .chash s d a b => place 2650800129 [(30, b2n s), (19, d.toNat), (14, a.toNat), (9, b.toNat)]
  | .chashLd s d b => place 2650800137 [(30, b2n s), (19, d.toNat), (9, b.toNat)]
  | .chashSt s a b => place 2650800145 [(30, b2n s), (14, a.toNat), (9, b.toNat)]
  | .hrand s d a => place 2650800130 [(30, b2n s), (19, d.toNat), (14, a.toNat)]
  | .rseed s a => place 2650800131 [(30, b2n s), (14, a.toNat)]
  | .rbits s d => place 2650800132 [(30, b2n s), (19, d.toNat)]
  | .spoutPortPush _ _ => 0
  | .longLatencyWrite _ _ => 0
  | .slotFillComplete _ _ => 0
  | .postedStoreAck _ _ => 0
  | .waitaWake _ => 0
  | .haltComplete _ => 0
  | .batchWindowExpiry _ _ _ => 0
  | .layerTaskStart _ => 0
  | .backgroundSpill _ => 0
  | .spillComplete _ _ => 0
  | .reloadComplete _ _ => 0
  | .seedPacketArrival _ => 0
  | .seedAck _ => 0
  | .forwardingExpiry _ _ => 0
  | .remoteStreamRequest _ => 0
  | .remoteReply _ => 0
  | .familyReport _ => 0
  | .joinDeadline _ _ => 0
  | .retireOrder _ => 0
  | .remoteJoinRequest _ => 0
  | .messageArrival _ => 0
  | .timetableRelease _ _ => 0
  | .contributionArrival _ => 0
  | .cbrResult _ => 0
  | .roundTimeout _ => 0
  | .copyStart _ _ => 0
  | .copyComplete _ _ => 0
  | .cancelAck _ _ => 0
  | .whiskContributionArrival _ => 0
  | .remoteMemoryRequest _ => 0
  | .hostAtomicUr _ => 0
  | .pageMigration _ _ _ _ _ _ => 0
  | .retryFaultLaunch _ _ => 0
  | .pageService _ _ _ => 0
  | .setvec _ => 0
  | .event _ => 0
  | .replyTimeout _ => 0
  | .ackLost _ _ => 0
  | .selfTestComplete _ _ => 0
  | .deadlockScan => 0
  | .schedulingPass _ => 0
  | .gangReservation _ => 0
  | .infusionComplete _ _ => 0
  | .taskStart _ => 0
  | .gangSwitchPost _ _ _ => 0
  | .gangSwitchStop _ => 0
  | .partitionSave _ _ => 0
  | .partitionResume _ _ => 0
  | .cutEvaluation _ _ => 0
  | .heartbeat _ => 0
  | .domainRecovery _ _ => 0
  | .linkFailure _ => 0
  | .submit _ _ => 0
  | .statusq _ _ => 0
  | .evtail _ _ => 0
  | .vfRegisterWrite _ => 0
  | .bar2Read _ _ _ => 0
  | .bar2Write _ _ _ => 0
  | .regionRegister _ => 0
  | .regionDeregister _ _ _ => 0
  | .meterReportRequest _ _ _ => 0
  | .handover _ => 0
  | .mailboxAttest _ _ => 0
  | .okeySet _ _ => 0
  | .homeDescriptorSet _ _ _ => 0
  | .stashSizeSet _ _ _ => 0
  | .ceilingPersist _ _ => 0
  | .sensors => 0
  | .fences => 0
  | .attest _ => 0
  | .meter _ _ => 0
  | .powercap _ => 0
  | .debugAttach _ _ => 0
  | .debugDetach _ => 0
  | .deploy _ _ => 0
  | .reset => 0
  | .firmwareStage _ => 0
  | .powerGood => 0
  | .stage1 _ => 0
  | .stage2 _ => 0
  | .stageTimeout => 0
  | .railFault _ => 0
  | .thermalThrottle _ _ => 0
  | .dieOvertemp _ => 0
  | .dieCooled _ _ => 0
  | .homeSlicePerform _ => 0
  | .podRequestServed _ => 0
  | .uncorrectableError _ => 0
  | .correctedError _ => 0
  | .hostAgentAccess _ => 0
  | .expanderLinkDown _ => 0
  | .orderlyShutdown => 0
  | .mappingChange _ _ _ => 0
  | .debuggerResume _ => 0

/-- The instruction that the decoder reads from a table word: every instruction is one 32-bit word (R37), numbered as the
word itself, bit 0 least significant. Bits at and above `nbits` are 0. -/
noncomputable def decodeTableWord (nbits w : Nat) : Option Instr :=
  match decodeWord (w % 2 ^ nbits % 2 ^ 32) with
  | .ok i => some i
  | .illegal => none
  | .reserved => none

end Sys2Proof
end

