-- ==== Sys2Proof/Machine/Ports.lean ====
section
/-! DEFINITION. The ports that queue registers are bound to (R25 to R27, R240 to R244, R316, R317): which ports exist, who
may use them, what they hold, pops and pushes; and the submission of a Spout copy (R318 to R320), which a push shares
with SPT.CPY. -/

namespace Sys2Proof.Machine

/-- What a port identifier names (R240, R316). -/
inductive Port where
  | spout
  | whisk (slot ser : Nat)
  | ring
  | inbox
  | queue (g ix : Nat)
  | noPort
  deriving DecidableEq, Repr

/-- The port of an identifier on package `self`. A queue of another package is none that this package's state holds. -/
def portOf (self p : Nat) : Port :=
  if fld p 30 2 = 3 then
    if fld p 8 7 = 0 ∧ fld p 15 4 < 12 ∧ fld p 21 9 = self then .queue (fld p 19 2 * 12 + fld p 15 4) (fld p 0 8) else .noPort
  else if p = 0x80000000 then .inbox
  else if p = 0x01000000 then .spout
  else if p = 0x03000000 then .ring
  else if fld p 24 8 = 2 ∧ fld p 18 6 = 0 then .whisk (fld p 8 10) (fld p 0 8)
  else .noPort

/-- Scope `sc` seen from core `k` includes context `c` of this package (R7). -/
def inScope (sc : Nat) (k c : Nat) : Bool :=
  match sc with
  | 0 => k == coreOf c
  | 1 => k / 24 == groveOf c
  | _ => true

/-- The die and slot of the reduction that a result port names, owned by context `c` (R316, R332). -/
def State.whiskFor (s : State) (c slot ser : Nat) : Option (Nat × WSlot) :=
  let hit := fun d =>
    let w := tabGet {} (s.die d).wslots slot
    if w.opened ∧ w.ser.toNat = ser ∧ w.owner = s.caddr c then some (d, w) else none
  match hit (dieOf c) with
  | some r => some r
  | none => (upFrom 0 4).findSome? hit

/-- A context may use a port (R242, R316). -/
def State.mayUse (s : State) (c : Nat) : Port → Bool
  | .spout => true
  | .inbox => true
  | .ring => (s.grove (groveOf c)).servicer == some c
  | .whisk slot ser => (s.whiskFor c slot ser).isSome
  | .queue g ix =>
    match tabFind (s.grove g).queues ix with
    | none => false
    | some q => inScope q.scope.toNat (coreOf (ctxOfAddr q.by_)) c && (s.ctx c).task.any (fun t => t.launch == q.launch)
  | .noPort => false

/-- The direction of a port (R316): it can be popped, it can be pushed. -/
def Port.pops : Port → Bool
  | .spout => false
  | .noPort => false
  | _ => true
def Port.pushes : Port → Bool
  | .spout => true
  | .queue _ _ => true
  | _ => false

/-- The four words of a retry-ring entry (R279). -/
def ringWords (s : State) (e : RingEntry) : List Word :=
  [natW (2 ^ 60 * e.kind + e.va.toNat % 2 ^ 52), natW ((s.caddr e.ctx).toNat / 2 ^ 16 * 2 ^ 16 + e.gen.toNat),
   natW (2 ^ 16 * e.tag + 2 ^ 12 * Nat.log2 e.size + 2 ^ 11 * b2n e.store + 2 ^ 10 * b2n e.zext + 2 ^ 8 * e.cls.toNat + e.reg),
   if e.store ∧ e.size ≤ 8 then natW (ofBytes e.data) else 0]

/-- The entries that a port holds for context `c`, first entry first. -/
def State.portEntries (s : State) (c : Nat) : Port → List Word
  | .inbox => ((s.ctx c).inbox.map (·.words)).flatten
  | .ring =>
    let g := s.grove (groveOf c)
    g.ringPop ++ ((g.ring.filter (·.offered)).map (ringWords s)).flatten
  | .whisk slot ser =>
    match s.whiskFor c slot ser with
    | some (_, w) => w.result
    | none => []
  | .queue g ix => (tabGet { launch := 0, vf := 0, scope := 0, by_ := 0 } (s.grove g).queues ix).items.map (·.w)
  | _ => []

/-- The first offered ring entry is taken by the port: its later words wait to be popped (R317). -/
def takeOffered (s : State) : List RingEntry → List RingEntry × List Word
  | [] => ([], [])
  | e :: t =>
    if e.offered then ({ e with offered := false } :: t, (ringWords s e).drop 1)
    else
      let (r, w) := takeOffered s t
      (e :: r, w)

/-- The entries of a queue that pending units of contexts other than `c` have taken, and pop when they retire (R26, R44). -/
def State.taken (s : State) (c p : Nat) : List Nat :=
  (s.ctxs.map (fun (x : Nat × Ctx) =>
    if x.1 = c then [] else (x.2.pend.map (fun (k : Pend) => (k.pops.filter (·.port == p)).map (·.n))).getD [])).flatten

/-- The entries of a port identifier that context `c` may take, each with its serial number in a queue. -/
def State.openEntries (s : State) (c p : Nat) : List (Nat × Word) :=
  match portOf s.self p with
  | .queue g ix =>
    let out := s.taken c p
    ((tabGet { launch := 0, vf := 0, scope := 0, by_ := 0 } (s.grove g).queues ix).items.filter (fun e => !(out.contains e.n))).map
      (fun e => (e.n, e.w))
  | q => (s.portEntries c q).map (fun w => (0, w))

/-- One entry popped from a port (R25). The slot of a reduction is freed with its last result word (R331). -/
def State.popPort (s : State) (c : Nat) : Port → State
  | .inbox =>
    let x := s.ctx c
    match x.inbox with
    | [] => s
    | m :: t =>
      let m1 := { m with words := m.words.drop 1, whole := false }
      s.setCtx c { x with inbox := if m1.words = [] then t else m1 :: t }
  | .ring =>
    let g := s.grove (groveOf c)
    match g.ringPop with
    | _ :: t => s.setGrove (groveOf c) { g with ringPop := t }
    | [] =>
      let (r, w) := takeOffered s g.ring
      s.setGrove (groveOf c) { g with ring := r, ringPop := w }
  | .whisk slot ser =>
    match s.whiskFor c slot ser with
    | some (d, w) =>
      let w1 := { w with result := w.result.drop 1 }
      let w2 := if w1.result = [] then { w1 with opened := false, got := [] } else w1
      s.setDie d { s.die d with wslots := tabSet slot w2 (s.die d).wslots }
    | none => s
  | _ => s

/-- An entry that a unit has read popped (R26): of a queue the entry itself, of another port the first. -/
def State.takePop (s : State) (p : Pop) : State :=
  match portOf s.self p.port with
  | .queue g ix =>
    let v := s.grove g
    match tabFind v.queues ix with
    | some q => s.setGrove g { v with queues := tabSet ix { q with items := q.items.filter (fun e => e.n != p.n) } v.queues }
    | none => s
  | q => s.popPort s.cur q

/-- The port identifier to which register X n of the given registers is bound, if it is bound (R25). -/
def Regs.boundTo (r : Regs) (n : Nat) : Option Nat :=
  if n < 24 then none
  else
    let q := (r.csrAt (csrQB0 + (n - 24))).toNat
    if bitAt q 63 then some (fld q 0 32) else none

/-! Spout copies (R318 to R320) -/

/-- The pieces, each within one scratchpad, of `n` bytes at scratchpad address `a`; none where a byte lies outside the
space or in a stash (R264). -/
def State.scrPieces (s : State) (c : Nat) : Nat → Nat → Nat → Option (List (Loc × Nat))
  | 0, _, _ => none
  | f + 1, a, n =>
    let lim := if a < 0x40000 then 0x40000 - a else 0x40000 - (a - 0x800000) % 0x40000
    if n ≤ lim then (s.scrLoc c a n).map (fun l => [(l, n)])
    else if a < 0x800000 then none
    else
      match s.scrLoc c a lim, s.scrPieces c f (a + lim) (n - lim) with
      | some l, some t => some ((l, lim) :: t)
      | _, _ => none

/-- Word `k` of a descriptor. -/
def descWord (d : List Word) (k : Nat) : Nat := (nth 0 d k).toNat

/-- The byte address, without its tag, at which row `r` of a copy starts; negative or too large where it leaves the
space. -/
def rowAddr (base stride : Nat) (r : Nat) : Int := (base % 2 ^ 62 : Nat) + (r : Int) * sextInt 32 stride

/-- The first byte of a row at a tagged base that lies in the residual window (R213). -/
def rowWindow (base stride len rows : Nat) : Option Nat :=
  if fld base 62 2 != 0 then none
  else
    (upFrom 0 rows).findSome? (fun r =>
      let a := rowAddr base stride r
      if 0 ≤ a ∧ a.toNat < residualBase + 0x10000 ∧ residualBase < a.toNat + len then some (max a.toNat residualBase) else none)

/-- Every row at a tagged base lies where R318 allows, or names the residual window. -/
def State.rowsOk (s : State) (c base stride len rows : Nat) : Bool :=
  (upFrom 0 rows).all (fun r =>
    let a := rowAddr base stride r
    decide (0 ≤ a) &&
    (if fld base 62 2 = 0 then decide (a.toNat + len ≤ deviceBase) || (decide (a.toNat < residualBase + 0x10000) && decide (residualBase < a.toNat + len))
     else (s.scrPieces c 32 a.toNat len).isSome))

/-- The address in the residual window that a descriptor names (R213). -/
def descWindow (d : List Word) : Option Nat :=
  let w := descWord d
  let rows := fld (w 2) 16 16
  (rowWindow (w 0) (fld (w 3) 0 32) (fld (w 2) 32 24) rows).orElse (fun _ => rowWindow (w 1) (fld (w 3) 32 32) (fld (w 2) 32 24) rows)

/-- A descriptor that the Spout accepts (R318). -/
def State.descOk (s : State) (c : Nat) (d : List Word) : Bool :=
  let w := descWord d
  let mode := fld (w 2) 62 2
  fld (w 2) 56 6 == 0 && fld (w 2) 0 16 == 0 && w 6 == 0 && w 7 == 0 && mode != 3
    && fld (w 2) 32 24 != 0 && fld (w 2) 16 16 != 0
    && decide (fld (w 0) 62 2 < 2) && decide (fld (w 1) 62 2 < 2)
    && s.rowsOk c (w 0) (fld (w 3) 0 32) (fld (w 2) 32 24) (fld (w 2) 16 16)
    && s.rowsOk c (w 1) (fld (w 3) 32 32) (fld (w 2) 32 24) (fld (w 2) 16 16)
    && (match mode with
        | 0 => w 4 == 0 && w 5 == 0
        | 1 => w 4 % 16 == 0 && (s.scrLoc c (w 4) 16).isSome && w 5 == 0
        | _ => w 4 % 8 == 0 && (s.scrLoc c (w 4) 8).isSome && w 5 != 2 ^ 64 - 1)

/-- The handle of a copy (R320). -/
def copyHandle (c : Nat) (seq : BitVec 25) : Word := natW (2 ^ 27 * (coreOf c % 24) + 2 ^ 25 * (c % 4) + seq.toNat)

/-- A copy that has not finished (R319). -/
def Copy.open_ (k : Copy) : Bool := k.status == 1 || k.status == 2

/-- What submitting a descriptor leads to; `read` where its 64 bytes must be read first, one event for each granule (R284). -/
inductive Submit where
  | ok (handle : Word) (s : State)
  | trap (w : Why)
  | wait
  | read (l : Loc) (a : Word)

/-- The place of the descriptor at a scratchpad address, past its checks (R319). -/
def State.descAt (s : State) (a : Word) : Except Why Loc :=
  match s.checkAddr 1 a 64 .load with
  | some w => .error { w with acc := 4 }
  | none =>
    match s.scrLoc s.cur a.toNat 64 with
    | none => .error { cause := cPROT, tval := a }
    | some l =>
      match s.poisonedLoc l 64 with
      | some u => .error { cause := cMCE, tval := a, unit := u }
      | none => .ok l

/-- A descriptor may be read: every access that it must follow has been performed (R286 rows 2 and 10). -/
def State.descClear (s : State) (l : Loc) : Bool :=
  !s.acquiring && !s.ownBusy && !(s.readBlocked s.cur s.me.nseq l 64)

/-- The reads of `n` bytes at a place, one for each granule, numbered from `k` (R284). -/
def piecesFrom (k : Nat) (l : Loc) (n : Nat) (va : Word) (uc : Option Nat) : List Piece :=
  (upFrom 0 (n / 8)).map (fun j => { ix := k + j, loc := l.add (8 * j), va := va, uc := uc })

/-- The place at which a replay notes the unit of poisoned data (R399). -/
def poisonMark : Nat := 2 ^ 21

/-- `n` words read, from place `k`. -/
def wordsFrom (t : Tab Word) (k n : Nat) : List Word := (upFrom k n).map (tabGet 0 t)

/-- The number whose 64-bit words are the given ones, lowest first. -/
def ofWords : List Word → Nat
  | [] => 0
  | w :: t => w.toNat + 2 ^ 64 * ofWords t

/-- A context's copies that have not finished (R319), in whichever grove they are. -/
def State.openCopies (s : State) (c : Nat) : Nat :=
  ((s.groves.map (fun g => (g.2.copies.filter (fun k => k.ctx == c && k.gen == (s.ctx c).gen && k.open_)).length))).sum

/-- SPT.CPY's effect on the Spout of the current context's grove, with the descriptor read at address `a` (R319). -/
def State.submit (s : State) (a : Word) (d : List Word) : Submit :=
  let c := s.cur
  if !(s.descOk c d) then .trap { cause := cSPOUT, tval := a }
  else if (descWindow d).isSome then .trap { cause := cPROT, tval := natW ((descWindow d).getD 0), acc := 4 }
  else
    let x := s.me
    let g := s.grove (groveOf c)
    if 64 ≤ s.openCopies c ∨ 1024 ≤ (g.copies.filter (·.open_)).length then .wait
    else
      let q := x.sptSeq + 1
      let k : Copy := { handle := copyHandle c q, ctx := c, gen := x.gen, vf := x.vf
                        launch := (x.task.map (·.launch)).getD 0, desc := d
                        classB := fld (descWord d 1) 62 2 == 0, status := 1, seq := q.toNat }
      .ok (copyHandle c q) ((s.setMe { x with sptSeq := q }).setGrove (groveOf c) { g with copies := g.copies ++ [k] })

/-- One entry pushed to a port by the current context (R25, R317); for the Spout, with the descriptor's words once they have been
read. The caller has seen that a queue has room. -/
def State.pushPort (s : State) (p : Port) (v : Word) (d : Option (List Word)) : Submit :=
  match p with
  | .spout =>
    match s.descAt v, d with
    | .error w, _ => .trap w
    | .ok _, some ws => s.submit v ws
    | .ok l, none => if s.descClear l then .read l v else .wait
  | .queue g ix =>
    let y := s.grove g
    match tabFind y.queues ix with
    | some q =>
      if 64 ≤ q.items.length then .wait
      else
        let e : QItem := { n := q.seq, ctx := s.cur, gen := s.me.gen, w := v }
        let s1 := s.setGrove g { y with queues := tabSet ix { q with items := q.items ++ [e], seq := q.seq + 1 } y.queues }
        .ok 0 ((s1.countSent (coreOf s.cur)).countRecv (coreOf s.cur) (s.core (coreOf s.cur)).colour)
    | none => .trap { cause := cPROT, tval := v }
  | _ => .trap { cause := cPROT, tval := v }

end Sys2Proof.Machine
end

