-- ==== Sys2Proof/Machine/Operands.lean ====
section
/-! DEFINITION. What each instruction names: its sources with their T bits in the order of R22, its destinations for R23
and R42, and the groups of instructions that stall under a collective branch (R258), trap in a DUAL launch (R205), may
not be repeated (R115) or are handler-only (R51). -/

namespace Sys2Proof.Machine

/-- A source: its place in the order of R22 (1 rs1, 2 rs2, 3 rs3, 4 store data; 0 for the rd of CAS, which R307 ranks as rs1
and which here comes before it, DESIGN CHOICE, log entry 71; the slot number that MLD reads in rd has place 4, DESIGN CHOICE,
log entry 72), class, register and T bit. -/
structure Src where
  pos : Nat
  cls : Nat
  n : Nat
  t : Bool
  deriving DecidableEq, Repr

/-- A destination register: class 0 X, 1 F, 2 V, 3 H, 4 M, 5 B, 6 ACC, and number. -/
structure Dst where
  cls : Nat
  n : Nat
  deriving DecidableEq, Repr

/-- The registers that an instruction names as sources and that have a full/empty bit (R21, R22). -/
def Instr.sources : Instr → List Src
  | .csrw _ _ _ a _ => [⟨1, 0, a.toNat, false⟩]
  | .csrs _ _ _ a _ => [⟨1, 0, a.toNat, false⟩]
  | .csrc _ _ _ a _ => [⟨1, 0, a.toNat, false⟩]
  | .beq _ _ a b _ => [⟨1, 0, a.toNat, false⟩, ⟨2, 0, b.toNat, false⟩]
  | .bne _ _ a b _ => [⟨1, 0, a.toNat, false⟩, ⟨2, 0, b.toNat, false⟩]
  | .blt _ _ a b _ => [⟨1, 0, a.toNat, false⟩, ⟨2, 0, b.toNat, false⟩]
  | .bge _ _ a b _ => [⟨1, 0, a.toNat, false⟩, ⟨2, 0, b.toNat, false⟩]
  | .bltu _ _ a b _ => [⟨1, 0, a.toNat, false⟩, ⟨2, 0, b.toNat, false⟩]
  | .bgeu _ _ a b _ => [⟨1, 0, a.toNat, false⟩, ⟨2, 0, b.toNat, false⟩]
  | .jalr _ _ _ a t _ => [⟨1, 0, a.toNat, t⟩]
  | .loop _ _ _ a t _ => [⟨1, 0, a.toNat, t⟩]
  | .rep _ _ a t _ => [⟨1, 0, a.toNat, t⟩]
  | .ldg _ _ _ a _ _ _ _ => [⟨1, 0, a.toNat, false⟩]
  | .stg _ _ d a _ _ _ t => [⟨1, 0, a.toNat, false⟩, ⟨4, 0, d.toNat, t⟩]
  | .lds _ _ _ a _ _ _ _ => [⟨1, 0, a.toNat, false⟩]
  | .sts _ _ d a _ _ _ t => [⟨1, 0, a.toNat, false⟩, ⟨4, 0, d.toNat, t⟩]
  | .ldw _ _ _ a _ _ _ _ => [⟨1, 0, a.toNat, false⟩]
  | .stw _ _ d a _ _ _ t => [⟨1, 0, a.toNat, false⟩, ⟨4, 0, d.toNat, t⟩]
  | .vldg _ _ _ a _ _ _ => [⟨1, 0, a.toNat, false⟩]
  | .vstg _ _ d a _ _ _ t => [⟨1, 0, a.toNat, false⟩, ⟨4, 2, d.toNat, t⟩]
  | .vlds _ _ _ a _ _ _ => [⟨1, 0, a.toNat, false⟩]
  | .vsts _ _ d a _ _ _ t => [⟨1, 0, a.toNat, false⟩, ⟨4, 2, d.toNat, t⟩]
  | .vgath _ _ _ a b t u _ _ => [⟨1, 0, a.toNat, t⟩, ⟨2, 2, b.toNat, u⟩]
  | .vscat _ _ d a b t u _ _ => [⟨1, 0, a.toNat, t⟩, ⟨2, 2, b.toNat, u⟩, ⟨4, 2, d.toNat, false⟩]
  | .ldo _ _ _ a _ _ _ _ => [⟨1, 0, a.toNat, false⟩]
  | .sto _ _ a b _ _ _ => [⟨1, 0, a.toNat, false⟩, ⟨2, 0, b.toNat, false⟩]
  | .amoSwap _ _ _ a b _ _ _ => [⟨1, 0, a.toNat, false⟩, ⟨2, 0, b.toNat, false⟩]
  | .amoAdd _ _ _ a b _ _ _ => [⟨1, 0, a.toNat, false⟩, ⟨2, 0, b.toNat, false⟩]
  | .amoAnd _ _ _ a b _ _ _ => [⟨1, 0, a.toNat, false⟩, ⟨2, 0, b.toNat, false⟩]
  | .amoOr _ _ _ a b _ _ _ => [⟨1, 0, a.toNat, false⟩, ⟨2, 0, b.toNat, false⟩]
  | .amoXor _ _ _ a b _ _ _ => [⟨1, 0, a.toNat, false⟩, ⟨2, 0, b.toNat, false⟩]
  | .amoMax _ _ _ a b _ _ _ => [⟨1, 0, a.toNat, false⟩, ⟨2, 0, b.toNat, false⟩]
  | .amoMin _ _ _ a b _ _ _ => [⟨1, 0, a.toNat, false⟩, ⟨2, 0, b.toNat, false⟩]
  | .amoMaxu _ _ _ a b _ _ _ => [⟨1, 0, a.toNat, false⟩, ⟨2, 0, b.toNat, false⟩]
  | .amoxMinu _ _ _ a b _ _ _ => [⟨1, 0, a.toNat, false⟩, ⟨2, 0, b.toNat, false⟩]
  | .amoxCas _ _ d a b _ _ _ => [⟨0, 0, d.toNat, false⟩, ⟨1, 0, a.toNat, false⟩, ⟨2, 0, b.toNat, false⟩]
  | .amoxFadd _ _ _ a b _ _ => [⟨1, 0, a.toNat, false⟩, ⟨2, 0, b.toNat, false⟩]
  | .amoxFmin _ _ _ a b _ _ => [⟨1, 0, a.toNat, false⟩, ⟨2, 0, b.toNat, false⟩]
  | .amoxFmax _ _ _ a b _ _ => [⟨1, 0, a.toNat, false⟩, ⟨2, 0, b.toNat, false⟩]
  | .waita _ _ _ a b t u _ _ => [⟨1, 0, a.toNat, t⟩, ⟨2, 0, b.toNat, u⟩]
  | .qbind _ _ _ a t => [⟨1, 0, a.toNat, t⟩]
  | .ttrun _ _ _ a t => [⟨1, 0, a.toNat, t⟩]
  | .send _ _ a b t u _ => [⟨1, 0, a.toNat, t⟩, ⟨2, 0, b.toNat, u⟩]
  | .cbrAny _ _ a _ _ => [⟨1, 0, a.toNat, false⟩]
  | .cbrAll _ _ a _ _ => [⟨1, 0, a.toNat, false⟩]
  | .cbrMaj _ _ a _ _ => [⟨1, 0, a.toNat, false⟩]
  | .colxJoin _ _ _ a b t u => [⟨1, 0, a.toNat, t⟩, ⟨2, 0, b.toNat, u⟩]
  | .sptCpy _ _ _ a t => [⟨1, 0, a.toNat, t⟩]
  | .sptCan _ _ _ a t => [⟨1, 0, a.toNat, t⟩]
  | .sptPoll _ _ _ a t => [⟨1, 0, a.toNat, t⟩]
  | .barInit _ _ a b t u => [⟨1, 0, a.toNat, t⟩, ⟨2, 0, b.toNat, u⟩]
  | .barExp _ _ a b t u => [⟨1, 0, a.toNat, t⟩, ⟨2, 0, b.toNat, u⟩]
  | .barArv _ _ _ a t => [⟨1, 0, a.toNat, t⟩]
  | .barWt _ _ _ a b t u => [⟨1, 0, a.toNat, t⟩, ⟨2, 0, b.toNat, u⟩]
  | .mclaim _ _ _ a t => [⟨1, 0, a.toNat, t⟩]
  | .mrel _ _ a t => [⟨1, 0, a.toNat, t⟩]
  | .mld _ _ d a b t u _ _ => [⟨1, 0, a.toNat, t⟩, ⟨2, 0, b.toNat, u⟩, ⟨4, 0, d.toNat, false⟩]
  | .mstF32 _ _ _ a b t u _ _ => [⟨1, 0, a.toNat, t⟩, ⟨2, 0, b.toNat, u⟩]
  | .mstH _ _ _ a b t u _ _ => [⟨1, 0, a.toNat, t⟩, ⟨2, 0, b.toNat, u⟩]
  | .mstB _ _ _ a b t u _ _ => [⟨1, 0, a.toNat, t⟩, ⟨2, 0, b.toNat, u⟩]
  | .mdrain _ _ _ a b t u => [⟨1, 0, a.toNat, t⟩, ⟨2, 0, b.toNat, u⟩]
  | .ctld _ _ a t _ _ => [⟨1, 0, a.toNat, t⟩]
  | .hldG _ _ _ a t => [⟨1, 0, a.toNat, t⟩]
  | .hldS _ _ _ a t => [⟨1, 0, a.toNat, t⟩]
  | .hstG _ _ a h t u => [⟨1, 0, a.toNat, t⟩, ⟨2, 3, h.toNat, u⟩]
  | .hstS _ _ a h t u => [⟨1, 0, a.toNat, t⟩, ⟨2, 3, h.toNat, u⟩]
  | .podw _ _ a h t u => [⟨1, 0, a.toNat, t⟩, ⟨2, 3, h.toNat, u⟩]
  | .pods _ _ _ h u => [⟨2, 3, h.toNat, u⟩]
  | .podr _ _ _ a t => [⟨1, 0, a.toNat, t⟩]
  | .sspawn _ _ _ a t => [⟨1, 0, a.toNat, t⟩]
  | .sfork _ _ _ a t => [⟨1, 0, a.toNat, t⟩]
  | .snext _ _ a b t u => [⟨1, 0, a.toNat, t⟩, ⟨2, 0, b.toNat, u⟩]
  | .sret _ _ a b t u => [⟨1, 0, a.toNat, t⟩, ⟨2, 0, b.toNat, u⟩]
  | .sretire _ _ a t => [⟨1, 0, a.toNat, t⟩]
  | .sretireSub _ _ a t => [⟨1, 0, a.toNat, t⟩]
  | .smig _ _ _ a b t u => [⟨1, 0, a.toNat, t⟩, ⟨2, 0, b.toNat, u⟩]
  | .sinfeas _ _ a t => [⟨1, 0, a.toNat, t⟩]
  | .sapush _ _ _ a b t u => [⟨1, 0, a.toNat, t⟩, ⟨2, 0, b.toNat, u⟩]
  | .sapop _ _ _ a t => [⟨1, 0, a.toNat, t⟩]
  | .sstat _ _ _ a t => [⟨1, 0, a.toNat, t⟩]
  | .spin _ _ a b t u => [⟨1, 0, a.toNat, t⟩, ⟨2, 0, b.toNat, u⟩]
  | .sunpin _ _ a b t u => [⟨1, 0, a.toNat, t⟩, ⟨2, 0, b.toNat, u⟩]
  | .jopen _ _ d a b t u => [⟨1, 0, a.toNat, t⟩, ⟨2, 0, b.toNat, u⟩, ⟨4, 0, d.toNat, false⟩]
  | .jwait _ _ _ a t => [⟨1, 0, a.toNat, t⟩]
  | .jpoll _ _ _ a b t u => [⟨1, 0, a.toNat, t⟩, ⟨2, 0, b.toNat, u⟩]
  | .jclose _ _ a b t u => [⟨1, 0, a.toNat, t⟩, ⟨2, 0, b.toNat, u⟩]
  | .wopen _ _ _ a t => [⟨1, 0, a.toNat, t⟩]
  | .wsumI _ _ a b t u => [⟨1, 0, a.toNat, t⟩, ⟨2, 2, b.toNat, u⟩]
  | .wsumF _ _ a b t u => [⟨1, 0, a.toNat, t⟩, ⟨2, 2, b.toNat, u⟩]
  | .wmaxvI _ _ a b t u => [⟨1, 0, a.toNat, t⟩, ⟨2, 2, b.toNat, u⟩]
  | .wmaxvF _ _ a b t u => [⟨1, 0, a.toNat, t⟩, ⟨2, 2, b.toNat, u⟩]
  | .wminvI _ _ a b t u => [⟨1, 0, a.toNat, t⟩, ⟨2, 2, b.toNat, u⟩]
  | .wminvF _ _ a b t u => [⟨1, 0, a.toNat, t⟩, ⟨2, 2, b.toNat, u⟩]
  | .wmax _ _ a b t u => [⟨1, 0, a.toNat, t⟩, ⟨2, 2, b.toNat, u⟩]
  | .replay _ _ _ a t => [⟨1, 0, a.toNat, t⟩]
  | .tlbinv _ _ a b t u => [⟨1, 0, a.toNat, t⟩, ⟨2, 0, b.toNat, u⟩]
  | .cflip _ _ a t => [⟨1, 0, a.toNat, t⟩]
  | .mtrd _ _ _ a b t u => [⟨1, 0, a.toNat, t⟩, ⟨2, 0, b.toNat, u⟩]
  | .luiSh _ _ d _ => [⟨1, 0, d.toNat, false⟩]
  | .lnch _ _ _ a t => [⟨1, 0, a.toNat, t⟩]
  | .lnchPoll _ _ _ a t => [⟨1, 0, a.toNat, t⟩]
  | .lnchWait _ _ _ a t => [⟨1, 0, a.toNat, t⟩]
  | .add _ _ a b t u _ => [⟨1, 0, a.toNat, t⟩, ⟨2, 0, b.toNat, u⟩]
  | .sub _ _ a b t u _ => [⟨1, 0, a.toNat, t⟩, ⟨2, 0, b.toNat, u⟩]
  | .and _ _ a b t u _ => [⟨1, 0, a.toNat, t⟩, ⟨2, 0, b.toNat, u⟩]
  | .or _ _ a b t u _ => [⟨1, 0, a.toNat, t⟩, ⟨2, 0, b.toNat, u⟩]
  | .xor _ _ a b t u _ => [⟨1, 0, a.toNat, t⟩, ⟨2, 0, b.toNat, u⟩]
  | .andn _ _ a b t u _ => [⟨1, 0, a.toNat, t⟩, ⟨2, 0, b.toNat, u⟩]
  | .sll _ _ a b t u _ => [⟨1, 0, a.toNat, t⟩, ⟨2, 0, b.toNat, u⟩]
  | .srl _ _ a b t u _ => [⟨1, 0, a.toNat, t⟩, ⟨2, 0, b.toNat, u⟩]
  | .sra _ _ a b t u _ => [⟨1, 0, a.toNat, t⟩, ⟨2, 0, b.toNat, u⟩]
  | .ror _ _ a b t u _ => [⟨1, 0, a.toNat, t⟩, ⟨2, 0, b.toNat, u⟩]
  | .slt _ _ a b t u _ => [⟨1, 0, a.toNat, t⟩, ⟨2, 0, b.toNat, u⟩]
  | .sltu _ _ a b t u _ => [⟨1, 0, a.toNat, t⟩, ⟨2, 0, b.toNat, u⟩]
  | .min _ _ a b t u _ => [⟨1, 0, a.toNat, t⟩, ⟨2, 0, b.toNat, u⟩]
  | .max _ _ a b t u _ => [⟨1, 0, a.toNat, t⟩, ⟨2, 0, b.toNat, u⟩]
  | .minu _ _ a b t u _ => [⟨1, 0, a.toNat, t⟩, ⟨2, 0, b.toNat, u⟩]
  | .maxu _ _ a b t u _ => [⟨1, 0, a.toNat, t⟩, ⟨2, 0, b.toNat, u⟩]
  | .mul _ _ a b t u _ => [⟨1, 0, a.toNat, t⟩, ⟨2, 0, b.toNat, u⟩]
  | .mulh _ _ a b t u => [⟨1, 0, a.toNat, t⟩, ⟨2, 0, b.toNat, u⟩]
  | .mulhu _ _ a b t u => [⟨1, 0, a.toNat, t⟩, ⟨2, 0, b.toNat, u⟩]
  | .div _ _ a b t u _ => [⟨1, 0, a.toNat, t⟩, ⟨2, 0, b.toNat, u⟩]
  | .divu _ _ a b t u _ => [⟨1, 0, a.toNat, t⟩, ⟨2, 0, b.toNat, u⟩]
  | .rem _ _ a b t u _ => [⟨1, 0, a.toNat, t⟩, ⟨2, 0, b.toNat, u⟩]
  | .remu _ _ a b t u _ => [⟨1, 0, a.toNat, t⟩, ⟨2, 0, b.toNat, u⟩]
  | .adds _ _ a b t u _ => [⟨1, 0, a.toNat, t⟩, ⟨2, 0, b.toNat, u⟩]
  | .subs _ _ a b t u _ => [⟨1, 0, a.toNat, t⟩, ⟨2, 0, b.toNat, u⟩]
  | .clz _ _ a t _ => [⟨1, 0, a.toNat, t⟩]
  | .ctz _ _ a t _ => [⟨1, 0, a.toNat, t⟩]
  | .popc _ _ a t _ => [⟨1, 0, a.toNat, t⟩]
  | .wfld _ _ a b t u => [⟨1, 0, a.toNat, t⟩, ⟨2, 0, b.toNat, u⟩]
  | .chkb _ _ a b t u => [⟨1, 0, a.toNat, t⟩, ⟨2, 0, b.toNat, u⟩]
  | .addi _ _ a t _ => [⟨1, 0, a.toNat, t⟩]
  | .andi _ _ a t _ => [⟨1, 0, a.toNat, t⟩]
  | .ori _ _ a t _ => [⟨1, 0, a.toNat, t⟩]
  | .xori _ _ a t _ => [⟨1, 0, a.toNat, t⟩]
  | .slti _ _ a t _ => [⟨1, 0, a.toNat, t⟩]
  | .slli _ _ a t _ _ => [⟨1, 0, a.toNat, t⟩]
  | .srli _ _ a t _ _ => [⟨1, 0, a.toNat, t⟩]
  | .srai _ _ a t _ _ => [⟨1, 0, a.toNat, t⟩]
  | .rori _ _ a t _ _ => [⟨1, 0, a.toNat, t⟩]
  | .sel _ _ a b c t u v => [⟨1, 0, a.toNat, t⟩, ⟨2, 0, b.toNat, u⟩, ⟨3, 0, c.toNat, v⟩]
  | .selN _ _ a b c t u v => [⟨1, 0, a.toNat, t⟩, ⟨2, 0, b.toNat, u⟩, ⟨3, 0, c.toNat, v⟩]
  | .fadd _ _ a b t u => [⟨1, 1, a.toNat, t⟩, ⟨2, 1, b.toNat, u⟩]
  | .fsub _ _ a b t u => [⟨1, 1, a.toNat, t⟩, ⟨2, 1, b.toNat, u⟩]
  | .fmul _ _ a b t u => [⟨1, 1, a.toNat, t⟩, ⟨2, 1, b.toNat, u⟩]
  | .fdiv _ _ a b t u => [⟨1, 1, a.toNat, t⟩, ⟨2, 1, b.toNat, u⟩]
  | .fmin _ _ a b t u => [⟨1, 1, a.toNat, t⟩, ⟨2, 1, b.toNat, u⟩]
  | .fmax _ _ a b t u => [⟨1, 1, a.toNat, t⟩, ⟨2, 1, b.toNat, u⟩]
  | .fsqrt _ _ a t => [⟨1, 1, a.toNat, t⟩]
  | .fabs _ _ a t => [⟨1, 1, a.toNat, t⟩]
  | .fneg _ _ a t => [⟨1, 1, a.toNat, t⟩]
  | .fsgnj _ _ a b t u => [⟨1, 1, a.toNat, t⟩, ⟨2, 1, b.toNat, u⟩]
  | .feq _ _ a b t u => [⟨1, 1, a.toNat, t⟩, ⟨2, 1, b.toNat, u⟩]
  | .flt _ _ a b t u => [⟨1, 1, a.toNat, t⟩, ⟨2, 1, b.toNat, u⟩]
  | .fle _ _ a b t u => [⟨1, 1, a.toNat, t⟩, ⟨2, 1, b.toNat, u⟩]
  | .fclass _ _ a t => [⟨1, 1, a.toNat, t⟩]
  | .fmvXf _ _ a t => [⟨1, 1, a.toNat, t⟩]
  | .fmvFx _ _ a t => [⟨1, 0, a.toNat, t⟩]
  | .fmadd _ _ a b c t u v => [⟨1, 1, a.toNat, t⟩, ⟨2, 1, b.toNat, u⟩, ⟨3, 1, c.toNat, v⟩]
  | .fmsub _ _ a b c t u v => [⟨1, 1, a.toNat, t⟩, ⟨2, 1, b.toNat, u⟩, ⟨3, 1, c.toNat, v⟩]
  | .fcvtFI _ _ a t => [⟨1, 0, a.toNat, t⟩]
  | .fcvtFU _ _ a t => [⟨1, 0, a.toNat, t⟩]
  | .fcvtIF _ _ a t => [⟨1, 1, a.toNat, t⟩]
  | .fcvtUF _ _ a t => [⟨1, 1, a.toNat, t⟩]
  | .fcvtHF _ _ a t => [⟨1, 1, a.toNat, t⟩]
  | .fcvtFH _ _ a t => [⟨1, 0, a.toNat, t⟩]
  | .fcvtBF _ _ a t => [⟨1, 1, a.toNat, t⟩]
  | .fcvtFB _ _ a t => [⟨1, 0, a.toNat, t⟩]
  | .fcvtT8F _ _ a t => [⟨1, 1, a.toNat, t⟩]
  | .fcvtFT8 _ _ a t => [⟨1, 0, a.toNat, t⟩]
  | .fcvtT4F _ _ a t => [⟨1, 1, a.toNat, t⟩]
  | .fcvtFT4 _ _ a t => [⟨1, 0, a.toNat, t⟩]
  | .vadd _ _ a b _ _ => [⟨1, 2, a.toNat, false⟩, ⟨2, 2, b.toNat, false⟩]
  | .vsub _ _ a b _ _ => [⟨1, 2, a.toNat, false⟩, ⟨2, 2, b.toNat, false⟩]
  | .vadds _ _ a b _ _ => [⟨1, 2, a.toNat, false⟩, ⟨2, 2, b.toNat, false⟩]
  | .vsubs _ _ a b _ _ => [⟨1, 2, a.toNat, false⟩, ⟨2, 2, b.toNat, false⟩]
  | .vmul _ _ a b _ _ => [⟨1, 2, a.toNat, false⟩, ⟨2, 2, b.toNat, false⟩]
  | .vmin _ _ a b _ _ => [⟨1, 2, a.toNat, false⟩, ⟨2, 2, b.toNat, false⟩]
  | .vmax _ _ a b _ _ => [⟨1, 2, a.toNat, false⟩, ⟨2, 2, b.toNat, false⟩]
  | .vsh _ _ a b _ _ => [⟨1, 2, a.toNat, false⟩, ⟨2, 2, b.toNat, false⟩]
  | .vand _ _ a b _ => [⟨1, 2, a.toNat, false⟩, ⟨2, 2, b.toNat, false⟩]
  | .vor _ _ a b _ => [⟨1, 2, a.toNat, false⟩, ⟨2, 2, b.toNat, false⟩]
  | .vxor _ _ a b _ => [⟨1, 2, a.toNat, false⟩, ⟨2, 2, b.toNat, false⟩]
  | .vandn _ _ a b _ => [⟨1, 2, a.toNat, false⟩, ⟨2, 2, b.toNat, false⟩]
  | .vnot _ _ a _ => [⟨1, 2, a.toNat, false⟩]
  | .vmov _ _ a _ => [⟨1, 2, a.toNat, false⟩]
  | .vfadd _ _ a b _ _ => [⟨1, 2, a.toNat, false⟩, ⟨2, 2, b.toNat, false⟩]
  | .vfsub _ _ a b _ _ => [⟨1, 2, a.toNat, false⟩, ⟨2, 2, b.toNat, false⟩]
  | .vfmul _ _ a b _ _ => [⟨1, 2, a.toNat, false⟩, ⟨2, 2, b.toNat, false⟩]
  | .vfdiv _ _ a b _ _ => [⟨1, 2, a.toNat, false⟩, ⟨2, 2, b.toNat, false⟩]
  | .vfmin _ _ a b _ _ => [⟨1, 2, a.toNat, false⟩, ⟨2, 2, b.toNat, false⟩]
  | .vfmax _ _ a b _ _ => [⟨1, 2, a.toNat, false⟩, ⟨2, 2, b.toNat, false⟩]
  | .vfabs _ _ a _ _ => [⟨1, 2, a.toNat, false⟩]
  | .vfneg _ _ a _ _ => [⟨1, 2, a.toNat, false⟩]
  | .vfmadd _ d a b _ _ => [⟨1, 2, a.toNat, false⟩, ⟨2, 2, b.toNat, false⟩, ⟨3, 2, d.toNat, false⟩]
  | .vfmsub _ d a b _ _ => [⟨1, 2, a.toNat, false⟩, ⟨2, 2, b.toNat, false⟩, ⟨3, 2, d.toNat, false⟩]
  | .vfnmadd _ d a b _ _ => [⟨1, 2, a.toNat, false⟩, ⟨2, 2, b.toNat, false⟩, ⟨3, 2, d.toNat, false⟩]
  | .vfnmsub _ d a b _ _ => [⟨1, 2, a.toNat, false⟩, ⟨2, 2, b.toNat, false⟩, ⟨3, 2, d.toNat, false⟩]
  | .vfdot2 _ d a b _ _ => [⟨1, 2, a.toNat, false⟩, ⟨2, 2, b.toNat, false⟩, ⟨3, 2, d.toNat, false⟩]
  | .vrsum _ _ a _ _ => [⟨1, 2, a.toNat, false⟩]
  | .vrmax _ _ a _ _ => [⟨1, 2, a.toNat, false⟩]
  | .vrmin _ _ a _ _ => [⟨1, 2, a.toNat, false⟩]
  | .vrargmax _ _ a _ _ => [⟨1, 2, a.toNat, false⟩]
  | .vrargmin _ _ a _ _ => [⟨1, 2, a.toNat, false⟩]
  | .vrband _ _ a _ _ => [⟨1, 2, a.toNat, false⟩]
  | .vrbor _ _ a _ _ => [⟨1, 2, a.toNat, false⟩]
  | .vrbxor _ _ a _ _ => [⟨1, 2, a.toNat, false⟩]
  | .vperm _ _ a b _ _ => [⟨1, 2, a.toNat, false⟩, ⟨2, 2, b.toNat, false⟩]
  | .vbcast _ _ a _ _ => [⟨1, 2, a.toNat, false⟩]
  | .vbcastx _ _ a _ _ => [⟨1, 0, a.toNat, false⟩]
  | .vrot _ _ a b _ _ => [⟨1, 2, a.toNat, false⟩, ⟨2, 0, b.toNat, false⟩]
  | .vcomp _ _ a _ _ => [⟨1, 2, a.toNat, false⟩]
  | .vexpd _ _ a _ _ => [⟨1, 2, a.toNat, false⟩]
  | .vinsx _ _ a b _ => [⟨1, 0, a.toNat, false⟩, ⟨2, 0, b.toNat, false⟩]
  | .vextx _ _ a b _ => [⟨1, 2, a.toNat, false⟩, ⟨2, 0, b.toNat, false⟩]
  | .vcmpEq _ _ a b _ _ => [⟨1, 2, a.toNat, false⟩, ⟨2, 2, b.toNat, false⟩]
  | .vcmpNe _ _ a b _ _ => [⟨1, 2, a.toNat, false⟩, ⟨2, 2, b.toNat, false⟩]
  | .vcmpLt _ _ a b _ _ => [⟨1, 2, a.toNat, false⟩, ⟨2, 2, b.toNat, false⟩]
  | .vcmpLe _ _ a b _ _ => [⟨1, 2, a.toNat, false⟩, ⟨2, 2, b.toNat, false⟩]
  | .vcmpGt _ _ a b _ _ => [⟨1, 2, a.toNat, false⟩, ⟨2, 2, b.toNat, false⟩]
  | .vcmpGe _ _ a b _ _ => [⟨1, 2, a.toNat, false⟩, ⟨2, 2, b.toNat, false⟩]
  | .vcmpUnord _ _ a b _ => [⟨1, 2, a.toNat, false⟩, ⟨2, 2, b.toNat, false⟩]
  | .vcvtFi _ _ a _ _ => [⟨1, 2, a.toNat, false⟩]
  | .vcvtIf _ _ a _ _ => [⟨1, 2, a.toNat, false⟩]
  | .vcvtNar _ _ a b _ _ => [⟨1, 2, a.toNat, false⟩, ⟨2, 2, b.toNat, false⟩]
  | .vcvtWid _ _ a _ _ _ => [⟨1, 2, a.toNat, false⟩]
  | .vcvtEt8 _ _ a _ _ => [⟨1, 2, a.toNat, false⟩]
  | .vcvtDt8 _ _ a _ _ => [⟨1, 2, a.toNat, false⟩]
  | .vcvtEt4 _ _ a _ _ => [⟨1, 2, a.toNat, false⟩]
  | .vcvtDt4 _ _ a _ _ => [⟨1, 2, a.toNat, false⟩]
  | .vexp2 _ _ a _ _ => [⟨1, 2, a.toNat, false⟩]
  | .vlog2 _ _ a _ _ => [⟨1, 2, a.toNat, false⟩]
  | .vrcp _ _ a _ _ => [⟨1, 2, a.toNat, false⟩]
  | .vrsqrt _ _ a _ _ => [⟨1, 2, a.toNat, false⟩]
  | .vsqrt _ _ a _ _ => [⟨1, 2, a.toNat, false⟩]
  | .vtanh _ _ a _ _ => [⟨1, 2, a.toNat, false⟩]
  | .vsigm _ _ a _ _ => [⟨1, 2, a.toNat, false⟩]
  | .vgelu _ _ a _ _ => [⟨1, 2, a.toNat, false⟩]
  | .mfromx _ _ a => [⟨1, 0, a.toNat, false⟩]
  | .mmaH _ _ _ _ a b f _ => [⟨1, 0, a.toNat, false⟩, ⟨2, 0, b.toNat, false⟩, ⟨3, 1, f.toNat, false⟩]
  | .mmaB _ _ _ _ a b f _ => [⟨1, 0, a.toNat, false⟩, ⟨2, 0, b.toNat, false⟩, ⟨3, 1, f.toNat, false⟩]
  | .mmaT8 _ _ _ _ a b f _ => [⟨1, 0, a.toNat, false⟩, ⟨2, 0, b.toNat, false⟩, ⟨3, 1, f.toNat, false⟩]
  | .mmaT84 _ _ _ _ a b f _ => [⟨1, 0, a.toNat, false⟩, ⟨2, 0, b.toNat, false⟩, ⟨3, 1, f.toNat, false⟩]
  | .mmaT4 _ _ _ _ a b f _ => [⟨1, 0, a.toNat, false⟩, ⟨2, 0, b.toNat, false⟩, ⟨3, 1, f.toNat, false⟩]
  | .mmaI8 _ _ _ _ a b _ => [⟨1, 0, a.toNat, false⟩, ⟨2, 0, b.toNat, false⟩]
  | .medge _ a t => [⟨1, 0, a.toNat, t⟩]
  | .mrowr _ _ _ b u => [⟨2, 0, b.toNat, u⟩]
  | .mroww _ _ a b t u => [⟨1, 2, a.toNat, t⟩, ⟨2, 0, b.toNat, u⟩]
  | .hbind _ _ a b t => [⟨1, 3, a.toNat, t⟩, ⟨2, 3, b.toNat, t⟩]
  | .hperm _ _ a t _ => [⟨1, 3, a.toNat, t⟩]
  | .hnot _ _ a t => [⟨1, 3, a.toNat, t⟩]
  | .hmov _ _ a t => [⟨1, 3, a.toNat, t⟩]
  | .hbundle _ a _ t => [⟨1, 3, a.toNat, t⟩]
  | .hthr _ _ a _ t => [⟨1, 3, a.toNat, t⟩]
  | .hdist _ a b t _ => [⟨1, 3, a.toNat, t⟩, ⟨2, 3, b.toNat, t⟩]
  | .hpop _ a t _ => [⟨1, 3, a.toNat, t⟩]
  | .noise _ d a b _ => [⟨1, 2, a.toNat, false⟩, ⟨2, 0, b.toNat, false⟩, ⟨3, 2, d.toNat, false⟩]
  | .chash _ _ _ b => [⟨2, 0, b.toNat, false⟩]
  | .chashLd _ _ b => [⟨2, 0, b.toNat, false⟩]
  | .chashSt _ a b => [⟨1, 2, a.toNat, false⟩, ⟨2, 0, b.toNat, false⟩]
  | .hrand _ _ a => [⟨1, 0, a.toNat, false⟩]
  | .rseed _ a => [⟨1, 0, a.toNat, false⟩]
  | _ => []

/-- The registers that an instruction writes, for R23 and R42 (CSRs apart, which no A word writes). -/
def Instr.dests : Instr → List Dst
  | .csrr _ _ d _ => [⟨0, d.toNat⟩]
  | .csrw _ _ d _ _ => [⟨0, d.toNat⟩]
  | .csrs _ _ d _ _ => [⟨0, d.toNat⟩]
  | .csrc _ _ d _ _ => [⟨0, d.toNat⟩]
  | .jal _ _ d _ => [⟨0, d.toNat⟩]
  | .jalr _ _ d _ _ _ => [⟨0, d.toNat⟩]
  | .ldg _ _ d _ _ _ _ _ => [⟨0, d.toNat⟩]
  | .lds _ _ d _ _ _ _ _ => [⟨0, d.toNat⟩]
  | .ldw _ _ d _ _ _ _ _ => [⟨0, d.toNat⟩]
  | .vldg _ _ d _ _ _ _ => [⟨2, d.toNat⟩]
  | .vlds _ _ d _ _ _ _ => [⟨2, d.toNat⟩]
  | .vgath _ _ d _ _ _ _ _ _ => [⟨2, d.toNat⟩]
  | .ldo _ _ d _ _ _ _ _ => [⟨0, d.toNat⟩]
  | .amoSwap _ _ d _ _ _ _ _ => [⟨0, d.toNat⟩]
  | .amoAdd _ _ d _ _ _ _ _ => [⟨0, d.toNat⟩]
  | .amoAnd _ _ d _ _ _ _ _ => [⟨0, d.toNat⟩]
  | .amoOr _ _ d _ _ _ _ _ => [⟨0, d.toNat⟩]
  | .amoXor _ _ d _ _ _ _ _ => [⟨0, d.toNat⟩]
  | .amoMax _ _ d _ _ _ _ _ => [⟨0, d.toNat⟩]
  | .amoMin _ _ d _ _ _ _ _ => [⟨0, d.toNat⟩]
  | .amoMaxu _ _ d _ _ _ _ _ => [⟨0, d.toNat⟩]
  | .amoxMinu _ _ d _ _ _ _ _ => [⟨0, d.toNat⟩]
  | .amoxCas _ _ d _ _ _ _ _ => [⟨0, d.toNat⟩]
  | .amoxFadd _ _ d _ _ _ _ => [⟨0, d.toNat⟩]
  | .amoxFmin _ _ d _ _ _ _ => [⟨0, d.toNat⟩]
  | .amoxFmax _ _ d _ _ _ _ => [⟨0, d.toNat⟩]
  | .waita _ _ d _ _ _ _ _ _ => [⟨0, d.toNat⟩]
  | .ttrun _ _ d _ _ => [⟨0, d.toNat⟩]
  | .qnew _ _ d _ => [⟨0, d.toNat⟩]
  | .colxJoin _ _ d _ _ _ _ => [⟨0, d.toNat⟩]
  | .sptCpy _ _ d _ _ => [⟨0, d.toNat⟩]
  | .sptCan _ _ d _ _ => [⟨0, d.toNat⟩]
  | .sptPoll _ _ d _ _ => [⟨0, d.toNat⟩]
  | .barArv _ _ d _ _ => [⟨0, d.toNat⟩]
  | .barWt _ _ d _ _ _ _ => [⟨0, d.toNat⟩]
  | .mclaim _ _ d _ _ => [⟨0, d.toNat⟩]
  | .hldG _ _ h _ _ => [⟨3, h.toNat⟩]
  | .hldS _ _ h _ _ => [⟨3, h.toNat⟩]
  | .pods _ _ d _ _ => [⟨0, d.toNat⟩]
  | .podr _ _ h _ _ => [⟨3, h.toNat⟩]
  | .sspawn _ _ d _ _ => [⟨0, d.toNat⟩]
  | .sfork _ _ d _ _ => [⟨0, d.toNat⟩]
  | .smig _ _ d _ _ _ _ => [⟨0, d.toNat⟩]
  | .sapush _ _ d _ _ _ _ => [⟨0, d.toNat⟩]
  | .sapop _ _ d _ _ => [⟨0, d.toNat⟩]
  | .sstat _ _ d _ _ => [⟨0, d.toNat⟩]
  | .jwait _ _ d _ _ => [⟨0, d.toNat⟩]
  | .jpoll _ _ d _ _ _ _ => [⟨0, d.toNat⟩]
  | .wopen _ _ d _ _ => [⟨0, d.toNat⟩]
  | .replay _ _ d _ _ => [⟨0, d.toNat⟩]
  | .mtrd _ _ d _ _ _ _ => [⟨0, d.toNat⟩]
  | .lui _ _ d _ => [⟨0, d.toNat⟩]
  | .luiSh _ _ d _ => [⟨0, d.toNat⟩]
  | .lnch _ _ d _ _ => [⟨0, d.toNat⟩]
  | .lnchPoll _ _ d _ _ => [⟨0, d.toNat⟩]
  | .lnchWait _ _ d _ _ => [⟨0, d.toNat⟩]
  | .add _ d _ _ _ _ _ => [⟨0, d.toNat⟩]
  | .sub _ d _ _ _ _ _ => [⟨0, d.toNat⟩]
  | .and _ d _ _ _ _ _ => [⟨0, d.toNat⟩]
  | .or _ d _ _ _ _ _ => [⟨0, d.toNat⟩]
  | .xor _ d _ _ _ _ _ => [⟨0, d.toNat⟩]
  | .andn _ d _ _ _ _ _ => [⟨0, d.toNat⟩]
  | .sll _ d _ _ _ _ _ => [⟨0, d.toNat⟩]
  | .srl _ d _ _ _ _ _ => [⟨0, d.toNat⟩]
  | .sra _ d _ _ _ _ _ => [⟨0, d.toNat⟩]
  | .ror _ d _ _ _ _ _ => [⟨0, d.toNat⟩]
  | .slt _ d _ _ _ _ _ => [⟨0, d.toNat⟩]
  | .sltu _ d _ _ _ _ _ => [⟨0, d.toNat⟩]
  | .min _ d _ _ _ _ _ => [⟨0, d.toNat⟩]
  | .max _ d _ _ _ _ _ => [⟨0, d.toNat⟩]
  | .minu _ d _ _ _ _ _ => [⟨0, d.toNat⟩]
  | .maxu _ d _ _ _ _ _ => [⟨0, d.toNat⟩]
  | .mul _ d _ _ _ _ _ => [⟨0, d.toNat⟩]
  | .mulh _ d _ _ _ _ => [⟨0, d.toNat⟩]
  | .mulhu _ d _ _ _ _ => [⟨0, d.toNat⟩]
  | .div _ d _ _ _ _ _ => [⟨0, d.toNat⟩]
  | .divu _ d _ _ _ _ _ => [⟨0, d.toNat⟩]
  | .rem _ d _ _ _ _ _ => [⟨0, d.toNat⟩]
  | .remu _ d _ _ _ _ _ => [⟨0, d.toNat⟩]
  | .adds _ d _ _ _ _ _ => [⟨0, d.toNat⟩]
  | .subs _ d _ _ _ _ _ => [⟨0, d.toNat⟩]
  | .clz _ d _ _ _ => [⟨0, d.toNat⟩]
  | .ctz _ d _ _ _ => [⟨0, d.toNat⟩]
  | .popc _ d _ _ _ => [⟨0, d.toNat⟩]
  | .wfld _ d _ _ _ _ => [⟨0, d.toNat⟩]
  | .chkb _ d _ _ _ _ => [⟨0, d.toNat⟩]
  | .addi _ d _ _ _ => [⟨0, d.toNat⟩]
  | .andi _ d _ _ _ => [⟨0, d.toNat⟩]
  | .ori _ d _ _ _ => [⟨0, d.toNat⟩]
  | .xori _ d _ _ _ => [⟨0, d.toNat⟩]
  | .slti _ d _ _ _ => [⟨0, d.toNat⟩]
  | .slli _ d _ _ _ _ => [⟨0, d.toNat⟩]
  | .srli _ d _ _ _ _ => [⟨0, d.toNat⟩]
  | .srai _ d _ _ _ _ => [⟨0, d.toNat⟩]
  | .rori _ d _ _ _ _ => [⟨0, d.toNat⟩]
  | .sel _ d _ _ _ _ _ _ => [⟨0, d.toNat⟩]
  | .selN _ d _ _ _ _ _ _ => [⟨0, d.toNat⟩]
  | .fadd _ d _ _ _ _ => [⟨1, d.toNat⟩]
  | .fsub _ d _ _ _ _ => [⟨1, d.toNat⟩]
  | .fmul _ d _ _ _ _ => [⟨1, d.toNat⟩]
  | .fdiv _ d _ _ _ _ => [⟨1, d.toNat⟩]
  | .fmin _ d _ _ _ _ => [⟨1, d.toNat⟩]
  | .fmax _ d _ _ _ _ => [⟨1, d.toNat⟩]
  | .fsqrt _ d _ _ => [⟨1, d.toNat⟩]
  | .fabs _ d _ _ => [⟨1, d.toNat⟩]
  | .fneg _ d _ _ => [⟨1, d.toNat⟩]
  | .fsgnj _ d _ _ _ _ => [⟨1, d.toNat⟩]
  | .feq _ d _ _ _ _ => [⟨0, d.toNat⟩]
  | .flt _ d _ _ _ _ => [⟨0, d.toNat⟩]
  | .fle _ d _ _ _ _ => [⟨0, d.toNat⟩]
  | .fclass _ d _ _ => [⟨0, d.toNat⟩]
  | .fmvXf _ d _ _ => [⟨0, d.toNat⟩]
  | .fmvFx _ d _ _ => [⟨1, d.toNat⟩]
  | .fmadd _ d _ _ _ _ _ _ => [⟨1, d.toNat⟩]
  | .fmsub _ d _ _ _ _ _ _ => [⟨1, d.toNat⟩]
  | .fcvtFI _ d _ _ => [⟨1, d.toNat⟩]
  | .fcvtFU _ d _ _ => [⟨1, d.toNat⟩]
  | .fcvtIF _ d _ _ => [⟨0, d.toNat⟩]
  | .fcvtUF _ d _ _ => [⟨0, d.toNat⟩]
  | .fcvtHF _ d _ _ => [⟨0, d.toNat⟩]
  | .fcvtFH _ d _ _ => [⟨1, d.toNat⟩]
  | .fcvtBF _ d _ _ => [⟨0, d.toNat⟩]
  | .fcvtFB _ d _ _ => [⟨1, d.toNat⟩]
  | .fcvtT8F _ d _ _ => [⟨0, d.toNat⟩]
  | .fcvtFT8 _ d _ _ => [⟨1, d.toNat⟩]
  | .fcvtT4F _ d _ _ => [⟨0, d.toNat⟩]
  | .fcvtFT4 _ d _ _ => [⟨1, d.toNat⟩]
  | .vadd _ d _ _ _ _ => [⟨2, d.toNat⟩]
  | .vsub _ d _ _ _ _ => [⟨2, d.toNat⟩]
  | .vadds _ d _ _ _ _ => [⟨2, d.toNat⟩]
  | .vsubs _ d _ _ _ _ => [⟨2, d.toNat⟩]
  | .vmul _ d _ _ _ _ => [⟨2, d.toNat⟩]
  | .vmin _ d _ _ _ _ => [⟨2, d.toNat⟩]
  | .vmax _ d _ _ _ _ => [⟨2, d.toNat⟩]
  | .vsh _ d _ _ _ _ => [⟨2, d.toNat⟩]
  | .vand _ d _ _ _ => [⟨2, d.toNat⟩]
  | .vor _ d _ _ _ => [⟨2, d.toNat⟩]
  | .vxor _ d _ _ _ => [⟨2, d.toNat⟩]
  | .vandn _ d _ _ _ => [⟨2, d.toNat⟩]
  | .vnot _ d _ _ => [⟨2, d.toNat⟩]
  | .vmov _ d _ _ => [⟨2, d.toNat⟩]
  | .vfadd _ d _ _ _ _ => [⟨2, d.toNat⟩]
  | .vfsub _ d _ _ _ _ => [⟨2, d.toNat⟩]
  | .vfmul _ d _ _ _ _ => [⟨2, d.toNat⟩]
  | .vfdiv _ d _ _ _ _ => [⟨2, d.toNat⟩]
  | .vfmin _ d _ _ _ _ => [⟨2, d.toNat⟩]
  | .vfmax _ d _ _ _ _ => [⟨2, d.toNat⟩]
  | .vfabs _ d _ _ _ => [⟨2, d.toNat⟩]
  | .vfneg _ d _ _ _ => [⟨2, d.toNat⟩]
  | .vfmadd _ d _ _ _ _ => [⟨2, d.toNat⟩]
  | .vfmsub _ d _ _ _ _ => [⟨2, d.toNat⟩]
  | .vfnmadd _ d _ _ _ _ => [⟨2, d.toNat⟩]
  | .vfnmsub _ d _ _ _ _ => [⟨2, d.toNat⟩]
  | .vfdot2 _ d _ _ _ _ => [⟨2, d.toNat⟩]
  | .vrsum _ d _ _ _ => [⟨2, d.toNat⟩]
  | .vrmax _ d _ _ _ => [⟨2, d.toNat⟩]
  | .vrmin _ d _ _ _ => [⟨2, d.toNat⟩]
  | .vrargmax _ d _ _ _ => [⟨2, d.toNat⟩]
  | .vrargmin _ d _ _ _ => [⟨2, d.toNat⟩]
  | .vrband _ d _ _ _ => [⟨2, d.toNat⟩]
  | .vrbor _ d _ _ _ => [⟨2, d.toNat⟩]
  | .vrbxor _ d _ _ _ => [⟨2, d.toNat⟩]
  | .vperm _ d _ _ _ _ => [⟨2, d.toNat⟩]
  | .vbcast _ d _ _ _ => [⟨2, d.toNat⟩]
  | .vbcastx _ d _ _ _ => [⟨2, d.toNat⟩]
  | .vrot _ d _ _ _ _ => [⟨2, d.toNat⟩]
  | .vcomp _ d _ _ _ => [⟨2, d.toNat⟩]
  | .vexpd _ d _ _ _ => [⟨2, d.toNat⟩]
  | .vinsx _ d _ _ _ => [⟨2, d.toNat⟩]
  | .vextx _ d _ _ _ => [⟨0, d.toNat⟩]
  | .vcmpEq _ d _ _ _ _ => [⟨4, d.toNat⟩]
  | .vcmpNe _ d _ _ _ _ => [⟨4, d.toNat⟩]
  | .vcmpLt _ d _ _ _ _ => [⟨4, d.toNat⟩]
  | .vcmpLe _ d _ _ _ _ => [⟨4, d.toNat⟩]
  | .vcmpGt _ d _ _ _ _ => [⟨4, d.toNat⟩]
  | .vcmpGe _ d _ _ _ _ => [⟨4, d.toNat⟩]
  | .vcmpUnord _ d _ _ _ => [⟨4, d.toNat⟩]
  | .vcvtFi _ d _ _ _ => [⟨2, d.toNat⟩]
  | .vcvtIf _ d _ _ _ => [⟨2, d.toNat⟩]
  | .vcvtNar _ d _ _ _ _ => [⟨2, d.toNat⟩]
  | .vcvtWid _ d _ _ _ _ => [⟨2, d.toNat⟩]
  | .vcvtEt8 _ d _ _ _ => [⟨2, d.toNat⟩]
  | .vcvtDt8 _ d _ _ _ => [⟨2, d.toNat⟩]
  | .vcvtEt4 _ d _ _ _ => [⟨2, d.toNat⟩]
  | .vcvtDt4 _ d _ _ _ => [⟨2, d.toNat⟩]
  | .vexp2 _ d _ _ _ => [⟨2, d.toNat⟩]
  | .vlog2 _ d _ _ _ => [⟨2, d.toNat⟩]
  | .vrcp _ d _ _ _ => [⟨2, d.toNat⟩]
  | .vrsqrt _ d _ _ _ => [⟨2, d.toNat⟩]
  | .vsqrt _ d _ _ _ => [⟨2, d.toNat⟩]
  | .vtanh _ d _ _ _ => [⟨2, d.toNat⟩]
  | .vsigm _ d _ _ _ => [⟨2, d.toNat⟩]
  | .vgelu _ d _ _ _ => [⟨2, d.toNat⟩]
  | .mand _ d _ _ => [⟨4, d.toNat⟩]
  | .mor _ d _ _ => [⟨4, d.toNat⟩]
  | .mxor _ d _ _ => [⟨4, d.toNat⟩]
  | .mandn _ d _ _ => [⟨4, d.toNat⟩]
  | .mnot _ d _ => [⟨4, d.toNat⟩]
  | .mfirst _ d _ => [⟨4, d.toNat⟩]
  | .mfromx _ d _ => [⟨4, d.toNat⟩]
  | .mtox _ d _ => [⟨0, d.toNat⟩]
  | .mmaH _ c _ _ _ _ _ _ => [⟨6, c.toNat⟩]
  | .mmaB _ c _ _ _ _ _ _ => [⟨6, c.toNat⟩]
  | .mmaT8 _ c _ _ _ _ _ _ => [⟨6, c.toNat⟩]
  | .mmaT84 _ c _ _ _ _ _ _ => [⟨6, c.toNat⟩]
  | .mmaT4 _ c _ _ _ _ _ _ => [⟨6, c.toNat⟩]
  | .mmaI8 _ c _ _ _ _ _ => [⟨6, c.toNat⟩]
  | .mzero _ d => [⟨6, d.toNat⟩]
  | .medge _ _ _ => [⟨4, 5⟩, ⟨4, 6⟩, ⟨4, 7⟩]
  | .mrowr _ d _ _ _ => [⟨2, d.toNat⟩]
  | .mroww _ d _ _ _ _ => [⟨6, d.toNat⟩]
  | .hbind _ d _ _ _ => [⟨3, d.toNat⟩]
  | .hperm _ d _ _ _ => [⟨3, d.toNat⟩]
  | .hnot _ d _ _ => [⟨3, d.toNat⟩]
  | .hmov _ d _ _ => [⟨3, d.toNat⟩]
  | .hbundle _ _ b _ => [⟨5, b.toNat⟩]
  | .hclr _ b => [⟨5, b.toNat⟩]
  | .hthr _ d _ _ _ => [⟨3, d.toNat⟩]
  | .hdist _ _ _ _ d => [⟨0, d.toNat⟩]
  | .hpop _ _ _ d => [⟨0, d.toNat⟩]
  | .noise _ d _ _ _ => [⟨2, d.toNat⟩]
  | .chash _ d _ _ => [⟨2, d.toNat⟩]
  | .chashLd _ d _ => [⟨2, d.toNat⟩]
  | .hrand _ d _ => [⟨3, d.toNat⟩]
  | .rbits _ d => [⟨0, d.toNat⟩]
  | _ => []

/-- The instruction waits until resolution of an unresolved collective branch (R258, R375). -/
def Instr.stalls : Instr → Bool
  | .halt _ _ => true
  | .ldo _ _ _ _ _ _ _ _ => true
  | .sto _ _ _ _ _ _ _ => true
  | .amoSwap _ _ _ _ _ _ _ _ => true
  | .amoAdd _ _ _ _ _ _ _ _ => true
  | .amoAnd _ _ _ _ _ _ _ _ => true
  | .amoOr _ _ _ _ _ _ _ _ => true
  | .amoXor _ _ _ _ _ _ _ _ => true
  | .amoMax _ _ _ _ _ _ _ _ => true
  | .amoMin _ _ _ _ _ _ _ _ => true
  | .amoMaxu _ _ _ _ _ _ _ _ => true
  | .amoxMinu _ _ _ _ _ _ _ _ => true
  | .amoxCas _ _ _ _ _ _ _ _ => true
  | .amoxFadd _ _ _ _ _ _ _ => true
  | .amoxFmin _ _ _ _ _ _ _ => true
  | .amoxFmax _ _ _ _ _ _ _ => true
  | .fence _ _ _ _ => true
  | .waitc _ _ _ => true
  | .waita _ _ _ _ _ _ _ _ _ => true
  | .qbind _ _ _ _ _ => true
  | .qunbind _ _ _ => true
  | .ttrun _ _ _ _ _ => true
  | .send _ _ _ _ _ _ _ => true
  | .qnew _ _ _ _ => true
  | .cbrAny _ _ _ _ _ => true
  | .cbrAll _ _ _ _ _ => true
  | .cbrMaj _ _ _ _ _ => true
  | .colxJoin _ _ _ _ _ _ _ => true
  | .colxLeave _ _ => true
  | .sptCpy _ _ _ _ _ => true
  | .sptCan _ _ _ _ _ => true
  | .sptPoll _ _ _ _ _ => true
  | .barInit _ _ _ _ _ _ => true
  | .barExp _ _ _ _ _ _ => true
  | .barArv _ _ _ _ _ => true
  | .barWt _ _ _ _ _ _ _ => true
  | .mclaim _ _ _ _ _ => true
  | .mrel _ _ _ _ => true
  | .mld _ _ _ _ _ _ _ _ _ => true
  | .mstF32 _ _ _ _ _ _ _ _ _ => true
  | .mstH _ _ _ _ _ _ _ _ _ => true
  | .mstB _ _ _ _ _ _ _ _ _ => true
  | .mdrain _ _ _ _ _ _ _ => true
  | .ctld _ _ _ _ _ _ => true
  | .podw _ _ _ _ _ _ => true
  | .sspawn _ _ _ _ _ => true
  | .sfork _ _ _ _ _ => true
  | .snext _ _ _ _ _ _ => true
  | .sret _ _ _ _ _ _ => true
  | .sretire _ _ _ _ => true
  | .sretireSub _ _ _ _ => true
  | .smig _ _ _ _ _ _ _ => true
  | .sinfeas _ _ _ _ => true
  | .sapush _ _ _ _ _ _ _ => true
  | .sapop _ _ _ _ _ => true
  | .sstat _ _ _ _ _ => true
  | .spin _ _ _ _ _ _ => true
  | .sunpin _ _ _ _ _ _ => true
  | .jopen _ _ _ _ _ _ _ => true
  | .jwait _ _ _ _ _ => true
  | .jpoll _ _ _ _ _ _ _ => true
  | .jclose _ _ _ _ _ _ => true
  | .wopen _ _ _ _ _ => true
  | .wsumI _ _ _ _ _ _ => true
  | .wsumF _ _ _ _ _ _ => true
  | .wmaxvI _ _ _ _ _ _ => true
  | .wmaxvF _ _ _ _ _ _ => true
  | .wminvI _ _ _ _ _ _ => true
  | .wminvF _ _ _ _ _ _ => true
  | .wmax _ _ _ _ _ _ => true
  | .replay _ _ _ _ _ => true
  | .tlbinv _ _ _ _ _ _ => true
  | .cflip _ _ _ _ => true
  | .mtrd _ _ _ _ _ _ _ => true
  | .lnch _ _ _ _ _ => true
  | .lnchPoll _ _ _ _ _ => true
  | .lnchWait _ _ _ _ _ => true
  | .chashSt _ _ _ => true
  | _ => false

/-- The instruction traps ILLEGAL in a DUAL launch (R205). -/
def Instr.notInDual : Instr → Bool
  | .amoSwap _ _ _ _ _ _ _ _ => true
  | .amoAdd _ _ _ _ _ _ _ _ => true
  | .amoAnd _ _ _ _ _ _ _ _ => true
  | .amoOr _ _ _ _ _ _ _ _ => true
  | .amoXor _ _ _ _ _ _ _ _ => true
  | .amoMax _ _ _ _ _ _ _ _ => true
  | .amoMin _ _ _ _ _ _ _ _ => true
  | .amoMaxu _ _ _ _ _ _ _ _ => true
  | .amoxMinu _ _ _ _ _ _ _ _ => true
  | .amoxCas _ _ _ _ _ _ _ _ => true
  | .amoxFadd _ _ _ _ _ _ _ => true
  | .amoxFmin _ _ _ _ _ _ _ => true
  | .amoxFmax _ _ _ _ _ _ _ => true
  | .qbind _ _ _ _ _ => true
  | .qunbind _ _ _ => true
  | .ttrun _ _ _ _ _ => true
  | .send _ _ _ _ _ _ _ => true
  | .qnew _ _ _ _ => true
  | .cbrAny _ _ _ _ _ => true
  | .cbrAll _ _ _ _ _ => true
  | .cbrMaj _ _ _ _ _ => true
  | .colxJoin _ _ _ _ _ _ _ => true
  | .colxLeave _ _ => true
  | .sptCpy _ _ _ _ _ => true
  | .sptCan _ _ _ _ _ => true
  | .sptPoll _ _ _ _ _ => true
  | .barInit _ _ _ _ _ _ => true
  | .barExp _ _ _ _ _ _ => true
  | .barArv _ _ _ _ _ => true
  | .barWt _ _ _ _ _ _ _ => true
  | .mdrain _ _ _ _ _ _ _ => true
  | .podw _ _ _ _ _ _ => true
  | .sspawn _ _ _ _ _ => true
  | .sfork _ _ _ _ _ => true
  | .snext _ _ _ _ _ _ => true
  | .sret _ _ _ _ _ _ => true
  | .sretire _ _ _ _ => true
  | .sretireSub _ _ _ _ => true
  | .smig _ _ _ _ _ _ _ => true
  | .sinfeas _ _ _ _ => true
  | .sapush _ _ _ _ _ _ _ => true
  | .sapop _ _ _ _ _ => true
  | .sstat _ _ _ _ _ => true
  | .spin _ _ _ _ _ _ => true
  | .sunpin _ _ _ _ _ _ => true
  | .jopen _ _ _ _ _ _ _ => true
  | .jwait _ _ _ _ _ => true
  | .jpoll _ _ _ _ _ _ _ => true
  | .jclose _ _ _ _ _ _ => true
  | .wopen _ _ _ _ _ => true
  | .wsumI _ _ _ _ _ _ => true
  | .wsumF _ _ _ _ _ _ => true
  | .wmaxvI _ _ _ _ _ _ => true
  | .wmaxvF _ _ _ _ _ _ => true
  | .wminvI _ _ _ _ _ _ => true
  | .wminvF _ _ _ _ _ _ => true
  | .wmax _ _ _ _ _ _ => true
  | .lnch _ _ _ _ _ => true
  | .lnchPoll _ _ _ _ _ => true
  | .lnchWait _ _ _ _ _ => true
  | _ => false

/-- The forms whose own chapters have them write their destination full at retirement, also where a source popped a queue
register (R95, R98, R138, R153, R161, R211, R212, R308, R319, R353, R369, R375, R377, R405; DEDUCED, log entry 73). -/
def Instr.atOnce : Instr → Bool
  | .amoSwap _ _ _ _ _ _ _ _ => true
  | .amoAdd _ _ _ _ _ _ _ _ => true
  | .amoAnd _ _ _ _ _ _ _ _ => true
  | .amoOr _ _ _ _ _ _ _ _ => true
  | .amoXor _ _ _ _ _ _ _ _ => true
  | .amoMax _ _ _ _ _ _ _ _ => true
  | .amoMin _ _ _ _ _ _ _ _ => true
  | .amoMaxu _ _ _ _ _ _ _ _ => true
  | .amoxMinu _ _ _ _ _ _ _ _ => true
  | .amoxCas _ _ _ _ _ _ _ _ => true
  | .amoxFadd _ _ _ _ _ _ _ => true
  | .amoxFmin _ _ _ _ _ _ _ => true
  | .amoxFmax _ _ _ _ _ _ _ => true
  | .sptCpy _ _ _ _ _ => true
  | .sspawn _ _ _ _ _ => true
  | .sfork _ _ _ _ _ => true
  | .smig _ _ _ _ _ _ _ => true
  | .sapush _ _ _ _ _ _ _ => true
  | .sapop _ _ _ _ _ => true
  | .sstat _ _ _ _ _ => true
  | .jwait _ _ _ _ _ => true
  | .jpoll _ _ _ _ _ _ _ => true
  | .lnchWait _ _ _ _ _ => true
  | .lnchPoll _ _ _ _ _ => true
  | .replay _ _ _ _ _ => true
  | .mtrd _ _ _ _ _ _ _ => true
  | .podr _ _ _ _ _ => true
  | .fcvtFI _ _ _ _ => true
  | .fcvtFU _ _ _ _ => true
  | .fcvtIF _ _ _ _ => true
  | .fcvtUF _ _ _ _ => true
  | .fcvtHF _ _ _ _ => true
  | .fcvtFH _ _ _ _ => true
  | .fcvtBF _ _ _ _ => true
  | .fcvtFB _ _ _ _ => true
  | .fcvtT8F _ _ _ _ => true
  | .fcvtFT8 _ _ _ _ => true
  | .fcvtT4F _ _ _ _ => true
  | .fcvtFT4 _ _ _ _ => true
  | .vextx _ _ _ _ _ => true
  | .hbind _ _ _ _ _ => true
  | .hperm _ _ _ _ _ => true
  | .hthr _ _ _ _ _ => true
  | .noise _ _ _ _ _ => true
  | .chash _ _ _ _ => true
  | .chashLd _ _ _ => true
  | .hrand _ _ _ => true
  | .csrw _ _ _ _ _ => true
  | .csrs _ _ _ _ _ => true
  | .csrc _ _ _ _ _ => true
  | .jalr _ _ _ _ _ _ => true
  | .luiSh _ _ _ _ => true
  | .add _ _ _ _ _ _ _ => true
  | .sub _ _ _ _ _ _ _ => true
  | .and _ _ _ _ _ _ _ => true
  | .or _ _ _ _ _ _ _ => true
  | .xor _ _ _ _ _ _ _ => true
  | .andn _ _ _ _ _ _ _ => true
  | .sll _ _ _ _ _ _ _ => true
  | .srl _ _ _ _ _ _ _ => true
  | .sra _ _ _ _ _ _ _ => true
  | .ror _ _ _ _ _ _ _ => true
  | .slt _ _ _ _ _ _ _ => true
  | .sltu _ _ _ _ _ _ _ => true
  | .min _ _ _ _ _ _ _ => true
  | .max _ _ _ _ _ _ _ => true
  | .minu _ _ _ _ _ _ _ => true
  | .maxu _ _ _ _ _ _ _ => true
  | .mul _ _ _ _ _ _ _ => true
  | .mulh _ _ _ _ _ _ => true
  | .mulhu _ _ _ _ _ _ => true
  | .div _ _ _ _ _ _ _ => true
  | .divu _ _ _ _ _ _ _ => true
  | .rem _ _ _ _ _ _ _ => true
  | .remu _ _ _ _ _ _ _ => true
  | .adds _ _ _ _ _ _ _ => true
  | .subs _ _ _ _ _ _ _ => true
  | .clz _ _ _ _ _ => true
  | .ctz _ _ _ _ _ => true
  | .popc _ _ _ _ _ => true
  | .wfld _ _ _ _ _ _ => true
  | .chkb _ _ _ _ _ _ => true
  | .addi _ _ _ _ _ => true
  | .andi _ _ _ _ _ => true
  | .ori _ _ _ _ _ => true
  | .xori _ _ _ _ _ => true
  | .slti _ _ _ _ _ => true
  | .slli _ _ _ _ _ _ => true
  | .srli _ _ _ _ _ _ => true
  | .srai _ _ _ _ _ _ => true
  | .rori _ _ _ _ _ _ => true
  | .sel _ _ _ _ _ _ _ _ => true
  | .selN _ _ _ _ _ _ _ _ => true
  | .lnch _ _ _ _ _ => true
  | .fmvFx _ _ _ _ => true
  | _ => false

/-- A C word that must not stand in a repeated unit (R115). -/
def Instr.notRepeated : Instr → Bool
  | .nop _ _ => true
  | .halt _ _ => true
  | .ecall _ _ => true
  | .ebreak _ _ => true
  | .hret _ _ => true
  | .yield _ _ => true
  | .csrr _ _ _ _ => true
  | .csrw _ _ _ _ _ => true
  | .csrs _ _ _ _ _ => true
  | .csrc _ _ _ _ _ => true
  | .beq _ _ _ _ _ => true
  | .bne _ _ _ _ _ => true
  | .blt _ _ _ _ _ => true
  | .bge _ _ _ _ _ => true
  | .bltu _ _ _ _ _ => true
  | .bgeu _ _ _ _ _ => true
  | .bmskAny _ _ _ _ => true
  | .bmskNone _ _ _ _ => true
  | .bmskAll _ _ _ _ => true
  | .bmskNall _ _ _ _ => true
  | .jal _ _ _ _ => true
  | .jalr _ _ _ _ _ _ => true
  | .loop _ _ _ _ _ _ => true
  | .rep _ _ _ _ _ => true
  | .cbrAny _ _ _ _ _ => true
  | .cbrAll _ _ _ _ _ => true
  | .cbrMaj _ _ _ _ _ => true
  | .replay _ _ _ _ _ => true
  | .tlbinv _ _ _ _ _ _ => true
  | .cflip _ _ _ _ => true
  | .mtrd _ _ _ _ _ _ _ => true
  | .lnch _ _ _ _ _ => true
  | .lnchPoll _ _ _ _ _ => true
  | .lnchWait _ _ _ _ _ => true
  | _ => false

/-- A handler-only instruction (R51, R405). -/
def Instr.handlerOnly : Instr → Bool
  | .hret _ _ => true
  | .replay _ _ _ _ _ => true
  | .tlbinv _ _ _ _ _ _ => true
  | .cflip _ _ _ _ => true
  | _ => false

end Sys2Proof.Machine
end

