-- ==== Sys2Proof/Machine/Unit.lean ====
section
/-! DEFINITION. How an issue unit runs (R21 to R26, R40 to R45): the checks before it executes, the operands it reads and
the results it writes, its retirement with the repeat, loop-end and step rules (R112, R114, R397), and how the two words
of a pair end together. -/

namespace Sys2Proof.Machine

/-- How the meaning of one word ends: it retired; it retired and redirects; it traps; it waits and has no effect; it waits
on something that publishes edges (R250); it has sent an operation whose completion it waits for; it waits while page p of grove g
reloads; its context is freed. -/
inductive Res where
  | done (s : State)
  | jump (s : State) (pc : Word)
  | trap (w : Why)
  | wait
  | blocked (on : WaitOn)
  | hold (s : State)
  | stall (g p : Nat)
  | quit (s : State)

/-- An access that cannot be made now waits: under an unresolved collective branch for its resolution (R250, R258). -/
def State.tryLater (s : State) : Res := if s.me.spec.isSome then .blocked .cbr else .wait

/-- A trap of the unit under way as R390 records it. -/
def State.trapRec (s : State) (w : Why) (aw : Bool) : TrapRec :=
  { cause := w.cause, tval := w.tval, epc := s.pc, aw := aw, unit := w.unit, acc := w.acc, kind := w.kind
    lone := s.unit.mode == 0 }

/-- What the checks of a word need to know of it: its class, its word, its sources and destinations (R22, R42), the groups it
belongs to (R115, R205, R258, R405), whether it writes its destination full at retirement (R20), and the loops whose state it
writes (R112). -/
structure Sig where
  a : Bool
  word : Nat := 0
  srcs : List Src
  dsts : List Dst
  stalls : Bool := false
  notInDual : Bool := false
  notRepeated : Bool := false
  handlerOnly : Bool := false
  atOnce : Bool := false
  loops : Bool × Bool := (false, false)
  deriving DecidableEq, Repr

/-- The loops whose state the instruction writes (R112). -/
def writesLoop (i : Instr) : Bool × Bool :=
  let f := fun (c : BitVec 11) => (decide (0x30 ≤ c.toNat ∧ c.toNat ≤ 0x32), decide (0x33 ≤ c.toNat ∧ c.toNat ≤ 0x35))
  match i with
  | .csrw _ _ _ _ c => f c
  | .csrs _ _ _ a c => if a = 0 then (false, false) else f c
  | .csrc _ _ _ a c => if a = 0 then (false, false) else f c
  | .loop _ _ n _ _ _ => (!n, n)
  | _ => (false, false)

/-- The signature of an A word. -/
def aSig (srcs : List Src) (dsts : List Dst) (stalls atOnce : Bool) : Sig :=
  { a := true, srcs := srcs, dsts := dsts, stalls := stalls, atOnce := atOnce }

/-- The signature of a C-class instruction. -/
def cSig (i : Instr) : Sig :=
  { a := false, word := encode i % 2 ^ 32, srcs := Instr.sources i, dsts := Instr.dests i, stalls := Instr.stalls i
    notInDual := Instr.notInDual i, notRepeated := Instr.notRepeated i, handlerOnly := Instr.handlerOnly i
    atOnce := Instr.atOnce i, loops := writesLoop i }

/-- The signature of an A-class instruction. -/
def aSigOf (i : Instr) : Sig := aSig (Instr.sources i) (Instr.dests i) (Instr.stalls i) (Instr.atOnce i)

/-- TVAL of a trap that names a word: bit 32 marks the A word of a pair (R45). -/
def wordTval (i : Sig) (aw : Bool) : Word := natW (i.word + 2 ^ 32 * b2n aw)

/-! Operands (R21 to R26) -/

/-- What the checks before execution answer. -/
inductive Gate where
  | go (s : State)
  | trap (w : Why) (aw : Bool)
  | wait (on : Option WaitOn)

/-- The sources of a unit: each with its word's place, 0 the first word and 1 the A word of a pair, and the word's
class. -/
def unitSources (ws : List (Sig × Bool)) : List (Bool × Bool × Src) :=
  (ws.map (fun w => w.1.srcs.map (fun x => (w.2, w.1.a, x)))).flatten

/-- The port that a source or destination of class X names, if its register is bound (R25). -/
def portNamed (r : Regs) (cls n : Nat) : Option Nat := if cls = 0 then r.boundTo n else none

/-- A source reads empty (R20, R25). -/
def State.srcEmpty (s : State) (cls n : Nat) : Bool :=
  match portNamed s.regs cls n with
  | some p => s.openEntries s.cur p == []
  | none => s.regs.emptyAt cls n

/-- TVAL of R22 for a source. -/
def srcTval (a : Bool) (x : Src) : Word := natW (x.n + 32 * x.cls + 128 * b2n a)

/-- The ports popped by a unit, in the order of R26, with the operand places. -/
def unitPops (r : Regs) (ws : List (Sig × Bool)) : List (Nat × Nat) :=
  (unitSources ws).filterMap (fun x =>
    (portNamed r x.2.2.cls x.2.2.n).map (fun p => ((if x.1 then 5 else 0) + x.2.2.pos, p)))

/-- The ports pushed by a unit, each with its word's place. -/
def unitPushes (r : Regs) (ws : List (Sig × Bool)) : List (Bool × Nat) :=
  (ws.map (fun w => w.1.dsts.filterMap (fun d => (portNamed r d.cls d.n).map (fun p => (w.2, p))))).flatten

/-- The entries of one pop per named place read and noted by place; the unit pops them when it retires (R26, R44). -/
def State.latchAll (s : State) : List (Nat × Nat) → State
  | [] => s
  | (k, p) :: t =>
    let e := nth (0, 0) (s.openEntries s.cur p) (s.unit.pops.filter (·.port == p)).length
    State.latchAll { s with unit := { s.unit with latched := tabSet k e.2 s.unit.latched, pops := s.unit.pops ++ [{ port := p, n := e.1 }] } } t

/-- The first port check of a word that fails (R242, R317). -/
def State.portTrap (s : State) (pops pushes : List Nat) : Option Why :=
  let bad := fun (p : Nat) => ({ cause := cPROT, tval := natW p } : Why)
  match pops.find? (fun p => !(s.mayUse s.cur (portOf s.self p) && (portOf s.self p).pops)) with
  | some p => some (bad p)
  | none => (pushes.find? (fun p => !(s.mayUse s.cur (portOf s.self p) && (portOf s.self p).pushes))).map bad

/-- The trap that a word raises before its own effect, at its place in row 9 of R45: a form that may not stand here (R115,
R205), a poisoned source (R399), a port that may not be used (R242, R317). -/
def State.wordTrapOf (s : State) (w : Sig × Bool) : Option Why :=
  let r := s.regs
  if (r.rc != 0 && w.1.notRepeated) || (s.inDual && w.1.notInDual) then some { cause := cILLEGAL, tval := wordTval w.1 false }
  else
    match w.1.srcs.find? (fun x => (portNamed r x.cls x.n).isNone && r.poisonAt x.cls x.n) with
    | some x => some { cause := cMCE, tval := srcTval w.1.a x, unit := 1 }
    | none => s.portTrap ((unitPops r [w]).map (·.2)) ((unitPushes r [w]).map (·.2))

/-- A queue has room for all pushes of the unit to it, and no earlier push of this context is still to come (R25, R26). -/
def State.roomFor (s : State) (pushes : List Nat) (p : Nat) : Bool :=
  !(s.me.prods.any (fun q => q.push == some p)) &&
  !(s.groves.any (fun g => g.2.ring.any (fun e => e.ctx == s.cur && e.push == some p))) &&
  (match portOf s.self p with
   | .queue g ix =>
     decide ((s.portEntries s.cur (.queue g ix)).length + (pushes.filter (· == p)).length ≤ 64)
   | _ => true)

/-- A port has too few entries for the pops of a unit (R26). -/
def State.tooFew (s : State) (pops : List (Nat × Nat)) (p : Nat) : Bool :=
  decide ((s.openEntries s.cur p).length < (pops.filter (fun j => j.2 == p)).length)

/-- The first port that a unit waits for (R250). -/
def State.portWait (s : State) (pops : List (Nat × Nat)) (pushes : List (Bool × Nat)) : Option WaitOn :=
  match pops.find? (fun k => s.tooFew pops k.2) with
  | some k => some (.pop k.2)
  | none => (pushes.find? (fun k => !(s.roomFor (pushes.map (·.2)) k.2))).map (fun k => .push k.2)

/-- The waits of a unit before it executes (R21, R23, R26, R286 row 2). -/
def State.gateReady (s : State) (ws : List (Sig × Bool)) (pops : List (Nat × Nat)) (pushes : List (Bool × Nat)) : Bool :=
  let r := s.regs
  (unitSources ws).all (fun x => (portNamed r x.2.2.cls x.2.2.n).isSome || !(r.emptyAt x.2.2.cls x.2.2.n)) &&
  pops.all (fun k => !(s.tooFew pops k.2)) &&
  ws.all (fun w => w.1.dsts.all (fun d =>
    decide (3 < d.cls) || (portNamed r d.cls d.n).isSome || !(r.emptyAt d.cls d.n))) &&
  pushes.all (fun k => s.roomFor (pushes.map (·.2)) k.2) &&
  ((pops == [] && pushes == []) || !s.acquiring)

/-- The checks of R45 rows 7 and 8, then of the first word at row 9, and the waits (R21, R23, R258); the entries that the unit
pops are read. The A word's own trap of row 9 is kept until the C word has executed; the ports of a word that traps are not
waited for. A unit whose operation is pending has passed the checks. -/
def State.gate (s : State) (ws : List (Sig × Bool)) : Gate :=
  match s.me.pend with
  | some p => .go { s with unit := { s.unit with latched := p.latched, pops := p.pops } }
  | none =>
    let r := s.regs
    match ws.find? (fun w => w.1.handlerOnly && !r.hm) with
    | some w => .trap { cause := cPRIV, tval := wordTval w.1 w.2 } w.2
    | none =>
      if s.me.spec.isSome && (ws.any (fun w => w.1.stalls) || unitPops r ws != [] || unitPushes r ws != []) then .wait (some .cbr)
      else
        match (unitSources ws).find? (fun x => x.2.2.t && s.srcEmpty x.2.2.cls x.2.2.n) with
        | some x => .trap { cause := cEMPTY, tval := srcTval x.2.1 x.2.2 } x.1
        | none =>
          match (ws.filter (fun w => !w.2)).findSome? s.wordTrapOf with
          | some y => .trap y false
          | none =>
            let late := (ws.filter (·.2)).findSome? s.wordTrapOf
            let live := if late.isSome then ws.filter (fun w => !w.2) else ws
            let pops := unitPops r live
            let pushes := unitPushes r live
            if s.gateReady live pops pushes then
              let s1 := s.latchAll pops
              .go { s1 with unit := { s1.unit with late := late } }
            else .wait (s.portWait pops pushes)

/-- The value of an X source: the entry that its queue register popped, or the register (R25, R41). -/
def State.rx (s : State) (pos n : Nat) : Word :=
  match tabFind s.unit.latched ((if s.unit.mode = 2 then 5 else 0) + pos) with
  | some w => w
  | none => s.regs.xAt n

/-- A result written to X n: pushed when the register is bound (R25). -/
def State.putX (s : State) (n : Nat) (v : Word) : State :=
  match s.regs.boundTo n with
  | some p => { s with unit := { s.unit with pushes := s.unit.pushes ++ [(p, v)] } }
  | none => s.setRegs (s.regs.setX n v)

def State.putF (s : State) (n : Nat) (v : BitVec 32) : State := s.setRegs (s.regs.setF n v)
def State.putV (s : State) (n : Nat) (v : BitVec 512) : State := s.setRegs (s.regs.setV n v)
def State.putM (s : State) (n : Nat) (v : BitVec 16) : State := s.setRegs (s.regs.setM n v)
def State.putH (s : State) (n : Nat) (v : BitVec 4096) : State := s.setRegs (s.regs.setH n v)

/-- More bits set in FFLAGS (R79). -/
def State.orFlags (s : State) (f : Nat) : State := s.setRegs (s.regs.orFlags f)

/-- A CSR of the context set. -/
def State.setCsr (s : State) (a : Nat) (v : Word) : State := s.setRegs (s.regs.setCsr a v)

/-- The next sequential address of the unit under way (R40). -/
def State.nextSeq (s : State) : Word := s.pc + (if s.unit.mode = 0 then 4 else 8)

/-- What another part of the machine did while the unit of `s` is under way, which it leaves as it is. -/
def State.within (s t : State) : State := { t with unit := s.unit }

/-- A result written to X n after another part of the machine has answered with `t`. -/
def State.putWithin (s t : State) (n : Nat) (v : Word) : State :=
  match s.regs.boundTo n with
  | some p => { t with unit := { s.unit with pushes := s.unit.pushes ++ [(p, v)] } }
  | none => (s.within t).setRegs (t.regs.setX n v)

/-- A producer added to the current context at its next place in program order (R20). -/
def State.addProd (s : State) (cls : Nat) (reg : Nat) (acq : Bool) (src : ProdSrc) (uc : Option Nat := none) : State :=
  let x := s.me
  let push := portNamed x.regs cls reg
  let p : Prod := { n := x.nseq, cls := BitVec.ofNat 2 cls, reg := reg, push := push, spec := x.spec.isSome
                    issued := s.tick, acq := acq, uc := uc, src := src }
  s.setMe { x with prods := x.prods ++ [p], regs := if push.isSome then x.regs else x.regs.setEmpty cls reg }

/-! Retirement -/

/-- A push made by a producer of its own: its trap is then no trap of the unit (R26). -/
def State.pushLater (s : State) (p : Nat × Word) : State :=
  let x := s.me
  let q : Prod := { n := x.nseq, cls := 0, reg := 0, push := some p.1, issued := s.tick, src := .value p.2.toNat }
  s.setMe { x with prods := x.prods ++ [q] }

/-- A word that popped a queue register, and whose own description does not say otherwise, is a long-latency producer: its
destinations are empty until its results arrive, and its pushes follow then (R20, R26). -/
def State.delay (s : State) (old : Regs) (i : Sig) : State :=
  let s1 := i.dsts.foldl (fun (r : State) d =>
    if 3 < d.cls ∨ (portNamed old d.cls d.n).isSome ∨ r.regs.emptyAt d.cls d.n ∨ (d.cls = 0 ∧ d.n = 0) then r
    else
      let v := r.regs.bitsAt d.cls d.n
      (r.setRegs (r.regs.setBits d.cls d.n (old.bitsAt d.cls d.n))).addProd d.cls d.n false (.value v)) s
  s1.unit.pushes.foldl State.pushLater { s1 with unit := { s1.unit with pushes := [] } }

/-- The places that a word's operands popped. -/
def State.popped (s : State) (aw : Bool) : Bool :=
  s.unit.latched.any (fun k => if aw then decide (5 ≤ k.1) else decide (k.1 < 5))

/-- What a word leaves when it retires: its place in program order taken, its results delayed if it popped. -/
def State.afterWord (s : State) (old : Regs) (i : Sig) (aw : Bool) : State :=
  let s1 := if s.popped aw && !i.atOnce then s.delay old i else s
  s1.setMe { s1.me with nseq := s1.me.nseq + 1 }

/-- The entries that the unit has read popped (R26, R44). -/
def State.doPops (s : State) : State :=
  let s1 := s.unit.pops.foldl State.takePop s
  { s1 with unit := { s1.unit with pops := [] } }

/-- The pending read of a unit answers a push to the Spout (R284, R317): the trap of poisoned data, the words from place `k`, or
nothing yet. -/
inductive PushRead where
  | trap (w : Why)
  | words (d : Option (List Word))
  | wait

def pushRead (pd : Option Pend) (k : Nat) : PushRead :=
  match pd with
  | some { op := .read a _, result := some (.trap c v u), .. } => .trap { cause := c, tval := v, unit := u, acc := a }
  | some { op := .read _ (_ :: _), .. } => .wait
  | some { got := t, .. } => .words (if (tabFind t k).isSome then some (wordsFrom t k 8) else none)
  | none => .words none

/-- The staged pushes made, in order (R25, R26); `pd` is what the unit has pending, and a descriptor that the Spout needs has
been read at place `k` and on. -/
def State.doPushes (s : State) (pd : Option Pend) (k : Nat) : List (Nat × Word) → Submit
  | [] => .ok 0 { s with unit := { s.unit with pushes := [] } }
  | (p, v) :: t =>
    match portOf s.self p, pushRead pd k with
    | .spout, .trap w => .trap w
    | .spout, .wait => .wait
    | .spout, .words d =>
      (match s.pushPort .spout v d with
       | .ok _ s1 => s1.doPushes pd (k + 8) t
       | r => r)
    | q, _ =>
      match s.pushPort q v none with
      | .ok _ s1 => s1.doPushes pd (k + 8) t
      | r => r

/-- The first place of what a word reads for its pushes: the first word's, and the A word's. -/
def pushPlace (aw : Bool) : Nat := 2 ^ 20 + 64 * b2n aw

/-- The unit retired (R44): the checkpoint of its CBR is taken (R258), the next PC chosen (R112, R114), and a step trap
taken while STEP was set in task mode (R397). `s0` is the state before the unit. -/
def State.endUnit (s0 s : State) (w : Bool × Bool) (jump : Option Word) : State :=
  let x := s.me
  let spec1 := x.spec.map (fun sp => if sp.fresh then { sp with cp := x.regs, fresh := false } else sp)
  let r := x.regs
  let r1 :=
    match jump with
    | some t => { r with pc := t }
    | none =>
      if s0.regs.rc = 0 then r.loopEnd s.nextSeq w.1 w.2
      else
        let q := (r.setCsr csrRC (r.csrAt csrRC - 1)).setCsr csrRI (r.csrAt csrRI + 1)
        if q.rc = 0 then (q.setCsr csrRI 0).loopEnd s.nextSeq w.1 w.2 else q
  let s1 := s.setMe { x with regs := r1, spec := spec1, skipBkp := s.unit.resume, wait := 0, waitOn := none }
  { (if s0.regs.stepBit && !s0.regs.hm && !(s0.sourceOf s0.cur s0.pc).2.2 then
       s1.takeTrap s0.cur { cause := cSTEP, tval := 0, epc := r1.pc }
     else s1) with unit := {} }

/-- The unit waits and has no effect: it is tried again after the next event (R21, R209). -/
def State.waitsOn (s : State) (on : Option WaitOn) : State := { s.setMe { s.me with wait := 2, waitOn := on } with unit := {} }
def State.waits (s : State) : State := s.waitsOn none

/-- The unit under way traps (R44, R390). -/
def State.traps (s : State) (w : Why) (aw : Bool) : State :=
  { (s.setMe { s.me with pend := none }).takeTrap s.cur (s.trapRec w aw) with unit := {} }

/-- The unit has sent an operation that is no read, and that has been performed: it can no longer be without effect (R44). -/
def State.performed (s : State) : Bool :=
  s.me.pend.any (fun p => match p.op with
    | .read _ _ => false
    | _ => true)

/-- The unit waits until the descriptor that it pushes has been read, at places from `k` on (R284). -/
def State.readsDesc (s : State) (u : IUnit) (k : Nat) (l : Loc) (a : Word) : State :=
  let x := s.me
  let got := (x.pend.map (·.got)).getD []
  let j := (upFrom k 64).find? (fun n => (tabFind got n).isNone)
  { s.setMe { x with wait := 2, waitOn := none
                     pend := some { pc := s.pc, op := .read 4 (piecesFrom (j.getD k) l 64 a none), since := s.tick, got := got
                                    latched := u.latched, pops := u.pops } }
    with unit := {} }

/-- The pushes of a word made (R25, R26, R317), and `k` goes on; `s0` is the state before the unit. A unit whose operation has
been performed leaves its Spout descriptor to a producer, and retires where another push traps, with that trap deferred (R44;
DESIGN CHOICE, log entry 94). -/
def State.makePushes (s0 s : State) (aw : Bool) (k : State → State) : State :=
  let late := fun (p : Nat × Word) => s0.performed && portOf s.self p.1 == .spout
  let s1 := (s.unit.pushes.filter late).foldl State.pushLater s
  match s1.doPushes s0.me.pend (pushPlace aw) (s.unit.pushes.filter (fun p => !(late p))) with
  | .ok _ s2 => k (if s0.me.pend.isSome && !s0.performed then s2.setMe { s2.me with pend := none } else s2)
  | .trap w =>
    if s0.performed then
      let t := k { s1 with unit := { s1.unit with pushes := [] } }
      { t.takeTrap t.cur { cause := w.cause, tval := w.tval, epc := (t.ctx t.cur).regs.pc, dfr := true, unit := w.unit, acc := w.acc } with unit := {} }
    else s0.traps w aw
  | .wait => s0.waits
  | .read l a => s0.readsDesc s.unit (pushPlace aw) l a

/-- The unit has sent its operation and waits for its completion (R209, R308). -/
def State.holds (s : State) : State :=
  let x := s.me
  { s.setMe { x with wait := 2, waitOn := none, pend := x.pend.map (fun p => { p with latched := s.unit.latched, pops := s.unit.pops }) }
    with unit := {} }

/-- The C word of a pair has sent its operation; what the pair has read for its pushes is kept (R284). -/
def State.holdsAfter (s s0 : State) : State :=
  let t := s.holds
  let old := (s0.me.pend.map (·.got)).getD []
  t.setMe { t.me with pend := t.me.pend.map (fun p => { p with got := old.foldl (fun r e => tabSet e.1 e.2 r) p.got }) }

/-- A lone word that retires: its pops and pushes made, its end taken (R25, R26, R44). -/
def retire (s0 s : State) (i : Sig) (jump : Option Word) : State :=
  s0.makePushes (s.afterWord s0.regs i false) false (fun t => s0.endUnit t.doPops i.loops jump)

/-- The end of a lone word. -/
def finish (s0 : State) (i : Sig) : Res → State
  | .done s => retire s0 s i none
  | .jump s t => retire s0 s i (some t)
  | .trap w => s0.traps w false
  | .wait => s0.waits
  | .blocked on => s0.waitsOn (some on)
  | .hold s => s.holds
  | .stall g p => (s0.startReload g p).waits
  | .quit s => { s with unit := {} }

/-- The end of a word of a pair is noted for the pair's own end (R44). -/
def note (s0 : State) (i : Sig) : Res → State
  | .done s =>
    let s1 := s.afterWord s0.regs i (s0.unit.mode == 2)
    { s1 with unit := { s1.unit with ended := .done } }
  | .jump s t =>
    let s1 := s.afterWord s0.regs i (s0.unit.mode == 2)
    { s1 with unit := { s1.unit with ended := .jump t } }
  | .trap w => { s0 with unit := { s0.unit with ended := .trap (s0.trapRec w (s0.unit.mode == 2)) } }
  | .wait => { s0 with unit := { s0.unit with ended := .wait none } }
  | .blocked on => { s0 with unit := { s0.unit with ended := .wait (some on) } }
  | .hold s => { s with unit := { s.unit with ended := .hold } }
  | .stall g p => { s0 with unit := { s0.unit with ended := .stall g p } }
  | .quit s => { s with unit := { s.unit with ended := .quit } }

/-- What a step of the machine answers. -/
abbrev Out := Host.Outcome State Fault Refusal

/-- One word issued with its meaning: alone, through all of its checks to its end; in a pair, after the checks of the
pair (R45), to its own end only. -/
def issue (i : Sig) (s : State) (f : State → Res) : Out :=
  if s.unit.mode = 0 then
    match s.gate [(i, false)] with
    | .go s1 => .next (finish s i (f s1))
    | .trap w _ => .next (s.traps w false)
    | .wait on => .next (s.waitsOn on)
  else .next (note s i (f s))

end Sys2Proof.Machine
end

