-- ==== Sys2Proof/Machine/Access.lean ====
section
/-! DEFINITION. The accesses of loads and stores to the three spaces (R121 to R124, R133, R136, R158, R264, R279, R281,
R292, R349, R350): where the bytes go, what is posted, held, parked, or waits. -/

namespace Sys2Proof.Machine

/-- The condition of a W field (R122): W[0] names class A and W[1] class B. -/
def State.wField (s : State) (w : BitVec 2) : Bool :=
  (!(w.getLsbD 0) || s.me.pca == 0) && (!(w.getLsbD 1) || s.me.pcb == 0)

/-- The retry-ring entries of a context (R279). -/
def State.ringOf (s : State) (c : Nat) : List RingEntry :=
  (s.groves.map (fun g => g.2.ring.filter (fun e => e.ctx == c && e.gen == (s.ctx c).gen))).flatten

/-- An access of the current context overlaps a granule of one of its parked entries (R281 item 1). -/
def State.ringOverlap (s : State) (va n : Nat) : Bool :=
  (s.ringOf s.cur).any (fun e => (Loc.mem va).overlaps n (.mem e.va.toNat) e.size)

/-- The TINFO access code of a trap of a pending operation (R393). -/
def PendOp.acc : PendOp → BitVec 4
  | .atom .store _ _ _ _ _ _ => accCode .store
  | .atom _ _ _ _ _ _ _ => accCode .atomic
  | .sleep _ _ _ => accCode .load
  | .podr _ _ => accCode .load
  | .read acc _ => acc
  | .write _ => accCode .store
  | .lnch _ => accCode .load
  | _ => 4

/-- The result of an operation that this unit has sent, once it has been performed; before that the unit waits (R209,
R308). `start` sends it; a descriptor that the unit has read for a push (R317) is no such operation. -/
def State.whenDone (s : State) (start : State → Res) (fin : State → Word → Word → Word → Nat → Res) : Res :=
  match s.me.pend with
  | none => start s
  | some p =>
    match p.result, p.op with
    | none, .read _ [] => start (s.setMe { s.me with pend := none })
    | none, _ => .wait
    | some (.trap c v u), _ => .trap { cause := c, tval := v, unit := u, acc := p.op.acc }
    | some (.ok v jv js fl), _ => fin (s.setMe { s.me with pend := none }) v jv js fl.toNat

/-- An operation sent: the unit waits for its completion (R308). -/
def State.send (s : State) (op : PendOp) : Res :=
  .hold (s.setMe { s.me with pend := some { pc := s.pc, op := op, since := s.tick } })

/-- The granules of an operand sent for, beside those already read: the unit waits until all have been read (R284). -/
def State.sendReads (s : State) (acc : BitVec 4) (got : Tab Word) (ps : List Piece) : Res :=
  .hold (s.setMe { s.me with pend := some { pc := s.pc, op := .read acc ps, since := s.tick, got := got } })

/-- What an instruction does with the operand that it reads granule by granule (R284): `start` checks it and sends for it, and
`fin` goes on with what has been read, from place 0; `done` ends the instruction once an operation that it has sent then has its
result. -/
def State.whenRead (s : State) (start : State → Res) (fin : State → Tab Word → Res)
    (done : State → Word → Word → Word → Nat → Res) : Res :=
  match s.me.pend with
  | some { op := .read _ [], result := none, got := t, .. } =>
    let s1 := s.setMe { s.me with pend := none }
    if (tabFind t 0).isSome then fin s1 t else start s1
  | _ => s.whenDone start done

/-- The tier of an uncached leaf (R276). -/
def ucTier (leaf pa : Nat) : Option Nat := if uncached leaf then some (fld pa 41 2) else none

/-- The tier of the uncached frame that a place lies in. -/
def Loc.uc (l : Loc) (leaf : Nat) : Option Nat :=
  match l with
  | .mem pa => ucTier leaf pa
  | _ => none

/-- An access parked on the retry ring of its grove (R279, R44), with the lowest tag that no ring of the package uses, since entries move between rings with their tags (R281; log entry 10); none where it
must wait. A parked store counts in PCB from its issue. -/
def State.park (s : State) (kind : Nat) (va : Word) (n : Nat) (store zext : Bool) (cls reg : Nat) (data : List Byte) : Option State :=
  let c := s.cur
  let x := s.me
  let g := s.grove (groveOf c)
  if x.spec.isSome ∨ 16 ≤ (s.ringOf c).length ∨ 256 ≤ g.ring.length ∨ (store ∧ 1024 ≤ x.pcb) then none
  else
    let tag := ((upFrom 0 12289).find? (fun t => !(s.groves.any (fun v => v.2.ring.any (fun e => e.tag == t))))).getD 0
    let push := if store then none else portNamed x.regs cls reg
    let e : RingEntry := { tag := tag, kind := kind, va := va, ctx := c, gen := x.gen, n := x.nseq, size := n, store := store
                           zext := zext, cls := BitVec.ofNat 2 cls, reg := reg, push := push, data := data, vf := x.vf }
    let x1 : Ctx := if store then { x with pcb := x.pcb + 1 }
                    else { x with regs := if push.isSome then x.regs else x.regs.setEmpty cls reg }
    some ((s.setGrove (groveOf c) { g with ring := g.ring ++ [e] }).setMe x1)

/-- The bits that a load of `n` bytes writes (R122, R133, R158). -/
def loadBits (n : Nat) (sext : Bool) (bs : List Byte) : Nat :=
  if sext then (sextW (8 * n) (ofBytes bs)).toNat else ofBytes bs

/-- The place of a stream-window access of the current context: the grove and stream of its row, and its map slot (R349). -/
def State.windowRow (s : State) (a : Word) : Nat × Nat × Nat :=
  let r := s.rowStream s.cur (fld a.toNat 20 4)
  (r.1, r.2.1, fld a.toNat 14 6)

/-- What a read of the stream window answers. -/
inductive WinRead where
  | bytes (bs : List Byte) (s : State)
  | stop (r : Res)

/-- `n` bytes of the stream window read in program order (R349, R352), as the one access of a word or as one of `several`. -/
def State.readWindow (s : State) (a : Word) (n : Nat) (several : Bool := false) : WinRead :=
  let (g, c, q) := s.windowRow a
  match (if several then s.reachNow else s.reachPage) g (nth 0 (s.smap g (s.stream g c).map).pages q) with
  | .reload g p => .stop (.stall g p)
  | .noFrame => .stop (.trap { cause := cQUOTA, tval := a, acc := 0 })
  | .here g p s1 =>
    let l := (s1.pageLoc g p).add (fld a.toNat 0 14)
    match s1.poisonedLoc l n with
    | some u => .stop (.trap { cause := cMCE, tval := a, unit := u, acc := 0 })
    | none => .bytes (s1.readFor s.cur s.me.nseq l n) (s.within s1)

/-- What a load reads: one event of at most 8 bytes, or one event for each granule (R284). -/
def loadSrc (l : Loc) (n : Nat) (sext : Bool) (a : Word) (uc : Option Nat) : ProdSrc :=
  if n ≤ 8 then .load l n sext a
  else .gather 8 0 ((upFrom 0 (n / 8)).map (fun k => { ix := k, loc := l.add (8 * k), va := a, uc := uc }))

/-- What a load that has passed its checks answers (R122, R133, R158). A load of at most 8 bytes of the own scratchpad, and any
of the stream window, is performed at once, unless it meets poisoned data. -/
def State.loadFrom (s : State) (sp : Nat) (a : Word) (n : Nat) (cls reg : Nat) (sext : Bool) : Res :=
  match sp with
  | 0 =>
    if s.ringOverlap a.toNat n then .wait
    else
      match s.reach a .load false with
      | .trap y => .trap y
      | .fault k =>
        match s.park k a n false (!sext) cls reg [] with
        | some s1 => .done s1
        | none => s.tryLater
      | .at_ l leaf s1 =>
        match s1.countBytes s.me.vf a.toNat n with
        | some s2 => .done (s2.addProd cls reg false (loadSrc l n sext a (l.uc leaf)) (l.uc leaf))
        | none => .wait
  | 1 =>
    match s.scrLoc s.cur a.toNat n with
    | none => .trap { cause := cPROT, tval := a, acc := 0 }
    | some l =>
      if s.ownWaits l then .wait
      else if l.ownOf s.cur && decide (n ≤ 8) && (s.poisonedLoc l n).isNone then
        .done (s.addProd cls reg false (.value (loadBits n sext (s.readFor s.cur s.me.nseq l n))))
      else .done (s.addProd cls reg false (loadSrc l n sext a none))
  | _ =>
    match s.readWindow a n with
    | .stop r => r
    | .bytes bs s1 => .done (s1.addProd cls reg false (.value (loadBits n sext bs)))

/-- A load to a register of class `cls` (R122, R133, R158). -/
def State.load (s : State) (sp : Nat) (a : Word) (n : Nat) (w : BitVec 2) (cls reg : Nat) (sext : Bool) : Res :=
  match s.checkAddr sp a n .load with
  | some y => .trap y
  | none => if !(s.wField w) || s.acquiring then .wait else s.loadFrom sp a n cls reg sext

/-- The entries of the speculative store buffer that are taken (R258). -/
def Spec.taken (sp : Spec) : Nat := (sp.held.map (·.entries)).sum

/-- A store of the current context posted (R292): counted in class A (false) or B (true), or, to the own scratchpad (none),
not counted. None where the count is full (R293). -/
def State.post (s : State) (cls : Option Bool) (ws : List Write) : Option State :=
  let x := s.me
  let p : Posted := { n := x.nseq, clsB := cls == some true, events := eventsOf ws, own := cls.isNone
                      colour := (s.core (coreOf s.cur)).colour }
  match cls with
  | none => some (s.setMe { x with posted := x.posted ++ [p] })
  | some b =>
    if 1024 ≤ (if b then x.pcb else x.pca) then none
    else
      some ((s.setMe { x with posted := x.posted ++ [p], pca := if b then x.pca else x.pca + 1
                              pcb := if b then x.pcb + 1 else x.pcb }).countSent (coreOf s.cur))

/-- Writes to the own scratchpad or the stream window performed at once where they are one event and no earlier one to the own
scratchpad is outstanding, or lie in the window; posted otherwise (R124, R284). -/
def State.writeOwn (s : State) (ws : List Write) : Option State :=
  if (decide (1 < (eventsOf ws).length) || (ws != [] && s.me.posted.any (·.own))) && ws.all (fun w => w.loc.ownOf s.cur) then
    s.post none ws
  else some (s.perform ws)

/-- One store sent on its way: held under an unresolved collective branch; performed in the own scratchpad and the stream
window (`cls` none); posted in class A (false) or B (true) elsewhere. None where it must wait (R258, R292, R293). -/
def State.emit (s : State) (entries : Nat) (cls : Option Bool) (ws : List Write) (page : Option (Nat × Nat)) : Option State :=
  let x := s.me
  match x.spec with
  | some sp =>
    if 64 < sp.taken + entries then none
    else
      let h : Held := { n := x.nseq, entries := entries, cls := cls, writes := ws, page := page }
      some (s.setMe { x with spec := some { sp with held := sp.held ++ [h] } })
  | none => if cls.isNone then s.writeOwn ws else s.post cls ws

/-- A global store of a copy of a DUAL task recorded for its signature: address and data (R205). -/
def State.sign (s : State) (a : Word) (bs : List Byte) : State :=
  if s.inDual then s.setMe { s.me with wrote := s.me.wrote ++ [(a, bs)] } else s

/-- What the bytes of a DUAL task's store hold before it, where they are known (R206). -/
def State.signOld (s : State) (a : Word) (l : Loc) (n : Nat) : State :=
  if s.inDual then s.setMe { s.me with olds := s.me.olds ++ [(a, s.readLoc l n)] } else s

/-- What one store answers: the state after it, or how the instruction ends without it. -/
inductive Put where
  | ok (s : State)
  | stop (r : Res)

/-- A store that must wait when none is sent. -/
def Put.ofOption (r : Res) : Option State → Put
  | some s => .ok s
  | none => .stop r

/-- A store to the stream window, with the census steps of R350 (R349, R478), as the one access of a word or as one of `several`. -/
def State.putWindow (s : State) (a : Word) (bs : List Byte) (entries : Nat) (several : Bool := false) : Put :=
  let (g, c, q) := s.windowRow a
  match (if several then s.copyNow else s.copyOnWrite) g c q with
  | .reload g p => .stop (.stall g p)
  | .noFrame => .stop (.trap { cause := cQUOTA, tval := a, acc := 1 })
  | .here g p s1 =>
    let s2 := (s.within s1).setPage g p { s1.page g p with dirty := true }
    Put.ofOption s.tryLater (s2.emit entries none [{ loc := (s2.pageLoc g p).add (fld a.toNat 0 14), bytes := bs }] (some (g, p)))

/-- A store to the scratchpad space (R124, R264). -/
def State.putScr (s : State) (a : Word) (bs : List Byte) (entries : Nat) : Put :=
  match s.scrLoc s.cur a.toNat bs.length with
  | some l =>
    if s.ownWaits l then .stop .wait
    else Put.ofOption s.tryLater (s.emit entries (if l.ownOf s.cur then none else some false) [{ loc := l, bytes := bs }] none)
  | none => .stop (.trap { cause := cPROT, tval := a, acc := 1 })

/-- A global store; `parks` where a translation fault parks it rather than traps (R271, R279). A shadow copy's store is
recorded only (R205). -/
def State.putGlobal (s : State) (a : Word) (bs : List Byte) (entries : Nat) (parks : Bool) : Put :=
  if s.ringOverlap a.toNat bs.length then .stop .wait
  else if s.meterTrap s.me.vf a .store false then .stop (.trap { cause := cMETER, tval := a, acc := 1 })
  else if s.inShadow then .ok (s.sign a bs)
  else
    match s.reach a .store false with
    | .trap y => .stop (.trap y)
    | .fault k =>
      if parks then Put.ofOption s.tryLater (((s.sign a bs).park k a bs.length true false 0 0 bs))
      else .stop (.trap (pageTrap a .store k))
    | .at_ l leaf s1 => Put.ofOption s.tryLater (((s1.sign a bs).signOld a l bs.length).emit entries (some true) [{ loc := l, bytes := bs, uc := l.uc leaf }] none)

/-- One store of the bytes `bs` to a space, past its checks. -/
def State.put (s : State) (sp : Nat) (a : Word) (bs : List Byte) (entries : Nat) (parks : Bool) : Put :=
  match sp with
  | 0 => s.putGlobal a bs entries parks
  | 1 => s.putScr a bs entries
  | _ => s.putWindow a bs entries

/-- The meaning of a store is the one store's. -/
def Put.res : Put → Res
  | .ok s => .done s
  | .stop r => r

/-- A store of a register's bytes (R122, R133, R158). -/
def State.store (s : State) (sp : Nat) (a : Word) (bs : List Byte) (w : BitVec 2) (entries : Nat) : Res :=
  match s.checkAddr sp a bs.length .store with
  | some y => .trap y
  | none => if !(s.wField w) || s.acquiring then .wait else (s.put sp a bs entries true).res

/-- The address of a scalar or vector access of `m` bytes (R122, R133): under REP the index is added. -/
def State.addrOf (s : State) (a : BitVec 5) (o : BitVec 8) (m : Nat) : Word :=
  s.rx 1 a.toNat + wordOf (sextInt 8 o.toNat * m) + (if s.regs.rc = 0 then 0 else natW (s.regs.ri * m))

end Sys2Proof.Machine
end

