-- ==== Sys2Proof/Machine/Atomic.lean ====
section
/-! DEFINITION. Atomic, ordered and waiting instructions (R303 to R314). -/

namespace Sys2Proof.Machine

/-- A tagged address as its space and the address used (R303). -/
def tagOf (a : Word) : Nat := fld a.toNat 62 2
def untag (a : Word) : Word := natW (fld a.toNat 0 62)

/-- Where a tagged access goes, past the checks 1 to 3 of R303; every TVAL is the address as written. -/
def State.tagged (s : State) (a : Word) (size : Nat) (acc : Acc) : Reach :=
  let b := untag a
  if 2 ≤ tagOf a then .trap { cause := cPROT, tval := a, acc := accCode acc }
  else
    match s.checkAddr (tagOf a) b size acc with
    | some y => .trap { y with tval := a }
    | none =>
      if tagOf a = 1 then
        match s.scrLoc s.cur b.toNat size with
        | some l => .at_ l 0 s
        | none => .trap { cause := cPROT, tval := a, acc := accCode acc }
      else
        match s.reach b acc false with
        | .trap y => .trap { y with tval := a }
        | .fault k => .trap (pageTrap a acc k)
        | r => r

/-- Every earlier load of the context has been performed, every push of a long-latency producer made, and it has no ring entries
(R281, R286, R311). -/
def State.loadsDone (s : State) : Bool :=
  s.readsBefore s.cur s.me.nseq == [] && s.ringOf s.cur == []
    && !(s.me.prods.any (fun p => p.push.isSome || (match p.src with
        | .search _ _ _ _ => true
        | _ => false)))

/-- Every store of the context has been performed, and it has no ring entries (R286, R293). -/
def State.storesDone (s : State) : Bool :=
  s.me.pca == 0 && s.me.pcb == 0 && !(s.me.posted.any (·.own)) && s.ringOf s.cur == []

/-- The waits of an order code (R306, R308): 1 acq, 2 rel, 3 acqrel. A release also follows every earlier load (R286 row 3),
and no access passes an outstanding acquire (row 2). -/
def State.orderOk (s : State) (o : BitVec 2) : Bool :=
  !s.acquiring && (!(o.getLsbD 0) || s.ringOf s.cur == []) && (!(o.getLsbD 1) || (s.storesDone && s.loadsDone))

/-- The address of an ORD, AMO or AMOX form (R304). -/
def State.ordAddr (s : State) (a : BitVec 5) (m : Nat) : Word :=
  s.rx 1 a.toNat + (if s.regs.rc = 0 then 0 else natW (s.regs.ri * m))

/-- The host-tier rule of R310: the op is no AtomicOp, or the window that holds the place has no completer of its size. -/
def State.hostAtom (s : State) (op : AtomOp) (l : Loc) (m : Nat) : Bool :=
  match l with
  | .mem pa =>
    fld pa 41 2 == 2 && !((op == .swap || op == .add || op == .cas)
      && (s.hostWindow pa).any (fun w => if m = 4 then w.atomic32 else w.atomic64))
  | _ => false

/-- A granule of a place lies under a parked entry of the context (R281 item 1). -/
def State.tagOverlap (s : State) (a : Word) (m : Nat) : Bool := tagOf a == 0 && s.ringOverlap (untag a).toNat m

/-- An atomic of `m` bytes (R307, R308): sent to its point of coherence, it writes rd when it has been performed. -/
def atomic (i : Sig) (op : AtomOp) (d a b : BitVec 5) (m : Nat) (o : BitVec 2) (s : State) : Out :=
  issue i s fun s =>
    s.whenDone (fun s =>
      let adr := s.ordAddr a m
      match s.tagged adr m .atomic with
      | .trap y => .trap y
      | .fault k => .trap (pageTrap adr .atomic k)
      | .at_ l leaf s1 =>
        if s.hostAtom op l m then .trap { cause := cHOSTATOM, tval := adr, acc := 2 }
        else if !(s.orderOk o) || s.tagOverlap adr m || s.ownWaits l then .wait
        else s1.send (.atom op l m (natW (fld (s.rx 2 b.toNat).toNat 0 (8 * m))) (natW (fld (s.rx 0 d.toNat).toNat 0 (8 * m)))
          adr (l.uc leaf)))
      (fun q v _ _ fl => .done ((q.putX d.toNat v).orFlags fl))

/-- LDO (R306). -/
def execLdo (sm l : Bool) (d a : BitVec 5) (z : BitVec 2) (e : Bool) (o c : BitVec 2) (s : State) : Out :=
  issue (cSig (.ldo sm l d a z e o c)) s fun s =>
    let m := 2 ^ z.toNat
    let adr := s.ordAddr a m
    match s.tagged adr m .load with
    | .trap y => .trap y
    | .fault k => .trap (pageTrap adr .load k)
    | .at_ l leaf s1 =>
      if !(s.orderOk o) || s.tagOverlap adr m || s.ownWaits l then .wait
      else
        match (if tagOf adr = 0 then s1.countBytes s.me.vf adr.toNat m else some s1) with
        | none => .wait
        | some s2 =>
          if l.ownOf s.cur && (s.poisonedLoc l m).isNone then .done (s2.addProd 0 d.toNat (o == 1) (.value (loadBits m (!e) (s.readFor s.cur s.me.nseq l m))))
          else .done (s2.addProd 0 d.toNat (o == 1) (.load l m (!e) adr) (l.uc leaf))

/-- STO (R306). -/
def execSto (sm l : Bool) (a b : BitVec 5) (z o c : BitVec 2) (s : State) : Out :=
  issue (cSig (.sto sm l a b z o c)) s fun s =>
    let m := 2 ^ z.toNat
    s.whenDone (fun s =>
      let adr := s.ordAddr a m
      match s.tagged adr m .store with
      | .trap y => .trap y
      | .fault k => .trap (pageTrap adr .store k)
      | .at_ l leaf s1 =>
        if !(s.orderOk o) || s.tagOverlap adr m || s.ownWaits l then .wait
        else
          let s2 := if tagOf adr = 0 then (s1.sign adr (bytesOf m (s.rx 2 b.toNat).toNat)).signOld adr l m else s1
          if s.inShadow ∧ tagOf adr = 0 then .done s2
          else s2.send (.atom .store l m (natW (fld (s.rx 2 b.toNat).toNat 0 (8 * m))) 0 adr (l.uc leaf)))
      (fun q _ _ _ _ => .done q)

/-- AMO_SWAP (R308). -/
def execAmoSwap (sm l : Bool) (d a b : BitVec 5) (z : Bool) (o c : BitVec 2) (s : State) : Out :=
  atomic (cSig (.amoSwap sm l d a b z o c)) .swap d a b (if z then 8 else 4) o s

/-- AMO_ADD (R308). -/
def execAmoAdd (sm l : Bool) (d a b : BitVec 5) (z : Bool) (o c : BitVec 2) (s : State) : Out :=
  atomic (cSig (.amoAdd sm l d a b z o c)) .add d a b (if z then 8 else 4) o s

/-- AMO_AND (R308). -/
def execAmoAnd (sm l : Bool) (d a b : BitVec 5) (z : Bool) (o c : BitVec 2) (s : State) : Out :=
  atomic (cSig (.amoAnd sm l d a b z o c)) .and d a b (if z then 8 else 4) o s

/-- AMO_OR (R308). -/
def execAmoOr (sm l : Bool) (d a b : BitVec 5) (z : Bool) (o c : BitVec 2) (s : State) : Out :=
  atomic (cSig (.amoOr sm l d a b z o c)) .or d a b (if z then 8 else 4) o s

/-- AMO_XOR (R308). -/
def execAmoXor (sm l : Bool) (d a b : BitVec 5) (z : Bool) (o c : BitVec 2) (s : State) : Out :=
  atomic (cSig (.amoXor sm l d a b z o c)) .xor d a b (if z then 8 else 4) o s

/-- AMO_MAX (R308). -/
def execAmoMax (sm l : Bool) (d a b : BitVec 5) (z : Bool) (o c : BitVec 2) (s : State) : Out :=
  atomic (cSig (.amoMax sm l d a b z o c)) .max d a b (if z then 8 else 4) o s

/-- AMO_MIN (R308). -/
def execAmoMin (sm l : Bool) (d a b : BitVec 5) (z : Bool) (o c : BitVec 2) (s : State) : Out :=
  atomic (cSig (.amoMin sm l d a b z o c)) .min d a b (if z then 8 else 4) o s

/-- AMO_MAXU (R308). -/
def execAmoMaxu (sm l : Bool) (d a b : BitVec 5) (z : Bool) (o c : BitVec 2) (s : State) : Out :=
  atomic (cSig (.amoMaxu sm l d a b z o c)) .maxu d a b (if z then 8 else 4) o s

/-- AMOX_MINU (R308). -/
def execAmoxMinu (sm l : Bool) (d a b : BitVec 5) (z : Bool) (o c : BitVec 2) (s : State) : Out :=
  atomic (cSig (.amoxMinu sm l d a b z o c)) .minu d a b (if z then 8 else 4) o s

/-- AMOX_CAS (R308). -/
def execAmoxCas (sm l : Bool) (d a b : BitVec 5) (z : Bool) (o c : BitVec 2) (s : State) : Out :=
  atomic (cSig (.amoxCas sm l d a b z o c)) .cas d a b (if z then 8 else 4) o s

/-- AMOX_FADD (R308). -/
def execAmoxFadd (sm l : Bool) (d a b : BitVec 5) (o c : BitVec 2) (s : State) : Out :=
  atomic (cSig (.amoxFadd sm l d a b o c)) .fadd d a b 4 o s

/-- AMOX_FMIN (R308). -/
def execAmoxFmin (sm l : Bool) (d a b : BitVec 5) (o c : BitVec 2) (s : State) : Out :=
  atomic (cSig (.amoxFmin sm l d a b o c)) .fmin d a b 4 o s

/-- AMOX_FMAX (R308). -/
def execAmoxFmax (sm l : Bool) (d a b : BitVec 5) (o c : BitVec 2) (s : State) : Out :=
  atomic (cSig (.amoxFmax sm l d a b o c)) .fmax d a b 4 o s

/-- FENCE (R311). -/
def execFence (sm l : Bool) (o c : BitVec 2) (s : State) : Out :=
  issue (cSig (.fence sm l o c)) s fun s =>
    if s.acquiring || (o.getLsbD 0 && !s.loadsDone) || (o.getLsbD 1 && !(s.storesDone && s.loadsDone)) then .wait else .done s

/-- WAITC (R312). -/
def execWaitc (sm l : Bool) (c : BitVec 2) (s : State) : Out :=
  issue (cSig (.waitc sm l c)) s fun s =>
    if s.ringOf s.cur == [] && s.wField c then .done s else .wait

/-- WAITA (R313). -/
def execWaita (sm l : Bool) (d a b : BitVec 5) (t u z : Bool) (c : BitVec 2) (s : State) : Out :=
  issue (cSig (.waita sm l d a b t u z c)) s fun s =>
    let m := if z then 8 else 4
    let adr := s.rx 1 a.toNat
    let v := fld (s.rx 2 b.toNat).toNat 0 (8 * m)
    let go := fun (s : State) =>
      match s.tagged adr m .load with
      | .trap y => Res.trap y
      | .fault k => .trap (pageTrap adr .load k)
      | .at_ l leaf s1 =>
        let host : Bool := match l with
          | .mem pa => fld pa 41 2 == 2
          | _ => false
        if host || (l.uc leaf).isSome then .trap { cause := cPROT, tval := adr, acc := 0 }
        else if s.acquiring || s.ringOf s.cur != [] || s.ownWaits l || s.readBlocked s.cur s.me.nseq l m then .wait
        else
          match s.poisonedLoc l m with
          | some u => .trap { cause := cMCE, tval := adr, unit := u, acc := 0 }
          | none =>
            let x := ofBytes (s.readFor s.cur s.me.nseq l m)
            if x = v then s.send (.sleep l m v)
            else
              .done (s1.putX d.toNat (natW x))
    s.whenDone go (fun q _ _ _ _ => go q)

end Sys2Proof.Machine
end

