-- ==== Sys2Proof/Machine/Collective.lean ====
section
/-! DEFINITION. The collective branch and groups (R254 to R262, R479). -/

namespace Sys2Proof.Machine

/-- The gang of a context's task: its launch and number (R207). -/
def State.gangOf (s : State) (c : Nat) : Option (Nat × Nat) :=
  match (s.ctx c).task, s.launchOf c with
  | some t, some l => if l.gang then some (t.launch, t.ord / l.e0) else none
  | _, _ => none

/-- A context joins a group (R255): its number of earlier joins or its level-0 value is written to rd. -/
def State.joinGroup (s : State) (g : Group) (d : BitVec 5) (v : Word) : Res :=
  let s1 := { s with groups := setGroup { g with joins := g.joins + 1, members := g.members ++ [s.caddr s.cur] } s.groups }
  let s2 := s1.setMe { s1.me with joinedGang := s1.me.joinedGang || g.gang.isSome }
  .done (((s2.putX d.toNat v).setCsr csrCMEMB (natW g.id)).setCsr csrCSEQ (natW g.round.toNat))

/-- TVAL of COLLABORT at a CBR of an aborted group: the open round is known at the group's home; elsewhere it is the round
that the member would contribute to (R261; DEDUCED, log entry 18). -/
def State.abortedAt (s : State) (g : Group) : Word :=
  if g.home = s.self then g.abortedTval else natW (2 ^ 32 * fld (s.regs.csrAt csrCSEQ).toNat 0 32 + 6)

/-- CBR (R257 to R259, R479). -/
def cbr (i : Sig) (op : BitVec 2) (a : BitVec 5) (h : BitVec 2) (o : BitVec 12) (s : State) : Out :=
  issue i s fun s =>
    let go := fun (s : State) (taken : Bool) =>
      if taken then Res.jump s (s.pc + wordOf (sextInt 12 o.toNat * 4)) else .done s
    s.whenDone (fun s =>
      let r := s.regs
      let p := s.rx 1 a.toNat != 0
      let cm := r.csrAt csrCMEMB
      if r.hm then .trap { cause := cCOLLNEST, tval := cm }
      else if cm = 0 then go s p
      else
        match s.groupOf s.cur with
        | none => .trap { cause := cPROT, tval := cm }
        | some g =>
          if g.id ≠ cm.toNat then .trap { cause := cPROT, tval := cm }
          else if g.aborted then .trap { cause := cCOLLABORT, tval := s.abortedAt g }
          else
            let seq := r.csrAt csrCSEQ
            let site := BitVec.ofNat 52 (s.sourceOf s.cur s.pc).1.toNat
            let c : Contribution := { group := g.id, vf := s.me.vf, member := s.caddr s.cur
                                      round := BitVec.ofNat 32 seq.toNat, site := site, op := op, pred := p }
            let s1 := (s.sendPacket g.home (.contrib c)).setCsr csrCSEQ (natW ((seq.toNat + 1) % 2 ^ 32))
            if r.stepBit then s1.send .cbr
            else
              let pred := if h = 0 then p else h == 1
              let sp : Spec := { cp := r, pred := pred, own := p, op := op, site := site, epc := s.pc, next := s.nextSeq
                                 target := s.pc + wordOf (sextInt 12 o.toNat * 4), group := g.id
                                 round := BitVec.ofNat 32 seq.toNat }
              go (s1.setMe { s1.me with spec := some sp }) pred)
      (fun q v _ _ _ => go q (v != 0))

/-- CBR_ANY (R257). -/
def execCbrAny (sm l : Bool) (a : BitVec 5) (h : BitVec 2) (o : BitVec 12) (s : State) : Out :=
  cbr (cSig (.cbrAny sm l a h o)) 0 a h o s

/-- CBR_ALL (R257). -/
def execCbrAll (sm l : Bool) (a : BitVec 5) (h : BitVec 2) (o : BitVec 12) (s : State) : Out :=
  cbr (cSig (.cbrAll sm l a h o)) 1 a h o s

/-- CBR_MAJ (R257). -/
def execCbrMaj (sm l : Bool) (a : BitVec 5) (h : BitVec 2) (o : BitVec 12) (s : State) : Out :=
  cbr (cSig (.cbrMaj sm l a h o)) 2 a h o s

/-- COLX.JOIN of a group whose home is this package (R255). -/
def State.joinHere (s : State) (x : Group) (d : BitVec 5) (n : Word) : Res :=
  if n.toNat ≠ x.created ∨ x.created ≤ x.joins then .done (s.putX d.toNat minusOne)
  else if x.aborted then .trap { cause := cCOLLABORT, tval := x.abortedTval }
  else s.joinGroup x d (natW x.joins)

/-- COLX.JOIN of a group of software: of this package; created here; or asked of its home or, where another package keeps the
directory, of that (R254, R255, R452; log entry 81). -/
def State.joinNamed (s : State) (d : BitVec 5) (g n : Word) : Res :=
  let dir := s.dirPkg s.me.vf
  let ask := fun (pkg : Nat) =>
    (s.sendPacket pkg (.groupAsk (s.caddr s.cur) s.me.vf g.toNat n.toNat)).send (.colx g.toNat n.toNat)
  match (s.groupById s.me.vf g.toNat).filter (fun x => x.home == s.self) with
  | some x => s.joinHere x d n
  | none =>
    if dir ≠ s.self then ask dir
    else
      match s.groupDir.find? (fun e => e.1 == s.me.vf && e.2.1 == g.toNat) with
      | some e => ask e.2.2
      | none =>
        if n.toNat < 1 ∨ 65535 < n.toNat then .trap { cause := cILLEGAL, tval := n }
        else
          let x : Group := { id := g.toNat, vf := s.me.vf, home := s.self, exp := n.toNat, created := n.toNat }
          ({ s with groups := s.groups ++ [x] } : State).joinGroup x d 0

/-- COLX_JOIN (R255). With g = 0, a gang task whose gang group has been deleted traps as one outside a gang does: DESIGN CHOICE,
log entry 98. -/
def execColxJoin (sm l : Bool) (d a b : BitVec 5) (t u : Bool) (s : State) : Out :=
  issue (cSig (.colxJoin sm l d a b t u)) s fun s =>
    s.whenDone (fun s =>
      let g := s.rx 1 a.toNat
      if (s.groupOf s.cur).isSome then .trap { cause := cILLEGAL, tval := s.regs.csrAt csrCMEMB }
      else if g = 0 then
        match s.gangOf s.cur with
        | none => .trap { cause := cILLEGAL, tval := 0 }
        | some (l, q) =>
          match s.groups.find? (fun x => x.launch == some l && x.gang == some q) with
          | none => .trap { cause := cILLEGAL, tval := 0 }
          | some x =>
            if x.aborted then .trap { cause := cCOLLABORT, tval := x.abortedTval }
            else
              s.joinGroup x d (natW (match s.me.task, s.launchOf s.cur with
                | some t, some ln => t.ord % ln.e0
                | _, _ => 0))
      else if 0x7FFF < g.toNat then .trap { cause := cPROT, tval := g }
      else s.joinNamed d g (s.rx 2 b.toNat))
      (fun q v round said _ =>
        let r := q.putX d.toNat v
        if said = 0 then .done ((r.setCsr csrCMEMB (q.rx 1 a.toNat)).setCsr csrCSEQ round) else .done r)

/-- COLX_LEAVE (R255). -/
def execColxLeave (sm l : Bool) (s : State) : Out :=
  issue (cSig (.colxLeave sm l)) s fun s =>
    .done (((s.within (s.leaveGroup s.cur)).setCsr csrCMEMB 0).setCsr csrCSEQ 0)

end Sys2Proof.Machine
end

