-- ==== Sys2Proof/Machine/Csr.lean ====
section
/-! DEFINITION. The CSR map (R30, R33): who may read and write each CSR, its reserved fields (R5), the values that are
computed when read, and what a write does. -/

namespace Sys2Proof.Machine

/-- How a CSR may be used (R30, R33): read-only in both modes; written in handler mode only; written in both modes;
accessed in handler mode only, for writing or not. -/
inductive CsrUse where
  | ro | rwHandler | rw | handler | handlerRo
  deriving DecidableEq, Repr

/-- The use of the CSR at an address, or none for a reserved address (R33, R393). -/
def csrUse (a : Nat) : Option CsrUse :=
  if a ≤ 6 ∨ a = 0x40 ∨ a = 0x41 ∨ a = 0x90 ∨ a = 0x91 then some .rwHandler
  else if a = 7 ∨ a = 0x10 ∨ a = 0x11 ∨ (0x30 ≤ a ∧ a ≤ 0x37) ∨ (0x50 ≤ a ∧ a ≤ 0x54) ∨ a = 0x60 ∨ (0xA0 ≤ a ∧ a ≤ 0xA7) then
    some .rw
  else if a = 0x12 ∨ (0x20 ≤ a ∧ a ≤ 0x22) ∨ (0x42 ≤ a ∧ a ≤ 0x44) ∨ (0x70 ≤ a ∧ a ≤ 0x81) ∨ (0xB0 ≤ a ∧ a ≤ 0xB2)
    ∨ a = 0xC0 ∨ a = 0xC1 then some .ro
  else if a = 0x109 then some .handlerRo
  else if 0x100 ≤ a ∧ a ≤ 0x10D then some .handler
  else none

/-- A value has a non-zero reserved field for the CSR at an address (R5, R33, R78, R160). -/
def csrReserved (a v : Nat) : Bool :=
  let addr := decide (2 ^ 52 ≤ v) || v % 4 != 0
  if a = 0 then decide (64 ≤ v) || bitAt v 3
  else if a = 1 then decide (2 ^ 9 ≤ v)
  else if a = 3 ∨ a = 4 ∨ a = 6 then addr
  else if a = 5 then decide (2 ^ 15 ≤ v)
  else if a = 0x10 then decide (4 < v)
  else if a = 0x11 then decide (64 ≤ v)
  else if a = 0x30 ∨ a = 0x33 ∨ a = 0x100 ∨ a = 0x103 then decide (2 ^ 32 ≤ v)
  else if a = 0x31 ∨ a = 0x32 ∨ a = 0x34 ∨ a = 0x35 ∨ a = 0x101 ∨ a = 0x102 ∨ a = 0x104 ∨ a = 0x105 then addr
  else if a = 0x36 ∨ a = 0x37 ∨ a = 0x106 ∨ a = 0x107 ∨ a = 0x40 then decide (2 ^ 16 ≤ v)
  else if a = 0x41 ∨ (0x50 ≤ a ∧ a ≤ 0x54) then decide (2 ^ 32 ≤ v)
  else if a = 0x60 then
    fld v 61 3 != 0 || fld v 45 3 != 0 || fld v 12 20 != 0 || decide (4096 < fld v 32 13)
      || decide (4096 < fld v 0 12 + fld v 32 13) || decide (4096 < fld v 48 13)
  else if a = 0x90 then decide (2 ^ 48 ≤ v)
  else if a = 0x91 then decide (2 ^ 56 ≤ v) || fld v 3 5 != 0 || decide (4 < fld v 0 3)
  else if 0xA0 ≤ a ∧ a ≤ 0xA7 then fld v 32 31 != 0
  else if a = 0x108 then decide (2 ^ 12 ≤ v)
  else if 0x10A ≤ a ∧ a ≤ 0x10D then fld v 52 11 != 0 || v % 4 != 0
  else false

/-- The state code of a context in XCTX (R393). -/
def xctxCode (x : Ctx) : Nat :=
  match x.status with
  | .free => 0
  | .service _ => 3
  | .debug _ _ => 2
  | .run => if x.wait = 0 then 1 else 2

/-- The occupant of a context has been saved, and the context is free (R393). -/
def State.isSaved (s : State) (c : Nat) : Bool :=
  (s.ctx c).status == .free && s.parts.any (fun p => p.2.saved.any (fun v => v.cores.any (fun k => k.ctxs.any (fun x => x.1 == c))))

/-- CSPEC (R258). -/
def cspecOf (x : Ctx) : Word :=
  match x.spec with
  | none => 0
  | some sp =>
    natW (2 ^ 63 + 2 ^ 62 * b2n sp.pred + 2 ^ 61 * b2n sp.own + 2 ^ 59 * sp.op.toNat
      + 2 ^ 52 * (sp.held.map (·.entries)).sum + sp.site.toNat)

/-- The value that the current context reads from a CSR (R33, R34). -/
def State.readCsr (s : State) (a : Nat) : Word :=
  let x := s.me
  let k := s.core (coreOf s.cur)
  if a = csrTSTAT then x.regs.csrAt a + natW (16 * (s.cur % 4))
  else if a = csrCSPEC then cspecOf x
  else if a = csrCADDR then s.caddr s.cur
  else if a = csrORPHANS then (s.grove (groveOf s.cur)).orphans
  else if a = csrTSTAMP then natW s.tick
  else if a = csrPCA then natW x.pca
  else if a = csrPCB then natW x.pcb
  else if a = csrCOLOR then natW (b2n k.colour)
  else if a = csrCUTID then natW k.cutid.toNat
  else if a = csrXCTX then
    natW (ofLanes 3 ((upFrom (4 * coreOf s.cur) 4).map (fun c => if s.isSaved c then 4 else xctxCode (s.ctx c))))
  else x.regs.csrAt a

/-- A port still holds entries that the current context pushed in this occupancy (R27; DESIGN CHOICE, log entry 66), other than
those that its unit pops. -/
def State.holdsMine (s : State) (p : Nat) : Bool :=
  match portOf s.self p with
  | .queue g ix =>
    match tabFind (s.grove g).queues ix with
    | some q => q.items.any (fun e => e.ctx == s.cur && e.gen == s.me.gen && !(s.unit.pops.any (fun k => k.port == p && k.n == e.n)))
    | none => false
  | _ => false

/-- QB n written (R27, R244): `bad` is the PROT trap of a port that may not be used. -/
def State.writeQb (s : State) (n : Nat) (v : Word) (word bad : Word) : Except Why State :=
  let old := s.regs.csrAt (csrQB0 + n)
  let p := fld v.toNat 0 32
  if bitAt v.toNat 63 && !(s.mayUse s.cur (portOf s.self p)) then .error { cause := cPROT, tval := bad }
  else if bitAt v.toNat 63 && (upFrom 0 8).any (fun m => m != n && s.regs.boundTo (24 + m) == some p) then
    .error { cause := cILLEGAL, tval := bad }
  else if bitAt old.toNat 63 && decide (old ≠ v) && s.holdsMine (fld old.toNat 0 32) then
    .error { cause := cILLEGAL, tval := word }
  else .ok (s.setCsr (csrQB0 + n) v)

/-- A CSR written (R29, R33); the mode bit and CTX of TSTAT are ignored. -/
def State.writeCsr (s : State) (a : Nat) (v word : Word) : Except Why State :=
  if a = csrTSTAT then .ok (s.setCsr a (tstatOf s.regs.hm (v.getLsbD 1) (v.getLsbD 2)))
  else if csrQB0 ≤ a ∧ a < csrQB0 + 8 then s.writeQb (a - csrQB0) v word (natW (fld v.toNat 0 32))
  else .ok (s.setCsr a v)

/-- The first check of R33 that fails on an access in the given mode, with the new value if there is one. -/
def csrTrap (hm : Bool) (a : Nat) (new : Option Word) : Option (BitVec 6) :=
  if !hm && decide (0x100 ≤ a ∧ a ≤ 0x1FF) then some cPRIV
  else
    match csrUse a with
    | none => some cRESERVED
    | some u =>
      match new with
      | none => none
      | some v =>
        if !hm && u == .rwHandler then some cPRIV
        else if u == .ro || u == .handlerRo then some cILLEGAL
        else if csrReserved a v.toNat then some cRESERVED
        else none

/-- The four CSR forms (R116): `new` gives the value to write from the old one, if there is one. A write to QB0 to QB7
waits under an unresolved collective branch (R99). -/
def csrOp (i : Sig) (d : BitVec 5) (c : BitVec 11) (new : State → Word → Option Word) (s : State) : Out :=
  issue i s fun s =>
    let a := c.toNat
    let old := s.readCsr a
    let v := new s old
    match csrTrap s.regs.hm a v with
    | some k => .trap { cause := k, tval := wordTval i false }
    | none =>
      let s1 := s.putX d.toNat old
      match v with
      | none => .done s1
      | some w =>
        if s.me.spec.isSome ∧ csrQB0 ≤ a ∧ a < csrQB0 + 8 then .blocked .cbr
        else
          match s1.writeCsr a w (wordTval i false) with
          | .ok s2 => .done s2
          | .error y => .trap y

end Sys2Proof.Machine
end

