-- ==== Sys2Proof/Machine/Fetch.lean ====
section
/-! DEFINITION. Fetching and forming an issue unit (R37, R40, R45 rows 1 to 6), from translated memory and from the
residual window (R213). -/

namespace Sys2Proof.Machine

/-- What fetching a word answers. -/
inductive Fetched where
  | word (w : Nat) (s : State)
  | trap (w : Why)

/-- Residual word `k` of a context's launch on its die (R213, R227); a place with no word holds zero (log entry 7). -/
def State.residualWord (s : State) (c k : Nat) : Nat :=
  match (s.launchOf c).bind (fun l => l.residual.bind (fun key => (s.die (dieOf c)).cache.find? (fun e => e.key == key && e.vf == l.vf))) with
  | some r => nth 0 r.words k
  | none => 0

/-- The word at a fetch address (R45 row 1, R123, R213, R263, R271, R399, R425). -/
def State.fetch (s : State) (a : Word) : Fetched :=
  let v := a.toNat
  if 2 ^ 52 ≤ v then .trap { cause := cPROT, tval := a, acc := 3 }
  else if residualBase ≤ v ∧ v < residualBase + 0x10000 then .word (s.residualWord s.cur ((v - residualBase) / 4)) s
  else if deviceBase ≤ v then .trap { cause := cPROT, tval := a, acc := 3 }
  else if s.meterTrap s.me.vf a .fetch false then .trap { cause := cMETER, tval := a, acc := 3 }
  else
    match s.translate (unitsOf s.cur) s.me.vf v .fetch with
    | .fault k => .trap (pageTrap a .fetch k)
    | .ok pa _ _ s1 =>
      match s1.poisonedLoc (.mem pa) 4 with
      | some u => .trap { cause := cMCE, tval := a, unit := u, acc := 3 }
      | none => .word (ofBytes (s1.readLoc (.mem pa) 4)) s1

/-- An issue unit as R40 forms it, or the trap of R45 rows 1 to 6. -/
inductive Formed where
  | lone (i : Instr) (s : State)
  | pair (c a : Instr) (s : State)
  | trap (w : Why) (aw : Bool)

/-- The destinations of both words name one register; writes to X0 and M0 are discarded (R42). -/
def sameDest (c a : List Dst) : Bool :=
  c.any (fun x => !((x.cls == 0 || x.cls == 4) && x.n == 0) && a.contains x)

/-- A decode trap on a word (R45 rows 2 to 6). -/
def wordTrap (cause : BitVec 6) (w : Nat) (aw : Bool) : Formed :=
  .trap { cause := cause, tval := natW (w + 2 ^ 32 * b2n aw) } aw

/-- The issue unit at the PC of the current context (R40, R45). -/
noncomputable def State.formUnit (s : State) : Formed :=
  let pc := s.pc
  match s.fetch pc with
  | .trap w => .trap w false
  | .word w0 s1 =>
    let paired := !(isA w0) && !(isLone w0)
    match (if paired && pc.toNat % 8 == 0 then s1.fetch (pc + 4) else .word 0 s1) with
    | .trap w => .trap { w with tval := w.tval } false
    | .word w1 s2 =>
      if reservedMajor w0 then wordTrap cRESERVED w0 false
      else if paired && (pc.toNat % 8 != 0 || !(isA w1)) then wordTrap cILLEGAL w0 false
      else
        match decodeWord w0 with
        | .illegal => wordTrap cILLEGAL w0 false
        | .reserved => wordTrap cRESERVED w0 false
        | .ok i =>
          if !paired then .lone i s2
          else if reservedMajor w1 then wordTrap cRESERVED w1 true
          else
            match decodeWord w1 with
            | .illegal => wordTrap cILLEGAL w1 true
            | .reserved => wordTrap cRESERVED w1 true
            | .ok a => if sameDest (Instr.dests i) (Instr.dests a) then wordTrap cILLEGAL w1 true else .pair i a s2

/-- NextSeq of the unit at an address, which REP with count 0 needs (R113). A C word that forms no unit there has no next
sequential address (R40): the length is a free choice (log entry 4). -/
def State.nextOf (s : State) (q : Word) : Except Why (Word × State) :=
  match s.fetch q with
  | .trap w => .error w
  | .word w0 s1 =>
    if isA w0 || isLone w0 then .ok (q + 4, s1)
    else
      match (if q.toNat % 8 = 0 then s1.fetch (q + 4) else .word 0 s1) with
      | .trap w => .error w
      | .word w1 s2 =>
        if q.toNat % 8 = 0 && isA w1 then .ok (q + 8, s2)
        else
          let (b, s3) := s2.freeBit
          .ok (if b then q + 4 else q + 8, s3)

end Sys2Proof.Machine
end

