-- ==== Sys2Proof/Machine/Control.lean ====
section
/-! DEFINITION. Control flow, CSR access and task control but HALT (R107 to R120, R392). -/

namespace Sys2Proof.Machine

/-- A branch target: A + SExt(o, n)·4 (R107). -/
def State.target (s : State) (n o : Nat) : Word := s.pc + wordOf (sextInt n o * 4)

/-- A conditional branch (R107, R110). -/
def branch (i : Sig) (o : BitVec 12) (taken : State → Bool) (s : State) : Out :=
  issue i s fun s => if taken s then .jump s (s.target 12 o.toNat) else .done s

/-- An X source in the first and second place. -/
def State.xa (s : State) (a : BitVec 5) : Word := s.rx 1 a.toNat
def State.xb (s : State) (b : BitVec 5) : Word := s.rx 2 b.toNat

/-- A loop whose end stands at an address and that is active (R112, R113). -/
def Regs.loopAt (r : Regs) (t : Word) : Bool :=
  (r.csrAt csrLC0 != 0 && t == r.csrAt csrLE0) || (r.csrAt csrLC1 != 0 && t == r.csrAt csrLE1)

/-- NOP (R117). -/
def execNop (sm l : Bool) (s : State) : Out :=
  issue (cSig (.nop sm l)) s fun s => .done s

/-- ECALL (R119). -/
def execEcall (sm l : Bool) (s : State) : Out :=
  issue (cSig (.ecall sm l)) s fun _ => .trap { cause := cECALL, tval := 0 }

/-- EBREAK (R117). -/
def execEbreak (sm l : Bool) (s : State) : Out :=
  issue (cSig (.ebreak sm l)) s fun _ => .trap { cause := cBREAK, tval := 0 }

/-- HRET (R392). -/
def execHret (sm l : Bool) (s : State) : Out :=
  issue (cSig (.hret sm l)) s fun s =>
    .jump { s.setRegs s.regs.hret with unit := { s.unit with resume := true } } (s.regs.csrAt csrTEPC)

/-- YIELD (R120). -/
def execYield (sm l : Bool) (s : State) : Out :=
  issue (cSig (.yield sm l)) s fun s =>
    .done (s.setMe { s.me with owed := (upFrom (4 * coreOf s.cur) 4).filter (· != s.cur) })

/-- CSRR (R116). -/
def execCsrr (sm l : Bool) (d : BitVec 5) (c : BitVec 11) (s : State) : Out :=
  csrOp (cSig (.csrr sm l d c)) d c (fun _ _ => none) s

/-- CSRW (R116). -/
def execCsrw (sm l : Bool) (d a : BitVec 5) (c : BitVec 11) (s : State) : Out :=
  csrOp (cSig (.csrw sm l d a c)) d c (fun s _ => some (s.rx 1 a.toNat)) s

/-- CSRS (R116). -/
def execCsrs (sm l : Bool) (d a : BitVec 5) (c : BitVec 11) (s : State) : Out :=
  csrOp (cSig (.csrs sm l d a c)) d c (fun s old => if a = 0 then none else some (old ||| s.rx 1 a.toNat)) s

/-- CSRC (R116). -/
def execCsrc (sm l : Bool) (d a : BitVec 5) (c : BitVec 11) (s : State) : Out :=
  csrOp (cSig (.csrc sm l d a c)) d c (fun s old => if a = 0 then none else some (old &&& ~~~(s.rx 1 a.toNat))) s

/-- BEQ (R107). -/
def execBeq (sm l : Bool) (a b : BitVec 5) (o : BitVec 12) (s : State) : Out :=
  branch (cSig (.beq sm l a b o)) o (fun s => s.xa a == s.xb b) s

/-- BNE (R107). -/
def execBne (sm l : Bool) (a b : BitVec 5) (o : BitVec 12) (s : State) : Out :=
  branch (cSig (.bne sm l a b o)) o (fun s => s.xa a != s.xb b) s

/-- BLT (R107). -/
def execBlt (sm l : Bool) (a b : BitVec 5) (o : BitVec 12) (s : State) : Out :=
  branch (cSig (.blt sm l a b o)) o (fun s => (s.xa a).slt (s.xb b)) s

/-- BGE (R107). -/
def execBge (sm l : Bool) (a b : BitVec 5) (o : BitVec 12) (s : State) : Out :=
  branch (cSig (.bge sm l a b o)) o (fun s => !((s.xa a).slt (s.xb b))) s

/-- BLTU (R107). -/
def execBltu (sm l : Bool) (a b : BitVec 5) (o : BitVec 12) (s : State) : Out :=
  branch (cSig (.bltu sm l a b o)) o (fun s => (s.xa a).ult (s.xb b)) s

/-- BGEU (R107). -/
def execBgeu (sm l : Bool) (a b : BitVec 5) (o : BitVec 12) (s : State) : Out :=
  branch (cSig (.bgeu sm l a b o)) o (fun s => !((s.xa a).ult (s.xb b))) s

/-- BMSK_ANY (R108). -/
def execBmskAny (sm l : Bool) (k : BitVec 3) (o : BitVec 12) (s : State) : Out :=
  branch (cSig (.bmskAny sm l k o)) o (fun s => s.regs.mAt k.toNat != 0) s

/-- BMSK_NONE (R108). -/
def execBmskNone (sm l : Bool) (k : BitVec 3) (o : BitVec 12) (s : State) : Out :=
  branch (cSig (.bmskNone sm l k o)) o (fun s => s.regs.mAt k.toNat == 0) s

/-- BMSK_ALL (R108). -/
def execBmskAll (sm l : Bool) (k : BitVec 3) (o : BitVec 12) (s : State) : Out :=
  branch (cSig (.bmskAll sm l k o)) o (fun s => s.regs.mAt k.toNat == 0xFFFF) s

/-- BMSK_NALL (R108). -/
def execBmskNall (sm l : Bool) (k : BitVec 3) (o : BitVec 12) (s : State) : Out :=
  branch (cSig (.bmskNall sm l k o)) o (fun s => s.regs.mAt k.toNat != 0xFFFF) s

/-- JAL (R109). -/
def execJal (sm l : Bool) (d : BitVec 5) (o : BitVec 18) (s : State) : Out :=
  issue (cSig (.jal sm l d o)) s fun s => .jump (s.putX d.toNat s.nextSeq) (s.target 18 o.toNat)

/-- JALR (R109). -/
def execJalr (sm l : Bool) (d a : BitVec 5) (t : Bool) (i : BitVec 12) (s : State) : Out :=
  issue (cSig (.jalr sm l d a t i)) s fun s =>
    .jump (s.putX d.toNat s.nextSeq) ((s.xa a + sextW 12 i.toNat) &&& ~~~3#64)

/-- LOOP (R111). -/
def execLoop (sm l n : Bool) (a : BitVec 5) (t : Bool) (i : BitVec 12) (s : State) : Out :=
  issue (cSig (.loop sm l n a t i)) s fun s =>
    let c := s.xa a
    let b := s.nextSeq
    let e : Int := s.pc.toNat + sextInt 12 i.toNat * 4
    if 2 ^ 32 ≤ c.toNat then .trap { cause := cILLEGAL, tval := c }
    else if e ≤ b.toNat then .trap { cause := cILLEGAL, tval := wordOf e }
    else
      let k := if n then csrLC1 else csrLC0
      let s1 := ((s.setCsr k c).setCsr (k + 1) b).setCsr (k + 2) (wordOf e)
      .jump s1 (if c = 0 then wordOf e else b)

/-- REP (R113). -/
def execRep (sm l : Bool) (a : BitVec 5) (t : Bool) (i : BitVec 12) (s : State) : Out :=
  issue (cSig (.rep sm l a t i)) s fun s =>
    let c : Int := (s.xa a).toInt + sextInt 12 i.toNat
    let t := s.nextSeq
    if c < 0 ∨ 65535 < c then .trap { cause := cILLEGAL, tval := wordOf c }
    else if s.regs.loopAt t then .trap { cause := cILLEGAL, tval := t }
    else
      let s1 := (s.setCsr csrRC (wordOf c)).setCsr csrRI 0
      if c = 0 then
        match s1.nextOf t with
        | .ok (p, s2) => .jump s2 p
        | .error y => .trap y
      else .done s1

end Sys2Proof.Machine
end

