-- ==== Sys2Proof/Machine/Engine.lean ====
section
/-! DEFINITION. The Spout forms and barrier objects (R318 to R326). -/

namespace Sys2Proof.Machine

/-- A copy of the current context by its handle: its grove, where the context may have been before it moved (R416), and its
place in that grove's list, the latest first (R320). -/
def State.copyOf (s : State) (h : Word) : Option (Nat × Nat × Copy) :=
  s.groves.findSome? (fun (g : Nat × Grove) =>
    (((upFrom 0 g.2.copies.length).zip g.2.copies).reverse.find? (fun p => p.2.handle == h && p.2.ctx == s.cur && p.2.gen == s.me.gen)).map
      (fun p => (g.1, p.1, p.2)))

/-- The status word of a copy (R320, R399). -/
def copyStatus : Option Copy → Word
  | none => 0
  | some k =>
    if k.status = 5 then natW (2 ^ 12 * (k.fva.toNat % 2 ^ 52) + 2 ^ 8 * k.funit + 2 ^ 4 * k.fkind + 5) else natW k.status

/-- A copy of a grove replaced. -/
def State.setCopy (s : State) (g n : Nat) (k : Copy) : State :=
  s.setGrove g { s.grove g with copies := setNth k (s.grove g).copies n }

/-- A copy that has finished: it stands behind every other, and of each context the last 1,024 finished copies are kept
(R320). -/
def State.finishCopy (s : State) (g n : Nat) (k : Copy) : State :=
  let cs := dropNth (s.grove g).copies n ++ [k]
  let done := cs.filter (fun c => c.ctx == k.ctx && c.gen == k.gen && !c.open_)
  let cs1 := if 1024 < done.length then
      (match placeOf (fun c => c.ctx == k.ctx && c.gen == k.gen && !(Copy.open_ c)) cs with
       | some m => dropNth cs m
       | none => cs)
    else cs
  s.setGrove g { s.grove g with copies := cs1 }

/-- A barrier object: its place and two words (R324). -/
structure BarObj where
  loc : Loc
  w0 : Nat
  w1 : Nat

/-- Settle (R325): the object's words after it. -/
def settleBar (w0 w1 : Nat) : Nat × Nat :=
  let expN := fld w0 40 16
  let expB := fld w0 0 40
  let arvN := fld w1 40 16
  let arvB := fld w1 0 40
  if expB ≤ arvB ∧ expN ≤ arvN then
    let ovr := bitAt w0 62 || decide (expB < arvB) || decide (expN < arvN)
    (2 ^ 63 * b2n (!(bitAt w0 63)) + 2 ^ 62 * b2n ovr + 2 ^ 61 * fld w0 61 1 + 2 ^ 56 * fld w0 56 5 + 2 ^ 40 * expN,
     2 ^ 56 * fld w1 56 8)
  else (w0, w1)

/-- The words of the object at a place. -/
def State.barWords (s : State) (l : Loc) : Nat × Nat :=
  (ofBytes (s.readLoc l 8), ofBytes (s.readLoc (l.add 8) 8))
def State.setBar (s : State) (l : Loc) (w : Nat × Nat) : State := s.writeLoc l (bytesOf 8 w.1 ++ bytesOf 8 w.2)

/-- The object that a BAR form names, past its checks (R325). -/
def State.barAt (s : State) (b : Word) : Except Why Loc :=
  match s.checkAddr 1 b 16 .load with
  | some y => .error { y with acc := 4 }
  | none =>
    match s.scrLoc s.cur b.toNat 16 with
    | none => .error { cause := cPROT, tval := b }
    | some l =>
      match s.poisonedLoc l 16 with
      | some u => .error { cause := cMCE, tval := b, unit := u }
      | none => .ok l

/-- An object has a non-zero reserved field (R5, R324). -/
def barReserved (w : Nat × Nat) : Bool := fld w.1 56 5 != 0 || fld w.2 56 8 != 0

/-- The object that BAR.EXP, BAR.ARV and BAR.WT read; one with a non-zero reserved field is rejected (R5; DEDUCED, log entry
76). -/
def State.barRead (s : State) (b : Word) : Except Why Loc :=
  match s.barAt b with
  | .error y => .error y
  | .ok l => if barReserved (s.barWords l) then .error { cause := cSPOUT, tval := b } else .ok l

/-- A barrier operation follows the context's own earlier accesses to the object and to its own scratchpad (R286 rows 1 and
10). -/
def State.barClear (s : State) (l : Loc) : Bool :=
  !s.acquiring && !(s.ownWaits l) && !(s.readBlocked s.cur s.me.nseq l 16)
    && !(s.me.posted.any (fun p => p.writes.any (fun w => w.overlaps l 16)))

/-- BAR.INIT makes the object live (R324). -/
def State.markLive (s : State) : Loc → State
  | .scr c o => s.setCore c { s.core c with live := markIn true (o / 16) (s.core c).live }
  | _ => s

/-- SPT_CPY (R319). -/
def execSptCpy (sm l : Bool) (d a : BitVec 5) (t : Bool) (s : State) : Out :=
  issue (cSig (.sptCpy sm l d a t)) s fun s =>
    s.whenRead
      (fun s =>
        match s.descAt (s.rx 1 a.toNat) with
        | .error y => .trap y
        | .ok l =>
          if s.descClear l && !s.sptPending then s.sendReads 4 [] (piecesFrom 0 l 64 (s.rx 1 a.toNat) none) else .wait)
      (fun s t =>
        match s.submit (s.rx 1 a.toNat) (wordsFrom t 0 8) with
        | .ok h s1 => .done (s.putWithin s1 d.toNat h)
        | .trap y => .trap y
        | _ => .wait)
      (fun q _ _ _ _ => .done q)

/-- SPT_CAN (R321). -/
def execSptCan (sm l : Bool) (d a : BitVec 5) (t : Bool) (s : State) : Out :=
  issue (cSig (.sptCan sm l d a t)) s fun s =>
    s.whenDone (fun s =>
      let h := s.rx 1 a.toNat
      match s.copyOf h with
      | none => .done (s.putX d.toNat 0)
      | some (g, n, k) =>
        if k.status = 1 then
          let k1 := { k with status := 4 }
          .done ((s.finishCopy g n k1).putX d.toNat (copyStatus (some k1)))
        else if k.status = 2 then (s.setCopy g n { k with cancel := true }).send (.cancel g h)
        else .done (s.putX d.toNat (copyStatus (some k))))
      (fun q v _ _ _ => .done (q.putX d.toNat v))

/-- SPT_POLL (R321). -/
def execSptPoll (sm l : Bool) (d a : BitVec 5) (t : Bool) (s : State) : Out :=
  issue (cSig (.sptPoll sm l d a t)) s fun s =>
    .done (s.putX d.toNat (copyStatus ((s.copyOf (s.rx 1 a.toNat)).map (·.2.2))))

/-- BAR_INIT (R325). -/
def execBarInit (sm l : Bool) (a b : BitVec 5) (t u : Bool) (s : State) : Out :=
  issue (cSig (.barInit sm l a b t u)) s fun s =>
    let n := s.rx 2 b.toNat
    match s.barAt (s.rx 1 a.toNat) with
    | .error y => .trap y
    | .ok l =>
      if n = 0 ∨ 65535 < n.toNat then .trap { cause := cILLEGAL, tval := n }
      else if !(s.barClear l) then .wait
      else .done ((s.setBar l (2 ^ 40 * n.toNat, 0)).markLive l)

/-- BAR_EXP (R325). -/
def execBarExp (sm l : Bool) (a b : BitVec 5) (t u : Bool) (s : State) : Out :=
  issue (cSig (.barExp sm l a b t u)) s fun s =>
    let n := s.rx 2 b.toNat
    match s.barRead (s.rx 1 a.toNat) with
    | .error y => .trap y
    | .ok l =>
      if !(s.barClear l) then .wait
      else
        let w := s.barWords l
        let e : Int := (fld w.1 0 40 : Nat) + n.toInt
        if e < 0 ∨ 2 ^ 40 ≤ e then .trap { cause := cILLEGAL, tval := n }
        else .done (s.setBar l (settleBar (w.1 - fld w.1 0 40 + e.toNat) w.2))

/-- BAR_ARV (R325). -/
def execBarArv (sm l : Bool) (d a : BitVec 5) (t : Bool) (s : State) : Out :=
  issue (cSig (.barArv sm l d a t)) s fun s =>
    match s.barRead (s.rx 1 a.toNat) with
    | .error y => .trap y
    | .ok l =>
      if !(s.barClear l) || !s.storesDone || !s.loadsDone then
        .wait
      else
        let w := s.barWords l
        let n := (fld w.2 40 16 + 1) % 2 ^ 16
        .done ((s.setBar l (settleBar w.1 (w.2 - 2 ^ 40 * fld w.2 40 16 + 2 ^ 40 * n))).putX d.toNat (natW (fld w.1 63 1)))

/-- BAR_WT (R326). -/
def execBarWt (sm l : Bool) (d a b : BitVec 5) (t u : Bool) (s : State) : Out :=
  issue (cSig (.barWt sm l d a b t u)) s fun s =>
    let adr := s.rx 1 a.toNat
    match s.barRead adr with
    | .error y => .trap y
    | .ok l =>
      let w := s.barWords l
      if !(s.barClear l) || s.ringOf s.cur != [] || fld w.1 63 1 == fld (s.rx 2 b.toNat).toNat 0 1 then .wait
      else if bitAt w.1 61 then .trap { cause := cSPOUT, tval := adr }
      else .done (s.putX d.toNat (natW (fld w.1 63 1)))

end Sys2Proof.Machine
end

