-- ==== Sys2Proof/Machine/Float.lean ====
section
/-! DEFINITION. Exact arithmetic and rounding of the number formats (R75 to R77, R81, R85 to R95, R126, R127, R143): every
value is an exact binary number, and each result is rounded once. On numbers only; the registers stand elsewhere. -/

namespace Sys2Proof

/-- A binary floating-point format (R75): precision with the hidden bit, and exponent width. -/
structure Fmt where
  p : Nat
  w : Nat
  deriving DecidableEq, Repr

def fmt32 : Fmt := { p := 24, w := 8 }
def fmt16 : Fmt := { p := 11, w := 5 }
def fmtB16 : Fmt := { p := 8, w := 8 }

/-- The width in bits, the exponent of the lowest subnormal bit, the bits of +infinity, the canonical NaN (R75). -/
def Fmt.bits (f : Fmt) : Nat := f.p + f.w
def Fmt.qmin (f : Fmt) : Int := 3 - ((2 ^ (f.w - 1) : Nat) : Int) - f.p
def Fmt.inf (f : Fmt) : Nat := (2 ^ f.w - 1) * 2 ^ (f.p - 1)
def Fmt.nan (f : Fmt) : Nat := f.inf + 2 ^ (f.p - 2)
def Fmt.sign (f : Fmt) (neg : Bool) : Nat := if neg then 2 ^ (f.p + f.w - 1) else 0

/-- Flags of FFLAGS (R79). -/
def flNX : Nat := 1
def flUF : Nat := 2
def flOF : Nat := 4
def flDZ : Nat := 8
def flNV : Nat := 16

/-- Rounding modes (R78). -/
def mRNE : Nat := 0
def mRTZ : Nat := 1
def mRUP : Nat := 2
def mRDN : Nat := 3
def mSR : Nat := 4

/-- A value of a format: a NaN (signalling or not), an infinity, or a finite (-1)^neg · m · 2^e. -/
inductive FV where
  | nan (signalling : Bool)
  | inf (neg : Bool)
  | fin (neg : Bool) (m : Nat) (e : Int)
  deriving DecidableEq, Repr

/-- The value of an encoding (R75, R76). -/
def Fmt.val (f : Fmt) (b : Nat) : FV :=
  let neg := bitAt b (f.bits - 1)
  let ex := fld b (f.p - 1) f.w
  let fr := fld b 0 (f.p - 1)
  if ex = 2 ^ f.w - 1 then (if fr = 0 then .inf neg else .nan (!(bitAt fr (f.p - 2))))
  else if ex = 0 then .fin neg fr f.qmin
  else .fin neg (fr + 2 ^ (f.p - 1)) (f.qmin + ex - 1)

/-- The magnitude m · 2^e, with `st` true when the exact magnitude lies strictly above it and below (m + 1) · 2^e, cut at
2^q: the kept multiple of 2^q, and what was cut as a fraction num / 2^sh with its own sticky mark. -/
def cut (m : Nat) (e q : Int) : Nat × Nat × Nat :=
  if q ≤ e then (m * 2 ^ (e - q).toNat, 0, 0) else (m / 2 ^ (q - e).toNat, m % 2 ^ (q - e).toNat, (q - e).toNat)

/-- Whether the magnitude is rounded up to the next multiple (R77, R81). -/
def roundsUp (mode rv : Nat) (neg : Bool) (kept num sh : Nat) (st : Bool) : Bool :=
  let inexact := num != 0 || st
  if mode = mRTZ then false
  else if mode = mRUP then !neg && inexact
  else if mode = mRDN then neg && inexact
  else if mode = mSR then decide (rv < num * 65536 / 2 ^ sh)
  else decide (2 ^ sh < 2 * num) || (2 * num == 2 ^ sh && (st || kept % 2 == 1) && sh != 0)

/-- One rounding of the non-zero exact value (-1)^neg · m · 2^e (with `st`) to a format: bits and flags (R77, R79, R81). -/
def Fmt.round (f : Fmt) (mode rv : Nat) (neg : Bool) (m : Nat) (e : Int) (st : Bool) : Nat × Nat :=
  if m = 0 then (f.sign neg, if st then flNX else 0)
  else
    let top : Int := e + Nat.log2 m
    let q0 : Int := top - (f.p - 1 : Nat)
    let q := if q0 ≤ f.qmin then f.qmin else q0
    let (kept, num, sh) := cut m e q
    let up := b2n (roundsUp mode rv neg kept num sh st)
    let inexact := num != 0 || st
    let b := (q - f.qmin).toNat * 2 ^ (f.p - 1) + kept + up
    if f.inf ≤ b then
      let toInf := mode == mRNE || mode == mSR || (mode == mRUP && !neg) || (mode == mRDN && neg)
      (f.sign neg + (if toInf then f.inf else f.inf - 1), flOF + flNX)
    else
      let (k0, n0, s0) := cut m e q0
      let r0 := k0 + b2n (roundsUp mode rv neg k0 n0 s0 st)
      let tiny := decide (q0 < f.qmin) && decide (r0 < 2 ^ (f.qmin + (f.p - 1 : Nat) - q0).toNat)
      (f.sign neg + b, (if inexact then flNX else 0) + (if tiny && inexact then flUF else 0))

/-- The exact finite value as an integer multiple of 2^e0, for e0 at most e. -/
def atExp (neg : Bool) (m : Nat) (e e0 : Int) : Int :=
  let v : Int := (m * 2 ^ (e - e0).toNat : Nat)
  if neg then -v else v

/-- NV if the NaN is signalling (R76). -/
def nvOf (s : Bool) : Nat := if s then flNV else 0

/-- The signed-zero rule of exact zero sums (R77): the common sign, otherwise +0, or -0 under RDN. -/
def zeroSum (f : Fmt) (mode : Nat) (a b : Bool) : Nat := if a = b then f.sign a else f.sign (mode == mRDN)

/-- The rounded sum of two exact finite values. -/
def Fmt.sum (f : Fmt) (mode rv : Nat) (na : Bool) (ma : Nat) (ea : Int) (nb : Bool) (mb : Nat) (eb : Int) : Nat × Nat :=
  if ma = 0 ∧ mb = 0 then (zeroSum f mode na nb, 0)
  else
    let e0 := if ea ≤ eb then ea else eb
    let v := atExp na ma ea e0 + atExp nb mb eb e0
    if v = 0 then (f.sign (mode == mRDN), 0) else f.round mode rv (decide (v < 0)) v.natAbs e0 false

/-- a + b (R126). -/
def Fmt.add (f : Fmt) (mode rv : Nat) (a b : FV) : Nat × Nat :=
  match a, b with
  | .nan s, .nan t => (f.nan, nvOf (s || t))
  | .nan s, _ => (f.nan, nvOf s)
  | _, .nan t => (f.nan, nvOf t)
  | .inf x, .inf y => if x = y then (f.sign x + f.inf, 0) else (f.nan, flNV)
  | .inf x, _ => (f.sign x + f.inf, 0)
  | _, .inf y => (f.sign y + f.inf, 0)
  | .fin x m e, .fin y n g => f.sum mode rv x m e y n g

/-- The value with its sign inverted. -/
def FV.neg : FV → FV
  | .nan s => .nan s
  | .inf n => .inf (!n)
  | .fin n m e => .fin (!n) m e

def Fmt.sub (f : Fmt) (mode rv : Nat) (a b : FV) : Nat × Nat := f.add mode rv a b.neg

/-- The exact product, or NV with a NaN for a zero times an infinity; a NaN factor is the NaN. -/
def FV.mul (a b : FV) : FV × Nat :=
  match a, b with
  | .nan s, .nan t => (.nan false, nvOf (s || t))
  | .nan s, _ => (.nan false, nvOf s)
  | _, .nan t => (.nan false, nvOf t)
  | .inf x, .inf y => (.inf (x != y), 0)
  | .inf x, .fin y m _ => if m = 0 then (.nan false, flNV) else (.inf (x != y), 0)
  | .fin x m _, .inf y => if m = 0 then (.nan false, flNV) else (.inf (x != y), 0)
  | .fin x m e, .fin y n g => (.fin (x != y) (m * n) (e + g), 0)

/-- A value rounded to the format. -/
def Fmt.put (f : Fmt) (mode rv : Nat) (a : FV) : Nat × Nat :=
  match a with
  | .nan s => (f.nan, nvOf s)
  | .inf n => (f.sign n + f.inf, 0)
  | .fin n m e => if m = 0 then (f.sign n, 0) else f.round mode rv n m e false

/-- a · b (R126). -/
def Fmt.mul (f : Fmt) (mode rv : Nat) (a b : FV) : Nat × Nat :=
  let (p, fl) := a.mul b
  let (r, g) := f.put mode rv p
  (r, fl ||| g)

/-- a · b + c with one rounding (R127, R141). -/
def Fmt.fma (f : Fmt) (mode rv : Nat) (a b c : FV) : Nat × Nat :=
  let (p, fl) := a.mul b
  let (r, g) := f.add mode rv p c
  (r, fl ||| g)

/-- a / b (R126). -/
def Fmt.div (f : Fmt) (mode rv : Nat) (a b : FV) : Nat × Nat :=
  match a, b with
  | .nan s, .nan t => (f.nan, nvOf (s || t))
  | .nan s, _ => (f.nan, nvOf s)
  | _, .nan t => (f.nan, nvOf t)
  | .inf _, .inf _ => (f.nan, flNV)
  | .inf x, .fin y _ _ => (f.sign (x != y) + f.inf, 0)
  | .fin x _ _, .inf y => (f.sign (x != y), 0)
  | .fin x m e, .fin y n g =>
    if n = 0 then (if m = 0 then (f.nan, flNV) else (f.sign (x != y) + f.inf, flDZ))
    else if m = 0 then (f.sign (x != y), 0)
    else f.round mode rv (x != y) (m * 2 ^ 96 / n) (e - g - 96) (m * 2 ^ 96 % n != 0)

/-- The integer square root of `n`, found bit by bit from bit `k - 1` down. -/
def isqrt : Nat → Nat → Nat → Nat
  | 0, _, r => r
  | k + 1, n, r => if (r + 2 ^ k) * (r + 2 ^ k) ≤ n then isqrt k n (r + 2 ^ k) else isqrt k n r

/-- The square root (R126). -/
def Fmt.sqrt (f : Fmt) (mode rv : Nat) (a : FV) : Nat × Nat :=
  match a with
  | .nan s => (f.nan, nvOf s)
  | .inf n => if n then (f.nan, flNV) else (f.inf, 0)
  | .fin n m e =>
    if m = 0 then (f.sign n, 0)
    else if n then (f.nan, flNV)
    else
      let odd := (e % 2).toNat
      let k := m * 2 ^ (96 + odd)
      let r := isqrt 64 k 0
      f.round mode rv false r ((e - odd - 96) / 2) (r * r != k)

/-- Comparison of two values that are no NaN: -0 equals +0. -/
def FV.lt (a b : FV) : Bool :=
  match a, b with
  | .inf x, .inf y => x && !y
  | .inf x, .fin _ _ _ => x
  | .fin _ _ _, .inf y => !y
  | .fin x m e, .fin y n g =>
    let e0 := if e ≤ g then e else g
    decide (atExp x m e e0 < atExp y n g e0)
  | _, _ => false

def FV.isNan : FV → Bool
  | .nan _ => true
  | _ => false
def FV.signals : FV → Bool
  | .nan s => s
  | _ => false
def FV.isNeg : FV → Bool
  | .nan _ => false
  | .inf n => n
  | .fin n _ _ => n
def FV.isZero : FV → Bool
  | .fin _ m _ => m == 0
  | _ => false

/-- a below b with -0 below +0 (R126, R145). -/
def FV.below (a b : FV) : Bool := a.lt b || (a.isZero && b.isZero && a.isNeg && !b.isNeg)

/-- FMIN and FMAX on encodings (R126). -/
def Fmt.minmax (f : Fmt) (max : Bool) (a b : Nat) : Nat × Nat :=
  let x := f.val a
  let y := f.val b
  let fl := nvOf (x.signals || y.signals)
  if x.isNan && y.isNan then (f.nan, fl)
  else if x.isNan then (b, fl)
  else if y.isNan then (a, fl)
  else if max then (if x.below y then b else a, fl) else (if y.below x then b else a, fl)

/-- FEQ, FLT, FLE (R126). -/
def fEq (x y : FV) : Bool × Nat :=
  if x.isNan || y.isNan then (false, nvOf (x.signals || y.signals)) else (!(x.lt y) && !(y.lt x), 0)
def fLt (x y : FV) : Bool × Nat := if x.isNan || y.isNan then (false, flNV) else (x.lt y, 0)
def fLe (x y : FV) : Bool × Nat := if x.isNan || y.isNan then (false, flNV) else (!(y.lt x), 0)

/-- FCLASS (R126). -/
def fClass (f : Fmt) (b : Nat) : Nat :=
  match f.val b with
  | .nan s => if s then 2 ^ 8 else 2 ^ 9
  | .inf n => if n then 2 ^ 0 else 2 ^ 7
  | .fin n m _ =>
    if m = 0 then (if n then 2 ^ 3 else 2 ^ 4)
    else if m < 2 ^ (f.p - 1) then (if n then 2 ^ 2 else 2 ^ 5)
    else (if n then 2 ^ 1 else 2 ^ 6)

/-- An integer rounded to a format (R95, R148). -/
def Fmt.ofInt (f : Fmt) (mode rv : Nat) (i : Int) : Nat × Nat :=
  if i = 0 then (0, 0) else f.round mode rv (decide (i < 0)) i.natAbs 0 false

/-- A value rounded to an integer and clamped to lo … hi: a NaN gives 0; a NaN or a clamped value sets NV alone, an
inexact one NX (R95, R148). -/
def toInt (mode rv : Nat) (lo hi : Int) (a : FV) : Int × Nat :=
  match a with
  | .nan _ => (0, flNV)
  | .inf n => (if n then lo else hi, flNV)
  | .fin n m e =>
    let (kept, num, sh) := cut m e 0
    let k : Int := (kept + b2n (roundsUp mode rv n kept num sh false) : Nat)
    let v := if n then -k else k
    if v < lo then (lo, flNV) else if hi < v then (hi, flNV) else (v, if num != 0 then flNX else 0)

/-! The fused sum (R91 to R93) -/

/-- Sign and infinite terms: some term is an infinity of that sign. -/
def hasInf (neg : Bool) (ts : List FV) : Bool := ts.any (fun t => t == .inf neg)

/-- The largest exponent floor(log2 |t|) over the non-zero finite terms. -/
def topExp (ts : List FV) : Option Int :=
  ts.foldl (fun r t =>
    match t with
    | .fin _ m e =>
      if m = 0 then r
      else
        let k : Int := e + Nat.log2 m
        match r with
        | none => some k
        | some j => some (if j < k then k else j)
    | _ => r) none

/-- One term truncated toward zero to a multiple of 2^g: the signed multiple, and whether anything was cut. -/
def truncTerm (g : Int) (t : FV) : Int × Bool :=
  match t with
  | .fin n m e =>
    let (k, num, _) := cut m e g
    (if n then -(k : Int) else (k : Int), num != 0)
  | _ => (0, false)

/-- The special cases of R92 over the exact terms, then Fused17 (R93): bits and flags. A term that is a NaN may carry NV
in `nv`. -/
def fused (mode rv : Nat) (ts : List FV) (nv : Nat) : Nat × Nat :=
  let f := fmt32
  if ts.any (·.isNan) then (f.nan, if hasInf true ts && hasInf false ts then nv ||| flNV else nv)
  else if hasInf true ts && hasInf false ts then (f.nan, nv ||| flNV)
  else if hasInf true ts then (f.sign true + f.inf, nv)
  else if hasInf false ts then (f.inf, nv)
  else
    match topExp ts with
    | none =>
      let allNeg := ts.all (·.isNeg)
      let allPos := ts.all (fun t => !t.isNeg)
      (f.sign (allNeg || (mode == mRDN && !allPos)), nv)
    | some top =>
      let g := top - 48
      let us := ts.map (truncTerm g)
      let sum := (us.map (·.1)).foldl (· + ·) 0
      let sticky := us.any (·.2)
      if sum = 0 then (f.sign (mode == mRDN), if sticky then nv ||| flNX else nv)
      else
        let m := 2 * sum.natAbs + b2n sticky
        let (b, fl) := f.round mode rv (decide (sum < 0)) m (g - 1) false
        (b, nv ||| fl)

/-! Code tables (R85 to R89) -/

/-- An entry as a value: the FP32 value of its word. -/
def entryVal (w : BitVec 32) : FV := fmt32.val w.toNat

/-- Entry `c` of a table whose unlisted entries are +0 (R87, R88). -/
def codeAt (t : List (Nat × BitVec 32)) (c : Nat) : BitVec 32 :=
  match t with
  | [] => 0
  | (j, v) :: r => if j = c then v else codeAt r c

/-- The distance between two finite values as an exact non-negative number: its multiple of 2^e. -/
def fvDist (a b : FV) (e : Int) : Nat :=
  match a, b with
  | .fin x m i, .fin y n j => (atExp x m i e - atExp y n j e).natAbs
  | _, _ => 0

/-- Two finite values have one value; their signs may differ when both are zero. -/
def sameVal (a b : FV) : Bool := !(a.lt b) && !(b.lt a)

/-- Of two codes, the one R89 prefers for `x`: the nearer, else the one of x's sign where the values are equal, else the
even code, else the lower. -/
def nearer (x : FV) (a b : Nat × FV) : Nat × FV :=
  let da := fvDist x a.2 (-400)
  let db := fvDist x b.2 (-400)
  if da < db then a
  else if db < da then b
  else if sameVal a.2 b.2 then (if a.2.isNeg = x.isNeg then a else if b.2.isNeg = x.isNeg then b else a)
  else if a.1 % 2 = b.1 % 2 then (if a.1 < b.1 then a else b)
  else if a.1 % 2 = 0 then a else b

/-- The code that takes a finite `x`, or an infinity the table does not hold, and its value (R89). The greatest and the
least finite entry take what lies beyond them: the nearest entry does so for every finite x. -/
def nearestCode (fin : List (Nat × FV)) (x : FV) : Option (Nat × FV) :=
  match fin with
  | [] => none
  | h :: t =>
    match x with
    | .inf n => some (t.foldl (fun r c => if n then (if c.2.below r.2 then c else r) else (if r.2.below c.2 then c else r)) h)
    | _ => some (t.foldl (fun r c => nearer x r c) h)

/-- The magnitude of a finite value at a common exponent. -/
def magAt (a : FV) : Nat :=
  match a with
  | .fin _ m e => (atExp false m e (-400)).natAbs
  | _ => 0

/-- Encode of R89: the code and the flags; none where x is a NaN and the table has no NaN entry. In the zero table every
finite or infinite input encodes to code 0 (R87). Where a half holds its infinity at several codes, `its code` is the lowest:
DESIGN CHOICE, log entry 98. -/
def encodeT (n : Nat) (t : List (Nat × BitVec 32)) (x : FV) : Option (Nat × Nat) :=
  let es := (upFrom 0 n).map (fun c => (c, entryVal (codeAt t c)))
  match x with
  | .nan s => ((es.find? (fun (c : Nat × FV) => c.2.isNan)).map (fun c => (c.1, nvOf s)))
  | _ =>
    let fin := es.filter (fun (c : Nat × FV) => match c.2 with | .fin _ _ _ => true | _ => false)
    let zero := es.all (fun (c : Nat × FV) => codeAt t c.1 == 0)
    let infHit := match x with
      | .inf _ => es.find? (fun (c : Nat × FV) => c.2 == x)
      | _ => none
    match infHit with
    | some c => some (c.1, 0)
    | none =>
      match (if zero then some (0, FV.fin false 0 0) else nearestCode fin x) with
      | none => some (0, flNX)
      | some c =>
        let side := fin.filter (fun (k : Nat × FV) => k.2.isNeg == x.isNeg)
        let big := (side.map (fun (k : Nat × FV) => magAt k.2)).foldl (fun a b => if a < b then b else a) 0
        let beyond := match x with
          | .fin _ m _ => m != 0 && decide (big < magAt x)
          | _ => false
        some (c.1, (if sameVal c.2 x then 0 else flNX) + (if beyond then flOF else 0))

/-- Condition 1 of R86 on an entry. -/
def entryForm (w : BitVec 32) : Bool :=
  fld w.toNat 0 13 == 0 &&
  (fld w.toNat 23 8 != 255 || fld w.toNat 0 23 == 0 || bitAt w.toNat 22)

/-- Conditions 2 and 3 of R86 on code `c`, given the earlier codes of its half: where a NaN or an infinity
stands before a finite entry, the finite entry is the one that breaks condition 2 (R96; DESIGN CHOICE, log entry 98). -/
def entryPlace (n : Nat) (es : List (BitVec 32)) (c : Nat) : Bool :=
  let half := c / (n / 2)
  let lo := half * (n / 2)
  let v := entryVal (nth 0 es c)
  match v with
  | .nan _ => true
  | .inf g => g == (half == 1)
  | .fin g _ _ =>
    g == (half == 1) &&
    (c == lo ||
      (match entryVal (nth 0 es (c - 1)) with
       | .fin _ _ _ => decide (magAt (entryVal (nth 0 es (c - 1))) < magAt v)
       | _ => false))

/-- InvalidCode of R96: none when the table is valid. -/
def invalidCode (n : Nat) (es : List (BitVec 32)) : Option Nat :=
  match (upFrom 0 n).find? (fun c => !(entryForm (nth 0 es c) && entryPlace n es c)) with
  | some c => some c
  | none => if es.any (fun e => match entryVal e with | .fin _ _ _ => true | _ => false) then none else some n

end Sys2Proof
end

