-- ==== Sys2Proof/Machine/FloatOps.lean ====
section
/-! DEFINITION. The scalar floating-point instructions and conversions (R81 to R84, R95, R126, R127), with the Rooibos generator. -/

namespace Sys2Proof.Machine

/-- Rooibos Step (R83): the value and the registers with the new state. -/
def Regs.step (r : Regs) : Word × Regs :=
  let y := r.rhi
  let x := r.rlo ^^^ (r.rlo <<< 23)
  let h := x ^^^ y ^^^ (x >>> 17) ^^^ (y >>> 26)
  (h + y, { r with rlo := y, rhi := h })

/-- `n` draws of 16 bits, in order (R83, R84). -/
def Regs.drawList (r : Regs) : Nat → List Nat × Regs
  | 0 => ([], r)
  | n + 1 =>
    let (v, r1) := r.step
    let (t, r2) := r1.drawList n
    (fld v.toNat 48 16 :: t, r2)

/-- The draws that an instruction with `n` destination elements takes in a mode: `n` in SR, none otherwise (R81, R84). -/
def State.draws (s : State) (mode n : Nat) : List Nat × State :=
  if mode = mSR then
    let (l, r) := s.regs.drawList n
    (l, s.setRegs r)
  else ([], s)

/-- An F source as a value. -/
def State.fv (s : State) (n : BitVec 5) : FV := fmt32.val (s.regs.fAt n.toNat).toNat

/-- A rounded scalar operation: it takes one draw in SR and writes F rd and the flags (R77, R79, R81, R126). -/
def fRound (i : Sig) (d : BitVec 5) (op : Nat → Nat → State → Nat × Nat) (s : State) : Out :=
  issue i s fun s =>
    let m := s.regs.frm
    let (rv, s1) := s.draws m 1
    let (b, fl) := op m (rv.headD 0) s
    .done ((s1.putF d.toNat (BitVec.ofNat 32 b)).orFlags fl)

/-- An exact operation on F sources with an F result (R126). -/
def fExact (i : Sig) (d : BitVec 5) (op : State → Nat × Nat) (s : State) : Out :=
  issue i s fun s =>
    let (b, fl) := op s
    .done ((s.putF d.toNat (BitVec.ofNat 32 b)).orFlags fl)

/-- A comparison or class with an X result (R126). -/
def fToX (i : Sig) (d : BitVec 5) (op : State → Nat × Nat) (s : State) : Out :=
  issue i s fun s =>
    let (b, fl) := op s
    .done ((s.putX d.toNat (natW b)).orFlags fl)

/-- A conversion that rounds to an X result: one draw in SR (R95). -/
def fToXRound (i : Sig) (d : BitVec 5) (op : Nat → Nat → State → Word × Nat) (s : State) : Out :=
  issue i s fun s =>
    let m := s.regs.frm
    let (rv, s1) := s.draws m 1
    let (v, fl) := op m (rv.headD 0) s
    .done ((s1.putX d.toNat v).orFlags fl)

/-- FP32 rounded to an integer of the range lo to hi (R95). -/
def toIntW (mode rv : Nat) (lo hi : Int) (a : FV) : Word × Nat :=
  let (v, fl) := toInt mode rv lo hi a
  (wordOf v, fl)

/-- Encode of a scalar through a code table; a NaN with no NaN entry traps ILLEGAL with bit 63 set (R89, R95). -/
def fEncode (i : Sig) (d a : BitVec 5) (n : Nat) (tab : Regs → Tab (BitVec 32)) (s : State) : Out :=
  issue i s fun s =>
    match encodeT n (tab s.regs) (s.fv a) with
    | none => .trap { cause := cILLEGAL, tval := natW (2 ^ 63) }
    | some (c, fl) => .done ((s.putX d.toNat (natW c)).orFlags fl)

/-- FADD (R126). -/
def execFadd (sm : Bool) (d a b : BitVec 5) (t u : Bool) (s : State) : Out :=
  fRound (aSigOf (.fadd sm d a b t u)) d (fun m rv s => fmt32.add m rv (s.fv a) (s.fv b)) s

/-- FSUB (R126). -/
def execFsub (sm : Bool) (d a b : BitVec 5) (t u : Bool) (s : State) : Out :=
  fRound (aSigOf (.fsub sm d a b t u)) d (fun m rv s => fmt32.sub m rv (s.fv a) (s.fv b)) s

/-- FMUL (R126). -/
def execFmul (sm : Bool) (d a b : BitVec 5) (t u : Bool) (s : State) : Out :=
  fRound (aSigOf (.fmul sm d a b t u)) d (fun m rv s => fmt32.mul m rv (s.fv a) (s.fv b)) s

/-- FDIV (R126). -/
def execFdiv (sm : Bool) (d a b : BitVec 5) (t u : Bool) (s : State) : Out :=
  fRound (aSigOf (.fdiv sm d a b t u)) d (fun m rv s => fmt32.div m rv (s.fv a) (s.fv b)) s

/-- FSQRT (R126). -/
def execFsqrt (sm : Bool) (d a : BitVec 5) (t : Bool) (s : State) : Out :=
  fRound (aSigOf (.fsqrt sm d a t)) d (fun m rv s => fmt32.sqrt m rv (s.fv a)) s

/-- FMIN (R126). -/
def execFmin (sm : Bool) (d a b : BitVec 5) (t u : Bool) (s : State) : Out :=
  fExact (aSigOf (.fmin sm d a b t u)) d (fun s => fmt32.minmax false (s.regs.fAt a.toNat).toNat (s.regs.fAt b.toNat).toNat) s

/-- FMAX (R126). -/
def execFmax (sm : Bool) (d a b : BitVec 5) (t u : Bool) (s : State) : Out :=
  fExact (aSigOf (.fmax sm d a b t u)) d (fun s => fmt32.minmax true (s.regs.fAt a.toNat).toNat (s.regs.fAt b.toNat).toNat) s

/-- FABS (R126). -/
def execFabs (sm : Bool) (d a : BitVec 5) (t : Bool) (s : State) : Out :=
  fExact (aSigOf (.fabs sm d a t)) d (fun s => ((s.regs.fAt a.toNat).toNat % 2 ^ 31, 0)) s

/-- FNEG (R126). -/
def execFneg (sm : Bool) (d a : BitVec 5) (t : Bool) (s : State) : Out :=
  fExact (aSigOf (.fneg sm d a t)) d (fun s => ((s.regs.fAt a.toNat).toNat ^^^ 2 ^ 31, 0)) s

/-- FSGNJ (R126). -/
def execFsgnj (sm : Bool) (d a b : BitVec 5) (t u : Bool) (s : State) : Out :=
  fExact (aSigOf (.fsgnj sm d a b t u)) d (fun s => ((s.regs.fAt a.toNat).toNat % 2 ^ 31 + (s.regs.fAt b.toNat).toNat / 2 ^ 31 * 2 ^ 31, 0)) s

/-- FEQ (R126). -/
def execFeq (sm : Bool) (d a b : BitVec 5) (t u : Bool) (s : State) : Out :=
  fToX (aSigOf (.feq sm d a b t u)) d (fun s => (b2n (fEq (s.fv a) (s.fv b)).1, (fEq (s.fv a) (s.fv b)).2)) s

/-- FLT (R126). -/
def execFlt (sm : Bool) (d a b : BitVec 5) (t u : Bool) (s : State) : Out :=
  fToX (aSigOf (.flt sm d a b t u)) d (fun s => (b2n (fLt (s.fv a) (s.fv b)).1, (fLt (s.fv a) (s.fv b)).2)) s

/-- FLE (R126). -/
def execFle (sm : Bool) (d a b : BitVec 5) (t u : Bool) (s : State) : Out :=
  fToX (aSigOf (.fle sm d a b t u)) d (fun s => (b2n (fLe (s.fv a) (s.fv b)).1, (fLe (s.fv a) (s.fv b)).2)) s

/-- FCLASS (R126). -/
def execFclass (sm : Bool) (d a : BitVec 5) (t : Bool) (s : State) : Out :=
  fToX (aSigOf (.fclass sm d a t)) d (fun s => (fClass fmt32 (s.regs.fAt a.toNat).toNat, match s.fv a with
    | .nan b => nvOf b
    | _ => 0)) s

/-- FMV_XF (R126). -/
def execFmvXf (sm : Bool) (d a : BitVec 5) (t : Bool) (s : State) : Out :=
  fToX (aSigOf (.fmvXf sm d a t)) d (fun s => ((s.regs.fAt a.toNat).toNat, 0)) s

/-- FMV_FX (R126). -/
def execFmvFx (sm : Bool) (d a : BitVec 5) (t : Bool) (s : State) : Out :=
  fExact (aSigOf (.fmvFx sm d a t)) d (fun s => ((s.rx 1 a.toNat).toNat % 2 ^ 32, 0)) s

/-- FMADD (R127). -/
def execFmadd (sm : Bool) (d a b c : BitVec 5) (t u v : Bool) (s : State) : Out :=
  fRound (aSigOf (.fmadd sm d a b c t u v)) d (fun m rv s => fmt32.fma m rv (s.fv a) (s.fv b) (s.fv c)) s

/-- FMSUB (R127). -/
def execFmsub (sm : Bool) (d a b c : BitVec 5) (t u v : Bool) (s : State) : Out :=
  fRound (aSigOf (.fmsub sm d a b c t u v)) d (fun m rv s => fmt32.fma m rv (s.fv a) (s.fv b) (s.fv c).neg) s

/-- FCVT_F_I (R95). -/
def execFcvtFI (sm : Bool) (d a : BitVec 5) (t : Bool) (s : State) : Out :=
  fRound (aSigOf (.fcvtFI sm d a t)) d (fun m rv s => fmt32.ofInt m rv (sextInt 64 (s.rx 1 a.toNat).toNat)) s

/-- FCVT_F_U (R95). -/
def execFcvtFU (sm : Bool) (d a : BitVec 5) (t : Bool) (s : State) : Out :=
  fRound (aSigOf (.fcvtFU sm d a t)) d (fun m rv s => fmt32.ofInt m rv ((s.rx 1 a.toNat).toNat : Nat)) s

/-- FCVT_I_F (R95). -/
def execFcvtIF (sm : Bool) (d a : BitVec 5) (t : Bool) (s : State) : Out :=
  fToXRound (aSigOf (.fcvtIF sm d a t)) d (fun m rv s => toIntW m rv (smin 64) (smax 64) (s.fv a)) s

/-- FCVT_U_F (R95). -/
def execFcvtUF (sm : Bool) (d a : BitVec 5) (t : Bool) (s : State) : Out :=
  fToXRound (aSigOf (.fcvtUF sm d a t)) d (fun m rv s => toIntW m rv 0 ((2 ^ 64 : Nat) - 1) (s.fv a)) s

/-- FCVT_H_F (R95). -/
def execFcvtHF (sm : Bool) (d a : BitVec 5) (t : Bool) (s : State) : Out :=
  fToXRound (aSigOf (.fcvtHF sm d a t)) d (fun m rv s => (natW (fmt16.put m rv (s.fv a)).1, (fmt16.put m rv (s.fv a)).2)) s

/-- FCVT_B_F (R95). -/
def execFcvtBF (sm : Bool) (d a : BitVec 5) (t : Bool) (s : State) : Out :=
  fToXRound (aSigOf (.fcvtBF sm d a t)) d (fun m rv s => (natW (fmtB16.put m rv (s.fv a)).1, (fmtB16.put m rv (s.fv a)).2)) s

/-- FCVT_F_H (R95). -/
def execFcvtFH (sm : Bool) (d a : BitVec 5) (t : Bool) (s : State) : Out :=
  fExact (aSigOf (.fcvtFH sm d a t)) d (fun s => fmt32.put mRNE 0 (fmt16.val ((s.rx 1 a.toNat).toNat % 2 ^ 16))) s

/-- FCVT_F_B (R95). -/
def execFcvtFB (sm : Bool) (d a : BitVec 5) (t : Bool) (s : State) : Out :=
  fExact (aSigOf (.fcvtFB sm d a t)) d (fun s => fmt32.put mRNE 0 (fmtB16.val ((s.rx 1 a.toNat).toNat % 2 ^ 16))) s

/-- FCVT_T8_F (R95). -/
def execFcvtT8F (sm : Bool) (d a : BitVec 5) (t : Bool) (s : State) : Out :=
  fEncode (aSigOf (.fcvtT8F sm d a t)) d a 256 (·.ct8) s

/-- FCVT_T4_F (R95). -/
def execFcvtT4F (sm : Bool) (d a : BitVec 5) (t : Bool) (s : State) : Out :=
  fEncode (aSigOf (.fcvtT4F sm d a t)) d a 16 (·.ct4) s

/-- FCVT_F_T8 (R95). -/
def execFcvtFT8 (sm : Bool) (d a : BitVec 5) (t : Bool) (s : State) : Out :=
  fExact (aSigOf (.fcvtFT8 sm d a t)) d (fun s => ((tabGet 0 s.regs.ct8 ((s.rx 1 a.toNat).toNat % 256)).toNat, 0)) s

/-- FCVT_F_T4 (R95). -/
def execFcvtFT4 (sm : Bool) (d a : BitVec 5) (t : Bool) (s : State) : Out :=
  fExact (aSigOf (.fcvtFT4 sm d a t)) d (fun s => ((tabGet 0 s.regs.ct4 ((s.rx 1 a.toNat).toNat % 16)).toNat, 0)) s

end Sys2Proof.Machine
end

