-- ==== Sys2Proof/Machine/Sha.lean ====
section
/-! DEFINITION. SHAKE256, by which the spec names digests, seeds and keys (R83, R194, R205, R226, R428, R471, R472). The 25 lanes of
the sponge are a list, lane (x, y) at place x + 5y; the turns and the round constants are generated as they are used. -/

namespace Sys2Proof

/-- Each lane with the parities of the two columns beside its own. -/
def spongeMix (s : List Word) : List Word :=
  let parity := (upFrom 0 5).map (fun x => (upFrom 0 5).foldl (fun a y => a ^^^ nth 0 s (x + 5 * y)) 0)
  (upFrom 0 25).map (fun p => nth 0 s p ^^^ nth 0 parity ((p + 4) % 5) ^^^ (nth 0 parity ((p + 1) % 5)).rotateLeft 1)

/-- The place to which the lane at a place moves: (x, y) to (y, 2x + 3y). -/
def spongeStep (p : Nat) : Nat := p / 5 + 5 * ((2 * (p % 5) + 3 * (p / 5)) % 5)

/-- Every lane but that of place 0 moved one step along the path that starts at place 1, the lane of step i turned by the
triangular number of i + 1. -/
def spongeMove (s : List Word) : List Word :=
  ((upFrom 0 24).foldl (fun (q : Nat × List Word) i =>
    let p := spongeStep q.1
    (p, setNth ((nth 0 s q.1).rotateLeft ((i + 1) * (i + 2) / 2)) q.2 p)) (1, s)).2

/-- Each lane with what the two lanes after it in its row leave of the second. -/
def spongeBlend (s : List Word) : List Word :=
  (upFrom 0 25).map (fun p =>
    let row := p - p % 5
    nth 0 s p ^^^ (nth 0 s (row + (p + 2) % 5) &&& ~~~(nth 0 s (row + (p + 1) % 5))))

/-- The next value of the 8-bit register that generates the round constants. -/
def spongeTap (r : Nat) : Nat := if r < 128 then 2 * r else (2 * r) ^^^ 0x171

/-- One round, and the register after it: bit 2 ^ l - 1 of the round's constant is the low bit of the l-th value. -/
def spongeRound (q : List Word × Nat) : List Word × Nat :=
  let k := (upFrom 0 7).foldl (fun (z : Nat × Nat) l => (z.1 + z.2 % 2 * 2 ^ (2 ^ l - 1), spongeTap z.2)) (0, q.2)
  match spongeBlend (spongeMove (spongeMix q.1)) with
  | [] => ([], k.2)
  | w :: t => ((w ^^^ natW k.1) :: t, k.2)

/-- The permutation of the sponge: 24 rounds. -/
def sponge (s : List Word) : List Word := ((upFrom 0 24).foldl (fun q _ => spongeRound q) (s, 1)).1

/-- The bytes of a message padded for SHAKE to whole blocks of 136 bytes. -/
def shakePad (m : List Byte) : List Byte :=
  let k := 136 - m.length % 136
  if k = 1 then m ++ [0x9F] else m ++ [0x1F] ++ List.replicate (k - 2) 0 ++ [0x80]

/-- `n` blocks of padded bytes absorbed. -/
def absorb : Nat → List Byte → List Word → List Word
  | 0, _, s => s
  | n + 1, bs, s =>
    absorb n (bs.drop 136)
      (sponge ((upFrom 0 25).map (fun i => nth 0 s i ^^^ (if i < 17 then natW (ofBytes ((bs.drop (8 * i)).take 8)) else 0))))

/-- The first `n` bytes, at most 136, of SHAKE256 over a message. -/
def shake256 (m : List Byte) (n : Nat) : List Byte :=
  let p := shakePad m
  let s := absorb (p.length / 136) p (List.replicate 25 0)
  ((s.map (fun w => bytesOf 8 w.toNat)).flatten).take n

end Sys2Proof
end

