-- ==== Sys2Proof/Machine/Transcend.lean ====
section
/-! DEFINITION. The functions of VSFU (R143) and the Gumbel noise of R376: each value is computed as an integer multiple of
2^-n, n far beyond the widths that any rounding looks at, with a sticky mark for what lies below (log entry 8). -/

namespace Sys2Proof

/-- Sum of the series z + z^3/3 + z^5/5 + … (`alt`: alternating) in multiples of 2^-n; `pw` is the current power. -/
def atanSeries (n : Nat) (zz : Nat) (alt : Bool) : Nat → Nat → Nat → Bool → Int → Int
  | 0, _, _, _, acc => acc
  | f + 1, k, pw, neg, acc =>
    let t : Int := (pw / k : Nat)
    atanSeries n zz alt f (k + 2) (pw * zz / 2 ^ n) (alt && !neg) (if neg then acc - t else acc + t)

/-- ln(1 + t) for mant = (1 + t) · 2^n, 1 ≤ mant / 2^n < 2: twice artanh((mant - 1) / (mant + 1)). -/
def lnMant (n mant : Nat) : Nat :=
  let z := (mant - 2 ^ n) * 2 ^ n / (mant + 2 ^ n)
  (2 * atanSeries n (z * z / 2 ^ n) false (n / 3 + 8) 1 z false 0).toNat

/-- ln 2 in multiples of 2^-n. -/
def ln2Fix (n : Nat) : Nat :=
  let z := 2 ^ n / 3
  (2 * atanSeries n (z * z / 2 ^ n) false (n / 3 + 8) 1 z false 0).toNat

/-- pi in multiples of 2^-n (Machin). -/
def piFix (n : Nat) : Nat :=
  let a := 2 ^ n / 5
  let b := 2 ^ n / 239
  (16 * atanSeries n (a * a / 2 ^ n) true (n / 4 + 8) 1 a false 0
    - 4 * atanSeries n (b * b / 2 ^ n) true (n / 15 + 8) 1 b false 0).toNat

/-- e^t for 0 ≤ t < 1, t in multiples of 2^-n. -/
def expSeries (n t : Nat) : Nat → Nat → Nat → Nat → Nat
  | 0, _, _, acc => acc
  | f + 1, k, term, acc => expSeries n t f (k + 1) (term * t / 2 ^ n / k) (acc + term)

def expFix (n t : Nat) : Nat := expSeries n t (n / 3 + 20) 1 (2 ^ n) 0

/-- e^(-y) for y ≥ 0, y in multiples of 2^-n. -/
def expNeg (n y : Nat) : Nat :=
  let l := ln2Fix n
  let k := y / l + 1
  expFix n (k * l - y) / 2 ^ k

/-- The natural logarithm of x / 2^n for x > 0, in multiples of 2^-n. -/
def lnFix (n x : Nat) : Int :=
  let e : Int := (Nat.log2 x : Int) - n
  let mant := if 0 ≤ e then x / 2 ^ e.toNat else x * 2 ^ (-e).toNat
  e * (ln2Fix n : Int) + (lnMant n mant : Int)

/-- A finite magnitude in multiples of 2^-n. -/
def fixOf (n m : Nat) (e : Int) : Nat := if 0 ≤ e + n then m * 2 ^ (e + n).toNat else m / 2 ^ (-(e + n)).toNat

/-- An exact value in (v, v + 1) · 2^-n, rounded. -/
def Fmt.roundFix (f : Fmt) (mode rv n : Nat) (v : Int) : Nat × Nat :=
  if v < 0 then f.round mode rv true (v.natAbs * 4 - 1) (-(n : Int) - 2) true
  else f.round mode rv false (v.natAbs * 4 + 1) (-(n : Int) - 2) true

/-- 2^x (R143). -/
def Fmt.exp2 (f : Fmt) (mode rv : Nat) (a : FV) : Nat × Nat :=
  match a with
  | .nan s => (f.nan, nvOf s)
  | .inf n => (if n then 0 else f.inf, 0)
  | .fin neg m e =>
    if m = 0 then f.round mode rv false 1 0 false
    else if 9 < e + Nat.log2 m then (if neg then f.round mode rv false 1 (-1000) true else f.round mode rv false 1 1000 true)
    else
      let n := 320
      let v : Int := if neg then -(fixOf n m e : Int) else (fixOf n m e : Int)
      let i := v / ((2 ^ n : Nat) : Int)
      let t := (v % ((2 ^ n : Nat) : Int)).toNat
      if t = 0 then f.round mode rv false 1 i false
      else f.round mode rv false (expFix n (t * ln2Fix n / 2 ^ n)) (i - n) true

/-- log2 x (R143). -/
def Fmt.log2 (f : Fmt) (mode rv : Nat) (a : FV) : Nat × Nat :=
  match a with
  | .nan s => (f.nan, nvOf s)
  | .inf n => if n then (f.nan, flNV) else (f.inf, 0)
  | .fin neg m e =>
    if m = 0 then (f.sign true + f.inf, flDZ)
    else if neg then (f.nan, flNV)
    else
      let n := 320
      let k := Nat.log2 m
      let top : Int := e + k
      if m = 2 ^ k then f.ofInt mode rv top
      else f.roundFix mode rv n (top * ((2 ^ n : Nat) : Int) + (lnMant n (m * 2 ^ (n - k)) * 2 ^ n / ln2Fix n : Nat))

/-- 1 / x (R143). -/
def Fmt.rcp (f : Fmt) (mode rv : Nat) (a : FV) : Nat × Nat := f.div mode rv (.fin false 1 0) a

/-- 1 / √x (R143). -/
def Fmt.rsqrt (f : Fmt) (mode rv : Nat) (a : FV) : Nat × Nat :=
  match a with
  | .nan s => (f.nan, nvOf s)
  | .inf n => if n then (f.nan, flNV) else (0, 0)
  | .fin neg m e =>
    if m = 0 then (f.sign neg + f.inf, flDZ)
    else if neg then (f.nan, flNV)
    else
      let odd := (e % 2).toNat
      let k := m * 2 ^ odd
      let r := isqrt 104 (2 ^ 200 / k) 0
      f.round mode rv false r (-((e - odd) / 2) - 100) (r * r * k != 2 ^ 200)

/-- tanh x (R143). For |x| < 2^-60 the value lies between |x| - |x|^3 and |x|. -/
def Fmt.tanh (f : Fmt) (mode rv : Nat) (a : FV) : Nat × Nat :=
  match a with
  | .nan s => (f.nan, nvOf s)
  | .inf n => f.round mode rv n 1 0 false
  | .fin neg m e =>
    if m = 0 then (f.sign neg, 0)
    else if e + Nat.log2 m < -60 then f.round mode rv neg (m * 2 ^ 100 - 1) (e - 100) true
    else
      let n := 320
      let u := if 8 < e + Nat.log2 m then 1 else expNeg n (2 * fixOf n m e)
      let u1 := if u = 0 then 1 else u
      f.round mode rv neg ((2 ^ n - u1) * 2 ^ n / (2 ^ n + u1)) (-(n : Int)) true

/-- 1 / (1 + e^-x) (R143). -/
def Fmt.sigm (f : Fmt) (mode rv : Nat) (a : FV) : Nat × Nat :=
  match a with
  | .nan s => (f.nan, nvOf s)
  | .inf n => if n then (0, 0) else f.round mode rv false 1 0 false
  | .fin neg m e =>
    if m = 0 then f.round mode rv false 1 (-1) false
    else
      let n := 320
      let u := if 7 < e + Nat.log2 m then 0 else expNeg n (fixOf n m e)
      let u1 := if u = 0 then 1 else u
      if neg then
        let q := u * 2 ^ n / (2 ^ n + u)
        (if q = 0 then f.round mode rv false 1 (-1000) true else f.round mode rv false q (-(n : Int)) true)
      else f.round mode rv false (2 ^ n * 2 ^ n / (2 ^ n + u1)) (-(n : Int)) true

/-- The sum x + x^3/3 + x^5/(3·5) + …, in multiples of 2^-n. -/
def phiSeries (n xx : Nat) : Nat → Nat → Nat → Nat → Nat
  | 0, _, _, acc => acc
  | f + 1, k, term, acc => phiSeries n xx f (k + 2) (term * xx / 2 ^ n / k) (acc + term)

/-- Φ(x) - 1/2 for x ≥ 0, in multiples of 2^-n: the density at x times the series. -/
def phiFix (n x : Nat) : Nat :=
  let xx := x * x / 2 ^ n
  let den := isqrt (n + 4) (2 * piFix n * 2 ^ n) 0
  expNeg n (xx / 2) * phiSeries n xx 900 3 x 0 / den

/-- x · Φ(x) (R143). -/
def Fmt.gelu (f : Fmt) (mode rv : Nat) (a : FV) : Nat × Nat :=
  match a with
  | .nan s => (f.nan, nvOf s)
  | .inf n => if n then (f.sign true, 0) else (f.inf, 0)
  | .fin neg m e =>
    if m = 0 then (f.sign neg, 0)
    else if 3 < e + Nat.log2 m then
      (if neg then f.round mode rv true 1 (-1000) true else f.round mode rv false (m * 2 ^ 200 - 1) (e - 200) true)
    else
      let n := 800
      let p := phiFix n (fixOf n m e)
      let h := if neg then 2 ^ (n - 1) - p else 2 ^ (n - 1) + p
      f.round mode rv neg (m * h) (e - n) true

/-- v + g with g = -ln(-ln u) and u = (k + 1/2) / 2^24, rounded once in RNE (R376): bits and flags; NaN, infinity and a sum
above the largest finite value as R376 states, NV alone as a flag. -/
def gumbelAdd (k : Nat) (a : FV) : Nat × Nat :=
  let f := fmt32
  match a with
  | .nan s => (f.nan, nvOf s)
  | .inf n => (f.sign n + f.inf, 0)
  | .fin neg m e =>
    let n := 320
    let u := (2 * k + 1) * 2 ^ (n - 25)
    let g := -(lnFix n (-(lnFix n u)).toNat)
    let v : Int := if neg then -(fixOf n m e : Int) else (fixOf n m e : Int)
    (if ((2 ^ (n + 128) - 2 ^ (n + 104) : Nat) : Int) ≤ v + g then f.inf else (f.roundFix mRNE 0 n (v + g)).1, 0)

end Sys2Proof
end

