-- ==== Sys2Proof/Machine/Rand.lean ====
section
/-! DEFINITION. The RAND forms: Rooibos, Oolong, context hashes (R83, R97, R372 to R378). -/

namespace Sys2Proof.Machine

/-- Seed (R83): the Rooibos state (rhi, rlo). -/
def seedOf (js w : Word) : Word × Word :=
  let h := shake256 (bytesOf 8 js.toNat ++ bytesOf 8 w.toNat) 16
  let lo := natW (ofBytes (h.take 8))
  let hi := natW (ofBytes (h.drop 8))
  (hi, if lo = 0 ∧ hi = 0 then 1 else lo)

/-- One round of Oolong (R373). -/
def oolongRound (p : Word × Word) (r : Nat) : Word × Word :=
  let x := p.1 + p.2 + natW r
  let x1 := (x ^^^ (x >>> 29)) * 0xB5A37E19D4C26F0B
  (x1, (p.2 ^^^ x1).rotateLeft 23 * 0x8E7D2F53A9C14E37)

/-- Oolong (R373). -/
def oolong (k0 k1 h0 h1 d t : Word) : Word :=
  let p := [0, 1, 2, 3].foldl oolongRound (k0 ^^^ h0 ^^^ ((d <<< 32) ||| t), k1 ^^^ h1)
  p.1 ^^^ (p.2 >>> 32)

/-- The loop of CHash over the remaining tokens, oldest first, each with its place (R374). -/
def cHashFrom (k0 k1 : Word) : List (Nat × Nat) → Word → Word → Word × Word
  | [], h0, h1 => (h0, h1)
  | (j, t) :: r, h0, h1 => cHashFrom k0 k1 r (oolong k0 k1 h0 h1 (natW j) (natW t)) h0

/-- CHash of a window of tokens, the most recent first (R374). -/
def cHash (k0 k1 : Word) (toks : List Nat) : Word × Word :=
  cHashFrom k0 k1 ((upFrom 0 toks.length).zip toks).reverse (natW toks.length) 0

/-- The key of the context's launch (R372). -/
def State.okey (s : State) : BitVec 128 :=
  match s.launchOf s.cur with
  | some l => l.okey
  | none => (s.vf s.me.vf).okey
def State.k0 (s : State) : Word := natW (fld s.okey.toNat 0 64)
def State.k1 (s : State) : Word := natW (fld s.okey.toNat 64 64)

/-- The row trap of CHASH.LD and CHASH.ST (R377). -/
def State.rowTrap (s : State) (r : Word) : Option Why :=
  if (s.regs.csrAt csrSBN).toNat ≤ r.toNat then some { cause := cSTREAM, tval := r } else none

/-- NOISE (R376). -/
def execNoise (_sm : Bool) (d a b : BitVec 5) (m : BitVec 3) (s : State) : Out :=
  issue (aSig [⟨1, 2, a.toNat, false⟩, ⟨2, 0, b.toNat, false⟩, ⟨3, 2, d.toNat, false⟩] [⟨2, d.toNat⟩] false true) s fun s =>
    let h := (s.regs.vAt a.toNat).toNat
    let xi := (s.rx 2 b.toNat).toNat
    let old := lanesOf 32 16 (s.regs.vAt d.toNat).toNat
    let rs := ((upFrom 0 16).zip old).map (fun p =>
      if (s.regs.mAt m.toNat).getLsbD p.1 then
        gumbelAdd (fld (oolong s.k0 s.k1 (natW (fld h 0 64)) (natW (fld h 64 64)) (natW (fld xi 32 32))
          (natW ((fld xi 0 32 + p.1) % 2 ^ 32))).toNat 40 24) (fmt32.val p.2)
      else (0xFF800000, 0))
    .done ((s.putV d.toNat (BitVec.ofNat 512 (ofLanes 32 (rs.map (·.1))))).orFlags ((rs.map (·.2)).foldl (· ||| ·) 0))

/-- CHASH (R377). -/
def execChash (_sm : Bool) (d a b : BitVec 5) (s : State) : Out :=
  issue (aSig [⟨2, 0, b.toNat, false⟩] [⟨2, d.toNat⟩] false true) s fun s =>
    let w := s.rx 2 b.toNat
    if w.toNat < 1 ∨ 64 < w.toNat then .trap { cause := cILLEGAL, tval := w }
    else
      let vs := upFrom a.toNat ((w.toNat + 15) / 16)
      if vs.any (fun v => s.regs.emptyAt 2 v) then .wait
      else
        match vs.find? (fun v => s.regs.poisonAt 2 v) with
        | some v => .trap { cause := cMCE, tval := natW (v + 64 + 128), unit := 1 }
        | none =>
          let toks := ((vs.map (fun v => lanesOf 32 16 (s.regs.vAt v).toNat)).flatten).take w.toNat
          let (h0, h1) := cHash s.k0 s.k1 toks
          .done (s.putV d.toNat (BitVec.ofNat 512 (h0.toNat + 2 ^ 64 * h1.toNat)))

/-- CHASH_LD (R377). -/
def execChashLd (_sm : Bool) (d b : BitVec 5) (s : State) : Out :=
  issue (aSig [⟨2, 0, b.toNat, false⟩] [⟨2, d.toNat⟩] false true) s fun s =>
    let r := s.rx 2 b.toNat
    match s.rowTrap r with
    | some y => .trap y
    | none => .done (s.putV d.toNat ((s.rowStream s.cur r.toNat).2.2.hash.setWidth 512))

/-- CHASH_ST (R377). -/
def execChashSt (_sm : Bool) (a b : BitVec 5) (s : State) : Out :=
  issue (aSig [⟨1, 2, a.toNat, false⟩, ⟨2, 0, b.toNat, false⟩] [] true false) s fun s =>
    let r := s.rx 2 b.toNat
    match s.rowTrap r with
    | some y => .trap y
    | none =>
      let (g, c, t) := s.rowStream s.cur r.toNat
      .done (s.setStream g c { t with hash := (s.regs.vAt a.toNat).setWidth 128 })

/-- HRAND (R378). -/
def execHrand (_sm : Bool) (d : BitVec 3) (a : BitVec 5) (s : State) : Out :=
  issue (aSig [⟨1, 0, a.toNat, false⟩] [⟨3, d.toNat⟩] false true) s fun s =>
    let js := s.regs.csrAt csrJOBSEED
    let x := s.rx 1 a.toNat
    .done (s.putH d.toNat (BitVec.ofNat 4096 (ofLanes 64 ((upFrom 0 64).map (fun k => (oolong js x 0 0 (natW k) 0).toNat)))))

/-- RSEED (R97). -/
def execRseed (_sm : Bool) (a : BitVec 5) (s : State) : Out :=
  issue (aSig [⟨1, 0, a.toNat, false⟩] [] false false) s fun s =>
    let (hi, lo) := seedOf (s.regs.csrAt csrJOBSEED) (s.rx 1 a.toNat)
    .done (s.setRegs { s.regs with rhi := hi, rlo := lo })

/-- RBITS (R97). -/
def execRbits (_sm : Bool) (d : BitVec 5) (s : State) : Out :=
  issue (aSig [] [⟨0, d.toNat⟩] false false) s fun s =>
    let (v, r) := s.regs.step
    .done ((s.setRegs r).putX d.toNat v)

end Sys2Proof.Machine
end

