-- ==== Sys2Proof/Machine/Kettle.lean ====
section
/-! DEFINITION. Launches in the Kettle: ordinals and work identifiers (R190, R191), the header checks (R196), admission,
binding and the handing out of ordinals (R198 to R208). -/

namespace Sys2Proof.Machine

/-! Levels and ordinals (R190, R191) -/

/-- The lowest bit of level `n` (R190). -/
def Launch.offAt (l : Launch) : Nat → Nat
  | 0 => 0
  | n + 1 => l.offAt n + l.width n

/-- The extent of level `n` (R190). -/
def Launch.extent (l : Launch) (n : Nat) : Nat := fld l.extm1 (l.offAt n) (l.width n) + 1

/-- The number of tasks (R191). -/
def Launch.total (l : Launch) : Nat := (upFrom 0 6).foldl (fun t n => t * l.extent n) 1

/-- The levels of a work identifier from the given ones on, for the quotient `q` of the ordinal (R191). -/
def Launch.widFrom (l : Launch) : List Nat → Nat → Nat
  | [], _ => 0
  | n :: t, q => (q % l.extent n) * 2 ^ l.offAt n + l.widFrom t (q / l.extent n)

/-- WidOf (R191). -/
def Launch.widOf (l : Launch) (ord : Nat) : Word := natW (l.widFrom (upFrom 0 6) ord)

/-! The header (R196) -/

/-- `n` bytes at a virtual address of a function, read with its load permission; none where an address faults, lies in
the device region or a metered region, or holds data in error. -/
def State.readVirt (s : State) (vf : Nat) : Nat → Nat → Nat → Option (List Byte × State)
  | 0, _, n => if n = 0 then some ([], s) else none
  | f + 1, va, n =>
    if n = 0 then some ([], s)
    else
      let k := min n (4096 - va % 4096)
      if deviceBase < va + k ∨ s.meterTrap vf (natW va) .load false then none
      else
        match s.walk vf va .load with
        | .fault _ => none
        | .ok pa _ _ s1 =>
          if (s1.poisonedLoc (.mem pa) k).isSome then none
          else (s1.readVirt vf f (va + k) (n - k)).map (fun r => (s1.readLoc (.mem pa) k ++ r.1, r.2))

/-- The kernel image of a launch, read with its tenant's permission (R194, R196). -/
def State.imageOf (s : State) (l : Launch) : Option (List Byte × State) :=
  s.readVirt l.vf 10 l.kaddr (8 * l.klen)

/-- Checks 2 to 5 of R196, on the header alone; a layer header's EXTM1 is ignored, and it is neither GANG nor DUAL
(R342). -/
def Launch.headerBad (l : Launch) (layer : Bool) : Bool :=
  fld l.ctl 61 3 != 0 || (!l.kettle && l.prio == 7)
    || decide (64 < l.offAt 6) || (!layer && l.extm1 / 2 ^ l.offAt 6 != 0)
    || decide (98304 < l.quota) || l.klen == 0
    || (l.isDual && l.gang) || (l.gang && decide (96 < l.e0))
    || (layer && (l.isDual || l.gang))

/-- What the header checks answer: the final status of a launch that fails one, or the image (R196). -/
def State.headerCheck (s : State) (l : Launch) (layer : Bool) : Except Nat (List Byte) × State :=
  if l.headerBad layer then (.error 4, s)
  else
    match s.imageOf l with
    | none => (.error 6, s)
    | some (bs, s1) => (if shake256 bs 32 = (l.hdr.drop 0x20).take 32 then .ok bs else .error 5, s1)

/-- A function with the attachment of a debugger made effective (R232, R473). -/
def Vf.attached (v : Vf) : Vf :=
  match v.debugAsk with
  | some b => { v with debug := true, debugInfuse := b, debugAsk := none }
  | none => v

/-- A launch as it is admitted: its key copied (R372), its image kept where it is to be infused (R226); under a debugger it runs
un-infused unless the attachment asks otherwise (R232). -/
def Launch.taken (l : Launch) (v : Vf) (image : List Byte) : Launch :=
  { l with admitted := true, okey := v.okey, image := if l.infuse then image else [], plain := l.plain || (v.debug && !v.debugInfuse) }

/-- A launch queued with a copied header (R196, R210): its number, and the state. -/
def State.enqueue (s : State) (vf : Nat) (hdr : List Byte) (parent : Option Nat) : Nat × State :=
  let l : Launch := { vf := vf, hdr := hdr, parent := parent, child := parent.isSome, queued := s.tick, lastCtx := s.tick }
  let v := s.vf vf
  let s1 := { s with launches := tabSet s.nextNum l s.launches, nextNum := s.nextNum + 1 }
  (s.nextNum, s1.setVf vf (if parent.isSome then { v with childQ := v.childQ ++ [s.nextNum] }
                           else { v with submitQ := v.submitQ ++ [s.nextNum] }))

/-! Starting a task (R198, R346) -/

/-- The registers of a fresh task with the given WID, X9 and X10 (R198). -/
def taskRegs (l : Launch) (num : Nat) (wid x10 : Word) (residual : Bool) : Regs :=
  let (hi, lo) := seedOf l.seed wid
  let r0 : Regs := { pc := natW (if residual then residualBase else l.kaddr), rhi := hi, rlo := lo }
  let r1 := (upFrom 1 8).foldl (fun (r : Regs) k => r.setX k (natW (hdrWord l.hdr (0x38 + 8 * k)))) r0
  let r2 := (r1.setX 9 wid).setX 10 x10
  (((r2.setCsr csrWID wid).setCsr csrWIDW (natW (fld l.ctl 0 36))).setCsr csrLID (lidOf l.vf num)).setCsr csrJOBSEED l.seed

/-- The tasks of a launch start in residual code on a die (R199, R213). -/
def Launch.residualOn (l : Launch) : Bool := l.infuse && !l.plain && l.residual.isSome

/-- A die's cache holds the residual of a launch (R227). -/
def State.hasResidual (s : State) (l : Launch) (die : Nat) : Bool :=
  l.residual.any (fun k => (s.die die).cache.any (fun r => r.key == k && r.vf == l.vf))

/-- The copy of a DUAL task that is next to start, if one is (R205, R206). -/
def Dual.wants (d : Dual) : Option Nat :=
  let sg := fun k => tabFind d.sigs k
  match d.started with
  | 1 => some 1
  | 2 => if (sg 0).isSome && (sg 1).isSome && sg 0 != sg 1 then some 2 else none
  | 3 => if (sg 2).isSome && sg 2 != sg 0 && sg 2 == sg 1 then some 3 else none
  | _ => none

/-- A copy of a DUAL task that must run residual code is still to start (R234). -/
def Launch.awaitsResidual (l : Launch) : Bool := l.dual.any (fun d => d.2.resid && d.2.wants.isSome)

/-- Tasks of a launch may begin on a die: it runs un-infused, or the die has been specialised and still holds the residual
(R199, R213, R228). -/
def State.readyOn (s : State) (l : Launch) (die : Nat) : Bool :=
  !l.infuse || l.plain || (l.ready.contains die && s.hasResidual l die)

/-- The specialisation of a launch for a die begins, where it is needed (R199, R213): also of one that runs un-infused, while a
copy of a DUAL task waits for a residual that no die holds any more (R234). -/
def State.specialise (s : State) (num die : Nat) : State :=
  match tabFind s.launches num with
  | some l =>
    let again := l.plain && l.awaitsResidual && (upFrom 0 4).all (fun d => !(s.hasResidual l d))
    if (s.readyOn l die && !again) || l.infusing.contains die then s
    else s.setLaunch num { l with ready := l.ready.filter (· != die), infusing := l.infusing ++ [die] }
  | none => s

/-- A task started on a context (R198). -/
def State.startRegs (s : State) (c : Nat) (l : Launch) (t : TaskOf) (r : Regs) : State :=
  let s1 := s.claimPlace c
  s1.setCtx c { s1.ctx c with status := .run, regs := r, vf := l.vf, task := some t }

/-- The task of ordinal `ord` started on a context (R198); the later copies of a DUAL task run what the first one ran (R234). -/
def State.startTask (s : State) (c num : Nat) (l : Launch) (ord copy : Nat) : State :=
  let res := if copy = 0 then l.residualOn else (tabFind l.dual ord).any (·.resid)
  s.startRegs c l { launch := num, ord := ord, copy := copy } (taskRegs l num (l.widOf ord) (natW ord) res)

/-! Binding (R200, R203) -/

/-- Contexts bound to a launch on a grove. -/
def State.boundOn (s : State) (num g : Nat) : List Nat :=
  (s.binds.filter (fun b => b.2.launch == some num && groveOf b.1 == g)).map (·.1)

/-- A Pod range of `n` entries from `b` on is free on a grove (R203, R403). -/
def podFits (g : Grove) (n b : Nat) : Bool :=
  decide (b + n ≤ 4096) && g.grants.all (fun k => decide (b + n ≤ k.2.1 ∨ k.2.1 + k.2.2 ≤ b) || k.2.2 == 0)
    && g.podFenced.all (fun k => decide (k < b ∨ b + n ≤ k))

/-- The lowest free Pod range of `n` entries (R203). -/
def podRange (g : Grove) (n : Nat) : Option Nat :=
  let ends := [0] ++ g.grants.map (fun k => k.2.1 + k.2.2) ++ g.podFenced.map (· + 1)
  (ends.filter (podFits g n)).foldl (fun r b => some (match r with
    | some k => min k b
    | none => b)) none

/-- The Pod grant of a launch on a grove made, if it is not yet, with its entries zero; none where no range exists (R159,
R203). -/
def State.grantPod (s : State) (num : Nat) (l : Launch) (g : Nat) : Option State :=
  let v := s.grove g
  if (tabFind v.grants num).isSome then some s
  else if l.podg = 0 then some (s.setGrove g { v with grants := tabSet num (0, 0) v.grants })
  else
    (podRange v (64 * l.podg)).map (fun b =>
      let out := fun (e : Nat) => decide (e < b ∨ b + 64 * l.podg ≤ e)
      s.setGrove g { v with grants := tabSet num (b, 64 * l.podg) v.grants, pod := v.pod.filter (fun e => out e.1)
                            podPoison := v.podPoison.filter out })

/-- A context's bind record cleared; the grant of its grove is returned with the launch's last context there (R203,
R204). -/
def State.unbind (s : State) (c : Nat) : State :=
  match (s.bind c).launch with
  | none => s
  | some num =>
    let s1 := s.setBind c { s.bind c with launch := none, lslot := 0, prio := 0 }
    let g := groveOf c
    if (s1.boundOn num g).isEmpty then
      s1.setGrove g { s1.grove g with grants := tabDel num (s1.grove g).grants }
    else s1

/-- The tenant whose work a context may take: its partition serves the function and runs (R201, R412). -/
def State.serves (s : State) (c vf : Nat) : Bool :=
  s.runsFor (groveOf c) vf

/-- A context free to be bound: free, not fenced, not under test, and not bound to a launch with work for it (R201,
R403), and 128 counts after a wrap of its generation (R248). -/
def State.bindable (s : State) (c : Nat) : Bool :=
  let g := s.grove (groveOf c)
  let k := s.core (coreOf c)
  (s.ctx c).status == .free && !g.fenced && !g.testing && !k.fenced && !k.testing && !(s.die (dieOf c)).stopped &&
  (s.place c).wrapped.all (fun w => decide (w + 128 ≤ s.tick)) &&
  (match (s.bind c).launch with
   | none => true
   | some num =>
     match tabFind s.launches num with
     | some l =>
       (match l.layerOf with
        | some (lg, kid) => !((s.grove lg).batches.any (fun b => b.kid == kid && b.ctx.isNone))
        | none => false)
     | none => true)

/-- The slot of a launch in a die's table of 1,024 admitted launches, taken if it has none; none where the table is full
(R200). -/
def State.tableSlot (s : State) (num die : Nat) : Option (Nat × State) :=
  let d := s.die die
  match d.launchTab.find? (fun e => e.2 == num) with
  | some e => some (e.1, s)
  | none => (tabFree d.launchTab 1024).map (fun k => (k, s.setDie die { d with launchTab := tabSet k num d.launchTab }))

/-- A free context bound to a launch, which is RUNNING from its first binding on (R200, R211; DESIGN CHOICE, log entry 83); the
die's specialisation starts (R199, R213). -/
def State.bindTo (s : State) (c num prio : Nat) : State :=
  let (k, s1) := ((s.unbind c).tableSlot num (dieOf c)).getD (0, s.unbind c)
  let s2 := s1.setBind c { launch := some num, lslot := k, rsv := none, prio := prio }
  match tabFind s2.launches num with
  | none => s2
  | some l => (s2.setLaunch num { l with lastCtx := s.tick, status := if l.status = 1 then 2 else l.status }).specialise num (dieOf c)

/-- A launch that is admitted, or ended with its final status where a check fails (R196, step 5 of R201). -/
def State.admitLaunch (s : State) (num : Nat) (l : Launch) : Bool × State :=
  if l.admitted then (true, s)
  else
    match s.headerCheck l false with
    | (.error st, s1) => (false, s1.endLaunch num st)
    | (.ok bs, s1) =>
      let v := (s1.vf l.vf).attached
      (true, (s1.setVf l.vf v).setLaunch num (l.taken v bs))

/-! Ordinals (R204 to R207) -/

/-- A launch has ordinals, gangs or copies to hand out. -/
def Launch.hasWork (l : Launch) : Bool :=
  if isFinal l.status then false
  else if l.gang then decide (l.nextGang * l.e0 < l.total)
  else if !l.split then true
  else l.tickets.any (fun t => decide (t.2.1 < t.2.2)) || l.dual.any (fun d => d.2.wants.isSome)

/-- The die with the most ordinals left, the lower number first (R204). -/
def richest (t : Tab (Nat × Nat)) : Option Nat :=
  (t.foldl (fun (r : Option (Nat × Nat)) k =>
    let n := k.2.2 - k.2.1
    if n = 0 then r
    else
      match r with
      | some (m, d) => if m < n then some (n, k.1) else some (m, d)
      | none => some (n, k.1)) none).map (·.2)

/-- The next ordinal for a context of a die, pulled or stolen (R204). -/
def Launch.take (l : Launch) (die : Nat) : Option (Nat × Launch) :=
  let (lo, hi) := tabGet (0, 0) l.tickets die
  if lo < hi then some (lo, { l with tickets := tabSet die (lo + 1, hi) l.tickets })
  else
    (richest l.tickets).map (fun d =>
      let (a, b) := tabGet (0, 0) l.tickets d
      (b - 1, { l with tickets := tabSet d (a, b - 1) l.tickets }))

/-- The ranges per die of a launch of `t` ordinals for the contexts `cs` bound in the pass that admits it (R204). -/
def splitOrdinals (t : Nat) (cs : List Nat) : Tab (Nat × Nat) :=
  let cnt := fun d => (cs.filter (fun c => dieOf c == d)).length
  let base := fun d => t * cnt d / cs.length
  let rest := t - ((upFrom 0 4).map base).sum
  let size := fun d =>
    base d + (if cnt d ≠ 0 ∧ ((upFrom 0 d).filter (fun e => cnt e != 0)).length < rest then 1 else 0)
  (upFrom 0 4).map (fun d =>
    let lo := ((upFrom 0 d).map size).sum
    (d, (lo, lo + size d)))

/-- A context can serve the next copy of a DUAL task: the shadow and the third copy run in groves of their own; the last
primary on a core of the first two copies that has passed its self-test, or where both are fenced on any that works (R205,
R206). -/
def State.dualPlace (s : State) (d : Dual) (k c : Nat) : Bool :=
  if k = 3 then
    let cores := ((d.places.take 2).map coreOf).filter (fun j => !(s.core j).fenced)
    cores == [] || cores.contains (coreOf c)
  else !(d.places.any (fun p => groveOf p == groveOf c))

/-- A record of a DUAL launch that a context can serve (R205, R206): on a die with the residual, where its first copy ran it (R234). -/
def State.dualFor (s : State) (l : Launch) (c : Nat) : Option (Nat × Dual × Nat) :=
  l.dual.findSome? (fun d =>
    match d.2.wants with
    | some k => if s.dualPlace d.2 k c && (!d.2.resid || s.hasResidual l (dieOf c)) then some (d.1, d.2, k) else none
    | none => none)

/-- A context's next task of a launch whose ordinals R204 hands out: a copy of a DUAL task that waits for one, or the next
ordinal. None: its bind record is cleared (R204, R205). -/
def State.nextTask (s : State) (c num : Nat) (l : Launch) : State :=
  let begin_ := fun (ord copy : Nat) (l1 : Launch) => (s.setLaunch num l1).startTask c num l1 ord copy
  match (if l.isDual then s.dualFor l c else none) with
  | some (o, d, k) => begin_ o k { l with dual := tabSet o { d with started := d.started + 1, places := d.places ++ [c] } l.dual }
  | none =>
    match l.take (dieOf c) with
    | some (o, l1) =>
      begin_ o 0 (if l.isDual then { l1 with dual := tabSet o { started := 1, places := [c], resid := l.residualOn } l1.dual } else l1)
    | none => s.unbind c

/-- A launch that has had every ordinal handed out leaves its queue (R201). -/
def State.leaveQueue (s : State) (num : Nat) : State :=
  match tabFind s.launches num with
  | none => s
  | some l =>
    let v := s.vf l.vf
    s.setVf l.vf { v with submitQ := v.submitQ.filter (· != num), childQ := v.childQ.filter (· != num) }

/-- Queues whose head has nothing left to hand out move on. -/
def State.trimQueues (s : State) : State :=
  s.launches.foldl (fun r l => if l.2.hasWork then r else r.leaveQueue l.1) s

/-! Gangs (R207, R208) -/

/-- The free contexts of a core that a gang of launch `num` may take. -/
def State.gangCtxs (s : State) (num k : Nat) : List Nat :=
  (upFrom (4 * k) 4).filter (fun c => s.bindable c && ((s.bind c).rsv.all (· == num)))

/-- Member contexts of a gang of `e` members on the run of cores from `k0` on: member m on core k0 + (m mod n) (R207). -/
def State.gangOn (s : State) (num e k0 : Nat) : Option (List Nat) :=
  let n := min e 24
  if 24 < k0 % 24 + n then none
  else
    let rs := (upFrom 0 e).map (fun m => ((s.gangCtxs num (k0 + m % n)).drop (m / n)).head?)
    if rs.all (·.isSome) then some (rs.filterMap id) else none

/-- Contexts bound to a gang launch that have not started. -/
def State.unstarted (s : State) (num : Nat) : List Nat :=
  (s.binds.filter (fun b => b.2.launch == some num && (s.ctx b.1).status == .free)).map (·.1)

/-- Member contexts in member order, of the contexts bound on one run (R207). -/
def gangOrder (e : Nat) (cs : List Nat) : List Nat :=
  let k0 := cs.foldl (fun r c => min r (coreOf c)) numCore
  let n := min e 24
  (upFrom 0 e).filterMap (fun m => ((cs.filter (fun c => coreOf c == k0 + m % n)).drop (m / n)).head?)

/-- The first gang number from `i` on that no live group has (R254). -/
def freeGangId (gs : List Group) : Nat → Nat → Nat
  | 0, i => i
  | f + 1, i => if gs.any (fun g => g.id == i) then freeGangId gs f (if i = 65535 then 32768 else i + 1) else i

/-- The next gang of a launch bound to the given contexts, with its collective group (R207, R254). -/
def State.bindGang (s : State) (num : Nat) (l : Launch) (prio : Nat) (cs : List Nat) : State :=
  let id := freeGangId s.groups s.groups.length s.nextGang
  let g : Group := { id := id, vf := l.vf, home := s.self, launch := some num, gang := some l.nextGang, exp := l.e0, created := l.e0 }
  let s1 := cs.foldl (fun r c => r.bindTo c num prio)
    { s with groups := s.groups ++ [g], nextGang := if id = 65535 then 32768 else id + 1 }
  match tabFind s1.launches num with
  | some l1 => (s1.setLaunch num { l1 with nextGang := l1.nextGang + 1 }).dropRun num
  | none => s1

/-- Every member of a bound gang started at once (R207). -/
def State.startGang (s : State) (num : Nat) (l : Launch) (cs : List Nat) : State :=
  let q := l.nextGang - 1
  (((gangOrder l.e0 cs).zip (upFrom 0 l.e0))).foldl (fun r p => r.startTask p.1 num l (q * l.e0 + p.2) 0) s

/-- The reserved run of a waiting gang has its free contexts marked (R208). -/
def State.markRun (s : State) (num : Nat) (l : Launch) : State :=
  match l.run with
  | none => s
  | some (_, k0) =>
    ((upFrom k0 (min l.e0 24)).map (fun k => upFrom (4 * k) 4)).flatten.foldl (fun r c =>
      if r.bindable c && (r.bind c).rsv.isNone then r.setBind c { r.bind c with rsv := some num } else r) s

/-! The scheduling pass (R201, R202) -/

/-- A millisecond in cycles (R3: 3 GHz). -/
def msCycles : Nat := 3000000

/-- The effective priority (R202). -/
def State.effPrio (s : State) (l : Launch) : Nat :=
  if l.prio = 7 then 7 else min 6 (l.prio + (s.tick - max l.queued l.lastCtx) / msCycles)

/-- The launches that may receive contexts, each with the number of its queue: the head of each tenant queue, and launches
past their queue with work left (layer entries and copies of DUAL tasks). -/
def State.heads (s : State) : List (Nat × Nat) :=
  let hs := (s.vfs.map (fun v => ((v.2.submitQ.head?.map (fun n => (2 * v.1, n))).toList ++
    (v.2.childQ.head?.map (fun n => (2 * v.1 + 1, n))).toList))).flatten
  let extra := s.launches.filterMap (fun l =>
    if hs.any (·.2 == l.1) || isFinal l.2.status then none
    else
      match l.2.layerOf with
      | some (g, kid) =>
        if (s.grove g).batches.any (fun b => b.kid == kid && b.ctx.isNone) then some (128 + l.1, l.1) else none
      | none => if l.2.isDual && l.2.split && l.2.hasWork then some (128 + l.1, l.1) else none)
  (hs ++ extra).filter (fun h => (tabFind s.launches h.2).any (fun l => l.layerOf.isSome || l.hasWork))

/-- What a visit to a queue leads to: the state, whether anything was done, and the contexts left in the plan. -/
structure Visit where
  s : State
  did : Bool
  plan : List Nat

/-- A launch may take a context by its partition, reservation and kind. -/
def State.suits (s : State) (num : Nat) (l : Launch) (c : Nat) : Bool :=
  s.bindable c && s.serves c l.vf && (s.bind c).rsv.isNone && decide (c < numCtx) && (s.tableSlot num (dieOf c)).isSome
    && (match l.layerOf with
        | some (g, _) => groveOf c == g
        | none => true)
    && (s.grantPod num l (groveOf c)).isSome

/-- One visit to a head launch (steps 4 and 5 of R201). -/
def State.visit (s : State) (num prio : Nat) (plan : List Nat) : Visit :=
  match tabFind s.launches num with
  | none => ⟨s, false, plan⟩
  | some l =>
    if !(plan.any (s.suits num l)) then ⟨s, false, plan⟩
    else
      match s.admitLaunch num l with
      | (false, s1) => ⟨s1.leaveQueue num, true, plan⟩
      | (true, s1) =>
        let l1 := (tabFind s1.launches num).getD l
        if l.gang then
          match (if (s1.unstarted num).isEmpty then
              plan.findSome? (fun c => if s1.suits num l c then s1.gangOn num l.e0 (coreOf c) else none) else none) with
          | none => ⟨s1, false, plan⟩
          | some cs =>
            match s1.grantPod num l (groveOf (cs.headD 0)) with
            | none => ⟨s1, false, plan⟩
            | some s2 => ⟨s2.bindGang num ((tabFind s2.launches num).getD l1) prio cs, true, plan.filter (fun c => !(cs.contains c))⟩
        else
          match plan.find? (s1.suits num l) with
          | none => ⟨s1, false, plan⟩
          | some c =>
            match s1.grantPod num l (groveOf c) with
            | none => ⟨s1, false, plan⟩
            | some s2 => ⟨s2.bindTo c num prio, true, plan.filter (· != c)⟩

/-- The heads at a priority, which the pass has computed for each launch, in round-robin order after the queue visited last. -/
def State.ring (s : State) (pr : Nat → Nat) (prio : Nat) : List (Nat × Nat) :=
  let hs := s.heads.filter (fun h => pr h.2 == prio)
  hs.filter (fun h => decide (s.rr < h.1)) ++ hs.filter (fun h => decide (h.1 ≤ s.rr))

/-- The first visit in round-robin order that does something. -/
def State.tryHeads (s : State) (prio : Nat) (plan : List Nat) : List (Nat × Nat) → Visit
  | [] => ⟨s, false, plan⟩
  | h :: t =>
    let v := s.visit h.2 prio plan
    if v.did then ⟨{ v.s with rr := h.1 }, true, v.plan⟩ else v.s.tryHeads prio plan t

/-- Visits at one priority until none does anything (R201). -/
def State.level (pr : Nat → Nat) (prio : Nat) : Nat → State → List Nat → State × List Nat
  | 0, s, plan => (s, plan)
  | f + 1, s, plan =>
    let v := s.tryHeads prio plan (s.ring pr prio)
    if v.did then State.level pr prio f v.s v.plan else (v.s, v.plan)

/-- A launch owns a stream that is not FREE, here or, as its family's record knows, on another package (R344). -/
def State.ownsStreams (s : State) (num : Nat) : Bool :=
  s.groves.any (fun g => g.2.streams.any (fun c => (c.2.st != 0 || c.2.arriving) && c.2.own == num)
    || g.2.families.any (fun f => f.2.own == num && f.2.members.any (fun m => fld m.handle.toNat 23 9 != s.self)))

/-- A final launch retired: its contexts, grants, queues, family records and forwards go (step 1 of R201, R242, R362,
R416). -/
def State.retireLaunch (s : State) (num : Nat) (l : Launch) : State :=
  let s1 := (s.binds.filter (fun b => b.2.launch == some num)).foldl (fun r b => r.unbind b.1) s
  let s2 := { s1 with
    groves := s1.groves.map (fun (g : Nat × Grove) => (g.1, { g.2 with
      grants := tabDel num g.2.grants
      queues := g.2.queues.filter (fun q => q.2.launch != num)
      families := g.2.families.filter (fun f => f.2.own != num) }))
    binds := s1.binds.map (fun (b : Nat × Bind) => if b.2.rsv = some num then (b.1, { b.2 with rsv := none }) else b)
    dies := s1.dies.map (fun (d : Nat × Die) => (d.1, { d.2 with launchTab := d.2.launchTab.filter (fun e => e.2 != num) }))
    groups := s1.groups.filter (fun (g : Group) => g.launch != some num)
    forwards := s1.forwards.filter (fun (f : Word × Word × Nat) => f.2.2 != num) }
  (s2.setLaunch num { l with retired := true }).leaveQueue num

/-- Step 1 of R201. -/
def State.retireAll (s : State) : State :=
  s.launches.foldl (fun r l =>
    if isFinal l.2.status && !l.2.retired && !(r.ownsStreams l.1) && (r.ctxsOf l.1).isEmpty then r.retireLaunch l.1 l.2 else r) s

/-- The ranges of launches admitted in this pass (R204). -/
def State.splitAll (s : State) : State :=
  s.launches.foldl (fun r l =>
    if l.2.admitted && !l.2.split && !l.2.gang && l.2.layerOf.isNone then
      let cs := (r.binds.filter (fun b => b.2.launch == some l.1)).map (·.1)
      r.setLaunch l.1 { l.2 with split := true, tickets := splitOrdinals l.2.total cs }
    else r) s

/-- Step 3 of R201: a gang whose reserved run holds enough contexts is admitted and starts there (R208). -/
def State.serveRun (s : State) (pr : Nat → Nat) (num : Nat) (l : Launch) (g k0 : Nat) : State :=
  let s1 := s.markRun num l
  match s1.gangOn num l.e0 k0, s1.grantPod num l g, s1.tableSlot num (g / 12) with
  | some cs, some _, some _ =>
    if !((s1.unstarted num).isEmpty) then s1
    else
      match s1.admitLaunch num l with
      | (false, s2) => s2.leaveQueue num
      | (true, s2) =>
        let l1 := (tabFind s2.launches num).getD l
        ((s2.grantPod num l1 g).getD s2).bindGang num l1 (pr num) cs
  | _, _, _ => s1

/-- The gangs with a reserved run served, while they have gangs to start and their partition runs (R201, R208). -/
def State.serveRuns (s : State) (pr : Nat → Nat) : State :=
  s.launches.foldl (fun r l =>
    match l.2.run with
    | none => r
    | some (g, k0) => if l.2.hasWork && r.runsFor g l.2.vf then r.serveRun pr l.1 l.2 g k0 else r) s

/-- A scheduling pass in which the Kettle's firmware offers the contexts of `plan`, in that order; each launch has one effective
priority for the whole pass (R201). -/
def State.schedulingPass (s : State) (plan : List Nat) : State :=
  let s0 := s.retireAll.trimQueues
  let pr := fun num => match tabFind s0.launches num with
    | some l => s0.effPrio l
    | none => 0
  let s1 := s0.serveRuns pr
  let fuel := plan.length + s1.launches.length + 1
  let r := [7, 6, 5, 4, 3, 2, 1, 0].foldl (fun (r : State × List Nat) p => State.level pr p fuel r.1 r.2) (s1, plan)
  r.1.splitAll.trimQueues

end Sys2Proof.Machine
end

