-- ==== Sys2Proof/Machine/Message.lean ====
section
/-! DEFINITION. Queues, messages and timetables (R240 to R253). -/

namespace Sys2Proof.Machine

/-- A context address whose place exists and lies in the sender's partition (R239, R245). -/
def State.addrOk (s : State) (d : Word) : Bool :=
  let v := d.toNat
  decide (v < 2 ^ 41) && fld v 16 3 == 0 && decide (fld v 26 4 < 12) && decide (fld v 21 5 < 24)
    && s.sharesPart (groveOf s.cur) (fld v 32 9) (groveOf (ctxOfAddr d))

/-- The inbox entries of the messages in flight to a context address of this package, and their number. -/
def State.inFlight (s : State) (d : Word) : Nat × Nat :=
  s.net.foldl (fun r p => match p with
    | .msg m => if s.forwarded m.dst == d then (r.1 + 1 + 2 ^ m.sz.toNat, r.2 + 1) else r
    | _ => r) (0, 0)

/-- The number of messages in the save area of a context that has been saved by pre-emption (R249). -/
def State.savedMail (s : State) (c : Nat) (gen : BitVec 16) : Option Nat :=
  (s.parts.findSome? (fun p => p.2.saved.findSome? (fun v =>
    v.cores.findSome? (fun k => if k.ctxs.any (fun x => x.1 == c && x.2.status != .free && x.2.gen == gen) then
      some ((tabGet [] k.mail c).length) else none))))

/-- A destination accepts a message of `n` entries (R247, R249): an orphan always, a saved context up to 256 messages, a
resident one when its inbox has room, one whose core is under test as a saved one (R401), and one of another package unless that has said otherwise (log entry 11). -/
def State.accepts (s : State) (d0 : Word) (n : Nat) : Bool :=
  let d := s.forwarded d0
  if fld d.toNat 32 9 ≠ s.self then !(s.awayFull.contains d)
  else
    let c := ctxOfAddr d
    let gen : BitVec 16 := BitVec.ofNat 16 d.toNat
    let x := s.ctx c
    if x.status ≠ .free ∧ x.gen = gen then
      if (s.core (coreOf c)).testing then decide ((tabGet [] (s.core (coreOf c)).mail c).length + (s.inFlight d).2 < 256)
      else decide ((x.inbox.map (fun m => m.words.length)).sum + (s.inFlight d).1 + n ≤ 128)
    else
      match s.savedMail c gen with
      | some k => decide (k + (s.inFlight d).2 < 256)
      | none => true

/-- The identifier of a queue (R240). -/
def queueId (self g ix : Nat) : Word := natW (2 ^ 31 + 2 ^ 30 + 2 ^ 21 * self + 2 ^ 19 * (g / 12) + 2 ^ 15 * (g % 12) + ix)

/-- An own-scratchpad range: its offset; none where it is not wholly in the own scratchpad (R251). -/
def State.ownRange (s : State) (a n : Nat) : Option Nat :=
  match s.scrLoc s.cur a n with
  | some (.scr k o) => if k = coreOf s.cur then some o else none
  | _ => none

/-- The reads of the entries of a timetable, from place `j`: of those that lie in the own scratchpad, up to the first that does
not (R252, R284). -/
def State.tablePieces (s : State) : Nat → Nat → Nat → List Piece
  | 0, _, _ => []
  | n + 1, j, a =>
    match s.ownRange a 16 with
    | none => []
    | some o => piecesFrom j (.scr (coreOf s.cur) o) 16 (natW a) none ++ s.tablePieces n (j + 2) (a + 16)

/-- The entries of a timetable checked, with the words read from place `j` on (R251, R252). -/
def State.tableEntries (s : State) (own : Nat) (t : Tab Word) : Nat → Nat → Nat → Except Why (List (Word × Word))
  | 0, _, _ => .ok []
  | n + 1, j, a =>
    match s.ownRange a 16 with
    | none => .error { cause := cPROT, tval := natW a, acc := accCode .load }
    | some _ =>
        let w := tabGet 0 t j
        let d := tabGet 0 t (j + 1)
        let k := fld w.toNat 62 2
        let len := fld w.toNat 40 8
        if !(k == 1 || k == 2) || decide (23 < fld w.toNat 57 5) || fld w.toNat 57 5 == own || fld w.toNat 48 9 != 0
          || len == 0 || decide (64 < len) || fld w.toNat 20 20 != 0 then .error { cause := cRESERVED, tval := natW a }
        else
          let acc := if k = 1 then Acc.load else .store
          if (s.ownRange d.toNat 1).isNone then .error { cause := cPROT, tval := d, acc := accCode acc }
          else if d.toNat % 64 ≠ 0 then .error { cause := cMISALIGN, tval := d, acc := accCode acc }
          else if (s.ownRange d.toNat (64 * len)).isNone then .error { cause := cPROT, tval := d, acc := accCode acc }
          else (s.tableEntries own t n (j + 2) (a + 16)).map (fun t => (w, natW (d.toNat % 0x40000)) :: t)

/-- A context of the same core has a timetable that has arrived and not ended (R252). -/
def State.tableBusy (s : State) : Bool :=
  (upFrom (4 * coreOf s.cur) 4).any (fun c => (s.ctx c).pend.any (fun p => p.op == .ttrun && p.result.isNone))

/-- QBIND (R244). -/
def execQbind (sm l : Bool) (d a : BitVec 5) (t : Bool) (s : State) : Out :=
  issue (cSig (.qbind sm l d a t)) s fun s => 
    let p := s.rx 1 a.toNat
    if 2 ^ 32 ≤ p.toNat then .trap { cause := cPROT, tval := p }
    else
      match s.writeQb (d.toNat - 24) (natW (2 ^ 63 + p.toNat)) (wordTval (cSig (.qbind sm l d a t)) false) p with
      | .ok s1 => .done s1
      | .error y => .trap y

/-- QUNBIND (R244). -/
def execQunbind (sm l : Bool) (d : BitVec 5) (s : State) : Out :=
  issue (cSig (.qunbind sm l d)) s fun s => 
    match s.writeQb (d.toNat - 24) 0 (wordTval (cSig (.qunbind sm l d)) false) 0 with
    | .ok s1 => .done s1
    | .error y => .trap y

/-- TTRUN (R252). -/
def execTtrun (sm l : Bool) (d a : BitVec 5) (t : Bool) (s : State) : Out :=
  issue (cSig (.ttrun sm l d a t)) s fun s =>
    let a := s.rx 1 a.toNat
    s.whenRead (fun s =>
      match s.ownRange a.toNat 1 with
      | none => .trap { cause := cPROT, tval := a, acc := accCode .load }
      | some o =>
        if a.toNat % 16 ≠ 0 then .trap { cause := cMISALIGN, tval := a, acc := accCode .load }
        else if s.acquiring || s.ownBusy || s.sptPending then .wait
        else
          let l := Loc.scr (coreOf s.cur) o
          match s.poisonedLoc l 16 with
          | some u => .trap { cause := cMCE, tval := a, unit := u, acc := accCode .load }
          | none => s.sendReads (accCode .load) [] (piecesFrom 0 l 16 a none))
      (fun s t =>
        let h := (tabGet 0 t 0).toNat
        let p := fld h 32 9
        let n := fld h 0 16
        if tabGet 0 t 1 ≠ 0 ∨ fld h 41 15 ≠ 0 ∨ fld h 16 16 ≠ 0 ∨ p = 0 ∨ 288 < p ∨ n = 0 ∨ 256 < n then
          .trap { cause := cRESERVED, tval := a }
        else
          let ps := s.tablePieces n 2 (a.toNat + 16)
          if ps.any (fun q => (tabFind t q.ix).isNone) then s.sendReads (accCode .load) t ps
          else
            match s.tableEntries (coreOf s.cur % 24) t n 2 (a.toNat + 16) with
            | .error y => .trap y
            | .ok es =>
              if s.tableBusy then .wait
              else
                let d := s.die (dieOf s.cur)
                let b := arriveBar s.tick { ctx := s.cur, need := p, es := es } (tabGet [] d.bars (fld h 56 8))
                (s.setDie (dieOf s.cur) { d with bars := tabSet (fld h 56 8) b d.bars }).send .ttrun)
      (fun q v _ _ _ => .done (q.putX d.toNat v))

/-- SEND (R245). -/
def execSend (sm l : Bool) (a b : BitVec 5) (t u : Bool) (z : BitVec 2) (s : State) : Out :=
  issue (cSig (.send sm l a b t u z)) s fun s =>
    let d := s.rx 1 a.toNat
    let p := s.rx 2 b.toNat
    let n := 8 * 2 ^ z.toNat
    if !(s.addrOk d) then .trap { cause := cPROT, tval := d }
    else
      s.whenRead (fun s =>
        match s.checkAddr 1 p n .load, s.scrLoc s.cur p.toNat n with
        | some y, _ => .trap y
        | none, none => .trap { cause := cPROT, tval := p, acc := accCode .load }
        | none, some l =>
          match s.poisonedLoc l n with
          | some u => .trap { cause := cMCE, tval := p, unit := u, acc := accCode .load }
          | none =>
            if s.acquiring || s.ownWaits l || s.readBlocked s.cur s.me.nseq l n then .wait
            else s.sendReads (accCode .load) [] (piecesFrom 0 l n p none))
        (fun s t =>
          if !(s.accepts d (1 + 2 ^ z.toNat)) then .blocked (.send d)
          else
            let m : Msg := { dst := d, src := s.caddr s.cur, sz := z, payload := BitVec.ofNat 512 (ofWords (wordsFrom t 0 (n / 8)))
                             stamp := s.tick, colour := (s.core (coreOf s.cur)).colour }
            .done ((s.sendPacket (fld d.toNat 32 9) (.msg m)).countSent (coreOf s.cur)))
        (fun q _ _ _ _ => .done q)

/-- QNEW (R244). -/
def execQnew (sm l : Bool) (d : BitVec 5) (c : BitVec 2) (s : State) : Out :=
  issue (cSig (.qnew sm l d c)) s fun s =>
    let scope := match s.launchOf s.cur with
      | some l => l.qscope
      | none => 3
    let g := s.grove (groveOf s.cur)
    if scope < c.toNat then .trap { cause := cPROT, tval := natW c.toNat }
    else
      match tabFree g.queues 256 with
      | none => .done (s.putX d.toNat 0)
      | some ix =>
        let q : Queue := { launch := (s.me.task.map (·.launch)).getD 0, vf := s.me.vf, scope := c, by_ := s.caddr s.cur }
        .done ((s.setGrove (groveOf s.cur) { g with queues := tabSet ix q g.queues }).putX d.toNat
          (queueId s.self (groveOf s.cur) ix))

end Sys2Proof.Machine
end

