-- ==== Sys2Proof/Machine/Samovar.lean ====
section
/-! DEFINITION. Streams in the Samovar and families in the Strainer (R337 to R371): handles, allocation and freeing,
buckets and batches, family records and their resolution, migration. -/

namespace Sys2Proof.Machine

/-! Handles (R337, R354) -/

/-- A stream handle (R337). -/
def handleOf (self g c gen : Nat) : BitVec 32 :=
  BitVec.ofNat 32 (2 ^ 23 * self + 2 ^ 21 * (g / 12) + 2 ^ 17 * (g % 12) + 2 ^ 7 * c + gen)

/-- The current handle of a stream context. -/
def State.handle (s : State) (g c : Nat) : BitVec 32 := handleOf s.self g c (s.stream g c).gen

/-- The package of a handle. -/
def handlePkg (h : Nat) : Nat := fld h 23 9

/-- The stream context that a handle of this package names. -/
def State.streamOf (s : State) (h : BitVec 32) : Stream := s.stream (handleGrove h.toNat) (handleCtx h.toNat)
def State.setStreamOf (s : State) (h : BitVec 32) (x : Stream) : State :=
  s.setStream (handleGrove h.toNat) (handleCtx h.toNat) x

/-- A handle of this package is stale for a function (R337), as one is whose FORWARDING has ended (R339). -/
def State.stale (s : State) (h : BitVec 32) (vf : Nat) : Bool :=
  let t := s.streamOf h
  t.st == 0 || (t.st == 6 && decide (t.fwd ≤ s.tick)) || t.gen != fld h.toNat 0 7 || t.vf != vf

/-- Check 1 of R354 for a user on grove `g` of this package, or on another package. -/
def State.handleProt (s : State) (v : Word) (g : Option Nat) : Bool :=
  let h := v.toNat
  decide (2 ^ 32 ≤ h) || decide (11 < fld h 17 4) || !(s.present (handlePkg h))
    || g.any (fun k => !(s.sharesPart k (handlePkg h) (handleGrove h)))

/-- A port that carries traffic: no link of it has failed, and none is under test (R401, R446). -/
def State.portUp (s : State) (p : Nat) : Bool := !(s.mgmt.portsDown.contains p) && !(s.mgmt.testing.contains (.link p))

/-- A port is left in a direction: ports 4k and 4k + 1 lie in the positive, 4k + 2 and 4k + 3 in the negative direction of dimension
k (R444; log entry 98). -/
def State.dirUp (s : State) (k : Nat) (neg : Bool) : Bool :=
  let p := 4 * k + 2 * b2n neg
  s.portUp p || s.portUp (p + 1)

/-- The dimension and direction of the first hop toward another package (R445): none to this one. -/
def State.firstHop (s : State) (pkg : Nat) : Option (Nat × Bool) :=
  (upFrom 0 3).findSome? (fun k =>
    let n := fld s.mgmt.domain.toNat (3 * k) 3 + 1
    let d := (fld pkg (3 * k) 3 + n - fld s.self (3 * k) 3 % n) % n
    if d = 0 then none else some (k, decide (n < 2 * d)))

/-- A packet that would take a lost direction makes one hop in the next dimension, where that has a port (R446); a dimension of
extent 1 has none, and the one after it is next (DEDUCED, log entry 98). -/
def State.detour (s : State) (k : Nat) : Bool :=
  match [(k + 1) % 3, (k + 2) % 3].find? (fun j => fld s.mgmt.domain.toNat (3 * j) 3 != 0) with
  | some j => s.dirUp j false || s.dirUp j true
  | none => false

/-- A route leads to a package (R442, R446): it is present, and its first hop or the detour has a port. -/
def State.hasRoute (s : State) (pkg : Nat) : Bool :=
  s.present pkg && (s.firstHop pkg).all (fun h => s.dirUp h.1 h.2 || s.detour h.1)

/-- The number of an owner launch as packets carry it, and as this package holds it (log entry 9). -/
def State.ownOut (s : State) (own : Nat) : Nat := if own < 2 ^ 40 then 2 ^ 40 * (s.self + 1) + own else own
def State.ownIn (s : State) (own : Nat) : Nat := if own / 2 ^ 40 = s.self + 1 then own % 2 ^ 40 else own

/-- The owner launch of a stream ends, here or on its own package (R348, R403, R455). -/
def State.endOwner (s : State) (own st : Nat) : State :=
  if own < 2 ^ 40 then s.killLaunch own st else s.sendPacket (own / 2 ^ 40 - 1) (.endOwner (own % 2 ^ 40) st)

/-- A STREAM trap (R354). -/
def streamWhy (code : Nat) (v : Word) : Why := { cause := cSTREAM, tval := natW (code * 2 ^ 32 + fld v.toNat 0 32) }

/-! Family records (R362 to R367) -/

/-- The index of a record that has moved from a fenced grove: none of its new grove's own contexts (R403; log entry 49). -/
def movedRecord (fam : BitVec 32) : Nat := 1024 + fam.toNat

/-- The record of a family on this package: its grove, index and contents (R362); one that has moved from a fenced grove lies in
another (R403). -/
def State.family (s : State) (fam : BitVec 32) : Option (Nat × Nat × Family) :=
  let g := handleGrove fam.toNat
  let c := handleCtx fam.toNat
  if handlePkg fam.toNat ≠ s.self ∨ 11 < fld fam.toNat 17 4 then none
  else
    match (tabFind (s.grove g).families c).filter (fun f => f.fam == fam) with
    | some f => some (g, c, f)
    | none => s.groves.findSome? (fun v => (tabFind v.2.families (movedRecord fam)).map (fun f => (v.1, movedRecord fam, f)))

/-- A record replaced; a family with no member and an idle join has none (R362). -/
def State.setFamily (s : State) (g c : Nat) (f : Family) : State :=
  let v := s.grove g
  s.setGrove g { v with families := if f.members = [] ∧ f.jst = 0 then tabDel c v.families else tabSet c f v.families }

/-- The order of FP32 values with -0 below +0 (R365). -/
def rankKey (b : BitVec 32) : Int :=
  let m := fld b.toNat 0 31
  if bitAt b.toNat 31 then -(m : Int) - 1 else m

/-- Member `a` ranks before member `b` under OP (R365). -/
def ranksFirst (op : Nat) (a b : Member) : Bool :=
  if op = 2 then decide (a.ford.toNat < b.ford.toNat)
  else
    let x := rankKey a.ret
    let y := rankKey b.ret
    if x = y then decide (a.ford.toNat < b.ford.toNat) else if op = 1 then decide (x < y) else decide (y < x)

/-- A member placed in rank order. -/
def insertRank (op : Nat) (m : Member) : List Member → List Member
  | [] => [m]
  | x :: t => if ranksFirst op m x then m :: x :: t else x :: insertRank op m t

/-- The exact sum of FP32 values, rounded once in RNE, with the special cases of R92 (R365). -/
def exactTotal (vs : List (BitVec 32)) : BitVec 32 :=
  let ts := vs.map (fun v => fmt32.val v.toNat)
  if ts.any (fun t => match t with
    | .fin _ _ _ => false
    | _ => true) ∨ topExp ts = none then BitVec.ofNat 32 (fused mRNE 0 ts 0).1
  else
    let e0 := ts.foldl (fun (r : Int) t => match t with
      | .fin _ _ e => imin r e
      | _ => r) 200
    let v := ts.foldl (fun (r : Int) t => match t with
      | .fin n m e => r + atExp n m e e0
      | _ => r) 0
    BitVec.ofNat 32 (if v = 0 then 0 else (fmt32.round mRNE 0 (decide (v < 0)) v.natAbs e0 false).1)

/-- The class of a member while a join is open: 1 stale, 2 pending, 3 infeasible, 4 candidate (R364). -/
def Family.classOf (f : Family) (m : Member) : Nat :=
  if m.ver.toNat < f.curv.toNat then 1
  else if !m.done then 2
  else if m.inf || (fmt32.val m.ret.toNat).isNan then 3
  else 4

/-- A member is the kept plan. A family's fork ordinals are unique, and survive a migration (R366, R367). -/
def Family.keeps (f : Family) (ford : BitVec 16) : Bool := f.kept != 0 && f.kord == ford

/-- The members other than the kept plan, of one class. -/
def Family.ofClass (f : Family) (k : Nat) : List Member :=
  f.members.filter (fun m => !(f.keeps m.ford) && f.classOf m == k)

/-- The winners in rank order, each with its value (R365). -/
def Family.winners (f : Family) (cs : List Member) : List (Member × BitVec 32) :=
  let op := f.op.toNat
  let ranked := cs.foldl (fun r m => insertRank op m r) []
  let n := if op = 3 then f.k else 1
  (ranked.take n).map (fun m => (m, if op = 2 then exactTotal (cs.map (·.ret)) else m.ret))

/-- The join is to be resolved (R366). -/
def Family.ripe (f : Family) (tick : Nat) : Bool :=
  f.jst == 1 && ((f.ofClass 2).isEmpty || (f.dl != 0 && decide (f.dl.toNat ≤ tick)))

/-- Members taken out of a record by their fork ordinals. -/
def Family.without (f : Family) (os : List (BitVec 16)) : Family :=
  { f with members := f.members.filter (fun m => !(os.contains m.ford)) }

/-- The resolution of an open join: the record, and the handles ordered retired (R366). A member whose handle is still to come
gets its order with it. -/
def Family.resolve (f : Family) : Family × List (BitVec 32) :=
  let cut := f.ofClass 2
  let stale := f.ofClass 1
  let inf := f.ofClass 3
  let c := f.ofClass 4
  let rest := cut ++ stale ++ inf
  let counted := { f with jst := 2, resCand := c.length, resCut := cut.length, resStale := stale.length }
  let (f1, out) : Family × List (BitVec 16 × BitVec 32) :=
    match f.winners c with
    | [] => ({ counted with resW := [], resSt := if inf = [] then 3 else 4 }, [])
    | w :: ws =>
      let won := (w :: ws).map (·.1.ford)
      let lose := (c.filter (fun m => !(won.contains m.ford))).map (fun m => (m.ford, m.handle))
      ({ counted with resSt := 2, resW := (w :: ws).map (fun x => (x.1.handle, x.2, x.1.ford))
                      kept := w.1.handle, kval := w.2, kord := w.1.ford },
       (if f.kept = 0 then [] else [(f.kord, f.kept)]) ++ lose)
  let gone := out ++ rest.map (fun m => (m.ford, m.handle))
  (f1.without (gone.map (·.1)), (gone.map (·.2)).filter (· != 0))

/-- Deliver (R369): the handle, JVAL and JSTAT of rank `r`. -/
def Family.deliver (f : Family) (r : Nat) : Word × Word × Word :=
  let (h, v, o) : BitVec 32 × BitVec 32 × BitVec 16 :=
    if f.resSt = 2 then nth (0, 0, 0) f.resW r else (f.kept, f.kval, f.kord)
  let st := natW (f.resSt + 2 ^ 8 * (f.resCand % 2 ^ 16) + 2 ^ 24 * (f.resCut % 2 ^ 16) + 2 ^ 40 * (f.resStale % 2 ^ 16))
  (natW h.toNat, natW (2 ^ 32 * o.toNat + (if h = 0 then 0 else v.toNat)), st)

/-- An operation waits for the reply of a Samovar or a Strainer (R353, R369). -/
def PendOp.asks : PendOp → Bool
  | .strm _ => true
  | .join _ _ => true
  | _ => false

/-- The operation of a context given its reply, when it is the one sent at that time and waits for one. -/
def Ctx.answered (sent : Nat) (r : Reply) (x : Ctx) : Ctx :=
  match x.pend with
  | some p => if p.op.asks ∧ p.since = sent ∧ p.result = none then { x with pend := some { p with result := some r } } else x
  | none => x

/-- A reply reaches the context that waits for it, resident or saved: it becomes the result of its operation (R353, R369). -/
def State.giveReply (s : State) (dst0 : Word) (sent : Nat) (r : Reply) : State :=
  let dst := s.forwarded dst0
  s.setOwner (ctxOfAddr dst) (BitVec.ofNat 16 dst.toNat) (Ctx.answered sent r)

/-- A reply sent to the context that asked. -/
def State.sendReply (s : State) (dst : Word) (sent : Nat) (r : Reply) : State := s.sendPacket (fld dst.toNat 32 9) (.reply dst sent r)

/-- A record's reply to a context: at once on the record's grove, by packet elsewhere (R370). -/
def State.replyTo (s : State) (g : Nat) (dst : Word) (sent : Nat) (r : Reply) : State :=
  if fld dst.toNat 32 9 = s.self ∧ groveOf (ctxOfAddr dst) = g then s.giveReply dst sent r else s.sendReply dst sent r

/-! The layer table (R342) -/

/-- The entry of a header and function in a grove's layer table. -/
def State.layerFind (s : State) (g vf : Nat) (hdr : Word) : Option (Nat × Layer) :=
  (s.grove g).layers.find? (fun l => l.2.vf == vf && l.2.hdrA == hdr)

/-- What naming a layer header leads to: its entry, no room in the table, or a header or parameters that do not pass. -/
inductive LayerAt where
  | entry (kid : Nat) (s : State)
  | full
  | bad

/-- The layer entry of a header, registered if it is absent (R342). -/
def State.layerFor (s : State) (g vf : Nat) (hdr : Word) (b win : Nat) (loga : Word) (logn : Nat) : LayerAt :=
  match s.layerFind g vf hdr with
  | some (k, l) => if l.b = b ∧ l.win = win ∧ l.loga = loga ∧ l.logn = logn then .entry k s else .bad
  | none =>
    match s.readVirt vf 3 hdr.toNat 256 with
    | none => .bad
    | some (bs, s1) =>
      let n := s1.nextNum
      let x : Launch := { vf := vf, hdr := bs, status := 2, split := true, queued := s.tick
                          lastCtx := s.tick }
      match s1.headerCheck x true with
      | (.error _, _) => .bad
      | (.ok image, s2) =>
        let v := (s2.vf vf).attached
        match tabFree (s2.grove g).layers 64 with
        | none => .full
        | some k =>
          let e : Layer := { vf := vf, hdrA := hdr, b := b, win := win, loga := loga, logn := logn, launch := n }
          let s3 := (s2.setVf vf v).setGrove g { s2.grove g with layers := tabSet k e (s2.grove g).layers }
          .entry k (({ s3 with nextNum := n + 1 } : State).setLaunch n { (x.taken v image) with layerOf := some (g, k) })

/-- A layer entry that no stream context of the grove names any more is freed; its launch ends with its last task (R342). -/
def State.layerCheck (s : State) (g kid : Nat) : State :=
  let v := s.grove g
  match tabFind v.layers kid with
  | none => s
  | some l =>
    if v.streams.any (fun t => (t.2.st != 0 || t.2.arriving) && t.2.kid == kid) then s
    else
      let s1 := (s.binds.filter (fun b => b.2.launch == some l.launch && (s.ctx b.1).status == .free)).foldl (fun r b => r.unbind b.1) s
      let s2 := s1.setGrove g { s1.grove g with layers := tabDel kid (s1.grove g).layers }
      match tabFind s2.launches l.launch with
      | some x => s2.setLaunch l.launch { x with status := 3, layerOf := none }
      | none => s2

/-! Freeing and retiring (R339, R341, R355, R366) -/

/-- The generation after (R337). -/
def nextGen (n : Nat) : Nat := if n = 127 then 1 else n + 1

/-- A status in which a context names its map (R341). -/
def namesMap (st : Nat) : Bool := st == 1 || st == 2 || st == 3 || st == 4 || st == 7

/-- A context of this package that a migration has reserved, by its new handle. -/
def State.arrivingAt (s : State) (h : BitVec 32) : Option (Nat × Nat × Stream) :=
  let g := handleGrove h.toNat
  let c := handleCtx h.toNat
  let t := s.stream g c
  if handlePkg h.toNat = s.self ∧ t.arriving ∧ t.gen = fld h.toNat 0 7 then some (g, c, t) else none

/-- A reservation of this package undone: its pages and its layer entry are given back. -/
def State.dropArriving (s : State) (g c : Nat) : State :=
  let t := s.stream g c
  ((t.resv.foldl (fun r p => r.dropPage g p) s).setStream g c { gen := nextGen t.gen }).layerCheck g t.kid

/-- A context reserved for a migration is given back (R357). -/
def State.unreserve (s : State) (h : BitVec 32) : State :=
  if handlePkg h.toNat ≠ s.self then s.sendPacket (handlePkg h.toNat) (.migDrop h)
  else
    match s.arrivingAt h with
    | some (g, c, _) => s.dropArriving g c
    | none => s

/-- A stream becomes FREE (R337, R339, R341). -/
def State.freeStream (s : State) (g c : Nat) : State :=
  let t := s.stream g c
  let s1 := if namesMap t.st then s.dropMap g t.map else s
  let s2 := if t.migp then s1.unreserve t.newh else s1
  (s2.setStream g c { gen := nextGen t.gen }).layerCheck g t.kid

/-- What retiring does to a stream of this package (R339, R366): the order for a DEPARTING stream waits for it where it arrives,
and a FORWARDING handle leads on to its NEWH. -/
def State.retireHere (s : State) (fam h : BitVec 32) (vf : Nat) (res : Bool := false) : State :=
  match s.arrivingAt h with
  | some (g, c, t) => if t.vf = vf then s.setStream g c { t with dieOnArrival := true } else s
  | none =>
    if s.stale h vf then s
    else
      let g := handleGrove h.toNat
      let c := handleCtx h.toNat
      let t := s.stream g c
      match t.st with
      | 1 => s.freeStream g c
      | 4 => s.freeStream g c
      | 2 => s.setStream g c { t with st := 7, resolved := res }
      | 3 => s.setStream g c { t with st := 7, resolved := res }
      | 5 => { s with net := s.net ++ [.retire fam t.newh vf res none] }
      | 6 => { s with net := s.net ++ [.retire fam t.newh vf res none] }
      | _ => s

/-- A retirement order performed at the Samovar of its stream, with the answer that it carries (R355, R366). -/
def State.performRetire (s : State) (fam h : BitVec 32) (vf : Nat) (res : Bool) (ack : Option (Word × Nat)) : State :=
  let s1 := s.retireHere fam h vf res
  match ack with
  | some (src, sent) => s1.sendReply src sent (.ok 0 0 0 0)
  | none => s1

/-- An order of the record on grove `g`: the Samovar of that grove performs it before anything else happens (R370, R387;
DEDUCED, log entry 88); to any other it travels. -/
def State.order (s : State) (g : Nat) (fam h : BitVec 32) (vf : Nat) (res : Bool) (ack : Option (Word × Nat)) : State :=
  if handlePkg h.toNat = s.self ∧ handleGrove h.toNat = g then s.performRetire fam h vf res ack
  else { s with net := s.net ++ [.retire fam h vf res ack] }

/-! Events of the record (R363 to R367) -/

/-- The record performs its event's end: an open join that is ripe is resolved, every waiting JWAIT receives the result, and the
orders leave (R363, R366, R369). -/
def State.settleFamily (s : State) (g c : Nat) (f : Family) : State :=
  if !(f.ripe s.tick) then s.setFamily g c f
  else
    let (f1, out) := f.resolve
    let (h, jv, js) := f1.deliver 0
    let s1 := s.setFamily g c { f1 with waiters := [] }
    let s2 := f.waiters.foldl (fun r w => r.replyTo g w.1 w.2 (.ok h jv js 0)) s1
    out.foldl (fun r o => r.order g f.fam o f.vf true none) s2

/-- A deadline that has passed is an event of its own, and comes before any later one (R363, R366). -/
def State.due (s : State) (fam : BitVec 32) : State :=
  match s.family fam with
  | some (g, c, f) => if f.ripe s.tick then s.settleFamily g c f else s
  | none => s

/-- An event of a family's record on this package (R363). -/
def State.atRecord (s : State) (fam : BitVec 32) (f : Family → Family) : State :=
  let s1 := s.due fam
  match s1.family fam with
  | some (g, c, x) => s1.settleFamily g c (f x)
  | none => s1

/-- A stream reports to its record (R363). -/
def State.report (s : State) (g c : Nat) : State :=
  let t := s.stream g c
  s.sendPacket (handlePkg t.fam.toNat) (.report t.fam (s.handle g c) t.ford t.ret t.inf t.ver)

/-- A report reaches the record, which knows the member by its FORD: a report of a stream that has moved may come before the
notice of its move, and one of a child forked on another package before the notice of its fork, whose handle it brings (R362, R363,
R371). -/
def State.takeReport (s : State) (fam h : BitVec 32) (ford : BitVec 16) (ret : BitVec 32) (inf : Bool) (ver : BitVec 32) : State :=
  s.atRecord fam (fun f => { f with members := f.members.map (fun m =>
    if m.ford = ford then { m with done := true, ret := ret, inf := inf, ver := ver, handle := if m.handle = 0 then h else m.handle } else m) })

/-- A member's retirement reaches the record (R363, R367). -/
def State.takeGone (s : State) (fam : BitVec 32) (ford : BitVec 16) : State :=
  s.atRecord fam (fun f => { f.without [ford] with kept := if f.keeps ford then 0 else f.kept })

/-- A member's migration reaches the record (R358, R362, R367). -/
def State.takeMoved (s : State) (fam newh : BitVec 32) (ford : BitVec 16) : State :=
  s.atRecord fam (fun f => { f with members := f.members.map (fun m => if m.ford = ford then { m with handle := newh } else m)
                                    kept := if f.keeps ford then newh else f.kept })

/-- A retirement of a stream told to its record: at once on this package. -/
def State.tellGone (s : State) (t : Stream) (h : BitVec 32) : State :=
  if handlePkg t.fam.toNat = s.self then s.takeGone t.fam t.ford
  else s.sendPacket (handlePkg t.fam.toNat) (.gone t.fam h t.ford)

/-- Ordinals of the descendants of the given ones, over a fork list in fork order (R355). -/
def descendants : List (BitVec 16 × BitVec 16) → List (BitVec 16) → List (BitVec 16)
  | [], r => r
  | p :: t, r => descendants t (if r.contains p.2 ∧ !(r.contains p.1) then r ++ [p.1] else r)

/-- SRETIRE.SUB at the record: the stream and its descendants leave the family in one event, and are retired, the named stream
last (R355, R382). On this package that one is retired at once. -/
def State.retireTree (s : State) (fam h : BitVec 32) (ford : BitVec 16) (vf : Nat) (ack : Option (Word × Nat)) : State :=
  let s0 := s.due fam
  let last := fun (r : State) => if handlePkg h.toNat = r.self then r.performRetire fam h vf false ack else { r with net := r.net ++ [.retire fam h vf false ack] }
  match s0.family fam with
  | none => last s0
  | some (g, c, f) =>
    let os := descendants f.tree [ford]
    let hs := ((f.members.filter (fun m => os.contains m.ford)).map (·.handle)).filter (fun k => k != h && k != 0)
    let s1 := s0.settleFamily g c { f.without os with kept := if os.any f.keeps then 0 else f.kept }
    last (hs.foldl (fun r k => r.order g fam k vf false none) s1)

/-- A record takes a child as a member (R356, R362). -/
def State.addMember (s : State) (fam : BitVec 32) (pord : BitVec 16) (m : Member) : State :=
  match s.family fam with
  | some (g, c, f) => s.setFamily g c { f with members := f.members ++ [m], tree := f.tree ++ [(m.ford, pord)] }
  | none => s

/-- A stream is no member of its family any more: the record has sent its retirement order (R366, R367). -/
def State.ordered (s : State) (fam : BitVec 32) (ford : BitVec 16) : Bool :=
  match s.family fam with
  | some (_, _, f) => !(f.members.any (·.ford == ford))
  | none => false

/-- A family's resolution has sent an order that is to retire a stream (R366, R367). -/
def State.orderLeft (s : State) (fam h : BitVec 32) : Bool :=
  s.net.any (fun p => match p with
    | .retire f k _ res _ => f == fam && k == h && res
    | _ => false)

/-- The fork of a stream in its family on this package: the ordinal and the current version (R356). -/
def State.takeOrdinal (s : State) (fam : BitVec 32) : Option (BitVec 16 × BitVec 32 × State) :=
  match s.family fam with
  | none => none
  | some (g, c, f) => if 65535 < f.nord then none else some (BitVec.ofNat 16 f.nord, f.curv, s.setFamily g c { f with nord := f.nord + 1 })

/-- A fork of a stream of another package at its record (R356, R363). -/
def State.takeForkAsk (s : State) (src : Word) (sent vf : Nat) (fam parent : BitVec 32) (pord : BitVec 16) : State :=
  let s0 := s.due fam
  if s0.ordered fam pord then s0.sendReply src sent (.trap cSTREAM (streamWhy 1 (natW parent.toNat)).tval)
  else
    match s0.takeOrdinal fam with
    | none => s0.sendReply src sent (.ok 0 0 0 0)
    | some (o, v, s1) =>
      (s1.addMember fam pord { handle := 0, ford := o, ver := v, par := parent }).sendPacket (handlePkg parent.toNat)
        (.forkGrant src sent vf fam parent o v)

/-- The child of such a fork becomes known to the record: its handle, or 0 where no context was free (R356). A child that the
record has meanwhile ordered retired gets its order now. -/
def State.takeForkDone (s : State) (fam child : BitVec 32) (ord : BitVec 16) : State :=
  if child = 0 then s.atRecord fam (fun f => { f.without [ord] with tree := f.tree.filter (fun p => p.1 != ord) })
  else
    let s1 := s.due fam
    match s1.family fam with
    | none => s1
    | some (g, c, f) =>
      if f.members.any (·.ford == ord) then
        s1.settleFamily g c { f with members := f.members.map (fun m => if m.ford = ord then { m with handle := child } else m) }
      else s1.order g fam child f.vf (f.jst == 2) none

/-! Buckets and batches (R345 to R348) -/

/-- Stream `a` comes before stream `b` in a bucket: it parked in an earlier Caddy cycle of two counts, or in the same one
with the lower handle (R3, R345). -/
def parksFirst (a b : Nat × Stream) : Bool :=
  decide (a.2.since / 2 < b.2.since / 2) || (a.2.since / 2 == b.2.since / 2 && decide (a.1 < b.1))

/-- The members of a bucket in their order (R345). -/
def State.bucket (s : State) (g kid : Nat) (layer : BitVec 16) : List (Nat × Stream) :=
  let ms := (s.grove g).streams.filter (fun t => t.2.st == 1 && t.2.parked && t.2.kid == kid && t.2.layer == layer)
  ms.foldl (fun r m => r.filter (fun x => parksFirst x m) ++ [m] ++ r.filter (fun x => !(parksFirst x m))) []

/-- A batch formed from the oldest members of a bucket (R345, R346). -/
def State.formBatch (s : State) (g kid : Nat) (layer : BitVec 16) : State :=
  match tabFind (s.grove g).layers kid with
  | none => s
  | some l =>
    let rows := (s.bucket g kid layer).take l.b
    if rows = [] then s
    else
      let b : Batch := { kid := kid, layer := layer, rows := rows.map (fun r => s.handle g r.1), bser := l.bser }
      let s1 := rows.foldl (fun r x => r.setStream g x.1 { x.2 with st := 2, parked := false }) s
      let v := s1.grove g
      s1.setGrove g { v with
        batches := v.batches ++ [b]
        layers := tabSet kid { l with bser := if l.bser + 1 = 2 ^ 32 then 1 else l.bser + 1 } v.layers }

/-- A bucket may form a batch: it holds at least B streams, the Caddy cycle in which the last of them parked is over, so that every
tie in it is settled, or its oldest member has waited WIN cycles (R345). -/
def State.batchDue (s : State) (g kid : Nat) (layer : BitVec 16) : Bool :=
  match tabFind (s.grove g).layers kid with
  | none => false
  | some l =>
    let ms := s.bucket g kid layer
    (match ms[l.b - 1]? with
     | some m => decide (0 < l.b ∧ m.2.since / 2 < s.tick / 2)
     | none => false)
    || (match ms.head? with
        | some m => l.win != 0 && decide (m.2.since + l.win ≤ s.tick)
        | none => false)

/-- A stream becomes DONE and reports (R339, R363). -/
def State.becomeDone (s : State) (g c : Nat) : State :=
  (s.setStream g c { s.stream g c with st := 4, parked := false }).report g c

/-- A stream parks in its bucket, `k` Caddy cycles from now, or becomes DONE (R345, R347, R356). -/
def State.parkStream (s : State) (g c : Nat) (k : Nat := 0) : State :=
  let t := s.stream g c
  if t.hor = 0 ∨ t.inf then s.becomeDone g c
  else s.setStream g c { t with st := 1, parked := true, since := s.tick + 2 * k }

/-! Allocation (R344, R356, R357) -/

/-- The lowest free stream context of a grove that works (R401, R402); for a root its family record must be free too (R362). -/
def State.freeStreamCtx (s : State) (g : Nat) (root : Bool) : Option Nat :=
  let v := s.grove g
  if v.fenced || v.testing then none
  else (upFrom 0 1024).find? (fun c => (s.stream g c).st == 0 && !(s.stream g c).arriving && !(root && (tabFind v.families c).isSome))

/-! Migration (R357, R358, R455) -/

/-- The fields of a stream that a CTX packet carries (R358). -/
def State.fieldsOf (s : State) (t : Stream) : StreamFields :=
  { vf := t.vf, own := s.ownOut t.own, npg := t.npg, aq := t.aq, hor := t.hor, kid := BitVec.ofNat 6 t.kid, layer := t.layer, ret := t.ret
    hash := t.hash, ver := t.ver, fam := t.fam, ford := t.ford, par := t.par, inf := t.inf }

/-- Destination of a migration: a context, the layer entry and the frames reserved on a grove of this package; none where
one of them fails (R357). -/
def State.reserveMove (s : State) (g vf own npg : Nat) (old : BitVec 32) (hdr : Word) (b win : Nat) (loga : Word) (logn : Nat) :
    Option (BitVec 32 × State) :=
  match s.freeStreamCtx g false, s.layerFor g vf hdr b win loga logn with
  | some c, .entry k s1 =>
    match s1.newPages g vf own ((upFrom 0 npg).map (fun _ => ([], []))) with
    | none => none
    | some (ps, s2) =>
      let s3 := ps.foldl (fun r p => r.setPage g p { r.page g p with pin := true }) s2
      some (s.handle g c, s3.setStream g c { gen := (s.stream g c).gen, vf := vf, own := own, npg := npg, kid := k, newh := old, arriving := true, resv := ps })
  | _, _ => none

/-- The seed packets of a departure (R358), in the colour of the grove's first core, which counts them (R418; log entry 47). -/
def State.seeds (s : State) (g c : Nat) : List Packet :=
  let t := s.stream g c
  let h := s.handle g c
  let ps := (s.smap g t.map).pages
  let k := some (s.core (24 * g)).colour
  [.seedCtx t.newh h (s.fieldsOf t) k] ++ (((upFrom 0 ps.length).zip ps).map (fun q =>
    let l := s.pageLoc g q.2
    .seedPage t.newh h q.1 (s.cells l pageSize) (s.page g q.2).pin (s.poisonOf l pageSize) k)) ++ [.seedEnd t.newh h k]

/-- The new handle that a seed packet names. -/
def seedOfPacket : Packet → Option (BitVec 32)
  | .seedCtx n _ _ _ => some n
  | .seedPage n _ _ _ _ _ _ => some n
  | .seedEnd n _ _ => some n
  | _ => none

/-- The colour of a seed packet that is still to be counted (R418). -/
def seedColour : Packet → Option Bool
  | .seedCtx _ _ _ k => k
  | .seedPage _ _ _ _ _ _ k => k
  | .seedEnd _ _ k => k
  | _ => none

/-- A seed packet received at its grove, where it is counted once under its own colour (R418; log entry 47). -/
def State.countSeed (s : State) (p : Packet) : State :=
  match seedOfPacket p, seedColour p with
  | some h, some k => s.countRecv (24 * handleGrove h.toNat) k
  | _, _ => s

/-- A stream becomes DEPARTING: its packets leave, and its map reference is dropped (R358). Toward another package a map of
its own is kept until each page is acknowledged (R455); `map` is 1024 when the context names none. -/
def State.depart (s : State) (g c : Nat) : State :=
  let t := s.stream g c
  let away := handlePkg t.newh.toNat ≠ s.self
  let s1 := (s.smap g t.map).pages.foldl (fun r p => r.touch g p) s
  let s2 := (s.seeds g c).foldl (fun r p => (r.sendPacket (handlePkg t.newh.toNat) p).countSent (24 * g)) s1
  let keep := decide away && decide ((s.smap g t.map).mref ≤ 1)
  (if keep then s2 else s2.dropMap g t.map).setStream g c
    { t with st := 5, parked := false, migp := false, map := if keep then t.map else 1024 }

/-- A row of a halted layer task is settled (R347). -/
def State.settleRow (s : State) (g : Nat) (h : BitVec 32) (k : Nat) : State :=
  let c := handleCtx h.toNat
  let t := s.stream g c
  if t.gen ≠ fld h.toNat 0 7 then s
  else if t.st = 7 then s.freeStream g c
  else if t.st ≠ 3 then s
  else if t.migp then s.depart g c
  else s.parkStream g c k

/-- A child forked during a task parks after its row (R347, R356). -/
def State.settleFork (s : State) (g : Nat) (row h : BitVec 32) (k : Nat) : State :=
  let c := handleCtx h.toNat
  let t := s.stream g c
  if t.st = 1 ∧ !t.parked ∧ t.gen = fld h.toNat 0 7 ∧ t.par = row then s.parkStream g c k else s

/-- The rows of a batch in row order, each followed by the children forked meanwhile: the row, and the child where it is one. -/
def Batch.order (b : Batch) : List (BitVec 32 × Option (BitVec 32)) :=
  (b.rows.map (fun h => (h, none) :: b.forks.map (fun f => (h, some f)))).flatten

/-- The batch that a context ran is settled and leaves the Samovar: one stream in a Caddy cycle (R345, R347; DEDUCED, log entry
89). -/
def State.settleBatch (s : State) (c : Nat) : State :=
  match s.groves.findSome? (fun v => (v.2.batches.find? (fun b => b.ctx == some c)).map (fun b => (v.1, b))) with
  | none => s
  | some (g, b) =>
    let s1 := s.setGrove g { s.grove g with batches := (s.grove g).batches.filter (fun x => x.ctx != some c) }
    (b.order.zip (upFrom 0 b.order.length)).foldl (fun r x =>
      match x.1.2 with
      | none => r.settleRow g x.1.1 x.2
      | some f => r.settleFork g x.1.1 f x.2) s1

/-- A batch that has not started, or runs, holds a row: its children forked meanwhile are noted (R356). -/
def State.noteFork (s : State) (g : Nat) (row child : BitVec 32) : State :=
  let v := s.grove g
  s.setGrove g { v with batches := v.batches.map (fun b => if b.rows.contains row then { b with forks := b.forks ++ [child] } else b) }

/-! The forms that a Samovar performs (R354 to R357) -/

/-- What a form answers: rd and flags; a trap; a wait; a reload to wait for; or a question to another package. -/
inductive StrmAns where
  | ok (v : Word) (flags : BitVec 6) (s : State)
  | trap (w : Why)
  | wait
  | stall (g p : Nat)
  | ask (pkg : Nat) (p : Word → Nat → Packet)

/-- SSTAT's status word (R355). -/
def statWord (t : Stream) : Word :=
  let hi := if t.st = 6 then 2 ^ 32 * t.newh.toNat else 2 ^ 48 * t.hor.toNat + 2 ^ 32 * t.layer.toNat
  natW (hi + 2 ^ 26 * t.kid + 2 ^ 19 * t.npg + 2 ^ 14 * t.aq.length + 2 ^ 13 * b2n t.inf + t.st)

/-- The statuses that a form allows (R355 to R357). -/
def formAllows (f : StrmForm) (st : Nat) : Bool :=
  match f with
  | .next => st == 3
  | .infeas => st == 1 || st == 2 || st == 3
  | .apush => st != 7
  | .apop => st != 7
  | .stat => true
  | .pin => true
  | .unpin => true
  | _ => st == 1 || st == 2 || st == 3 || st == 4

/-- A handle is a row of the batch of a context of this package (R354). -/
def State.isRow (s : State) (c : Nat) (h : BitVec 32) : Bool :=
  let r := (s.ctx c).regs
  (upFrom 0 (r.csrAt csrSBN).toNat).any (fun k => r.csrAt (csrSB0 + k) == natW h.toNat)

/-- A page of a stream's map is to be written by a held store of an unresolved collective branch (R478). -/
def State.mapHeld (s : State) (g m : Nat) : Bool := (s.smap g m).pages.any (fun p => s.heldPage g p)

/-- The child of stream `c` of grove `g`; none where no context is free (R356). -/
def State.birth (s : State) (g c : Nat) (o : BitVec 16) (v : BitVec 32) : Option (BitVec 32 × State) :=
  let t := s.stream g c
  let h := s.handle g c
  (s.freeStreamCtx g false).map (fun k =>
    let x : Stream := { st := 1, gen := (s.stream g k).gen, vf := t.vf, own := t.own, map := t.map, npg := t.npg, aq := t.aq
                        hor := t.hor, kid := t.kid, layer := t.layer, ret := t.ret, hash := t.hash, ver := v, fam := t.fam
                        ford := o, par := h, inf := t.inf }
    let s1 := (s.setStream g k x).setMap g t.map { s.smap g t.map with mref := (s.smap g t.map).mref + 1 }
    let ch := s1.handle g k
    (ch, if t.st = 2 ∨ t.st = 3 then s1.noteFork g h ch else s1.parkStream g k))

/-- SFORK of stream `c` of grove `g` (R356): where the family's record is on another package, the ordinal is asked for there,
and the fork is performed when it comes (log entry 11). -/
def State.fork (s : State) (g c : Nat) : StrmAns :=
  let t := s.stream g c
  let h := s.handle g c
  if s.mapHeld g t.map then .wait
  else if handlePkg t.fam.toNat ≠ s.self then .ask (handlePkg t.fam.toNat) (fun src n => .forkAsk src n t.vf t.fam h t.ford)
  else
    let s0 := s.due t.fam
    if s0.ordered t.fam t.ford ∨ s0.orderLeft t.fam h then .trap (streamWhy 1 (natW h.toNat))
    else
      match s0.takeOrdinal t.fam with
      | none => .ok 0 0 s0
      | some (o, v, s1) =>
        match s1.birth g c o v with
        | none => .ok 0 0 s1
        | some (ch, s2) =>
          .ok (natW ch.toNat) 0 (s2.addMember t.fam t.ford { handle := ch, ford := o, ver := v, ret := t.ret, inf := t.inf, par := h })

/-- A handle of this package that an answer names is checked again, since its stream may have changed (R354). -/
def State.recheck (s : State) (vf : Nat) (form : StrmForm) (h : BitVec 32) : Option Why :=
  let t := s.streamOf h
  if s.stale h vf then some (streamWhy 1 (natW h.toNat))
  else if t.st = 5 ∨ t.st = 6 then some { cause := cMOVED, tval := natW t.newh.toNat }
  else if form = .fork ∧ t.st = 7 ∧ t.resolved then some (streamWhy 1 (natW h.toNat))
  else if !(formAllows form t.st) then some (streamWhy 3 (natW h.toNat))
  else none

/-- The record's answer to a fork reaches the parent's Samovar; none while the parent's map is kept by a held store (R356,
R478). -/
def State.takeForkGrant (s : State) (src : Word) (sent vf : Nat) (fam parent : BitVec 32) (o : BitVec 16) (v : BitVec 32) : Option State :=
  let g := handleGrove parent.toNat
  let c := handleCtx parent.toNat
  let done := fun (r : State) (ch : BitVec 32) => r.sendPacket (handlePkg fam.toNat) (.forkDone fam ch o)
  match s.recheck vf .fork parent with
  | some w => some ((done s 0).sendReply src sent (.trap w.cause w.tval))
  | none =>
    if s.mapHeld g (s.stream g c).map then none
    else
      match s.birth g c o v with
      | none => some ((done s 0).sendReply src sent (.ok 0 0 0 0))
      | some (ch, s1) => some ((done s1 ch).sendReply src sent (.ok (natW ch.toNat) 0 0 0))

/-- SMIG's destination operand fails a check (R357). -/
def State.migTrap (s : State) (g : Nat) (user : Option Nat) (x : Word) : Option Why :=
  if x.toNat % 2 ^ 17 ≠ 0 ∨ (handlePkg x.toNat = s.self ∧ x.toNat < 2 ^ 32 ∧ fld x.toNat 17 4 < 12 ∧ handleGrove x.toNat = g) then
    some { cause := cILLEGAL, tval := x }
  else if s.handleProt x user then some { cause := cPROT, tval := x }
  else none

/-- A stream takes its new handle and departs, at once or when its task halts (R357). -/
def State.startMove (s : State) (g c : Nat) (newh : BitVec 32) : State :=
  let t := s.stream g c
  let s1 := if t.migp then s.unreserve t.newh else s
  let s2 := s1.setStream g c { t with newh := newh, migp := true }
  if t.st = 1 ∨ t.st = 4 then s2.depart g c else s2

/-- SMIG of stream `c` of grove `g` (R357). -/
def State.migrate (s : State) (g c : Nat) (user : Option Nat) (x : Word) : StrmAns :=
  let t := s.stream g c
  match s.migTrap g user x with
  | some w => .trap w
  | none =>
    match tabFind (s.grove g).layers t.kid with
    | none => .ok 0 0 s
    | some l =>
      let h := s.handle g c
      if handlePkg x.toNat ≠ s.self then
        .ask (handlePkg x.toNat) (fun src n =>
          .migReq src n h (handleGrove x.toNat) (s.fieldsOf t) (s.quotaOf t.own) l.hdrA l.loga l.b l.win l.logn)
      else
        match s.reserveMove (handleGrove x.toNat) t.vf t.own t.npg h l.hdrA l.b l.win l.loga l.logn with
        | none => .ok 0 0 s
        | some (nh, s1) => .ok (natW nh.toNat) 0 (s1.startMove g c nh)

/-- A grove of this package asked to take a stream of another one (R351, R357). -/
def State.takeMigReq (s : State) (src : Word) (sent : Nat) (old : BitVec 32) (g : Nat) (f : StreamFields) (quota : Nat) (hdr loga : Word)
    (b win logn : Nat) : State :=
  let own := s.ownIn f.own
  let s0 := if own < 2 ^ 40 then s else { s with quotas := tabSet own quota s.quotas }
  match s0.reserveMove g f.vf own f.npg old hdr b win loga logn with
  | some (h, s1) => s1.sendPacket (handlePkg old.toNat) (.migGrant src sent f.vf old h)
  | none => s.sendPacket (handlePkg old.toNat) (.migGrant src sent f.vf old 0)

/-- The answer of a grove of another package reaches the stream's Samovar (R357). -/
def State.takeMigGrant (s : State) (src : Word) (sent vf : Nat) (old newh : BitVec 32) : State :=
  if newh = 0 then s.sendReply src sent (.ok 0 0 0 0)
  else
    match s.recheck vf .mig old with
    | some w => (s.unreserve newh).sendReply src sent (.trap w.cause w.tval)
    | none => (s.startMove (handleGrove old.toNat) (handleCtx old.toNat) newh).sendReply src sent (.ok (natW newh.toNat) 0 0 0)

/-- A STRM form on a handle of this package (R354 to R357): `iss` is the issuing context when it is one of this package. -/
def State.strmOp (s : State) (iss : Option Nat) (vf : Nat) (form : StrmForm) (v x : Word) : StrmAns :=
  let user := iss.map groveOf
  if s.handleProt v user then .trap { cause := cPROT, tval := v }
  else
    let h : BitVec 32 := BitVec.ofNat 32 v.toNat
    let g := handleGrove h.toNat
    let c := handleCtx h.toNat
    let t := s.stream g c
    if s.stale h vf then (if form = .stat then .ok 0 0 s else .trap (streamWhy 1 v))
    else if (t.st = 5 ∨ t.st = 6) ∧ form ≠ .stat then .trap { cause := cMOVED, tval := natW t.newh.toNat }
    else if form = .next ∧ !(iss.any (fun k => s.isRow k h)) then .trap (streamWhy 6 v)
    else if form = .fork ∧ t.st = 7 ∧ t.resolved then .trap (streamWhy 1 v)
    else if !(formAllows form t.st) then .trap (streamWhy 3 v)
    else
      match form with
      | .stat => .ok (statWord t) 0 s
      | .fork => s.fork g c
      | .mig => s.migrate g c user x
      | .next =>
        let kid := fld x.toNat 16 6
        if fld x.toNat 22 41 ≠ 0 ∨ !((tabFind (s.grove g).layers kid).any (fun l => l.vf == vf)) ∨ (bitAt x.toNat 63 ∧ t.hor = 0) then
          .trap { cause := cILLEGAL, tval := x }
        else
          let t1 := { t with layer := BitVec.ofNat 16 x.toNat, kid := kid, hor := if bitAt x.toNat 63 then t.hor - 1 else t.hor }
          .ok 0 0 ((s.setStream g c t1).layerCheck g t.kid)
      | .ret =>
        let (r, fl) := fmt32.add mRNE 0 (fmt32.val t.ret.toNat) (fmt32.val (fld x.toNat 0 32))
        let s1 := s.setStream g c { t with ret := BitVec.ofNat 32 r }
        .ok 0 (BitVec.ofNat 6 fl) (if t.st = 4 then s1.report g c else s1)
      | .infeas =>
        let s1 := s.setStream g c { t with inf := true }
        .ok 0 0 (if t.st = 1 then s1.becomeDone g c else s1)
      | .retire => .ok 0 0 ((s.retireHere t.fam h vf).tellGone t h)
      | .retireSub =>
        if handlePkg t.fam.toNat = s.self then .ok 0 0 (s.retireTree t.fam h t.ford vf none)
        else .ask (handlePkg t.fam.toNat) (fun src n => .subAsk src n vf t.fam h t.ford)
      | .apush => if t.aq.length < 16 then .ok 1 0 (s.setStream g c { t with aq := t.aq ++ [x] }) else .ok 0 0 s
      | .apop =>
        match t.aq with
        | [] => .trap (streamWhy 4 v)
        | w :: r => .ok w 0 (s.setStream g c { t with aq := r })
      | .pin =>
        if t.npg ≤ x.toNat then .trap (streamWhy 5 v)
        else
          let p := nth 0 (s.smap g t.map).pages x.toNat
          let e := s.page g p
          if e.spl then
            (match s.reachPage g p with
             | .noFrame => .trap { cause := cQUOTA, tval := v }
             | _ => .stall g p)
          else .ok 0 0 (s.setPage g p { e with pin := true })
      | .unpin =>
        if t.npg ≤ x.toNat then .trap (streamWhy 5 v)
        else
          let p := nth 0 (s.smap g t.map).pages x.toNat
          .ok 0 0 (s.setPage g p { s.page g p with pin := false })

/-! The JOIN forms at a record (R369) -/

/-- What a JOIN form answers: rd, JVAL and JSTAT; a trap; or a wait at the record. -/
inductive JoinAns where
  | ok (v jval jstat : Word) (s : State)
  | trap (w : Why)
  | waits (s : State)

/-- A JOIN trap (R369). -/
def joinWhy (code : Nat) (v : Word) : Why := { cause := cJOIN, tval := natW (code * 2 ^ 32 + fld v.toNat 0 32) }

/-- A JOIN form performed at the family record, for the context at `src`, which sent it at the given time (R369). A JWAIT that a gang
switch has abandoned and that arrives after the one sent again changes nothing. -/
def State.joinOp (s0 : State) (user : Option Nat) (src : Word) (sent vf : Nat) (form : JoinForm) (v x dl : Word) : JoinAns :=
  let s := s0.due (BitVec.ofNat 32 v.toNat)
  if s.handleProt v user then .trap { cause := cPROT, tval := v }
  else
    match (s.family (BitVec.ofNat 32 v.toNat)).filter (fun r => r.2.2.vf == vf) with
    | none => .trap (joinWhy 1 v)
    | some (g, c, f) =>
      match form with
      | .jopen =>
        let op := fld x.toNat 0 2
        let k := fld x.toNat 2 3
        if fld x.toNat 5 27 ≠ 0 ∨ (op ≠ 3 ∧ k ≠ 0) ∨ (op = 3 ∧ (k = 0 ∨ 4 < k)) then .trap { cause := cILLEGAL, tval := x }
        else if fld x.toNat 32 32 < f.curv.toNat then .trap (joinWhy 3 v)
        else if f.jst = 1 ∧ (f.op.toNat ≠ op ∨ f.k ≠ k) then .trap (joinWhy 4 v)
        else
          .ok 0 0 0 (s.settleFamily g c { f with op := BitVec.ofNat 2 op, k := k, curv := BitVec.ofNat 32 (fld x.toNat 32 32), dl := dl, jst := 1 })
      | .jwait =>
        if f.jst = 0 then .trap (joinWhy 2 v)
        else if f.jst = 2 then
          let (h, jv, js) := f.deliver 0
          .ok h jv js s
        else if f.waiters.any (fun w => w.1 == src && decide (sent < w.2)) then .waits s
        else .waits (s.setFamily g c { f with waiters := f.waiters.filter (fun w => w.1 != src) ++ [(src, sent)] })
      | .jpoll =>
        if f.jst = 0 then .trap (joinWhy 2 v)
        else if max f.k 1 ≤ x.toNat then .trap (joinWhy 5 v)
        else if f.jst = 1 then .ok 0 0 1 s
        else
          let (h, jv, js) := f.deliver x.toNat
          .ok h jv js s
      | .jclose =>
        if x.toNat / 2 ≠ 0 then .trap { cause := cILLEGAL, tval := x }
        else
          let rk := bitAt x.toNat 0 && f.kept != 0
          let f1 := if rk then f.without [f.kord] else f
          let s1 := s.setFamily g c { f1 with jst := 0, waiters := [], kept := if rk then 0 else f.kept }
          let s2 := if rk then s1.order g f.fam f.kept f.vf false none else s1
          .ok 0 0 0 (f.waiters.foldl (fun r w => r.replyTo g w.1 w.2 (.trap cJOIN (joinWhy 6 v).tval)) s2)

end Sys2Proof.Machine
end

