-- ==== Sys2Proof/Machine/Stream.lean ====
section
/-! DEFINITION. Streams: the STRM forms (R343, R344, R353 to R357). -/

namespace Sys2Proof.Machine

/-! Packets that arrive (R246, R358, R446) -/

/-- The packets of a flow whose turn has come enter the mesh in their order, and the sequence number that is next (R446). -/
def inTurn (f : Nat) : Nat → Nat → List (Nat × Nat × Packet) → List Packet × Nat
  | 0, q, _ => ([], q)
  | k + 1, q, es =>
    match es.find? (fun e => e.1 == f && e.2.1 == q) with
    | some e => let (ps, r) := inTurn f k (q + 1) es; (e.2.2 :: ps, r)
    | none => ([], q)

/-- The flow `f` goes on past its packet `q`: what came early and has its turn now enters the mesh (R446). -/
def State.flowOn (s : State) (f q : Nat) : State :=
  let (ps, r) := inTurn f s.early.length (q + 1) s.early
  { s with net := s.net ++ ps, flows := tabSet f r s.flows
           early := s.early.filter (fun e => e.1 != f || decide (r ≤ e.2.1)) }

/-- A packet in flight in this package or from a link, taken from where it is; none of a link before its turn in its flow
(R446). -/
def State.takePacket (s : State) : Arrival → Option (Packet × State)
  | .net n => (s.net[n]?).map (fun p => (p, { s with net := dropNth s.net n }))
  | .leaf f q p => if q = tabGet 0 s.flows f then some (p, s.flowOn f q) else none

/-- A packet that is not yet taken: in the mesh it stays where it is, and one from a link enters the mesh in its turn, waits in the
I/O die before it, and is dropped when its number has passed (R446, R447). -/
def State.land (s : State) : Arrival → State
  | .net _ => s
  | .leaf f q p =>
    if q = tabGet 0 s.flows f then ({ s with net := s.net ++ [p] } : State).flowOn f q
    else if tabGet 0 s.flows f < q ∧ !(s.early.any (fun e => e.1 == f && e.2.1 == q)) then { s with early := s.early ++ [(f, q, p)] }
    else s

/-- What an arrival brings; where it is none of the kind, or must wait, the packet is not yet taken. -/
def State.arrives (s : State) (a : Arrival) (f : State → Packet → Option State) : State :=
  ((s.takePacket a).bind (fun p => f p.2 p.1)).getD (s.land a)

/-- No packet with the same key as the arriving one is in flight before it. -/
def State.inOrder {K : Type} [DecidableEq K] (s : State) (key : Packet → Option K) : Arrival → Bool
  | .net n =>
    match (s.net[n]?).bind key with
    | some k => !((s.net.take n).any (fun p => decide (key p = some k)))
    | none => false
  | .leaf _ _ p =>
    match key p with
    | some k => !(s.net.any (fun p => decide (key p = some k)))
    | none => false

/-- Whether a form's answer has all of what it needs: what a Samovar answers becomes the end of the word (R353). -/
def StrmAns.res (h : Word) (d : Option (BitVec 5)) (s : State) : StrmAns → Res
  | .ok v fl s1 =>
    .done (((match d with
      | some r => s.putWithin s1 r.toNat v
      | none => s.within s1)).orFlags fl.toNat)
  | .trap w => .trap w
  | .wait => .wait
  | .stall g p => .stall g p
  | .ask pkg f => (s.sendPacket pkg (f (s.caddr s.cur) s.tick)).send (.strm h)

/-- A STRM form that names a stream by handle (R353 to R357): performed at once by the own grove's Samovar, sent to that of
any other grove. -/
def strmForm (i : Sig) (form : StrmForm) (d : Option (BitVec 5)) (a : BitVec 5) (b : Option (BitVec 5)) (s : State) : Out :=
  issue i s fun s =>
    s.whenDone (fun s =>
      let v := s.rx 1 a.toNat
      let x := match b with
        | some r => s.rx 2 r.toNat
        | none => 0
      if s.handleProt v (some (groveOf s.cur)) then .trap { cause := cPROT, tval := v }
      else if s.acquiring then .wait
      else if handlePkg v.toNat = s.self ∧ handleGrove v.toNat = groveOf s.cur then
        (s.strmOp (some s.cur) s.me.vf form v x).res v d s
      else
        (s.sendPacket (handlePkg v.toNat) (.strmReq (s.caddr s.cur) s.tick s.me.vf form v x)).send (.strm v))
      (fun q v _ _ fl =>
        .done (((match d with
          | some r => q.putX r.toNat v
          | none => q)).orFlags fl))

/-- The fields of a spawn descriptor (R343). -/
structure SpawnDesc where
  hdr : Word
  src : Word
  layer : BitVec 16
  hor : BitVec 16
  npg : Nat
  b : Nat
  zf : Bool
  ver : BitVec 32
  win : Nat
  loga : Word
  logn : Nat
  hash : BitVec 128

/-- A spawn descriptor read from its eight words; none where it breaks R343. -/
def spawnDesc (ws : List Word) : Option SpawnDesc :=
  let w := descWord ws
  let d : SpawnDesc := {
    hdr := natW (w 0), src := natW (w 1), layer := BitVec.ofNat 16 (fld (w 2) 48 16), hor := BitVec.ofNat 16 (fld (w 2) 32 16)
    npg := fld (w 2) 25 7, b := fld (w 2) 20 5, zf := bitAt (w 2) 0, ver := BitVec.ofNat 32 (fld (w 3) 32 32)
    win := fld (w 3) 0 32, loga := natW (w 4), logn := fld (w 5) 0 32, hash := BitVec.ofNat 128 (w 6 + 2 ^ 64 * w 7) }
  if w 0 % 256 = 0 ∧ w 1 % 64 = 0 ∧ (d.zf → w 1 = 0) ∧ d.hor ≠ 0 ∧ d.npg ≤ 64 ∧ 1 ≤ d.b ∧ d.b ≤ 16 ∧ fld (w 2) 1 19 = 0
    ∧ w 4 % 128 = 0 ∧ fld (w 5) 32 32 = 0 ∧ (d.logn = 0 ↔ w 4 = 0) then some d else none

/-- What the translations of the source of a spawn give: its reads with the state after them, a trap, or a wait. -/
inductive SrcRead where
  | reads (ps : List Piece) (s : State)
  | trap (w : Why)
  | wait

/-- The reads of `n` blocks of 64 bytes at a tagged address from place `j`, made as relaxed loads of the current context (R303,
R344). -/
def State.readTagged (s : State) : Nat → Nat → Word → SrcRead
  | 0, _, _ => .reads [] s
  | n + 1, j, a =>
      match s.tagged a 64 .load with
      | .trap y => .trap { y with tval := a }
      | .fault kind => .trap (pageTrap a .load kind)
      | .at_ l leaf s1 =>
        match s1.poisonedLoc l 64 with
        | some u => .trap { cause := cMCE, tval := a, unit := u, acc := accCode .load }
        | none =>
          if s1.ownWaits l || (tagOf a == 0 && s1.ringOverlap a.toNat 64) then .wait
          else
            match (if tagOf a = 0 then s1.countBytes s.me.vf a.toNat 64 else some s1) with
            | none => .wait
            | some s2 =>
              match s2.readTagged n (j + 8) (a + 64) with
              | .reads ps s3 => .reads (piecesFrom j l 64 a (l.uc leaf) ++ ps) s3
              | r => r

/-- The contents of `n` pages whose words have been read from place `j` on. -/
def pagesOf (t : Tab Word) : Nat → Nat → List (List Host.Cell × List Nat)
  | 0, _ => []
  | n + 1, j =>
    let bs := ((wordsFrom t j (pageSize / 8)).map (fun w => bytesOf 8 w.toNat)).flatten
    ((((upFrom 0 pageSize).zip bs).filter (fun p => p.2 != 0)), []) :: pagesOf t n (j + pageSize / 8)

/-- The root stream and family record of a spawn, with its pages reserved and filled (R344, R362). -/
def State.spawn (s : State) (g c own kid : Nat) (d : SpawnDesc) (ps : List Nat) : Word × State :=
  match s.freeMap g with
  | none => (0, s)
  | some m =>
    let gen := (s.stream g c).gen
    let h := handleOf s.self g c gen
    let x : Stream := { st := 1, gen := gen, vf := s.me.vf, own := own, map := m, npg := d.npg, hor := d.hor, kid := kid
                        layer := d.layer, hash := d.hash, ver := d.ver, fam := h }
    let f : Family := { fam := h, vf := s.me.vf, own := own, curv := d.ver, members := [{ handle := h, ford := 0, ver := d.ver }] }
    (natW h.toNat, (((s.setMap g m { mref := 1, pages := ps }).setStream g c x).setFamily g c f).parkStream g c)

/-- SSPAWN (R344). -/
def execSspawn (sm l : Bool) (d a : BitVec 5) (t : Bool) (s : State) : Out :=
  issue (cSig (.sspawn sm l d a t)) s fun s =>
    let p := s.rx 1 a.toNat
    let g := groveOf s.cur
    s.whenRead
      (fun s =>
        match s.checkAddr 1 p 64 .load, s.scrLoc s.cur p.toNat 64 with
        | some y, _ => .trap y
        | none, none => .trap { cause := cPROT, tval := p, acc := accCode .load }
        | none, some l =>
          match s.poisonedLoc l 64 with
          | some u => .trap { cause := cMCE, tval := p, unit := u, acc := accCode .load }
          | none =>
            if s.acquiring || s.ownWaits l || s.readBlocked s.cur s.me.nseq l 64 then .wait
            else s.sendReads (accCode .load) [] (piecesFrom 0 l 64 p none))
      (fun s w =>
        match spawnDesc (wordsFrom w 0 8), s.me.task, s.launchOf s.cur with
        | none, _, _ => .trap { cause := cILLEGAL, tval := p }
        | some y, some t, some ln =>
          if ln.quota = 0 then .trap { cause := cQUOTA, tval := p }
          else
            match s.layerFor g s.me.vf y.hdr y.b y.win y.loga y.logn with
            | .bad => .trap { cause := cILLEGAL, tval := p }
            | .full => .done (s.putX d.toNat 0)
            | .entry kid s1 =>
              match s1.freeStreamCtx g true with
              | none => .done (s.putX d.toNat 0)
              | some c =>
                let fill := fun (q : State) (ps : List (List Host.Cell × List Nat)) =>
                  match q.newPages g s.me.vf t.launch ps with
                  | none => Res.trap { cause := cQUOTA, tval := p }
                  | some (qs, s2) =>
                    let r := s2.spawn g c t.launch kid y qs
                    .done (s.putWithin r.2 d.toNat r.1)
                let blank := (upFrom 0 y.npg).map (fun _ => (([] : List Host.Cell), ([] : List Nat)))
                if y.zf || y.npg == 0 then fill s1 blank
                else if (tabFind w 8).isSome then fill s1 (pagesOf w y.npg 8)
                else
                  match fill s1 blank, s.readTagged (256 * y.npg) 8 y.src with
                  | .done _, .reads ps s3 => s3.sendReads (accCode .load) w ps
                  | .done _, .trap y => .trap y
                  | .done _, .wait => .wait
                  | r, _ => r
        | some _, _, _ => .trap { cause := cQUOTA, tval := p })
      (fun q _ _ _ _ => .done q)

/-- SFORK (R356). -/
def execSfork (sm l : Bool) (d a : BitVec 5) (t : Bool) (s : State) : Out :=
  strmForm (cSig (.sfork sm l d a t)) .fork (some d) a none s

/-- SNEXT (R355). -/
def execSnext (sm l : Bool) (a b : BitVec 5) (t u : Bool) (s : State) : Out :=
  strmForm (cSig (.snext sm l a b t u)) .next none a (some b) s

/-- SRET (R355). -/
def execSret (sm l : Bool) (a b : BitVec 5) (t u : Bool) (s : State) : Out :=
  strmForm (cSig (.sret sm l a b t u)) .ret none a (some b) s

/-- SRETIRE (R355). -/
def execSretire (sm l : Bool) (a : BitVec 5) (t : Bool) (s : State) : Out :=
  strmForm (cSig (.sretire sm l a t)) .retire none a none s

/-- SRETIRE_SUB (R355). -/
def execSretireSub (sm l : Bool) (a : BitVec 5) (t : Bool) (s : State) : Out :=
  strmForm (cSig (.sretireSub sm l a t)) .retireSub none a none s

/-- SMIG (R357). -/
def execSmig (sm l : Bool) (d a b : BitVec 5) (t u : Bool) (s : State) : Out :=
  strmForm (cSig (.smig sm l d a b t u)) .mig (some d) a (some b) s

/-- SINFEAS (R355). -/
def execSinfeas (sm l : Bool) (a : BitVec 5) (t : Bool) (s : State) : Out :=
  strmForm (cSig (.sinfeas sm l a t)) .infeas none a none s

/-- SAPUSH (R355). -/
def execSapush (sm l : Bool) (d a b : BitVec 5) (t u : Bool) (s : State) : Out :=
  strmForm (cSig (.sapush sm l d a b t u)) .apush (some d) a (some b) s

/-- SAPOP (R355). -/
def execSapop (sm l : Bool) (d a : BitVec 5) (t : Bool) (s : State) : Out :=
  strmForm (cSig (.sapop sm l d a t)) .apop (some d) a none s

/-- SSTAT (R355). -/
def execSstat (sm l : Bool) (d a : BitVec 5) (t : Bool) (s : State) : Out :=
  strmForm (cSig (.sstat sm l d a t)) .stat (some d) a none s

/-- SPIN (R355). -/
def execSpin (sm l : Bool) (a b : BitVec 5) (t u : Bool) (s : State) : Out :=
  strmForm (cSig (.spin sm l a b t u)) .pin none a (some b) s

/-- SUNPIN (R355). -/
def execSunpin (sm l : Bool) (a b : BitVec 5) (t u : Bool) (s : State) : Out :=
  strmForm (cSig (.sunpin sm l a b t u)) .unpin none a (some b) s

end Sys2Proof.Machine
end

