-- ==== Sys2Proof/Machine/EvCollective.lean ====
section
/-! DEFINITION. Arriving messages and contributions, timetables, results of rounds, and deadlock (R246 to R262). -/

namespace Sys2Proof.Machine

/-! Messages (R241, R246 to R249, R416) -/

/-- The sender and destination of a message packet, under the addresses that they have now (R246, R416). -/
def State.flowOf (s : State) : Packet → Option (Word × Word)
  | .msg m => some (s.forwarded m.src, s.forwarded m.dst)
  | _ => none

/-- A message of a flow lies in a drop buffer, from where it is re-injected (R415, R416). -/
def State.inDrop (s : State) (f : Word × Word) : Bool :=
  s.parts.any (fun p => p.2.drop.any (fun q => s.flowOf q == some f)
    || p.2.saved.any (fun v => v.drop.any (fun q => s.flowOf q == some f)))

/-- Messages from one context to another arrive in order: none of the same sender and destination is still in flight before it
(R246). -/
def State.msgInOrder (s : State) (a : Arrival) : Bool := s.inOrder s.flowOf a

/-- A packet put in a drop buffer behind the one of its flow that lies there. -/
def State.behind (s : State) (f : Word × Word) (p : Packet) (ps : List Packet) : List Packet :=
  if ps.any (fun q => s.flowOf q == some f) then ps ++ [p] else ps

/-- A message whose flow has one in a drop buffer enters it behind that one, and is counted (R246, R415, R418). -/
def State.dropBehind (s : State) (f : Word × Word) (m : Msg) : State :=
  let put := s.behind f (.msg { m with counted := true })
  let s1 := s.countMsg m
  { s1 with parts := s1.parts.map (fun p => (p.1, { p.2 with
      drop := put p.2.drop, saved := p.2.saved.map (fun v => { v with drop := put v.drop }) })) }

/-- The inbox entries of a message (R241). -/
def inMsgOf (m : Msg) : InMsg :=
  { words := natW (2 ^ 62 * m.sz.toNat + m.src.toNat % 2 ^ 62) :: (lanesOf 64 (2 ^ m.sz.toNat) m.payload.toNat).map natW }

/-- A message put in the save area of the saved context `c` (R249). -/
def State.saveMail (s : State) (c : Nat) (gen : BitVec 16) (m : Msg) : State :=
  { s with parts := s.parts.map (fun p => (p.1, { p.2 with saved := p.2.saved.map (fun v => { v with cores := v.cores.map (fun k =>
      if k.ctxs.any (fun x => x.1 == c && x.2.gen == gen) then { k with mail := tabSet c (tabGet [] k.mail c ++ [m]) k.mail } else k) }) })) }

/-- A message checked by its destination grove: an inbox, a save area or the orphan ring receives it; none where it must wait
(R247 to R249). The wrap of the place leaves the occupancies apart that began before it and have not ended (log entry 49). -/
def State.takeMsg (s : State) (m0 : Msg) : Option State :=
  let m := { m0 with dst := s.forwarded m0.dst }
  let c := ctxOfAddr m.dst
  let gen : BitVec 16 := BitVec.ofNat 16 m.dst.toNat
  let x := s.ctx c
  let s1 := s.countMsg m
  let older := (s.owner c gen).isSome && decide ((s.place c).gen.toNat < gen.toNat)
  if !older && (s.place c).wrapped.any (fun w => decide (m.stamp < w + 64)) then some (s1.orphan (groveOf c) m)
  else
    if x.status ≠ .free ∧ x.gen = gen then
      let k := s1.core (coreOf c)
      if k.testing then
        let ms := tabGet [] k.mail c
        if ms.length < 256 then some (s1.setCore (coreOf c) { k with mail := tabSet c (ms ++ [m]) k.mail }) else none
      else if (x.inbox.map (fun i => i.words.length)).sum + 1 + 2 ^ m.sz.toNat ≤ 128 then
        some (s1.setCtx c { s1.ctx c with inbox := x.inbox ++ [inMsgOf m] })
      else none
    else
      match s.savedMail c gen with
      | some k => if k < 256 then some (s1.saveMail c gen m) else none
      | none => some (s1.orphan (groveOf c) m)

/-! Timetables (R251 to R253) -/

/-- A beat of a timetable entry: the context's core, the peer's, the cycle after t0 at which it leaves or arrives, and where its
bytes lie. -/
structure Beat where
  core : Nat
  peer : Nat
  cycle : Nat
  loc : Loc

/-- The beats of the entries of one kind, 1 send and 2 receive, of an arrived timetable (R252). -/
def Arrived.beats (a : Arrived) (kind : Nat) : List Beat :=
  ((a.es.filter (fun e => fld e.1.toNat 62 2 == kind)).map (fun e =>
    (upFrom 0 (fld e.1.toNat 40 8)).map (fun b =>
      { core := coreOf a.ctx, peer := groveOf a.ctx * 24 + fld e.1.toNat 57 5, cycle := fld e.1.toNat 0 20 + b
        loc := .scr (coreOf a.ctx) (e.2.toNat + 64 * b) }))).flatten

/-- The cycle of the last beat of a timetable, after t0 (R253; DEDUCED, log entry 82). -/
def lastBeat (es : List (Word × Word)) : Nat :=
  es.foldl (fun r e => max r (fld e.1.toNat 0 20 + fld e.1.toNat 40 8 - 1)) 0

/-- Beats in the order of their cycles. -/
def byCycle (bs : List Beat) : List Beat :=
  bs.foldl (fun r b => r.filter (fun x => decide (x.cycle ≤ b.cycle)) ++ [b] ++ r.filter (fun x => decide (b.cycle < x.cycle))) []

/-- A beat arrives 8 cycles after it leaves. -/
def Beat.meets (b r : Beat) : Bool := b.peer == r.core && r.peer == b.core && b.cycle + 8 == r.cycle

/-- Two beats that arrive at one port in one cycle (R252). -/
def Beat.clashes (b : Beat) (sent : List Beat) : Bool := decide (1 < (sent.filter (fun x => x.peer == b.peer && x.cycle == b.cycle)).length)

/-- The bytes of beats written that arrive by a cycle, and those that arrive later. -/
def State.landBeats (s : State) (fl : List Flying) (by_ : Nat) : State × List Flying :=
  ((fl.filter (fun f => decide (f.cycle ≤ by_))).foldl (fun r f => r.writeLoc f.loc f.bytes) s, fl.filter (fun f => decide (by_ < f.cycle)))

/-- The beats that an exchange sends, in the order of their cycles, and those that it receives. -/
def ExBar.sent (b : ExBar) : List Beat := byCycle ((b.arrived.map (fun p => p.beats 1)).flatten)
def ExBar.recv (b : ExBar) : List Beat := (b.arrived.map (fun p => p.beats 2)).flatten

/-- The beats that are not discarded at their port. -/
def ExBar.good (b : ExBar) : List Beat := b.sent.filter (fun x => !(x.clashes b.sent))

/-- The faults of a core in an exchange: cycles in which beats clash at its port, beats that no entry covers, and entries that receive
nothing (R252). -/
def ExBar.faults (b : ExBar) (k : Nat) : Nat :=
  ((b.sent.filter (fun x => x.peer == k && x.clashes b.sent)).map (·.cycle)).eraseDups.length
    + (b.good.filter (fun x => x.peer == k && !(b.recv.any x.meets))).length
    + (b.recv.filter (fun r => r.core == k && !(b.good.any (fun x => x.meets r)))).length

/-- The exchanges of a barrier replaced. -/
def State.setExBars (s : State) (die e : Nat) (bs : List ExBar) : State :=
  let d := s.die die
  s.setDie die { d with bars := if bs = [] then tabDel e d.bars else tabSet e bs d.bars }

/-- A beat leaves, read when it leaves: data received before may be sent on. Whether a beat that arrives in the very cycle in which
its bytes are sent on is seen is a free choice (R252; log entry 82). -/
def State.sendBeat (s : State) (b : ExBar) (n : Nat) (x : Beat) : ExBar × State :=
  let (same, s0) := s.freeBit
  let (s1, later) := s0.landBeats b.fly (if same then x.cycle else x.cycle - 1)
  let new := (b.recv.filter x.meets).map (fun r => { cycle := r.cycle, loc := r.loc, bytes := s1.readLoc x.loc 64 })
  ({ b with ran := some (n + 1), fly := later ++ new }, s1)

/-- An exchange ends: what is still in flight is written, and each participant takes the number of its core's faults (R252). -/
def State.endExchange (s : State) (b : ExBar) : State :=
  b.arrived.foldl (fun (q : State) p =>
    let x := q.ctx p.ctx
    match x.pend with
    | some e =>
      if e.op = .ttrun then q.setCtx p.ctx { x with pend := some { e with result := some (.ok (natW (b.faults (coreOf p.ctx))) 0 0 0) } } else q
    | none => q) (b.fly.foldl (fun r f => r.writeLoc f.loc f.bytes) s)

/-- The next thing that the first exchange of a barrier does once it is released: its next beat leaves, in the beat's cycle or later,
or it ends after its last cycle (R252). -/
def State.exchange (s : State) (die e : Nat) (b : ExBar) (more : List ExBar) (t0 : Nat) : State :=
  let n := b.ran.getD 0
  match b.good[n]? with
  | some x =>
    if s.tick < t0 + x.cycle then s
    else
      let (b1, s1) := s.sendBeat b n x
      s1.setExBars die e (b1 :: more)
  | none =>
    if s.tick < t0 + (b.fly.map (·.cycle)).foldl max (b.arrived.foldl (fun r p => max r (lastBeat p.es)) 0) then s
    else (s.setExBars die e more).endExchange b

/-! Collective branches (R256 to R262) -/

/-- A contribution reaches its group at its home package (R257, R261, R452). -/
def State.takeContribution (s : State) (c : Contribution) : State :=
  match (s.groupById c.vf c.group).filter (fun g => g.home == s.self) with
  | none => s
  | some g =>
    if g.aborted then s.sendResult c.member (.abort 6)
    else
      let ref := g.got.headD c
      let g1 := { g with got := g.got ++ [c], first := if g.got = [] then s.tick else g.first }
      if c.round ≠ g.round then s.abortGroup g1 3
      else if c.site ≠ ref.site then s.abortGroup g1 1
      else if c.op ≠ ref.op then s.abortGroup g1 2
      else s.settleGroup g1

/-! Groups over several packages (R254, R255, R452; log entry 81) -/

/-- A context of this package waits for the answer to its COLX.JOIN of a group. -/
def State.joining (s : State) (vf id : Nat) : Bool :=
  s.ctxs.any (fun x => x.2.vf == vf && x.2.pend.any (fun p => match p.op with
    | .colx i _ => i == id
    | _ => false))

/-- A COLX.JOIN of another package's context: joined here at the group's home, or sent on by the directory; none where it must
wait until this package, told to create the group, has done so. -/
def State.takeAsk (s : State) (src : Word) (vf id n : Nat) : Option State :=
  let answer := fun (s1 : State) (r : GroupReply) => s1.sendPacket (fld src.toNat 32 9) (.groupReply src vf id n s.self r)
  match (s.groupById vf id).filter (fun g => g.home == s.self) with
  | some g =>
    some (if n ≠ g.created ∨ g.created ≤ g.joins then answer s .refused
      else if g.aborted then answer s (.aborted g.round)
      else answer { s with groups := setGroup { g with joins := g.joins + 1, members := g.members ++ [src] } s.groups } (.joined g.joins g.round))
  | none =>
    let dir := s.dirPkg vf
    if dir ≠ s.self then (if s.joining vf id then none else some (s.sendPacket dir (.groupAsk src vf id n)))
    else
      match s.groupDir.find? (fun e => e.1 == vf && e.2.1 == id) with
      | some e => some (s.sendPacket e.2.2 (.groupAsk src vf id n))
      | none => some (answer { s with groupDir := s.groupDir ++ [(vf, id, fld src.toNat 32 9)] } .make)

/-- A COLX.JOIN that waits for the answer about this group gets its result. -/
def Ctx.joinAnswered (id n : Nat) (r : Reply) (x : Ctx) : Ctx :=
  match x.pend with
  | some p => if p.op = .colx id n ∧ p.result = none then { x with pend := some { p with result := some r } } else x
  | none => x

/-- The answer to a COLX.JOIN of a context of this package, resident or saved: a group to be created is created, and the unit
runs again; a group joined elsewhere is noted with its member. -/
def State.takeGroupReply (s : State) (dst : Word) (vf id n home : Nat) (r : GroupReply) : State :=
  let give := fun (s1 : State) (k : Reply) =>
    let d := s1.forwarded dst
    s1.setOwner (ctxOfAddr d) (BitVec.ofNat 16 d.toNat) (Ctx.joinAnswered id n k)
  match r with
  | .refused => give s (.ok minusOne 0 1 0)
  | .aborted q => give s (.trap cCOLLABORT (natW (2 ^ 32 * q.toNat + 6)))
  | .make =>
    if n < 1 ∨ 65535 < n then (give s (.trap cILLEGAL (natW n))).sendPacket home (.groupGone vf id)
    else
      let x : Group := { id := id, vf := vf, home := s.self, exp := n, created := n }
      let d := s.forwarded dst
      ({ s with groups := s.groups ++ [x] } : State).setOwner (ctxOfAddr d) (BitVec.ofNat 16 d.toNat)
        (fun y => if y.pend.any (fun p => p.op == .colx id n) then { y with pend := none } else y)
  | .joined v q =>
    let d := s.forwarded dst
    match s.owner (ctxOfAddr d) (BitVec.ofNat 16 d.toNat) with
    | none => s.sendPacket home (.groupLeave dst vf id)
    | some _ =>
      let gs := match s.groupById vf id with
        | some g => setGroup { g with members := g.members ++ [d] } s.groups
        | none => s.groups ++ [{ id := id, vf := vf, home := home, exp := 0, created := n, members := [d] }]
      give { s with groups := gs } (.ok (natW v) (natW q.toNat) 0 0)

/-- A member on another package has left a group (R256). -/
def State.takeLeave (s : State) (m : Word) (vf id : Nat) : State :=
  match (s.groupById vf id).filter (fun g => g.home == s.self && g.members.contains m) with
  | some g => s.lowerGroup { g with members := g.members.filter (· != m) }
  | none => s

/-- Collective traffic that arrives (R261, R452); none where it must wait. -/
def State.takeCollective (s : State) : Packet → Option State
  | .contrib c => some (s.takeContribution c)
  | .result ms t k => some (s.sendResults (ms.map s.forwarded) (if k = 0 then .taken t else .abort k))
  | .groupAsk src vf id n => s.takeAsk src vf id n
  | .groupReply dst vf id n home r => some (s.takeGroupReply dst vf id n home r)
  | .groupLeave m vf id => some (s.takeLeave m vf id)
  | .groupGone vf id => some { s with groupDir := s.groupDir.filter (fun e => !(e.1 == vf && e.2.1 == id)) }
  | _ => none

/-! Results of rounds (R258, R259) -/

/-- A drained store of context `c`: to the stream window it is performed, and its page is dirty (R350, R478); any other is
posted, to be performed after those that drained before it (R259, R287). -/
def State.drainOne (s : State) (c : Nat) (h : Held) : State :=
  match h.page with
  | some (g, p) => (s.perform h.writes).setPage g p { s.page g p with dirty := true }
  | none =>
    let x := s.ctx c
    let b := h.cls == some true
    let e : Posted := { n := h.n, clsB := b, events := eventsOf h.writes, own := h.cls.isNone, drained := true, colour := (s.core (coreOf c)).colour }
    let s1 := s.setCtx c { x with posted := x.posted ++ [e], pca := if h.cls = some false then x.pca + 1 else x.pca
                                  pcb := if b then x.pcb + 1 else x.pcb }
    if h.cls.isSome then s1.countSent (coreOf c) else s1

/-- Held stores drained in program order (R259). -/
def State.drainHeld (s : State) (c : Nat) (hs : List Held) : State := hs.foldl (fun r h => r.drainOne c h) s

/-- A context back at its checkpoint, with what the wrong path sent discarded (R259). -/
def State.restore (s : State) (c : Nat) (sp : Spec) (r : Regs) : State :=
  let x := s.ctx c
  let g := s.grove (groveOf c)
  let kept := x.prods.filter (fun p => !p.spec)
  (s.setGrove (groveOf c) { g with podQ := g.podQ.filter (fun q => q.1 != c || kept.any (fun p => p.n == q.2)) }).setCtx c
    { x with regs := r, spec := none, result := none, pend := none, mce := sp.mce, wait := 0, waitOn := none, prods := kept }

/-- The result of a round applied at one member (R259, R261). -/
def State.applyResult (s : State) (c : Nat) (q : RoundResult) : State :=
  let x := s.ctx c
  match x.spec with
  | some sp =>
    (match q with
     | .taken t =>
       if t = sp.pred then
         let na := (sp.held.filter (fun h => h.cls == some false)).length
         let nb := (sp.held.filter (fun h => h.cls == some true)).length
         if 1024 < x.pca + na ∨ 1024 < x.pcb + nb then s
         else
           let s1 := s.setCtx c { x with spec := none, result := none, wait := 0, waitOn := none, prods := x.prods.map (fun p => { p with spec := false }) }
           let s2 := s1.drainHeld c sp.held
           match sp.trap with
           | some k => (s2.setCtx c { s2.ctx c with pend := none }).takeTrap c { k with hld := true }
           | none => s2
       else
         s.restore c sp (if t then { sp.cp with pc := sp.target } else sp.cp.loopEnd sp.next false false)
     | .abort k =>
       let r := { sp.cp.setCsr csrCSEQ (natW sp.round.toNat) with pc := sp.epc }
       (s.restore c sp r).takeTrap c { cause := cCOLLABORT, tval := natW (2 ^ 32 * sp.round.toNat + k), epc := sp.epc })
  | none =>
    match x.pend with
    | some p =>
      if p.op ≠ .cbr then s.setCtx c { x with result := none }
      else
        let rd := (x.regs.csrAt csrCSEQ).toNat
        let round := (rd + 2 ^ 32 - 1) % 2 ^ 32
        (match q with
         | .taken t => s.setCtx c { x with result := none, pend := some { p with result := some (.ok (natW (b2n t)) 0 0 0) } }
         | .abort k =>
           s.setCtx c { x with result := none, regs := x.regs.setCsr csrCSEQ (natW round)
                               pend := some { p with result := some (.trap cCOLLABORT (natW (2 ^ 32 * round + k))) } })
    | none => s.setCtx c { x with result := none }

/-! Deadlock (R250) -/

/-- The contexts of a saved set in their places. -/
def State.withSaved (s : State) (v : SavedSet) : State :=
  { s with ctxs := (v.cores.map (·.ctxs)).flatten
           groves := v.groves.foldl (fun r g => tabSet g.1 g.2 r) s.groves
           dies := v.bars.foldl (fun r b => tabSet b.1 { tabGet {} r b.1 with bars := tabSet b.2.1 [{ arrived := b.2.2 }] (tabGet {} r b.1).bars } r) [] }

/-- The resident contexts, and those of each saved set, as each stands. -/
def State.views (s : State) : List State := s :: (s.parts.map (fun p => p.2.saved.map s.withSaved)).flatten

/-- A context of a view. -/
structure Node where
  view : State
  c : Nat
def Node.ctx (n : Node) : Ctx := n.view.ctx n.c
def Node.addr (n : Node) : Nat := (n.view.caddr n.c).toNat

/-- Every context that is not free, resident or saved. -/
def State.nodes (s : State) : List Node :=
  (s.views.map (fun v => (v.ctxs.filter (fun x => x.2.status != .free)).map (fun x => { view := v, c := x.1 : Node }))).flatten

/-- The other contexts bound to a queue. -/
def boundToQueue (ns : List Node) (n : Node) (p : Nat) : List Nat :=
  (ns.filter (fun x => x.addr != n.addr && (upFrom 24 8).any (fun k => x.ctx.regs.boundTo k == some p))).map (·.addr)

/-- The other contexts of a context's launch that have not halted. -/
def mates (ns : List Node) (n : Node) : List Node :=
  match n.ctx.task with
  | some t => ns.filter (fun x => x.addr != n.addr && x.ctx.task.any (fun u => u.launch == t.launch))
  | none => []

/-- The exchange at which a context's timetable waits unreleased (R252). -/
def State.barOf (s : State) (c : Nat) : Option ExBar :=
  ((s.die (dieOf c)).bars.map (fun b => b.2.filter (fun e => e.t0.isNone && e.arrived.any (fun a => a.ctx == c)))).flatten.head?

/-- Every expected member of a context's group that has not contributed to the open round: those that have joined, and the
tasks of its gang that have not joined yet (R254, R256). Of a group whose home is another package this one does not know them all:
the edge to its home stands for them (log entry 81). -/
def cbrEdges (ns : List Node) (n : Node) : List Nat :=
  match n.view.groupAt (n.view.caddr n.c) with
  | none => []
  | some g =>
    let gang := match g.gang with
      | some q => (ns.filter (fun x => !x.ctx.joinedGang && x.view.gangOf x.c == g.launch.map (·, q))).map (·.addr)
      | none => []
    if g.home ≠ n.view.self then [2 ^ 63 + g.home]
    else ((g.members.map (·.toNat)) ++ gang).filter (fun a => !(g.got.any (fun k => k.member.toNat == a)))

/-- The wait-for edges of a context that waits on something of R250's table, as context addresses. -/
def edges (ns : List Node) (n : Node) : Option (List Nat) :=
  let x := n.ctx
  if x.status ≠ .run then none
  else
    match x.pend.filter (fun p => match p.op with
      | .read _ _ => false
      | _ => true) with
    | some p =>
      (match p.op with
       | .ttrun => (n.view.barOf n.c).map (fun b =>
           ((mates ns n).filter (fun d => !(b.arrived.any (fun a => a.ctx == d.c)))).map (·.addr))
       | .cbr => some (cbrEdges ns n)
       | _ => none)
    | none =>
      match x.waitOn with
      | some (.pop p) => (match portOf n.view.self p with
        | .queue _ _ => some (boundToQueue ns n p)
        | .inbox => some ((mates ns n).map (·.addr))
        | _ => none)
      | some (.push p) => (match portOf n.view.self p with
        | .queue _ _ => some (boundToQueue ns n p)
        | _ => none)
      | some (.send d) => some [(n.view.forwarded d).toNat]
      | some .cbr => some (cbrEdges ns n)
      | none => none

/-- The contexts whose edges all lead into the set, until none is left out (R250). -/
def shrink (e : List (Nat × List Nat)) : Nat → List (Nat × List Nat)
  | 0 => e
  | n + 1 => shrink (e.filter (fun x => x.2.all (fun d => e.any (fun y => y.1 == d)))) n

/-- The contexts reached from a set of contexts. -/
def reachFrom (e : List (Nat × List Nat)) : Nat → List Nat → List Nat
  | 0, r => r
  | n + 1, r => reachFrom e n ((r ++ ((e.filter (fun x => r.contains x.1)).map (·.2)).flatten).eraseDups)

/-- A list of numbers in rising order. -/
def sortNat (l : List Nat) : List Nat := l.foldl (fun r x => r.filter (fun y => decide (y < x)) ++ [x] ++ r.filter (fun y => decide (x < y))) []

/-- The knots among the contexts: the smallest sets that their edges do not leave (R250). -/
def findKnots (ns : List Node) : List (List Nat) :=
  let e := ns.filterMap (fun n => (edges ns n).map (fun d => (n.addr, d)))
  let w := shrink e e.length
  let reach := fun c => reachFrom w w.length [c]
  ((w.filter (fun x => (reach x.1).all (fun d => (reach d).contains x.1))).map (fun x => sortNat (reach x.1))).eraseDups

/-- A scan for knots: one found on two successive scans is reported once to each tenant that owns a member (R250, R404). A knot
with a member on another package is not found here (log entry 81). -/
def State.scan (s : State) : State :=
  let ns := s.nodes
  let found := findKnots ns
  let fresh := found.filter (fun k => s.knots.contains k && !(s.reported.contains k))
  let post := fun (r : State) (k : List Nat) =>
    let members := ns.filter (fun n => k.contains n.addr)
    ((members.map (fun n => n.ctx.vf)).eraseDups).foldl (fun (q : State) vf =>
      let lid := (members.find? (fun n => n.ctx.vf == vf)).bind (fun n => n.ctx.task.map (fun t => lidOf vf t.launch))
      q.postEvent vf 1 ([1, lid.getD 0, natW k.length] ++ (k.take 5).map natW)) r
  let s1 := fresh.foldl post s
  { s1 with scanned := s.tick, knots := found, reported := (s.reported ++ fresh).filter (fun k => found.contains k) }

/-- MESSAGE_ARRIVAL (R247). -/
def execMessageArrival (a : Arrival) (s : State) : Out :=
  .next (s.arrives a (fun s1 p =>
    match p with
    | .msg m =>
      let f := (s.forwarded m.src, s.forwarded m.dst)
      if !(s.msgInOrder a) then none else if s.inDrop f then some (s1.dropBehind f m) else s1.takeMsg m
    | .room d full => some { s1 with awayFull := s1.awayFull.filter (· != d) ++ (if full then [d] else []) }
    | _ => none))

/-- TIMETABLE_RELEASE (R252): the first exchange of a barrier is released, where no gang switch is posted before its last beat
(R253), or goes on. -/
def execTimetableRelease (die e : Nat) (s : State) : Out :=
  match tabGet [] (s.die die).bars e with
  | [] => .next s
  | b :: more =>
    match b.t0 with
    | none => .next s
    | some t0 =>
      let last := b.arrived.foldl (fun r p => max r (lastBeat p.es)) 0
      let posted := b.arrived.any (fun p => (s.partOf (groveOf p.ctx)).any (fun k =>
        let q := tabGet {} s.parts k
        q.phase != 0 && decide (q.time ≤ t0 + last)))
      if s.tick < t0 ∨ (b.ran.isNone ∧ posted) then .next s else .next (s.exchange die e b more t0)

/-- CONTRIBUTION_ARRIVAL (R261). -/
def execContributionArrival (a : Arrival) (s : State) : Out :=
  .next (s.arrives a State.takeCollective)

/-- CBR_RESULT (R259). -/
def execCbrResult (c : Nat) (s : State) : Out :=
  match (s.ctx c).result with
  | some q => .next (s.applyResult c q)
  | none => .next s

/-- ROUND_TIMEOUT (R261). -/
def execRoundTimeout (group : Nat) (s : State) : Out :=
  .next (s.groups.foldl (fun r g =>
    if g.id = group ∧ g.got ≠ [] ∧ !g.aborted ∧ g.first + 2 ^ 30 ≤ s.tick then r.abortGroup g 4 else r) s)

/-- DEADLOCK_SCAN (R250). -/
def execDeadlockScan (s : State) : Out :=
  .next s.scan

end Sys2Proof.Machine
end

