-- ==== Sys2Proof/Machine/Whisk.lean ====
section
/-! DEFINITION. Whisk reductions (R185, R327 to R331). -/

namespace Sys2Proof.Machine

/-- The reduction identifier of a slot (R327). -/
def whiskId (self die kind : Nat) (fsc : BitVec 8) (slot ser : Nat) : Word :=
  natW (2 ^ 32 * self + 2 ^ 30 * die + 2 ^ 26 * kind + 2 ^ 18 * fsc.toNat + 2 ^ 8 * slot + ser)

/-- The checks of an identifier for a contribution of a kind; MDRAIN takes every kind below 110 (R185, R329). A package outside the
partition counts as absent (R442). -/
def State.whiskTrap (s : State) (id : Word) (okKind : Nat → Bool) : Option Why :=
  let v := id.toNat
  if fld v 41 23 ≠ 0 ∨ bitAt v 29 ∨ fld v 0 8 = 0 ∨ !(s.present (fld v 32 9) && s.spansFor s.me.vf (fld v 32 9)) then some { cause := cPROT, tval := id }
  else if !(okKind (fld v 26 3)) then some { cause := cILLEGAL, tval := id }
  else none

/-- Fix of R329: an FP32 value as an integer on the grid 2^f, or its mark, with the flags, NV for a signalling NaN (R76). -/
def fixElt (f : Int) (b : Nat) : WElt × Nat :=
  match fmt32.val b with
  | .nan b => (.nan, nvOf b)
  | .inf n => (if n then .negInf else .posInf, 0)
  | .fin neg m e =>
    let sh := e - f
    let q0 := if 0 ≤ sh then m * 2 ^ sh.toNat else m / 2 ^ (-sh).toNat
    let rem := if 0 ≤ sh then 0 else m % 2 ^ (-sh).toNat
    let up := decide (2 ^ (-sh).toNat < 2 * rem) || (2 * rem == 2 ^ (-sh).toNat && rem != 0 && q0 % 2 == 1)
    let q := if up then q0 + 1 else q0
    let big := decide (2 ^ 63 - 1 < q)
    let v := if big then 2 ^ 63 - 1 else q
    (.int (if neg then -(v : Int) else v), (if big then flOF + flNX else if rem = 0 then 0 else flNX))

/-- The elements of a contribution of a kind from 512 bits, with the flags of Fix (R329). -/
def whiskElts (kind : Nat) (fsc : Nat) (v : Nat) : List WElt × Nat :=
  let ls := lanesOf 32 16 v
  match kind with
  | 0 => (ls.map (fun x => .int (sextInt 32 x)), 0)
  | 2 => (ls.map (fun x => .int (sextInt 32 x)), 0)
  | 4 => (ls.map (fun x => .int (sextInt 32 x)), 0)
  | 1 =>
    let r := ls.map (fixElt (sextInt 8 fsc))
    (r.map (·.1), (r.map (·.2)).foldl (· ||| ·) 0)
  | 6 => ((lanesOf 64 8 v).map (fun p => .pair (BitVec.ofNat 32 p) (BitVec.ofNat 32 (p / 2 ^ 32))), 0)
  | _ => (ls.map (fun x => .fp (BitVec.ofNat 32 x)), 0)

/-- The window of a tree has room for a chunk of a context: fewer than W are in flight to the owner die (R451). -/
def State.treeRoom (s : State) (x : Ctx) (die : Nat) : Bool :=
  decide ((x.posted.filter (fun p => p.tree == some die && p.unsent.isNone)).length ≤ fld s.mgmt.domain.toNat 18 6)

/-- One contribution, row `row` of its instruction, posted in class B (R292, R329); it is sent toward the owner die at once, or as
soon as the window admits it (R451). -/
def State.contribute (s : State) (id : Word) (v row : Nat) : State :=
  let (es, fl) := whiskElts (fld id.toNat 26 3) (fld id.toNat 18 8) v
  let x := s.me
  let die := fld id.toNat 30 11
  let k := s.core (coreOf s.cur)
  let m : WhiskMsg := { id := id, vf := x.vf, src := s.caddr s.cur, elts := es, colour := k.colour, n := x.nseq, row := row }
  let now := s.treeRoom x die
  let s1 := if now then (s.sendPacket (fld id.toNat 32 9) (.whisk m)).countSent (coreOf s.cur) else s
  let p : Posted := { n := x.nseq, clsB := true, events := [], colour := k.colour, tree := some die, row := row
                      unsent := if now then none else some m }
  (s1.setMe { x with posted := x.posted ++ [p], pcb := x.pcb + 1 }).orFlags fl

/-- The `i`-th posted entry of context `c`, a contribution that the window has kept back, is sent when it may be, in the colour
that its core has then (R418, R451). -/
def State.sendKept (s : State) (c i : Nat) (p : Posted) (m : WhiskMsg) : State :=
  let x := s.ctx c
  if s.treeRoom x (fld m.id.toNat 30 11) then
    let k := s.core (coreOf c)
    let s1 := (s.sendPacket (fld m.id.toNat 32 9) (.whisk { m with src := s.caddr c, colour := k.colour })).countSent (coreOf c)
    s1.setCtx c { x with posted := setNth { p with unsent := none, colour := k.colour } x.posted i }
  else s

/-- A contributing instruction must wait: the context has as many unacknowledged contributions toward the owner die as the
window admits (R451), its class B count is full, or an acquire load is outstanding. -/
def State.whiskWaits (s : State) (id : Word) (n : Nat) : Bool :=
  decide (1024 < s.me.pcb + n) || s.acquiring ||
  decide (fld s.mgmt.domain.toNat 18 6 < (s.me.posted.filter (fun p => p.tree == some (fld id.toNat 30 11))).length)

/-- A contribution form (R329). -/
def whiskForm (i : Sig) (kind : Nat) (a b : BitVec 5) (s : State) : Out :=
  issue i s fun s =>
    let id := s.rx 1 a.toNat
    match s.whiskTrap id (fun k => k == kind) with
    | some y => .trap y
    | none =>
      if s.whiskWaits id 1 then .wait else .done (s.contribute id (s.regs.vAt b.toNat).toNat 0)

/-- WOPEN (R328). -/
def execWopen (sm l : Bool) (d a : BitVec 5) (t : Bool) (s : State) : Out :=
  issue (cSig (.wopen sm l d a t)) s fun s =>
    let c := s.rx 1 a.toNat
    let v := c.toNat
    let kind := fld v 16 3
    if fld v 0 16 = 0 ∨ kind = 7 ∨ (kind ≠ 1 ∧ fld v 20 8 ≠ 0) ∨ bitAt v 19 ∨ fld v 28 36 ≠ 0 then
      .trap { cause := cILLEGAL, tval := c }
    else
      let dn := dieOf s.cur
      let dd := s.die dn
      match (upFrom 0 1024).find? (fun k => !(tabGet {} dd.wslots k).opened) with
      | none => .done (s.putX d.toNat 0)
      | some k =>
        let ser := if (tabGet {} dd.wslots k).ser = 255 then 1 else (tabGet {} dd.wslots k).ser + 1
        let w : WSlot := { ser := ser, opened := true, owner := s.caddr s.cur, vf := s.me.vf, kind := kind
                           fsc := BitVec.ofNat 8 (fld v 20 8), n := fld v 0 16 }
        .done ((s.setDie dn { dd with wslots := tabSet k w dd.wslots }).putX d.toNat
          (whiskId s.self dn kind w.fsc k ser.toNat))

/-- WSUM_I (R329). -/
def execWsumI (sm l : Bool) (a b : BitVec 5) (t u : Bool) (s : State) : Out :=
  whiskForm (cSig (.wsumI sm l a b t u)) 0 a b s

/-- WSUM_F (R329). -/
def execWsumF (sm l : Bool) (a b : BitVec 5) (t u : Bool) (s : State) : Out :=
  whiskForm (cSig (.wsumF sm l a b t u)) 1 a b s

/-- WMAXV_I (R329). -/
def execWmaxvI (sm l : Bool) (a b : BitVec 5) (t u : Bool) (s : State) : Out :=
  whiskForm (cSig (.wmaxvI sm l a b t u)) 2 a b s

/-- WMAXV_F (R329). -/
def execWmaxvF (sm l : Bool) (a b : BitVec 5) (t u : Bool) (s : State) : Out :=
  whiskForm (cSig (.wmaxvF sm l a b t u)) 3 a b s

/-- WMINV_I (R329). -/
def execWminvI (sm l : Bool) (a b : BitVec 5) (t u : Bool) (s : State) : Out :=
  whiskForm (cSig (.wminvI sm l a b t u)) 4 a b s

/-- WMINV_F (R329). -/
def execWminvF (sm l : Bool) (a b : BitVec 5) (t u : Bool) (s : State) : Out :=
  whiskForm (cSig (.wminvF sm l a b t u)) 5 a b s

/-- WMAX (R329). -/
def execWmax (sm l : Bool) (a b : BitVec 5) (t u : Bool) (s : State) : Out :=
  whiskForm (cSig (.wmax sm l a b t u)) 6 a b s

/-- MDRAIN (R185). -/
def execMdrain (sm l : Bool) (n : BitVec 2) (a b : BitVec 5) (t u : Bool) (s : State) : Out :=
  issue (cSig (.mdrain sm l n a b t u)) s fun s =>
    let id := s.rx 1 a.toNat
    let mask := fld (s.rx 2 b.toNat).toNat 0 16
    match s.whiskTrap id (fun k => decide (k < 6)) with
    | some y => .trap y
    | none =>
      if s.whiskWaits id (popcount 16 mask) then .wait
      else
        let acc := (s.regs.accAt n.toNat).toNat
        .done (((upFrom 0 16).filter (fun r => bitAt mask r)).foldl (fun q r => q.contribute id (lane 512 r acc) r) s)

end Sys2Proof.Machine
end

