-- ==== Sys2Proof/Machine/EvEngine.lean ====
section
/-! DEFINITION. What the Spout and the Whisk do by themselves (R296 to R299, R318 to R323, R330, R331). -/

namespace Sys2Proof.Machine

/-! Copies (R296 to R299, R318 to R323) -/

/-- A page is under a Kettle move (R278). -/
def State.underMove (s : State) (vf va : Nat) : Bool :=
  s.moving.any (fun m => ((m.vf, m.va, m.bytes) :: m.places).any (fun p =>
    p.1 == vf && decide (p.2.1 ≤ va) && decide (va < p.2.1 + p.2.2)))

/-- What translating one end of a piece of a copy answers: its place; a stall on a page under a move; or the fault kind with
which the copy stops (R322, R425). -/
inductive CopySide where
  | at_ (l : Loc) (s : State)
  | stall
  | fault (kind : Nat)

/-- One end of a piece of a copy (R322): global addresses go through the grove translation unit. -/
def State.copySide (s : State) (k : Copy) (tagged : Nat) (a n : Nat) (acc : Acc) : CopySide :=
  if fld tagged 62 2 = 1 then
    match s.scrLoc k.ctx a n with
    | some l => .at_ l s
    | none => .fault 2
  else if s.underMove k.vf a then .stall
  else if s.meterTrap k.vf (natW a) acc false then .fault 0
  else
    match s.translate { core := none, grove := groveOf k.ctx } k.vf a acc with
    | .fault f => .fault f
    | .ok pa _ _ s1 => if s1.resting (.mem pa) then .stall else .at_ (.mem pa) s1

/-- The copy has read its whole payload, or a fault has stopped it. -/
def Copy.allRead (k : Copy) : Bool := k.bad || decide (fld (descWord k.desc 2) 16 16 ≤ k.row)

/-- The copy after `m` bytes of its row have been read. -/
def Copy.onward (k : Copy) (m : Nat) : Copy :=
  if fld (descWord k.desc 2) 32 24 ≤ k.off + m then { k with row := k.row + 1, off := 0 } else { k with off := k.off + m }

/-- A copy stopped by a fault (R320, R322). -/
def Copy.stop (k : Copy) (va kind u : Nat) : Copy := { k with bad := true, fva := natW va, fkind := kind, funit := u }

/-- The next piece of a copy, within one granule at both ends: its source is read, and its write is due (R284, R296, R322). None
where the copy has read its payload or stalls. -/
def State.copyPiece (s : State) (k : Copy) : Option (Copy × Nat × State) :=
  let w := descWord k.desc
  let src := (rowAddr (w 0) (fld (w 3) 0 32) k.row).toNat + k.off
  let dst := (rowAddr (w 1) (fld (w 3) 32 32) k.row).toNat + k.off
  let m := min (fld (w 2) 32 24 - k.off) (min (8 - src % 8) (8 - dst % 8))
  if k.allRead then none
  else
    match s.copySide k (w 0) src m .load with
    | .stall => none
    | .fault e => some (k.stop src e 0, m, s)
    | .at_ a s1 =>
      match s1.poisonedLoc a m with
      | some u => some (k.stop src 0 u.toNat, m, s1)
      | none =>
        match s1.copySide k (w 1) dst m .store with
        | .stall => none
        | .fault e => some (k.stop dst e 0, m, s1)
        | .at_ b s2 =>
          (if fld (w 0) 62 2 = 0 then s2.countBytes k.vf src m else some s2).map (fun s3 =>
            (({ k with out := k.out ++ [{ loc := b, bytes := s1.readLoc a m }] } : Copy).onward m, m, s3))

/-- The contexts of a grove that have a running copy which can go on. -/
def State.copiesGoing (s : State) (g : Nat) : List Nat :=
  (((s.grove g).copies.filter (fun k => k.status == 2 && !k.cancel && (s.copyPiece k).isSome)).map (·.ctx)).eraseDups

/-- The context whose turn at the Spout it is (R322): the one served last, up to 4 KiB, then the next one round. -/
def State.spoutTurn (s : State) (g : Nat) : Option Nat :=
  let v := s.grove g
  let cs := s.copiesGoing g
  if cs.contains v.spoutAt && decide (v.spoutRun < 4096) then some v.spoutAt
  else (cs.filter (fun c => decide (v.spoutAt < c))).min?.or cs.min?

/-- Copy `n` of a grove reads its next piece, if it is its context's turn. -/
def State.copyRead (s : State) (g n : Nat) : State :=
  match (s.grove g).copies[n]? with
  | none => s
  | some k =>
    if k.status ≠ 2 ∨ k.cancel ∨ s.spoutTurn g ≠ some k.ctx then s
    else
      match s.copyPiece k with
      | none => s
      | some (k1, m, s1) =>
        let v := s1.grove g
        let run := if v.spoutAt = k.ctx ∧ v.spoutRun < 4096 then v.spoutRun + m else m
        (s1.setGrove g { v with spoutAt := k.ctx, spoutRun := run }).setCopy g n k1

/-- Write `i` of those that copy `n` of a grove still has to make is performed, after the earlier ones to its bytes: the rows are
performed in ascending order (R296, R322); none to a place under test (R401). -/
def State.copyWrite (s : State) (g n i : Nat) : State :=
  match (s.grove g).copies[n]? with
  | none => s
  | some k =>
    match k.out[i]? with
    | none => s
    | some w => if k.status = 2 ∧ !(s.resting w.loc) ∧ (k.out.take i).all (fun v => !(v.overlaps w.loc w.bytes.length)) then (s.perform [w]).setCopy g n { k with out := k.out.eraseIdx i } else s

/-- The completion action of a copy (R323, R325); none where a barrier object with a non-zero reserved field is rejected (R5;
log entry 76). -/
def State.copyAction (s : State) (k : Copy) : Option State :=
  let w := descWord k.desc
  match fld (w 2) 62 2 with
  | 1 =>
    (match s.scrLoc k.ctx (w 4) 16 with
     | none => none
     | some l =>
       let o := s.barWords l
       let sum := fld o.2 0 40 + fld (w 2) 32 24 * fld (w 2) 16 16
       let b := min sum (2 ^ 40 - 1)
       let w0 := o.1 ||| (if k.bad then 2 ^ 61 else 0) ||| (if 2 ^ 40 - 1 < sum then 2 ^ 62 else 0)
       if barReserved o then none else some (s.setBar l (settleBar w0 (o.2 - fld o.2 0 40 + b))))
  | 2 => (s.scrLoc k.ctx (w 4) 8).map (fun l => s.writeLoc l (bytesOf 8 (if k.bad then 2 ^ 64 - 1 else w 5)))
  | _ => some s

/-- Earlier copies of the same context that a copy follows: to start (R322), or of its class to complete (R299). -/
def earlierCopies (cs : List Copy) (n : Nat) (k : Copy) : List Copy :=
  (cs.take n).filter (fun c => c.ctx == k.ctx && c.gen == k.gen)

/-! Whisk results (R330, R331) -/

/-- The better of two FP32 values for MAXV.F and MINV.F: NaNs are skipped, -0 lies below +0 (R145, R330). -/
def pickFp (max : Bool) (a b : BitVec 32) : BitVec 32 :=
  let x := fmt32.val a.toNat
  let y := fmt32.val b.toNat
  if y.isNan then a
  else if x.isNan then b
  else if (if max then x.below y else y.below x) then b else a

/-- The better of two pairs for MAX: the larger value, then the lower index (R330). -/
def pickPair (a b : BitVec 32 × BitVec 32) : BitVec 32 × BitVec 32 :=
  let x := fmt32.val a.1.toNat
  let y := fmt32.val b.1.toNat
  if y.isNan then a
  else if x.isNan then b
  else if x.below y then b
  else if y.below x then a
  else if b.2.toNat < a.2.toNat then b else a

/-- The exact integers among the elements. -/
def eltInts (es : List WElt) : List Int := es.filterMap (fun e => match e with
  | .int i => some i
  | _ => none)

/-- One result word of a reduction from the elements of all contributions at one place (R330, R331). -/
def whiskWord (kind : Nat) (fsc : Int) (es : List WElt) : Word :=
  match kind with
  | 0 => wordOf (eltInts es).sum
  | 1 =>
    let f := fmt32
    if es.contains .nan ∨ (es.contains .posInf ∧ es.contains .negInf) then natW f.nan
    else if es.contains .posInf then natW f.inf
    else if es.contains .negInf then natW (f.sign true + f.inf)
    else
      let v := (eltInts es).sum
      if v = 0 then 0 else natW (f.round mRNE 0 (decide (v < 0)) v.natAbs fsc false).1
  | 2 => (match eltInts es with
    | [] => 0
    | i :: t => wordOf (t.foldl imax i))
  | 4 => (match eltInts es with
    | [] => 0
    | i :: t => wordOf (t.foldl imin i))
  | 6 =>
    let p := es.foldl (fun r e => match e with
      | .pair v x => pickPair r (v, x)
      | _ => r) ((0x7FC00000, 0xFFFFFFFF) : BitVec 32 × BitVec 32)
    let q := if (fmt32.val p.1.toNat).isNan then ((0xFF800000, 0xFFFFFFFF) : BitVec 32 × BitVec 32) else p
    natW (q.1.toNat + 2 ^ 32 * q.2.toNat)
  | k =>
    let b := es.foldl (fun (r : BitVec 32) e => match e with
      | .fp v => pickFp (k == 3) r v
      | _ => r) 0x7FC00000
    natW (if (fmt32.val b.toNat).isNan then (if k = 3 then 0xFF800000 else 0x7F800000) else b.toNat)

/-- The posted entry of a contribution that the owner's router has taken (R292). -/
def Ctx.whiskTaken (n row : Nat) (x : Ctx) : Ctx :=
  { x with posted := x.posted.map (fun (q : Posted) => if q.n = n ∧ q.row = row ∧ q.tree.isSome then { q with taken := true } else q) }

/-- The sender of a contribution, on this package or another, learns that it has been taken (R292, R330). -/
def State.ackWhisk (s : State) (dst : Word) (n row : Nat) : State :=
  let d := s.forwarded dst
  if fld d.toNat 32 9 = s.self then s.setOwner (ctxOfAddr d) (BitVec.ofNat 16 d.toNat) (Ctx.whiskTaken n row)
  else s.sendPacket (fld d.toNat 32 9) (.whiskAck dst n row)

/-- A contribution reaches the owner die, which combines or drops it; either way it is acknowledged (R330, R331). -/
def State.takeWhisk (s0 : State) (m : WhiskMsg) : State :=
  let s := s0.ackWhisk m.src m.n m.row
  let v := m.id.toNat
  let d := fld v 30 2
  let dd := s.die d
  let k := fld v 8 10
  let w := tabGet {} dd.wslots k
  if w.opened ∧ m.id = whiskId s.self d w.kind w.fsc k w.ser.toNat ∧ m.vf = w.vf ∧ w.got.length < w.n ∧ !dd.stopped then
    let got := w.got ++ [m.elts]
    let n := if w.kind = 6 then 8 else 16
    let res := if got.length = w.n then
        (upFrom 0 n).map (fun i => whiskWord w.kind (sextInt 8 w.fsc.toNat) (got.map (fun es => nth (.int 0) es i)))
      else []
    s.setDie d { dd with wslots := tabSet k { w with got := got, result := res } dd.wslots }
  else s.setDie d { dd with wdrop := dd.wdrop + 1 }

/-- COPY_START (R322). -/
def execCopyStart (g n : Nat) (s : State) : Out :=
  let cs := (s.grove g).copies
  match cs[n]? with
  | some k =>
    if k.status = 1 ∧ s.runsFor g k.vf ∧ (earlierCopies cs n k).all (fun c => c.status != 1) then .next (s.setCopy g n { k with status := 2 }) else .next s
  | none => .next s

/-- COPY_COMPLETE (R323): the payload of the copy has been written, or what a fault left of it. -/
def execCopyComplete (g n : Nat) (s : State) : Out :=
  let cs := (s.grove g).copies
  match cs[n]? with
  | none => .next s
  | some k =>
    if k.status ≠ 2 ∨ k.cancel ∨ !k.allRead ∨ k.out ≠ [] ∨ (earlierCopies cs n k).any (fun c => c.open_ && c.classB == k.classB) then
      .next s
    else
      match s.copyAction k with
      | some s1 => .next (s1.finishCopy g n { k with status := if k.bad then 5 else 3 })
      | none => .next (s.finishCopy g n { k with status := 5 })

/-- CANCEL_ACK (R321): the writes that the copy has still to make are never made. -/
def execCancelAck (g n : Nat) (s : State) : Out :=
  match (s.grove g).copies[n]? with
  | none => .next s
  | some k =>
    if k.status ≠ 2 ∨ !k.cancel then .next s
    else
      let s2 := s.finishCopy g n { k with status := 4, out := [], fva := 0, fkind := 0, funit := 0 }
      let x := s2.ctx k.ctx
      match x.pend with
      | some p =>
        if p.op = .cancel g k.handle ∧ x.gen = k.gen then
          .next (s2.setCtx k.ctx { x with pend := some { p with result := some (.ok 4 0 0 0) } })
        else .next s2
      | none => .next s2

/-- WHISK_CONTRIBUTION_ARRIVAL (R330). -/
def execWhiskContributionArrival (a : Arrival) (s : State) : Out :=
  .next (s.arrives a (fun s1 p =>
    match p with
    | .whisk m => some (s1.takeWhisk m)
    | .whiskAck d n row => some (s1.ackWhisk d n row)
    | _ => none))

end Sys2Proof.Machine
end

