-- ==== Sys2Proof/Machine/Scalar.lean ====
section
/-! DEFINITION. The integer register instructions, immediates, selects and constants (R100 to R106). -/

namespace Sys2Proof.Machine

/-! Results of the integer operations in `w` bits (R73, R100), on operands below 2^w -/

/-- An X result: of 64 bits, or of 32 bits sign-extended (R74). -/
def aluW (x : Bool) (f : Nat → Nat → Nat → Nat) (a b : Word) : Word :=
  if x then sextW 32 (f 32 (a.toNat % 2 ^ 32) (b.toNat % 2 ^ 32)) else natW (f 64 a.toNat b.toNat)

/-- An integer as `w` bits. -/
def wrapI (w : Nat) (i : Int) : Nat := (i % (2 ^ w : Nat)).toNat

def aluAdd (w a b : Nat) : Nat := (a + b) % 2 ^ w
def aluSub (w a b : Nat) : Nat := (a + 2 ^ w - b) % 2 ^ w
def aluAnd (_w a b : Nat) : Nat := a &&& b
def aluOr (_w a b : Nat) : Nat := a ||| b
def aluXor (_w a b : Nat) : Nat := a ^^^ b
def aluAndn (w a b : Nat) : Nat := a &&& (2 ^ w - 1 - b)
/-- Shift and rotate counts are the low 5 or 6 bits of b (R100). -/
def aluSll (w a b : Nat) : Nat := a * 2 ^ (b % w) % 2 ^ w
def aluSrl (w a b : Nat) : Nat := a / 2 ^ (b % w)
def aluSra (w a b : Nat) : Nat := wrapI w (sextInt w a / ((2 ^ (b % w) : Nat) : Int))
def aluRor (w a b : Nat) : Nat := a / 2 ^ (b % w) + a * 2 ^ (w - b % w) % 2 ^ w
def aluSlt (w a b : Nat) : Nat := b2n (decide (sextInt w a < sextInt w b))
def aluSltu (_w a b : Nat) : Nat := b2n (decide (a < b))
def aluMin (w a b : Nat) : Nat := if sextInt w a < sextInt w b then a else b
def aluMax (w a b : Nat) : Nat := if sextInt w a < sextInt w b then b else a
def aluMinu (_w a b : Nat) : Nat := if a < b then a else b
def aluMaxu (_w a b : Nat) : Nat := if a < b then b else a
def aluMul (w a b : Nat) : Nat := a * b % 2 ^ w
def aluMulh (_w a b : Nat) : Nat := wrapI 64 (sextInt 64 a * sextInt 64 b / ((2 ^ 64 : Nat) : Int))
def aluMulhu (_w a b : Nat) : Nat := a * b / 2 ^ 64
/-- Division by zero gives every bit set, the most negative value by -1 itself (R73). -/
def aluDiv (w a b : Nat) : Nat := if b = 0 then 2 ^ w - 1 else wrapI w (Int.tdiv (sextInt w a) (sextInt w b))
def aluDivu (w a b : Nat) : Nat := if b = 0 then 2 ^ w - 1 else a / b
def aluRem (w a b : Nat) : Nat := if b = 0 then a else wrapI w (Int.tmod (sextInt w a) (sextInt w b))
def aluRemu (_w a b : Nat) : Nat := if b = 0 then a else a % b
def aluClz (w a _b : Nat) : Nat := leadingZeros w a
def aluCtz (w a _b : Nat) : Nat := lowestSet w a
def aluPopc (w a _b : Nat) : Nat := popcount w a

/-- FFLAGS.SAT (R79). -/
def flSAT : Nat := 32

/-- A signed sum clamped to the w-bit range, and SAT where it was clamped (R73). -/
def satI (w : Nat) (i : Int) : Nat × Nat := (wrapI w (clampI (smin w) (smax w) i), if i < smin w ∨ smax w < i then flSAT else 0)

/-- An ALU word on two X sources (R100). -/
def alu2 (i : Sig) (d a b : BitVec 5) (x : Bool) (f : Nat → Nat → Nat → Nat) (s : State) : Out :=
  issue i s fun s => .done (s.putX d.toNat (aluW x f (s.rx 1 a.toNat) (s.rx 2 b.toNat)))

/-- An ALU word on one X source (R100). -/
def alu1 (i : Sig) (d a : BitVec 5) (x : Bool) (f : Nat → Nat → Nat → Nat) (s : State) : Out :=
  issue i s fun s => .done (s.putX d.toNat (aluW x f (s.rx 1 a.toNat) 0))

/-- ADDS and SUBS (R73, R100). -/
def aluSat (i : Sig) (d a b : BitVec 5) (x : Bool) (f : Int → Int → Int) (s : State) : Out :=
  issue i s fun s =>
    let w := if x then 32 else 64
    let r := satI w (f (sextInt w (s.rx 1 a.toNat).toNat) (sextInt w (s.rx 2 b.toNat).toNat))
    .done ((s.putX d.toNat (sextW w r.1)).orFlags r.2)

/-- An immediate word (R103): the source and the extended immediate. -/
def aluImm (i : Sig) (d a : BitVec 5) (imm : Word) (x : Bool) (f : Nat → Nat → Nat → Nat) (s : State) : Out :=
  issue i s fun s => .done (s.putX d.toNat (aluW x f (s.rx 1 a.toNat) imm))

/-- WFLD's field (R101): level n of a work identifier with the widths of WIDW. -/
def wfld (widw wid n : Nat) : Word :=
  let off := ((upFrom 0 n).map (fun k => fld widw (6 * k) 6)).foldl (· + ·) 0
  natW (fld wid off (fld widw (6 * n) 6))

/-- SEL and SEL.N (R105): all three sources are read, whichever one is chosen. -/
def selOp (i : Sig) (d a b c : BitVec 5) (p : Word → Bool) (s : State) : Out :=
  issue i s fun s =>
    .done (s.putX d.toNat (if p (s.rx 1 a.toNat) then s.rx 2 b.toNat else s.rx 3 c.toNat))

/-- ADD (R100). -/
def execAdd (sm : Bool) (d a b : BitVec 5) (t u x : Bool) (s : State) : Out :=
  alu2 (aSigOf (.add sm d a b t u x)) d a b x aluAdd s

/-- SUB (R100). -/
def execSub (sm : Bool) (d a b : BitVec 5) (t u x : Bool) (s : State) : Out :=
  alu2 (aSigOf (.sub sm d a b t u x)) d a b x aluSub s

/-- AND (R100). -/
def execAnd (sm : Bool) (d a b : BitVec 5) (t u x : Bool) (s : State) : Out :=
  alu2 (aSigOf (.and sm d a b t u x)) d a b x aluAnd s

/-- OR (R100). -/
def execOr (sm : Bool) (d a b : BitVec 5) (t u x : Bool) (s : State) : Out :=
  alu2 (aSigOf (.or sm d a b t u x)) d a b x aluOr s

/-- XOR (R100). -/
def execXor (sm : Bool) (d a b : BitVec 5) (t u x : Bool) (s : State) : Out :=
  alu2 (aSigOf (.xor sm d a b t u x)) d a b x aluXor s

/-- ANDN (R100). -/
def execAndn (sm : Bool) (d a b : BitVec 5) (t u x : Bool) (s : State) : Out :=
  alu2 (aSigOf (.andn sm d a b t u x)) d a b x aluAndn s

/-- SLL (R100). -/
def execSll (sm : Bool) (d a b : BitVec 5) (t u x : Bool) (s : State) : Out :=
  alu2 (aSigOf (.sll sm d a b t u x)) d a b x aluSll s

/-- SRL (R100). -/
def execSrl (sm : Bool) (d a b : BitVec 5) (t u x : Bool) (s : State) : Out :=
  alu2 (aSigOf (.srl sm d a b t u x)) d a b x aluSrl s

/-- SRA (R100). -/
def execSra (sm : Bool) (d a b : BitVec 5) (t u x : Bool) (s : State) : Out :=
  alu2 (aSigOf (.sra sm d a b t u x)) d a b x aluSra s

/-- ROR (R100). -/
def execRor (sm : Bool) (d a b : BitVec 5) (t u x : Bool) (s : State) : Out :=
  alu2 (aSigOf (.ror sm d a b t u x)) d a b x aluRor s

/-- SLT (R100). -/
def execSlt (sm : Bool) (d a b : BitVec 5) (t u x : Bool) (s : State) : Out :=
  alu2 (aSigOf (.slt sm d a b t u x)) d a b x aluSlt s

/-- SLTU (R100). -/
def execSltu (sm : Bool) (d a b : BitVec 5) (t u x : Bool) (s : State) : Out :=
  alu2 (aSigOf (.sltu sm d a b t u x)) d a b x aluSltu s

/-- MIN (R100). -/
def execMin (sm : Bool) (d a b : BitVec 5) (t u x : Bool) (s : State) : Out :=
  alu2 (aSigOf (.min sm d a b t u x)) d a b x aluMin s

/-- MAX (R100). -/
def execMax (sm : Bool) (d a b : BitVec 5) (t u x : Bool) (s : State) : Out :=
  alu2 (aSigOf (.max sm d a b t u x)) d a b x aluMax s

/-- MINU (R100). -/
def execMinu (sm : Bool) (d a b : BitVec 5) (t u x : Bool) (s : State) : Out :=
  alu2 (aSigOf (.minu sm d a b t u x)) d a b x aluMinu s

/-- MAXU (R100). -/
def execMaxu (sm : Bool) (d a b : BitVec 5) (t u x : Bool) (s : State) : Out :=
  alu2 (aSigOf (.maxu sm d a b t u x)) d a b x aluMaxu s

/-- MUL (R100). -/
def execMul (sm : Bool) (d a b : BitVec 5) (t u x : Bool) (s : State) : Out :=
  alu2 (aSigOf (.mul sm d a b t u x)) d a b x aluMul s

/-- DIV (R100). -/
def execDiv (sm : Bool) (d a b : BitVec 5) (t u x : Bool) (s : State) : Out :=
  alu2 (aSigOf (.div sm d a b t u x)) d a b x aluDiv s

/-- DIVU (R100). -/
def execDivu (sm : Bool) (d a b : BitVec 5) (t u x : Bool) (s : State) : Out :=
  alu2 (aSigOf (.divu sm d a b t u x)) d a b x aluDivu s

/-- REM (R100). -/
def execRem (sm : Bool) (d a b : BitVec 5) (t u x : Bool) (s : State) : Out :=
  alu2 (aSigOf (.rem sm d a b t u x)) d a b x aluRem s

/-- REMU (R100). -/
def execRemu (sm : Bool) (d a b : BitVec 5) (t u x : Bool) (s : State) : Out :=
  alu2 (aSigOf (.remu sm d a b t u x)) d a b x aluRemu s

/-- MULH (R100). -/
def execMulh (sm : Bool) (d a b : BitVec 5) (t u : Bool) (s : State) : Out :=
  alu2 (aSigOf (.mulh sm d a b t u)) d a b false aluMulh s

/-- MULHU (R100). -/
def execMulhu (sm : Bool) (d a b : BitVec 5) (t u : Bool) (s : State) : Out :=
  alu2 (aSigOf (.mulhu sm d a b t u)) d a b false aluMulhu s

/-- ADDS (R100). -/
def execAdds (sm : Bool) (d a b : BitVec 5) (t u x : Bool) (s : State) : Out :=
  aluSat (aSigOf (.adds sm d a b t u x)) d a b x (· + ·) s

/-- SUBS (R100). -/
def execSubs (sm : Bool) (d a b : BitVec 5) (t u x : Bool) (s : State) : Out :=
  aluSat (aSigOf (.subs sm d a b t u x)) d a b x (· - ·) s

/-- CLZ (R100). -/
def execClz (sm : Bool) (d a : BitVec 5) (t x : Bool) (s : State) : Out :=
  alu1 (aSigOf (.clz sm d a t x)) d a x aluClz s

/-- CTZ (R100). -/
def execCtz (sm : Bool) (d a : BitVec 5) (t x : Bool) (s : State) : Out :=
  alu1 (aSigOf (.ctz sm d a t x)) d a x aluCtz s

/-- POPC (R100). -/
def execPopc (sm : Bool) (d a : BitVec 5) (t x : Bool) (s : State) : Out :=
  alu1 (aSigOf (.popc sm d a t x)) d a x aluPopc s

/-- WFLD (R101). -/
def execWfld (sm : Bool) (d a b : BitVec 5) (t u : Bool) (s : State) : Out :=
  issue (aSigOf (.wfld sm d a b t u)) s fun s =>
    let n := s.rx 2 b.toNat
    if 5 < n.toNat then .trap { cause := cILLEGAL, tval := n }
    else .done (s.putX d.toNat (wfld (s.regs.csrAt csrWIDW).toNat (s.rx 1 a.toNat).toNat n.toNat))

/-- CHKB (R102). -/
def execChkb (sm : Bool) (d a b : BitVec 5) (t u : Bool) (s : State) : Out :=
  issue (aSigOf (.chkb sm d a b t u)) s fun s =>
    let v := s.rx 1 a.toNat
    if v.toNat < (s.rx 2 b.toNat).toNat then .done (s.putX d.toNat v) else .trap { cause := cBOUND, tval := v }

/-- ADDI (R103). -/
def execAddi (sm : Bool) (d a : BitVec 5) (t : Bool) (i : BitVec 13) (s : State) : Out :=
  aluImm (aSigOf (.addi sm d a t i)) d a (sextW 13 i.toNat) false aluAdd s

/-- ANDI (R103). -/
def execAndi (sm : Bool) (d a : BitVec 5) (t : Bool) (i : BitVec 13) (s : State) : Out :=
  aluImm (aSigOf (.andi sm d a t i)) d a (sextW 13 i.toNat) false aluAnd s

/-- ORI (R103). -/
def execOri (sm : Bool) (d a : BitVec 5) (t : Bool) (i : BitVec 13) (s : State) : Out :=
  aluImm (aSigOf (.ori sm d a t i)) d a (natW i.toNat) false aluOr s

/-- XORI (R103). -/
def execXori (sm : Bool) (d a : BitVec 5) (t : Bool) (i : BitVec 13) (s : State) : Out :=
  aluImm (aSigOf (.xori sm d a t i)) d a (natW i.toNat) false aluXor s

/-- SLTI (R103). -/
def execSlti (sm : Bool) (d a : BitVec 5) (t : Bool) (i : BitVec 13) (s : State) : Out :=
  aluImm (aSigOf (.slti sm d a t i)) d a (sextW 13 i.toNat) false aluSlt s

/-- SLLI (R104). -/
def execSlli (sm : Bool) (d a : BitVec 5) (t w : Bool) (c : BitVec 6) (s : State) : Out :=
  aluImm (aSigOf (.slli sm d a t w c)) d a (natW c.toNat) w aluSll s

/-- SRLI (R104). -/
def execSrli (sm : Bool) (d a : BitVec 5) (t w : Bool) (c : BitVec 6) (s : State) : Out :=
  aluImm (aSigOf (.srli sm d a t w c)) d a (natW c.toNat) w aluSrl s

/-- SRAI (R104). -/
def execSrai (sm : Bool) (d a : BitVec 5) (t w : Bool) (c : BitVec 6) (s : State) : Out :=
  aluImm (aSigOf (.srai sm d a t w c)) d a (natW c.toNat) w aluSra s

/-- RORI (R104). -/
def execRori (sm : Bool) (d a : BitVec 5) (t w : Bool) (c : BitVec 6) (s : State) : Out :=
  aluImm (aSigOf (.rori sm d a t w c)) d a (natW c.toNat) w aluRor s

/-- SEL (R105). -/
def execSel (sm : Bool) (d a b c : BitVec 5) (t u v : Bool) (s : State) : Out :=
  selOp (aSigOf (.sel sm d a b c t u v)) d a b c (fun v => v != 0) s

/-- SEL_N (R105). -/
def execSelN (sm : Bool) (d a b c : BitVec 5) (t u v : Bool) (s : State) : Out :=
  selOp (aSigOf (.selN sm d a b c t u v)) d a b c (fun v => v.getLsbD 63) s

/-- LUI (R106). -/
def execLui (sm l : Bool) (d : BitVec 5) (k : BitVec 16) (s : State) : Out :=
  issue (cSig (.lui sm l d k)) s fun s =>
    .done (s.putX d.toNat (sextW 16 k.toNat))

/-- LUI_SH (R106). -/
def execLuiSh (sm l : Bool) (d : BitVec 5) (k : BitVec 16) (s : State) : Out :=
  issue (cSig (.luiSh sm l d k)) s fun s =>
    .done (s.putX d.toNat (s.rx 1 d.toNat <<< 16 ||| natW k.toNat))

end Sys2Proof.Machine
end

