-- ==== Sys2Proof/Machine/Vector.lean ====
section
/-! DEFINITION. The vector and mask instructions apart from loads and stores (R128 to R131, R138 to R150). -/

namespace Sys2Proof.Machine

/-! Lanes, masks and types (R17, R18, R128) -/

/-- The mask bit that governs lane `i` of width `w` (R18, R128). -/
def active (w : Nat) (m : BitVec 16) (i : Nat) : Bool := m.getLsbD (i * w / 32)

/-- The lane width of an element type (R53, R128). -/
def tyW (y : BitVec 3) : Nat :=
  match y.toNat with
  | 0 => 8
  | 1 => 16
  | 3 => 64
  | 4 => 8
  | 5 => 16
  | _ => 32

/-- An I type, and the value of a lane of an integer type. -/
def tySigned (y : BitVec 3) : Bool := decide (y.toNat < 4)
def tyVal (y : BitVec 3) (v : Nat) : Int := if tySigned y then sextInt (tyW y) v else (v : Int)

/-- The format of VFLT, VFMA and VSFU (R49). -/
def fnFmt (f : BitVec 3) : Fmt := if f = 0 then fmt32 else if f = 1 then fmt16 else fmtB16

/-- A register whose active lanes of width `w` take `f`'s values and whose others keep the old ones, with the flags of the
active lanes (R129, R130). -/
def mergeLanes (w : Nat) (m : BitVec 16) (old : BitVec 512) (f : Nat → Nat × Nat) : BitVec 512 × Nat :=
  let rs := (upFrom 0 (512 / w)).map (fun i => if active w m i then f i else (lane w i old.toNat, 0))
  (BitVec.ofNat 512 (ofLanes w (rs.map (·.1))), (rs.map (·.2)).foldl (· ||| ·) 0)

/-- A masked vector operation of lane width `w` that does not round (R129). -/
def vOp (i : Sig) (d : BitVec 5) (m : BitVec 3) (w : Nat) (f : State → Nat → Nat × Nat) (s : State) : Out :=
  issue i s fun s =>
    let (v, fl) := mergeLanes w (s.regs.mAt m.toNat) (s.regs.vAt d.toNat) (f s)
    .done ((s.putV d.toNat v).orFlags fl)

/-- A masked vector operation that rounds every active lane once: one draw per destination lane in SR (R130). -/
def vRound (i : Sig) (d : BitVec 5) (m : BitVec 3) (w : Nat) (f : Nat → Nat → State → Nat → Nat × Nat) (s : State) : Out :=
  issue i s fun s =>
    let mode := s.regs.frm
    let (rv, s1) := s.draws mode (512 / w)
    let (v, fl) := mergeLanes w (s.regs.mAt m.toNat) (s.regs.vAt d.toNat) (fun k => f mode (nth 0 rv k) s k)
    .done ((s1.putV d.toNat v).orFlags fl)

/-- Lane `k` of width `w` of a V source, and as a value of a format. -/
def State.vl (s : State) (n : BitVec 5) (w k : Nat) : Nat := lane w k (s.regs.vAt n.toNat).toNat
def State.vf_ (s : State) (n : BitVec 5) (f : Fmt) (k : Nat) : FV := f.val (s.vl n f.bits k)

/-! Integer lanes (R138, R139) -/

/-- A lane result of VALU on two lanes of a type. -/
def vInt (i : Sig) (d a b : BitVec 5) (m y : BitVec 3) (f : BitVec 3 → Nat → Nat → Nat × Nat) (s : State) : Out :=
  vOp i d m (tyW y) (fun s k => f y (s.vl a (tyW y) k) (s.vl b (tyW y) k)) s

/-- A value clamped to the range of a type, with SAT (R73, R138). -/
def tyClamp (y : BitVec 3) (v : Int) : Nat × Nat :=
  let lo : Int := if tySigned y then smin (tyW y) else 0
  let hi : Int := if tySigned y then smax (tyW y) else ((2 ^ tyW y : Nat) : Int) - 1
  (wrapI (tyW y) (clampI lo hi v), if v < lo ∨ hi < v then flSAT else 0)

def vAddL (y : BitVec 3) (a b : Nat) : Nat × Nat := ((a + b) % 2 ^ tyW y, 0)
def vSubL (y : BitVec 3) (a b : Nat) : Nat × Nat := (aluSub (tyW y) a b, 0)
def vAddsL (y : BitVec 3) (a b : Nat) : Nat × Nat := tyClamp y (tyVal y a + tyVal y b)
def vSubsL (y : BitVec 3) (a b : Nat) : Nat × Nat := tyClamp y (tyVal y a - tyVal y b)
def vMulL (y : BitVec 3) (a b : Nat) : Nat × Nat := (a * b % 2 ^ tyW y, 0)
def vMinL (y : BitVec 3) (a b : Nat) : Nat × Nat := (if tyVal y b < tyVal y a then b else a, 0)
def vMaxL (y : BitVec 3) (a b : Nat) : Nat × Nat := (if tyVal y a < tyVal y b then b else a, 0)

/-- VSH (R139): the count is the signed low byte of the second lane. -/
def vShL (y : BitVec 3) (a b : Nat) : Nat × Nat :=
  let w := tyW y
  let c := sextInt 8 b
  (if 0 ≤ c then (if w ≤ c.toNat then 0 else a * 2 ^ c.toNat % 2 ^ w)
   else wrapI w (tyVal y a / ((2 ^ c.natAbs : Nat) : Int)), 0)

/-- A bitwise operation on 512 bits, governed at 32-bit granularity (R138). -/
def vBit (i : Sig) (d : BitVec 5) (m : BitVec 3) (f : State → Nat → Nat) (s : State) : Out :=
  vOp i d m 32 (fun s k => (f s k, 0)) s

/-! Floating-point lanes (R140 to R143) -/

/-- A rounded operation on one, two or three lanes of a format. -/
def vF1 (i : Sig) (d a : BitVec 5) (m f : BitVec 3) (op : Fmt → Nat → Nat → FV → Nat × Nat) (s : State) : Out :=
  vRound i d m (fnFmt f).bits (fun mode rv s k => op (fnFmt f) mode rv (s.vf_ a (fnFmt f) k)) s
def vF2 (i : Sig) (d a b : BitVec 5) (m f : BitVec 3) (op : Fmt → Nat → Nat → FV → FV → Nat × Nat) (s : State) : Out :=
  vRound i d m (fnFmt f).bits (fun mode rv s k => op (fnFmt f) mode rv (s.vf_ a (fnFmt f) k) (s.vf_ b (fnFmt f) k)) s
def vF3 (i : Sig) (d a b : BitVec 5) (m f : BitVec 3) (op : Fmt → Nat → Nat → FV → FV → FV → Nat × Nat) (s : State) : Out :=
  vRound i d m (fnFmt f).bits
    (fun mode rv s k => op (fnFmt f) mode rv (s.vf_ a (fnFmt f) k) (s.vf_ b (fnFmt f) k) (s.vf_ d (fnFmt f) k)) s

/-- An exact sum of terms rounded once, after the special cases of R92 (R142). -/
def exactSum (f : Fmt) (mode rv : Nat) (ts : List FV) (nv : Nat) : Nat × Nat :=
  if ts.any (·.isNan) then (f.nan, if hasInf true ts && hasInf false ts then nv ||| flNV else nv)
  else if hasInf true ts && hasInf false ts then (f.nan, nv ||| flNV)
  else if hasInf true ts then (f.sign true + f.inf, nv)
  else if hasInf false ts then (f.inf, nv)
  else if ts.all (·.isZero) then
    (f.sign (ts.all (·.isNeg) || (mode == mRDN && !(ts.all (fun t => !t.isNeg)))), nv)
  else
    let es := ts.filterMap (fun t => match t with | .fin _ _ e => some e | _ => none)
    let e0 := es.foldl (fun a b => if a < b then a else b) (es.headD 0)
    let v : Int := (ts.map (fun t => match t with | .fin n m e => atExp n m e e0 | _ => (0 : Int))).foldl (· + ·) 0
    if v = 0 then (f.sign (mode == mRDN), nv)
    else
      let (b, fl) := f.round mode rv (decide (v < 0)) v.natAbs e0 false
      (b, nv ||| fl)

/-- One lane of VFDOT2 (R142). -/
def dot2 (g : Fmt) (mode rv : Nat) (s : State) (d a b : BitVec 5) (k : Nat) : Nat × Nat :=
  let p := (s.vf_ a g (2 * k)).mul (s.vf_ b g (2 * k))
  let q := (s.vf_ a g (2 * k + 1)).mul (s.vf_ b g (2 * k + 1))
  let c := s.vf_ d fmt32 k
  exactSum fmt32 mode rv [p.1, q.1, c] (p.2 ||| q.2 ||| nvOf c.signals)

/-! Reductions (R144, R145) -/

/-- The active lanes of a source: lane number and bits. -/
def State.activeLanes (s : State) (a : BitVec 5) (m y : BitVec 3) : List (Nat × Nat) :=
  ((upFrom 0 (512 / tyW y)).filter (active (tyW y) (s.regs.mAt m.toNat))).map (fun k => (k, s.vl a (tyW y) k))

/-- A reduction's result: element 0 at the type's width, the lane number above it for the arg forms, and zeros. -/
def redPut (y : BitVec 3) (v : Nat) (ln : Option Nat) : BitVec 512 :=
  BitVec.ofNat 512 (v % 2 ^ tyW y + (match ln with | some l => 2 ^ tyW y * (l % 2 ^ 32) | none => 0))

/-- A reduction that does not round. -/
def vRed (i : Sig) (d a : BitVec 5) (m y : BitVec 3) (f : List (Nat × Nat) → Nat × Option Nat × Nat) (s : State) : Out :=
  issue i s fun s =>
    let (v, ln, fl) := f (s.activeLanes a m y)
    .done ((s.putV d.toNat (redPut y v ln)).orFlags fl)

/-- The first best of a list under a strict order. -/
def firstBest (better : Nat → Nat → Bool) : List (Nat × Nat) → Option (Nat × Nat)
  | [] => none
  | h :: t => some (t.foldl (fun r c => if better c.2 r.2 then c else r) h)

/-- The largest or smallest active lane and its number (R144, R145). -/
def redBest (y : BitVec 3) (max : Bool) (arg : Bool) (ls : List (Nat × Nat)) : Nat × Option Nat × Nat :=
  let w := tyW y
  let fp := y == 7
  let cand := if fp then ls.filter (fun c => !(fmt32.val c.2).isNan) else ls
  let fl := if fp then nvOf (ls.any (fun c => (fmt32.val c.2).signals)) else 0
  let less := fun a b => if fp then (fmt32.val a).below (fmt32.val b) else decide (tyVal y a < tyVal y b)
  let dflt : Nat :=
    if fp then (if max then fmt32.sign true + fmt32.inf else fmt32.inf)
    else if tySigned y then (if max then 2 ^ (w - 1) else 2 ^ (w - 1) - 1)
    else (if max then 0 else 2 ^ w - 1)
  match firstBest (fun a b => if max then less b a else less a b) cand with
  | some (k, v) => (v, if arg then some k else none, fl)
  | none => (dflt, if arg then some 0xFFFFFFFF else none, fl)

/-- A fold of all active lanes' bits. -/
def redFold (f : Nat → Nat → Nat) (z : Nat) (ls : List (Nat × Nat)) : Nat × Option Nat × Nat :=
  ((ls.map (·.2)).foldl f z, none, 0)

/-! Compares (R147) -/

/-- The mask of a compare: bit i for 32-bit lanes, bits 2i and 2i + 1 for I64 lanes; inactive lanes give 0. -/
def cmpMask (w : Nat) (m : BitVec 16) (f : Nat → Bool × Nat) : BitVec 16 × Nat :=
  let rs := (upFrom 0 (512 / w)).map (fun k => if active w m k then f k else (false, 0))
  let bits := (rs.map (fun r => if w = 64 then [r.1, r.1] else [r.1])).flatten
  (BitVec.ofNat 16 (ofBits bits), (rs.map (·.2)).foldl (· ||| ·) 0)

/-- A compare: `fi` on integers, `ff` on FP32 values. -/
def vCmp (i : Sig) (d : BitVec 3) (a b : BitVec 5) (m y : BitVec 3) (fi : Int → Int → Bool) (ff : FV → FV → Bool × Nat)
    (s : State) : Out :=
  issue i s fun s =>
    let w := tyW y
    let (v, fl) := cmpMask w (s.regs.mAt m.toNat) (fun k =>
      if y = 7 then ff (s.vf_ a fmt32 k) (s.vf_ b fmt32 k) else (fi (tyVal y (s.vl a w k)) (tyVal y (s.vl b w k)), 0))
    .done ((s.putM d.toNat v).orFlags fl)

def fNe (x y : FV) : Bool × Nat := (!(fEq x y).1, (fEq x y).2)
def fGt (x y : FV) : Bool × Nat := fLt y x
def fGe (x y : FV) : Bool × Nat := fLe y x
def fUnord (x y : FV) : Bool × Nat := (x.isNan || y.isNan, nvOf (x.signals || y.signals))

/-! Conversions (R148, R149) -/

/-- The range of a narrow integer type. -/
def tyLo (y : BitVec 3) : Int := if tySigned y then smin (tyW y) else 0
def tyHi (y : BitVec 3) : Int := if tySigned y then smax (tyW y) else ((2 ^ tyW y : Nat) : Int) - 1

/-- Codes of width `cw` encoded from 16 lanes into group `q`, or the first NaN lane with no entry (R149). -/
def vEncode (i : Sig) (d a q : BitVec 5) (m : BitVec 3) (cw : Nat) (tab : Regs → Tab (BitVec 32)) (s : State) : Out :=
  issue i s fun s =>
    let mk := s.regs.mAt m.toNat
    let n := 2 ^ cw
    let pos := fun k => 16 * q.toNat + k
    let on := fun k => mk.getLsbD (pos k * cw / 32)
    let enc := fun k => encodeT n (tab s.regs) (s.vf_ a fmt32 k)
    match (upFrom 0 16).find? (fun k => on k && (enc k).isNone) with
    | some k => .trap { cause := cILLEGAL, tval := natW (2 ^ 63 + k) }
    | none =>
      let old := (s.regs.vAt d.toNat).toNat
      let rs := (upFrom 0 (512 / cw)).map (fun j =>
        if pos 0 ≤ j ∧ j < pos 16 ∧ on (j - pos 0) then (enc (j - pos 0)).getD (0, 0) else (lane cw j old, 0))
      .done ((s.putV d.toNat (BitVec.ofNat 512 (ofLanes cw (rs.map (·.1))))).orFlags ((rs.map (·.2)).foldl (· ||| ·) 0))

/-- Codes of group `q` decoded to 16 lanes (R149). -/
def vDecode (i : Sig) (d a q : BitVec 5) (m : BitVec 3) (cw : Nat) (tab : Regs → Tab (BitVec 32)) (s : State) : Out :=
  vOp i d m 32 (fun s k => ((tabGet 0 (tab s.regs) (s.vl a cw (16 * q.toNat + k))).toNat, 0)) s

/-! Permutes (R146) -/

/-- The number of active lanes below lane `k`. -/
def rankBelow (w : Nat) (m : BitVec 16) (k : Nat) : Nat := (upFrom 0 k).countP (active w m)

/-- A mask operation on M registers (R150). -/
def mOp (i : Sig) (d : BitVec 5) (f : State → BitVec 16) (s : State) : Out :=
  issue i s fun s => .done (s.putM d.toNat (f s))

/-- VADD (R138). -/
def execVadd (sm : Bool) (d a b : BitVec 5) (m y : BitVec 3) (s : State) : Out :=
  vInt (aSigOf (.vadd sm d a b m y)) d a b m y vAddL s

/-- VSUB (R138). -/
def execVsub (sm : Bool) (d a b : BitVec 5) (m y : BitVec 3) (s : State) : Out :=
  vInt (aSigOf (.vsub sm d a b m y)) d a b m y vSubL s

/-- VADDS (R138). -/
def execVadds (sm : Bool) (d a b : BitVec 5) (m y : BitVec 3) (s : State) : Out :=
  vInt (aSigOf (.vadds sm d a b m y)) d a b m y vAddsL s

/-- VSUBS (R138). -/
def execVsubs (sm : Bool) (d a b : BitVec 5) (m y : BitVec 3) (s : State) : Out :=
  vInt (aSigOf (.vsubs sm d a b m y)) d a b m y vSubsL s

/-- VMUL (R138). -/
def execVmul (sm : Bool) (d a b : BitVec 5) (m y : BitVec 3) (s : State) : Out :=
  vInt (aSigOf (.vmul sm d a b m y)) d a b m y vMulL s

/-- VMIN (R138). -/
def execVmin (sm : Bool) (d a b : BitVec 5) (m y : BitVec 3) (s : State) : Out :=
  vInt (aSigOf (.vmin sm d a b m y)) d a b m y vMinL s

/-- VMAX (R138). -/
def execVmax (sm : Bool) (d a b : BitVec 5) (m y : BitVec 3) (s : State) : Out :=
  vInt (aSigOf (.vmax sm d a b m y)) d a b m y vMaxL s

/-- VSH (R139). -/
def execVsh (sm : Bool) (d a b : BitVec 5) (m y : BitVec 3) (s : State) : Out :=
  vInt (aSigOf (.vsh sm d a b m y)) d a b m y vShL s

/-- VAND (R138). -/
def execVand (sm : Bool) (d a b : BitVec 5) (m : BitVec 3) (s : State) : Out :=
  vBit (aSigOf (.vand sm d a b m)) d m (fun s k => s.vl a 32 k &&& s.vl b 32 k) s

/-- VOR (R138). -/
def execVor (sm : Bool) (d a b : BitVec 5) (m : BitVec 3) (s : State) : Out :=
  vBit (aSigOf (.vor sm d a b m)) d m (fun s k => s.vl a 32 k ||| s.vl b 32 k) s

/-- VXOR (R138). -/
def execVxor (sm : Bool) (d a b : BitVec 5) (m : BitVec 3) (s : State) : Out :=
  vBit (aSigOf (.vxor sm d a b m)) d m (fun s k => s.vl a 32 k ^^^ s.vl b 32 k) s

/-- VANDN (R138). -/
def execVandn (sm : Bool) (d a b : BitVec 5) (m : BitVec 3) (s : State) : Out :=
  vBit (aSigOf (.vandn sm d a b m)) d m (fun s k => s.vl a 32 k &&& (2 ^ 32 - 1 - s.vl b 32 k)) s

/-- VNOT (R138). -/
def execVnot (sm : Bool) (d a : BitVec 5) (m : BitVec 3) (s : State) : Out :=
  vBit (aSigOf (.vnot sm d a m)) d m (fun s k => 2 ^ 32 - 1 - s.vl a 32 k) s

/-- VMOV (R138). -/
def execVmov (sm : Bool) (d a : BitVec 5) (m : BitVec 3) (s : State) : Out :=
  vBit (aSigOf (.vmov sm d a m)) d m (fun s k => s.vl a 32 k) s

/-- VFADD (R140). -/
def execVfadd (sm : Bool) (d a b : BitVec 5) (m f : BitVec 3) (s : State) : Out :=
  vF2 (aSigOf (.vfadd sm d a b m f)) d a b m f Fmt.add s

/-- VFSUB (R140). -/
def execVfsub (sm : Bool) (d a b : BitVec 5) (m f : BitVec 3) (s : State) : Out :=
  vF2 (aSigOf (.vfsub sm d a b m f)) d a b m f Fmt.sub s

/-- VFMUL (R140). -/
def execVfmul (sm : Bool) (d a b : BitVec 5) (m f : BitVec 3) (s : State) : Out :=
  vF2 (aSigOf (.vfmul sm d a b m f)) d a b m f Fmt.mul s

/-- VFDIV (R140). -/
def execVfdiv (sm : Bool) (d a b : BitVec 5) (m f : BitVec 3) (s : State) : Out :=
  vF2 (aSigOf (.vfdiv sm d a b m f)) d a b m f Fmt.div s

/-- VFMIN (R140). -/
def execVfmin (sm : Bool) (d a b : BitVec 5) (m f : BitVec 3) (s : State) : Out :=
  vOp (aSigOf (.vfmin sm d a b m f)) d m (fnFmt f).bits (fun s k => (fnFmt f).minmax false (s.vl a (fnFmt f).bits k) (s.vl b (fnFmt f).bits k)) s

/-- VFMAX (R140). -/
def execVfmax (sm : Bool) (d a b : BitVec 5) (m f : BitVec 3) (s : State) : Out :=
  vOp (aSigOf (.vfmax sm d a b m f)) d m (fnFmt f).bits (fun s k => (fnFmt f).minmax true (s.vl a (fnFmt f).bits k) (s.vl b (fnFmt f).bits k)) s

/-- VFABS (R140). -/
def execVfabs (sm : Bool) (d a : BitVec 5) (m f : BitVec 3) (s : State) : Out :=
  vOp (aSigOf (.vfabs sm d a m f)) d m (fnFmt f).bits (fun s k => (s.vl a (fnFmt f).bits k % 2 ^ ((fnFmt f).bits - 1), 0)) s

/-- VFNEG (R140). -/
def execVfneg (sm : Bool) (d a : BitVec 5) (m f : BitVec 3) (s : State) : Out :=
  vOp (aSigOf (.vfneg sm d a m f)) d m (fnFmt f).bits (fun s k => (s.vl a (fnFmt f).bits k ^^^ 2 ^ ((fnFmt f).bits - 1), 0)) s

/-- VFMADD (R141). -/
def execVfmadd (sm : Bool) (d a b : BitVec 5) (m f : BitVec 3) (s : State) : Out :=
  vF3 (aSigOf (.vfmadd sm d a b m f)) d a b m f Fmt.fma s

/-- VFMSUB (R141). -/
def execVfmsub (sm : Bool) (d a b : BitVec 5) (m f : BitVec 3) (s : State) : Out :=
  vF3 (aSigOf (.vfmsub sm d a b m f)) d a b m f (fun g o r x y z => g.fma o r x y z.neg) s

/-- VFNMADD (R141). -/
def execVfnmadd (sm : Bool) (d a b : BitVec 5) (m f : BitVec 3) (s : State) : Out :=
  vF3 (aSigOf (.vfnmadd sm d a b m f)) d a b m f (fun g o r x y z => g.fma o r x.neg y z.neg) s

/-- VFNMSUB (R141). -/
def execVfnmsub (sm : Bool) (d a b : BitVec 5) (m f : BitVec 3) (s : State) : Out :=
  vF3 (aSigOf (.vfnmsub sm d a b m f)) d a b m f (fun g o r x y z => g.fma o r x.neg y z) s

/-- VFDOT2 (R142). -/
def execVfdot2 (sm : Bool) (d a b : BitVec 5) (m f : BitVec 3) (s : State) : Out :=
  vRound (aSigOf (.vfdot2 sm d a b m f)) d m 32 (fun mode rv s k => dot2 (fnFmt f) mode rv s d a b k) s

/-- VRSUM (R144). -/
def execVrsum (sm : Bool) (d a : BitVec 5) (m y : BitVec 3) (s : State) : Out :=
  issue (aSigOf (.vrsum sm d a m y)) s fun s =>
    let ls := s.activeLanes a m y
    if y = 7 then
      let mode := s.regs.frm
      let (rv, s1) := s.draws mode 1
      let ts := ls.map (fun c => fmt32.val c.2)
      let (b, fl) := if ls = [] then (0, 0) else fused mode (rv.headD 0) ts (nvOf (ts.any (·.signals)))
      .done ((s1.putV d.toNat (redPut y b none)).orFlags fl)
    else .done (s.putV d.toNat (redPut y ((ls.map (·.2)).foldl (· + ·) 0) none))

/-- VRMAX (R144). -/
def execVrmax (sm : Bool) (d a : BitVec 5) (m y : BitVec 3) (s : State) : Out :=
  vRed (aSigOf (.vrmax sm d a m y)) d a m y (redBest y true false) s

/-- VRMIN (R144). -/
def execVrmin (sm : Bool) (d a : BitVec 5) (m y : BitVec 3) (s : State) : Out :=
  vRed (aSigOf (.vrmin sm d a m y)) d a m y (redBest y false false) s

/-- VRARGMAX (R145). -/
def execVrargmax (sm : Bool) (d a : BitVec 5) (m y : BitVec 3) (s : State) : Out :=
  vRed (aSigOf (.vrargmax sm d a m y)) d a m y (redBest y true true) s

/-- VRARGMIN (R145). -/
def execVrargmin (sm : Bool) (d a : BitVec 5) (m y : BitVec 3) (s : State) : Out :=
  vRed (aSigOf (.vrargmin sm d a m y)) d a m y (redBest y false true) s

/-- VRBAND (R144). -/
def execVrband (sm : Bool) (d a : BitVec 5) (m y : BitVec 3) (s : State) : Out :=
  vRed (aSigOf (.vrband sm d a m y)) d a m y (redFold (· &&& ·) (2 ^ tyW y - 1)) s

/-- VRBOR (R144). -/
def execVrbor (sm : Bool) (d a : BitVec 5) (m y : BitVec 3) (s : State) : Out :=
  vRed (aSigOf (.vrbor sm d a m y)) d a m y (redFold (· ||| ·) 0) s

/-- VRBXOR (R144). -/
def execVrbxor (sm : Bool) (d a : BitVec 5) (m y : BitVec 3) (s : State) : Out :=
  vRed (aSigOf (.vrbxor sm d a m y)) d a m y (redFold (· ^^^ ·) 0) s

/-- VPERM (R146). -/
def execVperm (sm : Bool) (d a b : BitVec 5) (m y : BitVec 3) (s : State) : Out :=
  vOp (aSigOf (.vperm sm d a b m y)) d m (tyW y) (fun s k => (if s.vl b (tyW y) k < 512 / tyW y then s.vl a (tyW y) (s.vl b (tyW y) k) else 0, 0)) s

/-- VBCAST (R146). -/
def execVbcast (sm : Bool) (d a : BitVec 5) (m y : BitVec 3) (s : State) : Out :=
  vOp (aSigOf (.vbcast sm d a m y)) d m (tyW y) (fun s _ => (s.vl a (tyW y) 0, 0)) s

/-- VBCASTX (R146). -/
def execVbcastx (sm : Bool) (d a : BitVec 5) (m y : BitVec 3) (s : State) : Out :=
  vOp (aSigOf (.vbcastx sm d a m y)) d m (tyW y) (fun s _ => ((s.rx 1 a.toNat).toNat % 2 ^ tyW y, 0)) s

/-- VROT (R146). -/
def execVrot (sm : Bool) (d a b : BitVec 5) (m y : BitVec 3) (s : State) : Out :=
  vOp (aSigOf (.vrot sm d a b m y)) d m (tyW y) (fun s k => (s.vl a (tyW y) ((k + (s.rx 2 b.toNat).toNat) % (512 / tyW y)), 0)) s

/-- VCOMP (R146). -/
def execVcomp (sm : Bool) (d a : BitVec 5) (m y : BitVec 3) (s : State) : Out :=
  issue (aSigOf (.vcomp sm d a m y)) s fun s =>
    .done (s.putV d.toNat (BitVec.ofNat 512 (ofLanes (tyW y) ((s.activeLanes a m y).map (·.2)))))

/-- VEXPD (R146). -/
def execVexpd (sm : Bool) (d a : BitVec 5) (m y : BitVec 3) (s : State) : Out :=
  vOp (aSigOf (.vexpd sm d a m y)) d m (tyW y) (fun s k => (s.vl a (tyW y) (rankBelow (tyW y) (s.regs.mAt m.toNat) k), 0)) s

/-- VINSX (R146). -/
def execVinsx (sm : Bool) (d a b : BitVec 5) (y : BitVec 3) (s : State) : Out :=
  issue (aSigOf (.vinsx sm d a b y)) s fun s =>
    let j := s.rx 2 b.toNat
    let w := tyW y
    if 512 / w ≤ j.toNat then .trap { cause := cILLEGAL, tval := j }
    else .done (s.putV d.toNat (BitVec.ofNat 512
      (ofLanes w (setNth ((s.rx 1 a.toNat).toNat % 2 ^ w) (lanesOf w (512 / w) (s.regs.vAt d.toNat).toNat) j.toNat))))

/-- VEXTX (R146). -/
def execVextx (sm : Bool) (d a b : BitVec 5) (y : BitVec 3) (s : State) : Out :=
  issue (aSigOf (.vextx sm d a b y)) s fun s =>
    let j := s.rx 2 b.toNat
    let w := tyW y
    if 512 / w ≤ j.toNat then .trap { cause := cILLEGAL, tval := j }
    else .done (s.putX d.toNat (if tySigned y then sextW w (s.vl a w j.toNat) else natW (s.vl a w j.toNat)))

/-- VCMP_EQ (R147). -/
def execVcmpEq (sm : Bool) (d : BitVec 3) (a b : BitVec 5) (m y : BitVec 3) (s : State) : Out :=
  vCmp (aSigOf (.vcmpEq sm d a b m y)) d a b m y (fun a b => a == b) fEq s

/-- VCMP_NE (R147). -/
def execVcmpNe (sm : Bool) (d : BitVec 3) (a b : BitVec 5) (m y : BitVec 3) (s : State) : Out :=
  vCmp (aSigOf (.vcmpNe sm d a b m y)) d a b m y (fun a b => a != b) fNe s

/-- VCMP_LT (R147). -/
def execVcmpLt (sm : Bool) (d : BitVec 3) (a b : BitVec 5) (m y : BitVec 3) (s : State) : Out :=
  vCmp (aSigOf (.vcmpLt sm d a b m y)) d a b m y (fun a b => decide (a < b)) fLt s

/-- VCMP_LE (R147). -/
def execVcmpLe (sm : Bool) (d : BitVec 3) (a b : BitVec 5) (m y : BitVec 3) (s : State) : Out :=
  vCmp (aSigOf (.vcmpLe sm d a b m y)) d a b m y (fun a b => decide (a ≤ b)) fLe s

/-- VCMP_GT (R147). -/
def execVcmpGt (sm : Bool) (d : BitVec 3) (a b : BitVec 5) (m y : BitVec 3) (s : State) : Out :=
  vCmp (aSigOf (.vcmpGt sm d a b m y)) d a b m y (fun a b => decide (b < a)) fGt s

/-- VCMP_GE (R147). -/
def execVcmpGe (sm : Bool) (d : BitVec 3) (a b : BitVec 5) (m y : BitVec 3) (s : State) : Out :=
  vCmp (aSigOf (.vcmpGe sm d a b m y)) d a b m y (fun a b => decide (b ≤ a)) fGe s

/-- VCMP_UNORD (R147). -/
def execVcmpUnord (sm : Bool) (d : BitVec 3) (a b : BitVec 5) (m : BitVec 3) (s : State) : Out :=
  vCmp (aSigOf (.vcmpUnord sm d a b m)) d a b m 7 (fun _ _ => false) fUnord s

/-- VCVT_FI (R148). -/
def execVcvtFi (_sm : Bool) (d a : BitVec 5) (m y : BitVec 3) (s : State) : Out :=
  vRound (aSig [⟨1, 2, a.toNat, false⟩] [⟨2, d.toNat⟩] false false) d m 32 (fun mode rv s k =>
    let (v, fl) := toInt mode rv (tyLo y) (tyHi y) (s.vf_ a fmt32 k)
    (wrapI 32 v, fl)) s

/-- VCVT_IF (R148). -/
def execVcvtIf (_sm : Bool) (d a : BitVec 5) (m y : BitVec 3) (s : State) : Out :=
  vRound (aSig [⟨1, 2, a.toNat, false⟩] [⟨2, d.toNat⟩] false false) d m 32 (fun mode rv s k => fmt32.ofInt mode rv (tyVal y (s.vl a 32 k % 2 ^ tyW y))) s

/-- VCVT_NAR (R148). -/
def execVcvtNar (_sm : Bool) (d a b : BitVec 5) (m y : BitVec 3) (s : State) : Out :=
  vRound (aSig [⟨1, 2, a.toNat, false⟩, ⟨2, 2, b.toNat, false⟩] [⟨2, d.toNat⟩] false false) d m 16 (fun mode rv s k =>
    (if y = 0 then fmt16 else fmtB16).put mode rv (if k < 16 then s.vf_ a fmt32 k else s.vf_ b fmt32 (k - 16))) s

/-- VCVT_WID (R148). -/
def execVcvtWid (_sm : Bool) (d a q : BitVec 5) (m y : BitVec 3) (s : State) : Out :=
  vOp (aSig [⟨1, 2, a.toNat, false⟩] [⟨2, d.toNat⟩] false false) d m 32 (fun s k => fmt32.put mRNE 0 (s.vf_ a (if y = 0 then fmt16 else fmtB16) (16 * q.toNat + k))) s

/-- VCVT_ET8 (R149). -/
def execVcvtEt8 (_sm : Bool) (d a q : BitVec 5) (m : BitVec 3) (s : State) : Out :=
  vEncode (aSig [⟨1, 2, a.toNat, false⟩] [⟨2, d.toNat⟩] false false) d a q m 8 (·.ct8) s

/-- VCVT_DT8 (R149). -/
def execVcvtDt8 (_sm : Bool) (d a q : BitVec 5) (m : BitVec 3) (s : State) : Out :=
  vDecode (aSig [⟨1, 2, a.toNat, false⟩] [⟨2, d.toNat⟩] false false) d a q m 8 (·.ct8) s

/-- VCVT_ET4 (R149). -/
def execVcvtEt4 (_sm : Bool) (d a q : BitVec 5) (m : BitVec 3) (s : State) : Out :=
  vEncode (aSig [⟨1, 2, a.toNat, false⟩] [⟨2, d.toNat⟩] false false) d a q m 4 (·.ct4) s

/-- VCVT_DT4 (R149). -/
def execVcvtDt4 (_sm : Bool) (d a q : BitVec 5) (m : BitVec 3) (s : State) : Out :=
  vDecode (aSig [⟨1, 2, a.toNat, false⟩] [⟨2, d.toNat⟩] false false) d a q m 4 (·.ct4) s

/-- VEXP2 (R143). -/
def execVexp2 (_sm : Bool) (d a : BitVec 5) (m f : BitVec 3) (s : State) : Out :=
  vF1 (aSig [⟨1, 2, a.toNat, false⟩] [⟨2, d.toNat⟩] false false) d a m f Fmt.exp2 s

/-- VLOG2 (R143). -/
def execVlog2 (_sm : Bool) (d a : BitVec 5) (m f : BitVec 3) (s : State) : Out :=
  vF1 (aSig [⟨1, 2, a.toNat, false⟩] [⟨2, d.toNat⟩] false false) d a m f Fmt.log2 s

/-- VRCP (R143). -/
def execVrcp (_sm : Bool) (d a : BitVec 5) (m f : BitVec 3) (s : State) : Out :=
  vF1 (aSig [⟨1, 2, a.toNat, false⟩] [⟨2, d.toNat⟩] false false) d a m f Fmt.rcp s

/-- VRSQRT (R143). -/
def execVrsqrt (_sm : Bool) (d a : BitVec 5) (m f : BitVec 3) (s : State) : Out :=
  vF1 (aSig [⟨1, 2, a.toNat, false⟩] [⟨2, d.toNat⟩] false false) d a m f Fmt.rsqrt s

/-- VSQRT (R143). -/
def execVsqrt (_sm : Bool) (d a : BitVec 5) (m f : BitVec 3) (s : State) : Out :=
  vF1 (aSig [⟨1, 2, a.toNat, false⟩] [⟨2, d.toNat⟩] false false) d a m f Fmt.sqrt s

/-- VTANH (R143). -/
def execVtanh (_sm : Bool) (d a : BitVec 5) (m f : BitVec 3) (s : State) : Out :=
  vF1 (aSig [⟨1, 2, a.toNat, false⟩] [⟨2, d.toNat⟩] false false) d a m f Fmt.tanh s

/-- VSIGM (R143). -/
def execVsigm (_sm : Bool) (d a : BitVec 5) (m f : BitVec 3) (s : State) : Out :=
  vF1 (aSig [⟨1, 2, a.toNat, false⟩] [⟨2, d.toNat⟩] false false) d a m f Fmt.sigm s

/-- VGELU (R143). -/
def execVgelu (_sm : Bool) (d a : BitVec 5) (m f : BitVec 3) (s : State) : Out :=
  vF1 (aSig [⟨1, 2, a.toNat, false⟩] [⟨2, d.toNat⟩] false false) d a m f Fmt.gelu s

/-- MAND (R150). -/
def execMand (_sm : Bool) (d a b : BitVec 5) (s : State) : Out :=
  mOp (aSig [] [⟨4, d.toNat⟩] false false) d (fun s => s.regs.mAt a.toNat &&& s.regs.mAt b.toNat) s

/-- MOR (R150). -/
def execMor (_sm : Bool) (d a b : BitVec 5) (s : State) : Out :=
  mOp (aSig [] [⟨4, d.toNat⟩] false false) d (fun s => s.regs.mAt a.toNat ||| s.regs.mAt b.toNat) s

/-- MXOR (R150). -/
def execMxor (_sm : Bool) (d a b : BitVec 5) (s : State) : Out :=
  mOp (aSig [] [⟨4, d.toNat⟩] false false) d (fun s => s.regs.mAt a.toNat ^^^ s.regs.mAt b.toNat) s

/-- MANDN (R150). -/
def execMandn (_sm : Bool) (d a b : BitVec 5) (s : State) : Out :=
  mOp (aSig [] [⟨4, d.toNat⟩] false false) d (fun s => s.regs.mAt a.toNat &&& ~~~(s.regs.mAt b.toNat)) s

/-- MNOT (R150). -/
def execMnot (_sm : Bool) (d a : BitVec 5) (s : State) : Out :=
  mOp (aSig [] [⟨4, d.toNat⟩] false false) d (fun s => ~~~(s.regs.mAt a.toNat)) s

/-- MFIRST (R150). -/
def execMfirst (_sm : Bool) (d a : BitVec 5) (s : State) : Out :=
  mOp (aSig [] [⟨4, d.toNat⟩] false false) d (fun s => if s.regs.mAt a.toNat = 0 then 0 else 1#16 <<< lowestSet 16 (s.regs.mAt a.toNat).toNat) s

/-- MFROMX (R150). -/
def execMfromx (_sm : Bool) (d a : BitVec 5) (s : State) : Out :=
  mOp (aSig [⟨1, 0, a.toNat, false⟩] [⟨4, d.toNat⟩] false false) d (fun s => (s.rx 1 a.toNat).truncate 16) s

/-- MTOX (R150). -/
def execMtox (_sm : Bool) (d a : BitVec 5) (s : State) : Out :=
  issue (aSig [] [⟨0, d.toNat⟩] false false) s fun s =>
    .done (s.putX d.toNat (natW (s.regs.mAt a.toNat).toNat))

end Sys2Proof.Machine
end

