-- ==== Sys2Proof/Machine/Hyper.lean ====
section
/-! DEFINITION. The hypervector instructions on registers (R152 to R156). -/

namespace Sys2Proof.Machine

/-! Hypervectors (R152 to R156) -/

/-- A hypervector operation with an H result (R154). -/
def hOp (i : Sig) (d : BitVec 3) (f : State → BitVec 4096) (s : State) : Out :=
  issue i s fun s => .done (s.putH d.toNat (f s))

/-- The rotation of HPERM: component 0 moves to component n (R154). -/
def hRot (h : BitVec 4096) (n : Nat) : BitVec 4096 := h.rotateLeft n

/-- One counter of HBUNDLE with its clamp (R155). -/
def bundle1 (up : Bool) (v : Nat) : Nat × Bool :=
  let k := sextInt 8 v + (if up then 1 else -1)
  (wrapI 8 (clampI (-128) 127 k), decide (k < -128 ∨ 127 < k))

/-- HBUNDLE on all counters (R155): the counters and whether one was clamped. -/
def bundle (h : BitVec 4096) (b : BitVec 32768) : BitVec 32768 × Bool :=
  let rs := ((bitsOf 4096 h.toNat).zip (lanesOf 8 4096 b.toNat)).map (fun p => bundle1 p.1 p.2)
  (BitVec.ofNat 32768 (ofLanes 8 (rs.map (·.1))), rs.any (·.2))

/-- HTHR (R155): the sign of each counter, the tie-break's component where it is 0. -/
def thresh (b : BitVec 32768) (tie : BitVec 4096) : BitVec 4096 :=
  BitVec.ofNat 4096 (ofBits (((lanesOf 8 4096 b.toNat).zip (bitsOf 4096 tie.toNat)).map
    (fun p => if p.1 = 0 then p.2 else decide (p.1 < 128))))

/-- HBIND (R154). -/
def execHbind (_sm : Bool) (d a b : BitVec 3) (t : Bool) (s : State) : Out :=
  hOp (aSig [⟨1, 3, a.toNat, t⟩, ⟨2, 3, b.toNat, t⟩] [⟨3, d.toNat⟩] false true) d (fun s => s.regs.hAt a.toNat ^^^ s.regs.hAt b.toNat) s

/-- HPERM (R154). -/
def execHperm (_sm : Bool) (d a : BitVec 3) (t : Bool) (i : BitVec 12) (s : State) : Out :=
  hOp (aSig [⟨1, 3, a.toNat, t⟩] [⟨3, d.toNat⟩] false true) d (fun s => hRot (s.regs.hAt a.toNat) i.toNat) s

/-- HNOT (R154). -/
def execHnot (_sm : Bool) (d a : BitVec 3) (t : Bool) (s : State) : Out :=
  hOp (aSig [⟨1, 3, a.toNat, t⟩] [⟨3, d.toNat⟩] false false) d (fun s => ~~~(s.regs.hAt a.toNat)) s

/-- HMOV (R154). -/
def execHmov (_sm : Bool) (d a : BitVec 3) (t : Bool) (s : State) : Out :=
  hOp (aSig [⟨1, 3, a.toNat, t⟩] [⟨3, d.toNat⟩] false false) d (fun s => s.regs.hAt a.toNat) s

/-- HTHR (R155). -/
def execHthr (_sm : Bool) (d a : BitVec 3) (b : BitVec 2) (t : Bool) (s : State) : Out :=
  hOp (aSig [⟨1, 3, a.toNat, t⟩] [⟨3, d.toNat⟩] false true) d (fun s => thresh (s.regs.bAt b.toNat) (s.regs.hAt a.toNat)) s

/-- HBUNDLE (R155). -/
def execHbundle (_sm : Bool) (a : BitVec 3) (b : BitVec 2) (t : Bool) (s : State) : Out :=
  issue (aSig [⟨1, 3, a.toNat, t⟩] [⟨5, b.toNat⟩] false false) s fun s =>
    let (v, sat) := bundle (s.regs.hAt a.toNat) (s.regs.bAt b.toNat)
    .done ((s.setRegs (s.regs.setB b.toNat v)).orFlags (if sat then flSAT else 0))

/-- HCLR (R155). -/
def execHclr (_sm : Bool) (b : BitVec 2) (s : State) : Out :=
  issue (aSig [] [⟨5, b.toNat⟩] false false) s fun s =>
    .done (s.setRegs (s.regs.setB b.toNat 0))

/-- HDIST (R156). -/
def execHdist (_sm : Bool) (a b : BitVec 3) (t : Bool) (d : BitVec 5) (s : State) : Out :=
  issue (aSig [⟨1, 3, a.toNat, t⟩, ⟨2, 3, b.toNat, t⟩] [⟨0, d.toNat⟩] false false) s fun s =>
    .done (s.putX d.toNat (natW (popcount 4096 (s.regs.hAt a.toNat ^^^ s.regs.hAt b.toNat).toNat)))

/-- HPOP (R156). -/
def execHpop (_sm : Bool) (a : BitVec 3) (t : Bool) (d : BitVec 5) (s : State) : Out :=
  issue (aSig [⟨1, 3, a.toNat, t⟩] [⟨0, d.toNat⟩] false false) s fun s =>
    .done (s.putX d.toNat (natW (popcount 4096 (s.regs.hAt a.toNat).toNat)))

end Sys2Proof.Machine
end

