-- ==== Sys2Proof/Machine/HyperMem.lean ====
section
/-! DEFINITION. Hypervector loads and stores and the Pod (R157 to R166). -/

namespace Sys2Proof.Machine

/-- The address of an HLD or HST (R158). -/
def State.hypAddr (s : State) (a : BitVec 5) : Word := s.rx 1 a.toNat + (if s.regs.rc = 0 then 0 else natW (s.regs.ri * 512))

/-- A load of a hypervector (R158). -/
def hldAt (i : Sig) (sp : Nat) (h : BitVec 3) (a : BitVec 5) (s : State) : Out :=
  issue i s fun s => s.load sp (s.hypAddr a) 512 0 3 h.toNat false

/-- A store of a hypervector: 64 entries of the speculative store buffer (R158, R258). -/
def hstAt (i : Sig) (sp : Nat) (a : BitVec 5) (h : BitVec 3) (s : State) : Out :=
  issue i s fun s => s.store sp (s.hypAddr a) (bytesOf 512 (s.regs.hAt h.toNat).toNat) 0 64

/-- The launch of the current context. -/
def State.myLaunch (s : State) : Nat := (s.me.task.map (·.launch)).getD 0

/-- The first entry, from the start of its launch's grant, and the length of the context's Pod window; none where R161 item 1
traps POD. -/
def State.podWindow (s : State) : Option (Nat × Nat) :=
  let w := (s.regs.csrAt csrHWIN).toNat
  match s.me.task.bind (fun t => tabFind (s.grove (groveOf s.cur)).grants t.launch) with
  | none => none
  | some (_, size) =>
    if fld w 32 13 = 0 ∨ size < fld w 0 12 + fld w 32 13 then none else some (fld w 0 12, fld w 32 13)

/-- The Pod trap of R161 item 1. -/
def State.podTrap (s : State) : Why := { cause := cPOD, tval := s.regs.csrAt csrHWIN }

/-- The window-relative index of PODW and PODR (R161). -/
def State.podIndex (s : State) (a : BitVec 5) : Word := s.rx 1 a.toNat + (if s.regs.rc = 0 then 0 else natW s.regs.ri)

/-- Entry `e` of the current context's Pod grant is poisoned, and no queued write is to rewrite it (R164, R165). -/
def State.podBad (s : State) (e : Nat) : Bool :=
  let g := s.grove (groveOf s.cur)
  let a := s.podBase (groveOf s.cur) s.myLaunch + e
  g.podPoison.contains a && !(g.podQ.any (fun (q : Nat × Nat) =>
    let x := s.ctx q.1
    q.2 == x.nseq && (match x.pend.map (fun (k : Pend) => k.op), x.task with
      | some (.podw f _), some t => s.podBase (groveOf s.cur) t.launch + f == a
      | _, _ => false)))

/-- A request put in the Pod's queue of 32, or a wait for a place (R164). -/
def State.toPod (s : State) (f : State → Res) : Res :=
  let g := s.grove (groveOf s.cur)
  if 32 ≤ g.podQ.length ∨ s.acquiring then .wait
  else f (s.setGrove (groveOf s.cur) { g with podQ := g.podQ ++ [(s.cur, s.me.nseq)] })

/-- HLD_G (R158). -/
def execHldG (sm l : Bool) (h : BitVec 3) (a : BitVec 5) (t : Bool) (s : State) : Out :=
  hldAt (cSig (.hldG sm l h a t)) 0 h a s

/-- HLD_S (R158). -/
def execHldS (sm l : Bool) (h : BitVec 3) (a : BitVec 5) (t : Bool) (s : State) : Out :=
  hldAt (cSig (.hldS sm l h a t)) 1 h a s

/-- HST_G (R158). -/
def execHstG (sm l : Bool) (a : BitVec 5) (h : BitVec 3) (t u : Bool) (s : State) : Out :=
  hstAt (cSig (.hstG sm l a h t u)) 0 a h s

/-- HST_S (R158). -/
def execHstS (sm l : Bool) (a : BitVec 5) (h : BitVec 3) (t u : Bool) (s : State) : Out :=
  hstAt (cSig (.hstS sm l a h t u)) 1 a h s

/-- PODW (R161). -/
def execPodw (sm l : Bool) (a : BitVec 5) (h : BitVec 3) (t u : Bool) (s : State) : Out :=
  issue (cSig (.podw sm l a h t u)) s fun s =>
    s.whenDone (fun s =>
      match s.podWindow with
      | none => .trap s.podTrap
      | some (first, len) =>
        let j := s.podIndex a
        if len ≤ j.toNat then .trap { cause := cPOD, tval := j }
        else s.toPod (fun s => s.send (.podw (first + j.toNat) (s.regs.hAt h.toNat))))
      (fun s _ _ _ _ => .done s)

/-- PODS (R162). -/
def execPods (sm l : Bool) (d : BitVec 5) (h : BitVec 3) (u : Bool) (s : State) : Out :=
  issue (cSig (.pods sm l d h u)) s fun s =>
    match s.podWindow with
    | none => .trap s.podTrap
    | some (first, len) =>
      match (upFrom 0 len).find? (fun j => s.podBad (first + j)) with
      | some j => .trap { cause := cMCE, tval := natW j, unit := 6, acc := 0 }
      | none =>
        s.toPod (fun s => .done (s.addProd 0 d.toNat false
          (.search first len (fld (s.regs.csrAt csrHWIN).toNat 48 13) (s.regs.hAt h.toNat))))

/-- PODR (R161). -/
def execPodr (sm l : Bool) (h : BitVec 3) (a : BitVec 5) (t : Bool) (s : State) : Out :=
  issue (cSig (.podr sm l h a t)) s fun s =>
    s.whenDone (fun s =>
      match s.podWindow with
      | none => .trap s.podTrap
      | some (first, len) =>
        let j := s.podIndex a
        if len ≤ j.toNat then .trap { cause := cPOD, tval := j }
        else s.toPod (fun s => s.send (.podr (first + j.toNat) j.toNat)))
      (fun q _ _ _ _ => .done (q.putH h.toNat ((s.me.pend.map (·.entry)).getD 0)))

end Sys2Proof.Machine
end

