-- ==== Sys2Proof/Machine/LaunchForms.lean ====
section
/-! DEFINITION. Child launches (R210 to R212). -/

namespace Sys2Proof.Machine

/-- The status of a handle as a task of the current context's launch sees it (R211). -/
def State.launchStatus (s : State) (h : Word) : Nat :=
  let num := fld h.toNat 0 40
  match s.me.task, tabFind s.launches num with
  | some t, some l =>
    if h = lidOf s.me.vf num ∧ l.vf = s.me.vf ∧ l.parent = some t.launch
      ∧ !(isFinal l.status && decide (l.finished + 1024 < (s.vf l.vf).childDone)) then l.status else 0
  | _, _ => 0

/-- The child launch of context `c` reaches the Kettle, which queues the copied header and answers with the handle, or with 0
where the child queue is full (R210). A context that runs no task has no child queue to name and gets 0 (DESIGN CHOICE, log
entry 95). -/
def State.takeLnch (s : State) (c : Nat) : State :=
  let x := s.ctx c
  match x.pend with
  | some p =>
    (match p.op, p.result with
     | .lnch _, none =>
       let give := fun (s1 : State) (v : Word) => s1.setCtx c { s1.ctx c with pend := some { p with result := some (.ok v 0 0 0) } }
       (match x.task with
        | none => give s 0
        | some t =>
          if 256 ≤ (s.vf x.vf).childQ.length then give s 0
          else
            let (k, s1) := s.enqueue x.vf (bytesOf 256 (ofWords (wordsFrom p.got 0 32))) (some t.launch)
            give s1 (lidOf x.vf k))
     | _, _ => s)
  | none => s

/-- LNCH (R210). A context that runs no task gets 0: DESIGN CHOICE, log entry 95. -/
def execLnch (sm l : Bool) (d a : BitVec 5) (t : Bool) (s : State) : Out :=
  issue (cSig (.lnch sm l d a t)) s fun s =>
    let h := s.rx 1 a.toNat
    s.whenRead
      (fun s =>
        if 2 ^ 52 ≤ h.toNat then .trap { cause := cPROT, tval := h, acc := 0 }
        else if h.toNat % 256 ≠ 0 then .trap { cause := cMISALIGN, tval := h, acc := 0 }
        else if s.me.pca ≠ 0 ∨ s.me.pcb ≠ 0 ∨ s.acquiring ∨ s.ringOf s.cur ≠ [] then .wait
        else if h.toNat = launchBase then s.sendReads 0 [] (piecesFrom 0 (.hdr ((s.me.task.map (·.launch)).getD 0) 0) 256 h none)
        else if deviceBase ≤ h.toNat then .trap { cause := cPROT, tval := h, acc := 0 }
        else
          match s.reach h .load false with
          | .trap y => .trap y
          | .fault k => .trap (pageTrap h .load k)
          | .at_ l leaf s1 =>
            match s1.poisonedLoc l 256 with
            | some u => .trap { cause := cMCE, tval := h, unit := u, acc := 0 }
            | none => s1.sendReads 0 [] (piecesFrom 0 l 256 h (l.uc leaf)))
      (fun s t => .hold (s.setMe { s.me with pend := some { pc := s.pc, op := .lnch h, since := s.tick, got := t } }))
      (fun q v _ _ _ => .done (q.putX d.toNat v))

/-- LNCH_POLL (R211). -/
def execLnchPoll (sm l : Bool) (d a : BitVec 5) (t : Bool) (s : State) : Out :=
  issue (cSig (.lnchPoll sm l d a t)) s fun s =>
    .done (s.putX d.toNat (natW (s.launchStatus (s.rx 1 a.toNat))))

/-- LNCH_WAIT (R211). -/
def execLnchWait (sm l : Bool) (d a : BitVec 5) (t : Bool) (s : State) : Out :=
  issue (cSig (.lnchWait sm l d a t)) s fun s =>
    let st := s.launchStatus (s.rx 1 a.toNat)
    if isFinal st then .done (s.putX d.toNat (natW st)) else .wait

end Sys2Proof.Machine
end

