-- ==== Sys2Proof/Machine/Matrix.lean ====
section
/-! DEFINITION. The matrix array on slots and accumulators (R167 to R181). -/

namespace Sys2Proof.Machine

/-- A slot as the word sees it: the A word of a pair sees every slot as it stood before the pair (R41, R169). -/
def State.slotAt (s : State) (n : Nat) : Slot :=
  match s.unit.slots with
  | some t => tabGet {} t n
  | none => tabGet {} (s.core (coreOf s.cur)).slots n

/-- A slot of the current core replaced. -/
def State.setSlot (s : State) (n : Nat) (x : Slot) : State :=
  let k := s.core (coreOf s.cur)
  s.setCore (coreOf s.cur) { k with slots := tabSet n x k.slots }

/-- The regions that the tags of slots name, each once (R180). -/
def State.tagsOf (s : State) (ns : List Nat) : List Nat := (ns.filterMap (fun n => (s.slotAt n).tag)).eraseDups

/-- A handover has frozen the region (R429). -/
def State.frozen (s : State) (k : Nat) : Bool := ((tabFind s.sencha.regions k).map (·.frozen)).getD false

/-- What keeps an MMA from reading its slots (R169, R172, R178, R429): a trap, or a wait while a slot is busy. The
mark of a poisoned slot stays until its next good fill or claim: DESIGN CHOICE, log entry 98. -/
def State.slotsStop (s : State) (ns : List Nat) : Option Res :=
  match ns.find? (fun n => (s.slotAt n).owner != some s.cur) with
  | some n => some (.trap { cause := cSLOT, tval := natW n })
  | none =>
    if ns.any (fun n => (s.slotAt n).busy) then some .wait
    else
      match ns.find? (fun n => (s.slotAt n).poison) with
      | some n => some (.trap { cause := cMCE, tval := natW n, unit := 5 })
      | none => ((s.tagsOf ns).find? s.frozen).map (fun k => .trap { cause := cMETER, tval := Config.frozenValue k })

/-- The tile-operation counts of an MMA: one for each distinct region its slots' tags name (R180). None waits for a
ceiling. -/
def State.countTiles (s : State) (a b : Nat) : Option State :=
  (s.tagsOf [a, b]).foldl (fun r k => r.bind (fun q => q.countOp k)) (some s)

/-- A matrix operand as a value: element `e` of a slot under a format code: 0 FP16, 1 BF16, 2 CT8, 3 CT4 (R167, R176). -/
def operand (r : Regs) (k : Nat) (data : Nat) (e : Nat) : FV :=
  match k with
  | 0 => fmt16.val (lane 16 e data)
  | 1 => fmtB16.val (lane 16 e data)
  | 2 => entryVal (tabGet 0 r.ct8 (lane 8 e data))
  | _ => entryVal (tabGet 0 r.ct4 (lane 4 e data))

/-- A value scaled by 2^k. -/
def FV.scale (a : FV) (k : Int) : FV :=
  match a with
  | .fin n m e => .fin n m (e + k)
  | v => v

/-- One term of R91 and R178 with the NV it raises; `off` says that a mask or an all-zero block replaces it by +0. -/
def mmaTerm (a b ts : FV) (sc : Int) (off : Bool) : FV × Nat :=
  if off then (.fin false 0 0, 0)
  else
    let p := a.mul b
    let q := p.1.mul ts
    (FV.scale q.1 sc, p.2 ||| q.2)

/-- One element of a floating-point MMA (R91 to R93, R178). -/
def mmaElem (r : Regs) (fa fb : Nat) (A B : Slot) (ts : FV) (msk z : Bool) (c : BitVec 32) (mode rv i j : Nat) : Nat × Nat :=
  let sa := sextInt 8 (lane 8 i A.side.toNat)
  let sb := sextInt 8 (lane 8 j B.side.toNat)
  let ks := (upFrom 0 16).map (fun k =>
    mmaTerm (operand r fa A.data.toNat (16 * i + k)) (operand r fb B.data.toNat (16 * j + k)) ts (sa + sb)
      ((msk && !((r.mAt 7).getLsbD k)) || sa == -128 || sb == -128))
  let t16 : FV := if z then .fin false 0 0 else fmt32.val c.toNat
  fused mode rv (ks.map (·.1) ++ [t16]) ((ks.map (·.2)).foldl (· ||| ·) (nvOf t16.signals))

/-- One element of MMA.I8 (R94). -/
def mmaElemI (r : Regs) (A B : Slot) (msk z sat : Bool) (c : BitVec 32) (i j : Nat) : Nat × Nat :=
  let p := (upFrom 0 16).map (fun k =>
    if msk && !((r.mAt 7).getLsbD k) then (0 : Int)
    else sextInt 8 (lane 8 (16 * i + k) A.data.toNat) * sextInt 8 (lane 8 (16 * j + k) B.data.toNat))
  let v := p.foldl (· + ·) (if z then 0 else sextInt 32 c.toNat)
  if sat then satI 32 v else (wrapI 32 v, 0)

/-- The accumulator after an MMA: each element not masked out is written (R178). -/
def mmaAcc (r : Regs) (msk : Bool) (old : BitVec 8192) (f : Nat → Nat → BitVec 32 → Nat × Nat) : BitVec 8192 × Nat :=
  let rs := (upFrom 0 256).map (fun e =>
    if !msk || ((r.mAt 5).getLsbD (e / 16) && (r.mAt 6).getLsbD (e % 16)) then f (e / 16) (e % 16) (accElt old e)
    else ((accElt old e).toNat, 0))
  (BitVec.ofNat 8192 (ofLanes 32 (rs.map (·.1))), (rs.map (·.2)).foldl (· ||| ·) 0)

/-- A floating-point MMA (R176 to R180). -/
def mmaF (i : Sig) (fa fb : Nat) (c : BitVec 2) (k z : Bool) (a b f : BitVec 5) (rnd : BitVec 3) (s : State) : Out :=
  issue i s fun s =>
    let na := fld (s.rx 1 a.toNat).toNat 0 7
    let nb := fld (s.rx 2 b.toNat).toNat 0 7
    match s.slotsStop [na, nb] with
    | some r => r
    | none =>
      match s.countTiles na nb with
      | none => .wait
      | some s1 =>
        let mode := if rnd = 5 then s.regs.frm else rnd.toNat
        let (rv, s2) := s1.draws mode 256
        let (v, fl) := mmaAcc s.regs k (s.regs.accAt c.toNat)
          (fun i j old => mmaElem s.regs fa fb (s.slotAt na) (s.slotAt nb) (s.fv f) k z old mode (nth 0 rv (16 * i + j)) i j)
        .done ((s2.setRegs (s2.regs.setAcc c.toNat v)).orFlags fl)

/-- The row index of MROWR and MROWW (R181). -/
def State.rowIx (s : State) (b : BitVec 5) : Word := s.rx 2 b.toNat + (if s.regs.rc = 0 then 0 else natW s.regs.ri)

/-- Bit i of an edge mask is 1 where origin + i lies below the side (R175). -/
def edgeMask (origin side : Nat) : BitVec 16 :=
  BitVec.ofNat 16 (ofBits ((upFrom 0 16).map (fun k => decide (origin + k < side))))

/-- MMA_H (R178). -/
def execMmaH (_sm : Bool) (c : BitVec 2) (k z : Bool) (a b f : BitVec 5) (r : BitVec 3) (s : State) : Out :=
  mmaF (aSig [⟨1, 0, a.toNat, false⟩, ⟨2, 0, b.toNat, false⟩, ⟨3, 1, f.toNat, false⟩] [⟨6, c.toNat⟩] false false) 0 0 c k z a b f r s

/-- MMA_B (R178). -/
def execMmaB (_sm : Bool) (c : BitVec 2) (k z : Bool) (a b f : BitVec 5) (r : BitVec 3) (s : State) : Out :=
  mmaF (aSig [⟨1, 0, a.toNat, false⟩, ⟨2, 0, b.toNat, false⟩, ⟨3, 1, f.toNat, false⟩] [⟨6, c.toNat⟩] false false) 1 1 c k z a b f r s

/-- MMA_T8 (R178). -/
def execMmaT8 (_sm : Bool) (c : BitVec 2) (k z : Bool) (a b f : BitVec 5) (r : BitVec 3) (s : State) : Out :=
  mmaF (aSig [⟨1, 0, a.toNat, false⟩, ⟨2, 0, b.toNat, false⟩, ⟨3, 1, f.toNat, false⟩] [⟨6, c.toNat⟩] false false) 2 2 c k z a b f r s

/-- MMA_T84 (R178). -/
def execMmaT84 (_sm : Bool) (c : BitVec 2) (k z : Bool) (a b f : BitVec 5) (r : BitVec 3) (s : State) : Out :=
  mmaF (aSig [⟨1, 0, a.toNat, false⟩, ⟨2, 0, b.toNat, false⟩, ⟨3, 1, f.toNat, false⟩] [⟨6, c.toNat⟩] false false) 2 3 c k z a b f r s

/-- MMA_T4 (R178). -/
def execMmaT4 (_sm : Bool) (c : BitVec 2) (k z : Bool) (a b f : BitVec 5) (r : BitVec 3) (s : State) : Out :=
  mmaF (aSig [⟨1, 0, a.toNat, false⟩, ⟨2, 0, b.toNat, false⟩, ⟨3, 1, f.toNat, false⟩] [⟨6, c.toNat⟩] false false) 3 3 c k z a b f r s

/-- MMA_I8 (R178). -/
def execMmaI8 (_sm : Bool) (c : BitVec 2) (k z : Bool) (a b : BitVec 5) (t : Bool) (s : State) : Out :=
  issue (aSig [⟨1, 0, a.toNat, false⟩, ⟨2, 0, b.toNat, false⟩] [⟨6, c.toNat⟩] false false) s fun s =>
    let na := fld (s.rx 1 a.toNat).toNat 0 7
    let nb := fld (s.rx 2 b.toNat).toNat 0 7
    match s.slotsStop [na, nb] with
    | some r => r
    | none =>
      match s.countTiles na nb with
      | none => .wait
      | some s1 =>
        let (v, fl) := mmaAcc s.regs k (s.regs.accAt c.toNat)
          (fun i j old => mmaElemI s.regs (s.slotAt na) (s.slotAt nb) k z t old i j)
        .done ((s1.setRegs (s1.regs.setAcc c.toNat v)).orFlags fl)

/-- MZERO (R181). -/
def execMzero (_sm : Bool) (d : BitVec 5) (s : State) : Out :=
  issue (aSig [] [⟨6, d.toNat⟩] false false) s fun s =>
    .done (s.setRegs (s.regs.setAcc d.toNat 0))

/-- MEDGE (R175). -/
def execMedge (_sm : Bool) (a : BitVec 5) (t : Bool) (s : State) : Out :=
  issue (aSig [⟨1, 0, a.toNat, t⟩] [⟨4, 5⟩, ⟨4, 6⟩, ⟨4, 7⟩] false false) s fun s =>
    let g := fun k => (s.regs.csrAt k).toNat
    .done (((s.putM 5 (edgeMask (g csrMGOM) (g csrMGM))).putM 6 (edgeMask (g csrMGON) (g csrMGN))).putM 7
      (edgeMask (s.rx 1 a.toNat).toNat (g csrMGK)))

/-- MROWR (R181). -/
def execMrowr (_sm : Bool) (d a b : BitVec 5) (u : Bool) (s : State) : Out :=
  issue (aSig [⟨2, 0, b.toNat, u⟩] [⟨2, d.toNat⟩] false false) s fun s =>
    let r := s.rowIx b
    if 16 ≤ r.toNat then .trap { cause := cILLEGAL, tval := r }
    else .done (s.putV d.toNat (BitVec.ofNat 512 (lane 512 r.toNat (s.regs.accAt a.toNat).toNat)))

/-- MROWW (R181). -/
def execMroww (_sm : Bool) (d a b : BitVec 5) (t u : Bool) (s : State) : Out :=
  issue (aSig [⟨1, 2, a.toNat, t⟩, ⟨2, 0, b.toNat, u⟩] [⟨6, d.toNat⟩] false false) s fun s =>
    let r := s.rowIx b
    if 16 ≤ r.toNat then .trap { cause := cILLEGAL, tval := r }
    else .done (s.setRegs (s.regs.setAcc d.toNat (BitVec.ofNat 8192 (ofLanes 512
      (setNth (s.regs.vAt a.toNat).toNat (lanesOf 512 16 (s.regs.accAt d.toNat).toNat) r.toNat)))))

end Sys2Proof.Machine
end

