-- ==== Sys2Proof/Machine/MatrixMem.lean ====
section
/-! DEFINITION. The matrix forms that reach memory or claim slots (R96, R169 to R173, R182 to R186). -/

namespace Sys2Proof.Machine

/-- The place of an MLD read in a space, past its checks, with the state after its translation (R172). -/
inductive TileAt where
  | at_ (l : Loc) (leaf : Nat) (s : State)
  | win (data : Nat) (bad : Bool) (s : State)
  | stop (r : Res)

/-- The data or sideband of `n` bytes that an MLD reads (R172); of the stream window at once. -/
def State.tileAt (s : State) (sp : Nat) (a : Word) (n : Nat) : TileAt :=
  match sp with
  | 0 =>
    if s.ringOverlap a.toNat n then .stop .wait
    else
      match s.reach a .load true with
      | .trap y => .stop (.trap y)
      | .fault k => .stop (.trap (pageTrap a .load k))
      | .at_ l leaf s1 => .at_ l leaf s1
  | 1 =>
    match s.scrLoc s.cur a.toNat n with
    | none => .stop (.trap { cause := cPROT, tval := a, acc := 0 })
    | some l => if s.ownWaits l then .stop .wait else .at_ l 0 s
  | _ =>
    let (g, c, q) := s.windowRow a
    match s.reachNow g (nth 0 (s.smap g (s.stream g c).map).pages q) with
    | .reload g p => .stop (.stall g p)
    | .noFrame => .stop (.trap { cause := cQUOTA, tval := a, acc := 0 })
    | .here g p s1 =>
      let l := (s1.pageLoc g p).add (fld a.toNat 0 14)
      .win (ofBytes (s1.readFor s.cur s.me.nseq l n)) (s1.poisonedLoc l n).isSome (s.within s1)

/-- The reads that a fill of `n` bytes still makes, one for each granule (R173, R284). -/
def TileAt.pieces (side : Bool) (a : Word) (n : Nat) : TileAt → List Piece
  | .at_ l leaf _ => (upFrom 0 (n / 8)).map (fun k => { ix := k, loc := l.add (8 * k), va := a, uc := l.uc leaf, side := side })
  | _ => []

/-- What a fill has read already, and whether it is poisoned. -/
def TileAt.known : TileAt → Nat × Bool
  | .win v bad _ => (v, bad)
  | _ => (0, false)

/-- The state after an MLD's address has been translated, or how the instruction ends without it. -/
def TileAt.state : TileAt → Put
  | .at_ _ _ s => .ok s
  | .win _ _ s => .ok s
  | .stop r => .stop r

/-- BYTES of the regions of an MLD.G (R180); none waits for a ceiling. -/
def State.countTile (s : State) (sp : Nat) (a : Word) (c : Option Word) : Option State :=
  if sp ≠ 0 then some s
  else
    (s.countBytes s.me.vf a.toNat 512).bind (fun r =>
      match c with
      | some k => r.countBytes s.me.vf k.toNat 32
      | none => some r)

/-- The fill of an MLD at place `n` in program order, of data and, where SC = 1, sideband (R172). -/
def fillOf (n : Nat) (a : Word) (d : TileAt) : Option (Word × TileAt) → Fill
  | none => { n := n, parts := d.pieces false a 512, data := BitVec.ofNat 4096 d.known.1, bad := d.known.2 }
  | some (b, k) => { n := n, parts := d.pieces false a 512 ++ k.pieces true b 32, data := BitVec.ofNat 4096 d.known.1
                     side := BitVec.ofNat 256 k.known.1, bad := d.known.2 || k.known.2 }

/-- The slot marked busy with its fill (R172). -/
def State.fillSlot (s : State) (n sp : Nat) (a : Word) (d : TileAt) (k : Option (Word × TileAt)) : Res :=
  let tag := if sp = 0 then (s.regionAt s.me.vf a.toNat).map (·.1) else none
  match d.state, (k.map (·.2.state)).getD d.state with
  | .stop r, _ => r
  | _, .stop r => r
  | .ok _, .ok s1 =>
    match s1.countTile sp a (k.map (·.1)) with
    | none => .wait
    | some q =>
      let x := tabGet {} (q.core (coreOf q.cur)).slots n
      .done (q.setSlot n { x with busy := true, fill := some ({ fillOf s.me.nseq a d k with since := s.tick }, tag) })

/-- The checks of an MLD address (R172). -/
def State.tileCheck (s : State) (sp : Nat) (a : Word) (n : Nat) : Option Why :=
  s.checkAddr sp a n .load

/-- An element of an MST: row, address, bytes (R183). -/
structure MElt where
  row : Nat
  addr : Word
  bytes : List Byte
  deriving DecidableEq, Repr

/-- What placing the written elements of an MST answers: each element with its row, its address, and where it goes (none in the
stream window), and the state after the translations. -/
inductive Placed where
  | ok (es : List (MElt × Option Write)) (s : State)
  | stop (r : Res)

/-- An element put before those already placed. -/
def Placed.add (e : MElt × Option Write) : Placed → Placed
  | .ok es s => .ok (e :: es) s
  | r => r

/-- The written elements checked in ascending order, and placed (R183). -/
def State.mstPlace (s : State) (sp z : Nat) : List MElt → Placed
  | [] => .ok [] s
  | e :: t =>
    match s.checkAddr sp e.addr z .store with
    | some y => .stop (.trap y)
    | none =>
      match sp with
      | 0 =>
        if s.ringOverlap e.addr.toNat z then .stop .wait
        else
          match s.reach e.addr .store false with
          | .trap y => .stop (.trap y)
          | .fault k => .stop (.trap (pageTrap e.addr .store k))
          | .at_ l leaf s1 => (s1.mstPlace sp z t).add (e, some { loc := l, bytes := e.bytes, uc := l.uc leaf })
      | 1 =>
        match s.scrLoc s.cur e.addr.toNat z with
        | none => .stop (.trap { cause := cPROT, tval := e.addr, acc := 1 })
        | some l =>
          if s.ownWaits l then .stop .wait
          else (s.mstPlace sp z t).add (e, some { loc := l, bytes := e.bytes })
      | _ => (s.mstPlace sp z t).add (e, none)

/-- The runs of adjacent bytes of a row's written elements, in ascending order. -/
def runsOf : List MElt → List (Word × List Byte)
  | [] => []
  | e :: t =>
    match runsOf t with
    | (a, bs) :: r => if a = e.addr + natW e.bytes.length then (e.addr, e.bytes ++ bs) :: r else (e.addr, e.bytes) :: (a, bs) :: r
    | [] => [(e.addr, e.bytes)]

/-- One row of an MST to global memory or the scratchpad space: one store (R184). Its elements in the own scratchpad are not
counted. In a DUAL launch a row with gaps enters the signature as its runs of adjacent bytes (R205; DESIGN CHOICE, log
entry 97). -/
def State.mstRow (s : State) (sp : Nat) (es : List (MElt × Option Write)) : Option State :=
  let ws := es.filterMap (·.2)
  match es with
  | [] => some s
  | _ :: _ =>
    if sp = 0 then
      let s1 := (runsOf (es.map (·.1))).foldl (fun (r : State) k => r.sign k.1 k.2) s
      if s.inShadow then some s1
      else (es.foldl (fun (r : State) e => match e.2 with
        | some w => r.signOld e.1.addr w.loc w.bytes.length
        | none => r) s1).post (some true) ws
    else
      let own := fun (w : Write) => w.loc.ownOf s.cur
      let far := ws.filter (fun w => !(own w))
      (s.writeOwn (ws.filter own)).bind (fun s1 => if far = [] then some s1 else s1.post (some false) far)

/-- The written elements of an MST stored, row by row (R183, R184). -/
def State.mstWrite (s : State) (sp : Nat) : List (List (MElt × Option Write)) → Put
  | [] => .ok s
  | r :: t =>
    if sp = 2 then
      match r.foldl (fun (q : Put) e => match q with
          | .ok x => x.putWindow e.1.addr e.1.bytes 0 true
          | .stop y => .stop y) (.ok s) with
      | .ok s1 => s1.mstWrite sp t
      | .stop y => .stop y
    else
      match s.mstRow sp r with
      | some s1 => s1.mstWrite sp t
      | none => .stop .wait

/-- MST in one element format: 0 FP32 bits, 1 FP16, 2 BF16 (R182 to R184). -/
def mst (i : Sig) (fmt : Nat) (n : BitVec 2) (a b : BitVec 5) (msk : Bool) (p : BitVec 2) (s : State) : Out :=
  issue i s fun s =>
    let z := if fmt = 0 then 4 else 2
    let mode := s.regs.frm
    let (rv, s1) := if fmt = 0 then ([], s) else s.draws mode 256
    let old := s.regs.accAt n.toNat
    let base := s.rx 1 a.toNat
    let stride := s.rx 2 b.toNat
    let conv := fun (e : Nat) =>
      let v := (accElt old e).toNat
      match fmt with
      | 0 => (v, 0)
      | 1 => fmt16.put mode (nth 0 rv e) (fmt32.val v)
      | _ => fmtB16.put mode (nth 0 rv e) (fmt32.val v)
    let es := (upFrom 0 256).filter (fun e =>
      !msk || ((s.regs.mAt 5).getLsbD (e / 16) && (s.regs.mAt 6).getLsbD (e % 16)))
    let ws := es.map (fun e => (({ row := e / 16, addr := base + natW (e / 16) * stride + natW (e % 16 * z)
                                   bytes := bytesOf z (conv e).1 } : MElt), (conv e).2))
    match s1.mstPlace p.toNat z (ws.map (·.1)) with
    | .stop r => r
    | .ok ps s2 =>
      if s.acquiring then .wait
      else
        match s2.mstWrite p.toNat ((upFrom 0 16).map (fun k => ps.filter (fun e => e.1.row == k))) with
        | .stop r => r
        | .ok s3 => .done (s3.orFlags ((ws.map (·.2)).foldl (· ||| ·) 0))

/-- What the translations of a code table answer: its reads and the state after them. -/
inductive TabRead where
  | ok (ps : List Piece) (s : State)
  | stop (r : Res)

/-- The reads of a code table from place `j`, in 64-byte blocks, each within one page and one scratchpad (R96, R123, R271). -/
def State.readTable (s : State) (sp : Nat) : Nat → Nat → Word → TabRead
  | 0, _, _ => .ok [] s
  | k + 1, j, a =>
    match s.checkSpace sp a .load with
    | some y => .stop (.trap y)
    | none =>
      let at1 : TileAt :=
        if sp = 0 then
          if s.ringOverlap a.toNat 64 then .stop .wait
          else
            match s.reach a .load false with
            | .trap y => .stop (.trap y)
            | .fault f => .stop (.trap (pageTrap a .load f))
            | .at_ l leaf s1 =>
              match s1.countBytes s.me.vf a.toNat 64 with
              | some s2 => .at_ l leaf s2
              | none => .stop .wait
        else
          match s.scrLoc s.cur a.toNat 64 with
          | some l => .at_ l 0 s
          | none => .stop (.trap { cause := cPROT, tval := a, acc := 0 })
      match at1 with
      | .stop r => .stop r
      | .win _ _ _ => .stop .wait
      | .at_ l leaf s1 =>
        match s1.poisonedLoc l 64 with
        | some u => .stop (.trap { cause := cMCE, tval := a, unit := u, acc := 0 })
        | none =>
          if s.ownWaits l then .stop .wait
          else
            match s1.readTable sp k (j + 8) (a + 64) with
            | .ok t s2 => .ok (piecesFrom j l 64 a (l.uc leaf) ++ t) s2
            | .stop r => .stop r

/-- The 32-bit entries of a table's words, the lower half of each first. -/
def tableEntries (ws : List Word) : List (BitVec 32) :=
  (ws.map (fun w => [BitVec.ofNat 32 w.toNat, BitVec.ofNat 32 (w.toNat / 2 ^ 32)])).flatten

/-- MCLAIM (R170). -/
def execMclaim (sm l : Bool) (d a : BitVec 5) (t : Bool) (s : State) : Out :=
  issue (cSig (.mclaim sm l d a t)) s fun s =>
    let r := s.rx 1 a.toNat
    let t := (s.core (coreOf s.cur)).slots
    let claim := fun (n : Nat) =>
      (s.setSlot n { owner := some s.cur, busy := true }).putX d.toNat (natW n)
    if s.acquiring then .wait
    else if r = minusOne then
      match (upFrom 0 128).find? (fun n => (tabGet {} t n).owner.isNone) with
      | some n => .done (claim n)
      | none => .done (s.putX d.toNat minusOne)
    else if 127 < r.toNat then .trap { cause := cILLEGAL, tval := r }
    else if (tabGet {} t r.toNat).owner = some s.cur then .done (s.putX d.toNat r)
    else if (tabGet {} t r.toNat).owner.isSome then .done (s.putX d.toNat minusOne)
    else .done (claim r.toNat)

/-- MREL (R170). -/
def execMrel (sm l : Bool) (a : BitVec 5) (t : Bool) (s : State) : Out :=
  issue (cSig (.mrel sm l a t)) s fun s =>
    let r := s.rx 1 a.toNat
    let x := tabGet {} (s.core (coreOf s.cur)).slots r.toNat
    if 127 < r.toNat ∨ x.owner ≠ some s.cur then .trap { cause := cSLOT, tval := r }
    else if x.busy then .wait
    else .done (s.setSlot r.toNat { x with owner := none, tag := none })

/-- MLD (R172). -/
def execMld (sm l : Bool) (d a b : BitVec 5) (t u c : Bool) (p : BitVec 2) (s : State) : Out :=
  issue (cSig (.mld sm l d a b t u c p)) s fun s =>
    let ri := if s.regs.rc = 0 then 0 else s.regs.ri
    let n := fld (s.rx 4 d.toNat).toNat 0 7 + ri
    let x := tabGet {} (s.core (coreOf s.cur)).slots n
    let sp := p.toNat
    if 127 < n ∨ x.owner ≠ some s.cur then .trap { cause := cSLOT, tval := natW n }
    else
      let adr := s.rx 1 a.toNat + natW (ri * 512)
      let sd := s.rx 2 b.toNat + natW (ri * 32)
      match s.tileCheck sp adr 512, (if c then s.tileCheck sp sd 32 else none) with
      | some y, _ => .trap y
      | none, some y => .trap y
      | none, none =>
        if x.busy || s.acquiring then .wait
        else
          let da := s.tileAt sp adr 512
          let s1 := match da with
            | .at_ _ _ q => q
            | .win _ _ q => q
            | .stop _ => s
          s.fillSlot n sp adr da (if c then some (sd, s1.tileAt sp sd 32) else none)

/-- MST_F32 (R183). -/
def execMstF32 (sm l : Bool) (n : BitVec 2) (a b : BitVec 5) (t u m : Bool) (p : BitVec 2) (s : State) : Out :=
  mst (cSig (.mstF32 sm l n a b t u m p)) 0 n a b m p s

/-- MST_H (R183). -/
def execMstH (sm l : Bool) (n : BitVec 2) (a b : BitVec 5) (t u m : Bool) (p : BitVec 2) (s : State) : Out :=
  mst (cSig (.mstH sm l n a b t u m p)) 1 n a b m p s

/-- MST_B (R183). -/
def execMstB (sm l : Bool) (n : BitVec 2) (a b : BitVec 5) (t u m : Bool) (p : BitVec 2) (s : State) : Out :=
  mst (cSig (.mstB sm l n a b t u m p)) 2 n a b m p s

/-- CTLD (R96). -/
def execCtld (sm l : Bool) (a : BitVec 5) (t p n : Bool) (s : State) : Out :=
  issue (cSig (.ctld sm l a t p n)) s fun s =>
    let base := s.rx 1 a.toNat
    let k := if n then 16 else 256
    s.whenRead
      (fun s =>
        if base.toNat % 64 ≠ 0 then .trap { cause := cMISALIGN, tval := base, acc := 0 }
        else if s.acquiring then .wait
        else
          match s.readTable (if p then 1 else 0) (k / 16) 0 base with
          | .stop r => r
          | .ok ps s1 => s1.sendReads 0 [] ps)
      (fun s t =>
        let es := tableEntries (wordsFrom t 0 (k / 2))
        match invalidCode k es with
        | some c => .trap { cause := cRESERVED, tval := natW c }
        | none =>
          let t := (upFrom 0 k).zip es
          .done (s.setRegs (if n then { s.regs with ct4 := t } else { s.regs with ct8 := t })))
      (fun q _ _ _ _ => .done q)

end Sys2Proof.Machine
end

