-- ==== Sys2Proof/Machine/Cache.lean ====
section
/-! DEFINITION. The specialisation cache of a die (R226 to R228, R234). -/

namespace Sys2Proof.Machine

/-- The size of a die's specialisation cache: 4 MiB (the table of the package's parts in the scope chapter). -/
def cacheBytes : Nat := 4194304

/-- The bytes that an entry occupies (R227). -/
def Residual.size (r : Residual) : Nat := 8 * r.words.length + 64

/-- A context holds a residual PC (R228, R234): its PC alone is looked at (DESIGN CHOICE, log entry 98). -/
def Ctx.inResidual (x : Ctx) : Bool :=
  decide (residualBase ≤ x.regs.pc.toNat ∧ x.regs.pc.toNat < residualBase + 0x10000)

/-- An entry of a die is pinned: a context of the die is bound to a launch that uses it, or holds a residual PC of it, resident
or saved (R228). -/
def State.pinned (s : State) (d : Nat) (r : Residual) : Bool :=
  let uses := fun (num : Nat) => match tabFind s.launches num with
    | some l => l.vf == r.vf && l.residual == some r.key
    | none => false
  s.binds.any (fun b => dieOf b.1 == d && b.2.launch.any uses)
    || s.ctxs.any (fun (c : Nat × Ctx) => dieOf c.1 == d && c.2.status != .free && c.2.task.any (fun t => uses t.launch))
    || s.parts.any (fun (p : Nat × Part) => (p.2.saved ++ (p.2.ckpt.map (·.sets)).getD []).any (fun (v : SavedSet) =>
        v.cores.any (fun (k : SavedCore) => k.ctxs.any (fun x => dieOf x.1 == d && x.2.inResidual && x.2.task.any (fun t => uses t.launch)))))

/-- Unpinned entries evicted, least recently used first, until `need` bytes are free; none where the pinned ones leave too
little room (R228). -/
def State.makeRoom (s : State) (d need : Nat) : Nat → List Residual → Option (List Residual)
  | 0, _ => none
  | f + 1, es =>
    if (es.map Residual.size).sum + need ≤ cacheBytes then some es
    else
      match (es.filter (fun r => !(s.pinned d r))).foldl (fun (o : Option Residual) r => match o with
          | some q => if r.used < q.used then some r else some q
          | none => some r) none with
      | some r => State.makeRoom s d need f (es.erase r)
      | none => none

/-- An entry placed in a die's cache. -/
def State.cachePut (s : State) (d : Nat) (r : Residual) : Option State :=
  let es := (s.die d).cache
  (s.makeRoom d r.size (es.length + 1) es).map (fun es1 => s.setDie d { s.die d with cache := es1 ++ [r] })

/-- The residual that the saved or moved contexts of a launch run is put on die `d` too: it is identical there, and some die or
the pinned entry of a saved context still holds it (R226, R228, R234). None where the cache of `d` cannot hold it. A placement
counts as a use (R228; log entry 84). -/
def State.carryResidual (s : State) (num d : Nat) : Option State :=
  match tabFind s.launches num with
  | none => some s
  | some l =>
    match l.residual with
    | none => some s
    | some key =>
      let same := fun (r : Residual) => r.key == key && r.vf == l.vf
      let s1 := s.setLaunch num { l with ready := if l.ready.contains d then l.ready else l.ready ++ [d] }
      if (s.die d).cache.any same then some s1
      else
        match s.dies.findSome? (fun x => x.2.cache.find? same) with
        | none => none
        | some r => s1.cachePut d { r with used := s.tick }

end Sys2Proof.Machine
end

