-- ==== Sys2Proof/Machine/Moves.lean ====
section
/-! DEFINITION. Moves of pages between tiers (R273, R278). -/

namespace Sys2Proof.Machine

/-- Entries of a page table written by the Kettle (R273, R278). -/
def State.writePtes (s : State) (es : List (Nat × Word)) : State :=
  es.foldl (fun r e => r.writeLoc (.mem e.1) (bytesOf 8 e.2.toNat)) s

/-! Page moves (R273, R278) -/

/-- A place in a range of frames. -/
def Loc.inFrames (a n : Nat) : Loc → Bool
  | .mem pa => decide (a ≤ pa ∧ pa < a + n)
  | _ => false

/-- A leaf entry that maps a frame: its address, and the virtual address and size of its page. -/
structure Mapped where
  ea : Nat
  va : Nat
  bytes : Nat
  deriving DecidableEq, Repr

/-- The leaf entries below the page table at `t`, which serves the addresses from `va` on, that map a frame of a range. -/
def State.mapsOf (s : State) (a n : Nat) : List Nat → Nat → Nat → List Mapped
  | [], _, _ => []
  | lo :: more, t, va =>
    ((upFrom 0 (if lo = 48 then 16 else 512)).map (fun i =>
      let e := s.mem64 (t + 8 * i)
      let v := va + 2 ^ lo * i
      if !(bitAt e 0) then []
      else
        let f := fld e 12 40 * 4096
        if fld e 7 2 = 0 ∧ lo ≠ 12 then s.mapsOf a n more f v
        else if f < a + n ∧ a < f + 2 ^ leafBits e then [{ ea := t + 8 * i, va := v, bytes := 2 ^ leafBits e }]
        else [])).flatten

/-- The leaf entries of a function that map a frame of a range. -/
def State.mappings (s : State) (a n vf : Nat) : List Mapped := s.mapsOf a n [48, 39, 30, 21, 12] (s.vf vf).root 0

/-- An access of a context that has been translated to a frame of a range and is still to be performed. -/
def Ctx.reaches (x : Ctx) (a n : Nat) : Bool :=
  x.prods.any (fun p => p.src.places.any (fun l => l.1.inFrames a n))
    || x.posted.any (fun p => p.writes.any (fun w => w.loc.inFrames a n))
    || x.spec.any (fun sp => sp.held.any (fun h => h.writes.any (fun w => w.loc.inFrames a n)))
    || x.pend.any (fun p => match p.op with
      | .atom _ l _ _ _ _ _ => l.inFrames a n
      | .read _ ps => ps.any (fun p => p.loc.inFrames a n)
      | .write es => es.any (fun e => e.any (fun w => w.loc.inFrames a n))
      | _ => false)

/-- An access that has been translated to a frame of a range is still to be performed. -/
def State.reached (s : State) (a n : Nat) : Bool :=
  s.ctxs.any (fun c => c.2.reaches a n)
    || s.parts.any (fun p => p.2.saved.any (fun v => v.cores.any (fun k => k.ctxs.any (fun c => c.2.reaches a n))))
    || s.cores.any (fun k => k.2.slots.any (fun t => t.2.fill.any (fun f => f.1.places.any (fun l => l.1.inFrames a n))))
    || s.groves.any (fun g => g.2.copies.any (fun k => k.out.any (fun w => w.loc.inFrames a n)))

/-- A move begins: every entry of every function that maps the page loses V and is held by no unit any more, so the page is ABSENT
(R278). -/
def State.beginMove (s : State) (m : Moving) : State :=
  let maps := ((m.vf :: s.vfs.map (·.1)).eraseDups.map (fun v => (s.mappings m.src m.bytes v).map (fun x => (v, x)))).flatten
  let es := (maps.map (fun x => x.2.ea)).eraseDups
  let s1 := es.foldl (fun (r : State) ea => r.writeLoc (.mem ea) (bytesOf 8 (r.mem64 ea / 2 * 2))) s
  let s2 := s1.dropHeld (fun e => decide (fld e.leaf 12 40 * 4096 < m.src + m.bytes ∧ m.src < fld e.leaf 12 40 * 4096 + 2 ^ e.bits))
  { s2 with moving := s2.moving ++ [{ m with places := maps.map (fun x => (x.1, x.2.va, x.2.bytes)) }] }

/-- A WAITA that sleeps on a place of a range of frames compares again, with the translation then in force (R278, R313). -/
def Ctx.woken (a n : Nat) (x : Ctx) : Ctx :=
  match x.pend with
  | some p =>
    (match p.op with
     | .sleep l _ _ => if l.inFrames a n then { x with pend := some { p with result := some (.ok 0 0 0 0) } } else x
     | _ => x)
  | none => x

/-- A move ends, when every access that was translated before it has been performed: the bytes are copied, the new entries
written, and a WAITA that sleeps on the page compares again (R278). -/
def State.endMove (s : State) (n : Nat) : State :=
  match s.moving[n]? with
  | none => s
  | some m =>
    if s.reached m.src m.bytes then s
    else
      let s1 := (s.putBlock (.mem m.dst) m.bytes (s.cells (.mem m.src) m.bytes) (s.poisonOf (.mem m.src) m.bytes)).writePtes m.ptes
      { s1 with moving := s1.moving.eraseIdx n, ctxs := s1.ctxs.map (fun (c : Nat × Ctx) => (c.1, c.2.woken m.src m.bytes)) }

end Sys2Proof.Machine
end

