-- ==== Sys2Proof/Machine/VectorMem.lean ====
section
/-! DEFINITION. Vector loads, stores, gathers and scatters (R131 to R137). -/

namespace Sys2Proof.Machine

/-- An element of a gather or scatter checked in turn (R136): its place and the state after its translation, or the
trap; none is a shadow's store or waits. -/
inductive Lane where
  | at_ (l : Loc) (leaf : Nat) (s : State)
  | skip
  | stop (r : Res)

/-- The checks of one element of a VGS (R136). -/
def State.vgsLane (s : State) (sp : Nat) (a : Word) (w : Bool) : Lane :=
  let acc : Acc := if w then .store else .load
  match s.checkAddr sp a 4 acc with
  | some y => .stop (.trap y)
  | none =>
    match sp with
    | 0 =>
      match s.reach a acc false with
      | .trap y => .stop (.trap y)
      | .fault k => .stop (.trap (pageTrap a acc k))
      | .at_ l leaf s1 => .at_ l leaf s1
    | 1 =>
      match s.scrLoc s.cur a.toNat 4 with
      | some l => .at_ l 0 s
      | none => .stop (.trap { cause := cPROT, tval := a, acc := accCode acc })
    | _ => .skip

/-- The checks of all active elements, in ascending order: the state after their translations (R136). -/
def State.lanesOk (s : State) (sp : Nat) (w : Bool) : List (Nat × Word) → Put
  | [] => .ok s
  | (_, a) :: t =>
    match s.vgsLane sp a w with
    | .stop r => .stop r
    | .skip => s.lanesOk sp w t
    | .at_ _ _ s1 => s1.lanesOk sp w t

/-- The active elements of a VGS: lane and address (R136). -/
def State.vgsLanes (s : State) (a : BitVec 5) (b : BitVec 5) (m : BitVec 3) : List (Nat × Word) :=
  ((upFrom 0 16).filter (fun i => (s.regs.mAt m.toNat).getLsbD i)).map (fun i =>
    (i, s.rx 1 a.toNat + sextW 32 (lane 32 i (s.regs.vAt b.toNat).toNat)))

/-- What a gather has gathered: the lanes known already over the old value, and the places still to be read. -/
structure Gather where
  base : Nat
  parts : List Piece := []
  deriving DecidableEq, Repr

/-- Element `i`, of `w` bytes, of a value replaced. -/
def setElt (w v i x : Nat) : Nat := v - 2 ^ (8 * w * i) * fld v (8 * w * i) (8 * w) + 2 ^ (8 * w * i) * x

/-- What reading the lanes of a gather answers. -/
inductive Gathered where
  | ok (g : Gather) (s : State)
  | stop (r : Res)

/-- The elements of a gather: the own scratchpad and the window are read now, in program order; the others later (R136,
R137, R349). -/
def State.gather (s : State) (sp : Nat) (g : Gather) : List (Nat × Word) → Gathered
  | [] => .ok g s
  | (i, a) :: t =>
    match s.vgsLane sp a false with
    | .stop r => .stop r
    | .skip =>
      match s.readWindow a 4 true with
      | .stop r => .stop r
      | .bytes bs s1 => s1.gather sp { g with base := setElt 4 g.base i (ofBytes bs) } t
    | .at_ l leaf s1 =>
      if s.ownWaits l then .stop .wait
      else if l.ownOf s.cur && (s.poisonedLoc l 4).isNone then
        s1.gather sp { g with base := setElt 4 g.base i (ofBytes (s1.readFor s.cur s.me.nseq l 4)) } t
      else
        match (if sp = 0 then s1.countBytes s.me.vf a.toNat 4 else some s1) with
        | none => .stop .wait
        | some s2 => s2.gather sp { g with parts := g.parts ++ [{ ix := i, loc := l, va := a, uc := l.uc leaf }] } t

/-- The elements of a scatter written in ascending lane order (R136, R137). -/
def State.scatter (s : State) (sp : Nat) (v : Nat) : List (Nat × Word) → Put
  | [] => .ok s
  | (i, a) :: t =>
    match (if sp = 2 then s.putWindow a (bytesOf 4 (lane 32 i v)) 1 true else s.put sp a (bytesOf 4 (lane 32 i v)) 1 false) with
    | .ok s1 => s1.scatter sp v t
    | .stop r => .stop r

/-- VLDG (R133). -/
def execVldg (sm l : Bool) (d a : BitVec 5) (o : BitVec 8) (z w : BitVec 2) (s : State) : Out :=
  issue (cSig (.vldg sm l d a o z w)) s fun s =>
    let m := 64 / 2 ^ z.toNat
    s.load 0 (s.addrOf a o m) m w 2 d.toNat false

/-- VSTG (R133). -/
def execVstg (sm l : Bool) (d a : BitVec 5) (o : BitVec 8) (z w : BitVec 2) (t : Bool) (s : State) : Out :=
  issue (cSig (.vstg sm l d a o z w t)) s fun s =>
    let m := 64 / 2 ^ z.toNat
    s.store 0 (s.addrOf a o m) (bytesOf m (s.regs.vAt d.toNat).toNat) w ((m + 7) / 8)

/-- VLDS (R133). -/
def execVlds (sm l : Bool) (d a : BitVec 5) (o : BitVec 8) (z w : BitVec 2) (s : State) : Out :=
  issue (cSig (.vlds sm l d a o z w)) s fun s =>
    let m := 64 / 2 ^ z.toNat
    s.load 1 (s.addrOf a o m) m w 2 d.toNat false

/-- VSTS (R133). -/
def execVsts (sm l : Bool) (d a : BitVec 5) (o : BitVec 8) (z w : BitVec 2) (t : Bool) (s : State) : Out :=
  issue (cSig (.vsts sm l d a o z w t)) s fun s =>
    let m := 64 / 2 ^ z.toNat
    s.store 1 (s.addrOf a o m) (bytesOf m (s.regs.vAt d.toNat).toNat) w ((m + 7) / 8)

/-- VGATH (R136). -/
def execVgath (sm l : Bool) (d a b : BitVec 5) (t u : Bool) (p : BitVec 2) (m : BitVec 3) (s : State) : Out :=
  issue (cSig (.vgath sm l d a b t u p m)) s fun s =>
    let ls := s.vgsLanes a b m
    match s.lanesOk p.toNat false ls with
    | .stop r => r
    | .ok _ =>
      if s.acquiring || (p == 0 && ls.any (fun x => s.ringOverlap x.2.toNat 4)) then .wait
      else
        match s.gather p.toNat { base := (s.regs.vAt d.toNat).toNat } ls with
        | .stop r => r
        | .ok g s1 => .done (s1.addProd 2 d.toNat false (.gather 4 g.base g.parts))

/-- VSCAT (R136). -/
def execVscat (sm l : Bool) (d a b : BitVec 5) (t u : Bool) (p : BitVec 2) (m : BitVec 3) (s : State) : Out :=
  issue (cSig (.vscat sm l d a b t u p m)) s fun s =>
    let ls := s.vgsLanes a b m
    match s.lanesOk p.toNat true ls with
    | .stop r => r
    | .ok s1 => if s.acquiring then .wait else (s1.scatter p.toNat (s.regs.vAt d.toNat).toNat ls).res

end Sys2Proof.Machine
end

