-- ==== Sys2Proof/Machine/EvMem.lean ====
section
/-! DEFINITION. What the memory levels, the Pod and the slots do after an instruction has issued (R20, R24, R136, R162 to R165, R172, R273, R275 to R280, R285, R292, R301, R307 to R310, R313, R448). -/

namespace Sys2Proof.Machine

/-! Outstanding producers (R20, R24, R26, R136, R162, R399) -/

/-- What performing event `k` of a producer brings: its value, what is still to be read, or the address and unit of the
poisoned data that it met. -/
inductive Brought where
  | value (v : Nat)
  | more (src : ProdSrc)
  | bad (va : Word) (u : BitVec 4)
  deriving DecidableEq, Repr

/-- Event `k` of a producer of context `c` at place `n` performed (R20, R136, R284, R399). -/
def State.brought (s : State) (c n k : Nat) : ProdSrc → Brought
  | .value v => .value v
  | .load l m sx va =>
    match s.poisonedFor c l m with
    | some u => .bad va u
    | none => .value (loadBits m sx (s.readFor c n l m))
  | .gather w base ps =>
    match ps[k]? with
    | none => if ps = [] then .value base else .more (.gather w base ps)
    | some p =>
      match s.poisonedFor c p.loc w with
      | some u => .bad p.va u
      | none =>
        let v := setElt w base p.ix (ofBytes (s.readFor c n p.loc w))
        if ps.length = 1 then .value v else .more (.gather w v (ps.eraseIdx k))
  | .desc a base ps =>
    match ps[k]? with
    | none => if ps = [] then .value base else .more (.desc a base ps)
    | some p =>
      match s.poisonedFor c p.loc 8 with
      | some u => .bad a u
      | none =>
        let v := setElt 8 base p.ix (ofBytes (s.readFor c n p.loc 8))
        if ps.length = 1 then .value v else .more (.desc a v (ps.eraseIdx k))
  | .search f l d q => .more (.search f l d q)

/-- The read that event `k` of a producer makes, with the tier of an uncached page. -/
def Prod.event (p : Prod) (k : Nat) : Option (Loc × Nat × Option Nat) :=
  match p.src with
  | .load l n _ _ => some (l, n, p.uc)
  | .gather w _ ps => (ps[k]?).map (fun q => (q.loc, w, q.uc))
  | .desc _ _ ps => (ps[k]?).map (fun q => (q.loc, 8, none))
  | _ => none

/-- An access of a context to its own scratchpad that precedes program-order place `n` has not been performed (R286 row 10). -/
def State.ownBefore (s : State) (c n : Nat) : Bool :=
  (s.readsBefore c n).any (fun r => r.1.ownOf c) || (s.ctx c).posted.any (fun q => q.own && decide (q.n < n))

/-- Event `k` of a producer may be performed: it follows the earlier reads and uncached accesses that it must (R276, R285), an
earlier push to the same port (R26), and a search has been served (R164). -/
def State.prodReady (s : State) (c : Nat) (p : Prod) (k : Nat) : Bool :=
  let x := s.ctx c
  (match p.src with
   | .search _ _ _ _ => false
   | .desc _ _ _ => !(s.ownBefore c p.n)
   | _ => true)
  && (p.event k).all (fun e => !(s.readBlocked c p.n e.1 e.2.1) && !(s.ucBlocked c p.n e.2.2))
  && (p.push.isNone || (x.spec.isNone && (x.prods.find? (fun q => q.push == p.push)) == some p
      && !((s.ringOf c).any (fun e => e.push == p.push && decide (e.n < p.n)))))

/-- The first of equal elements of a list removed. -/
def dropFirst {α : Type} [DecidableEq α] (a : α) : List α → List α
  | [] => []
  | b :: t => if a = b then t else b :: dropFirst a t

/-- The first of equal elements of a list replaced. -/
def swapFirst {α : Type} [DecidableEq α] (a b : α) : List α → List α
  | [] => []
  | d :: t => if a = d then b :: t else d :: swapFirst a b t

/-- The registers that a producer writes: the context's, and those of the checkpoint when it precedes the collective branch
(R258). -/
def Ctx.land (x : Ctx) (p : Prod) (f : Regs → Regs) : Ctx :=
  { x with regs := f x.regs
           spec := x.spec.map (fun sp => if p.spec then sp else { sp with cp := f sp.cp }) }

/-- A machine check deferred, also for the checkpoint when the producer precedes the collective branch (R258, R399). -/
def Ctx.defer (x : Ctx) (p : Prod) (e : Word × BitVec 4) : Ctx :=
  { x with
    mce := x.mce ++ [e]
    spec := x.spec.map (fun sp => if p.spec then sp else { sp with mce := sp.mce ++ [e] }) }

/-- A value that has arrived pushed (R26): for the Spout it is the address of a descriptor, which is read first (R284, R317). -/
def State.latePush (s : State) (port : Nat) (v : Nat) : ProdSrc → Submit
  | .desc a _ _ => s.submit a ((lanesOf 64 8 v).map natW)
  | _ => s.pushPort (portOf s.self port) (natW v) none

/-- A value that has arrived written to its destination, which is then full (R20), or pushed (R26); nothing where the push must
wait. -/
def State.landValue (s : State) (c : Nat) (p : Prod) (v : Nat) : State :=
  let x := s.ctx c
  let x1 := { x with prods := dropFirst p x.prods }
  match p.push with
  | none => s.setCtx c (x1.land p (fun r => r.setBits p.cls.toNat p.reg v))
  | some port =>
    let s1 := { s.setCtx c x1 with cur := c }
    match s1.latePush port v p.src with
    | .ok _ s2 => { s2 with cur := s.cur }
    | .wait =>
      (match p.src with
       | .desc a _ _ => s.setCtx c { x with prods := swapFirst p { p with src := .desc a v [] } x.prods }
       | _ => s)
    | .read l a => s.setCtx c { x with prods := swapFirst p { p with src := .desc a 0 (piecesFrom 0 l 64 a none) } x.prods }
    | .trap w =>
      let t : TrapRec := { cause := w.cause, tval := w.tval, epc := x.regs.pc, dfr := true, unit := w.unit, acc := w.acc, kind := w.kind }
      { (s.setCtx c { x1 with pend := none }).takeTrap c t with cur := s.cur }

/-- Event `k` of a producer performed: with the last one the destination is written (R20); poisoned data marks it, with its MCE
deferred (R399). -/
def State.landProd (s : State) (c : Nat) (p : Prod) (k : Nat) : State :=
  let x := s.ctx c
  match s.brought c p.n k p.src with
  | .value v => s.landValue c p v
  | .more src => s.setCtx c { x with prods := swapFirst p { p with src := src } x.prods }
  | .bad va u =>
    let x1 := { x with prods := dropFirst p x.prods }
    let x2 := if p.push.isSome then x1 else x1.land p (fun r => r.setPoison p.cls.toNat p.reg)
    s.setCtx c (x2.defer p (va, u))

/-- Granule `k` of the operand that the unit of context `c` reads or writes performed, if it may be (R284, R406). Poisoned data
traps MCE at the unit; that of a replay, whose access code is 15, is the owner's, and is noted (R399). -/
def State.granule (s : State) (c k : Nat) (remote : Bool) : State :=
  let x := s.ctx c
  match x.pend with
  | some p =>
    (match p.op, p.result with
     | .read acc ps, none =>
       (match ps[k]? with
        | none => s
        | some q =>
          let away := q.loc.pkg s.self != s.self
          if away ≠ remote ∨ s.readBlocked c x.nseq q.loc 8 ∨ s.ucBlocked c x.nseq q.uc then s
          else
            match s.poisonedFor c q.loc 8 with
            | some u =>
              if acc = 15 then
                s.setCtx c { x with pend := some { p with op := .read acc (ps.eraseIdx k)
                                                          got := tabSet poisonMark (natW u.toNat) (tabSet q.ix 0 p.got) } }
              else s.setCtx c { x with pend := some { p with result := some (.trap cMCE q.va u) } }
            | none =>
              let v := natW (ofBytes (s.readFor c x.nseq q.loc 8))
              s.setCtx c { x with pend := some { p with op := .read acc (ps.eraseIdx k), got := tabSet q.ix v p.got } })
     | .write es, none =>
       (match es[k]? with
        | none => s
        | some e =>
          let away := e.any (fun w => w.loc.pkg s.self != s.self)
          if away ≠ remote ∨ e.any (fun w => s.resting w.loc) then s
          else
            let rest := es.eraseIdx k
            let q : Pend := { p with op := .write rest, result := if rest = [] then some (.ok 0 0 0 0) else none }
            (s.perform e).setCtx c { x with pend := some q })
     | _, _ => s)
  | none => s

/-- Event `k` of the `i`-th outstanding producer of context `c` performed, if it may be, or where there is none of the operand of
its unit; `remote` where it reads memory of another package (R448). -/
def State.produce (s : State) (c i k : Nat) (remote : Bool) : State :=
  match (s.ctx c).prods[i]? with
  | none => s.granule c k remote
  | some p =>
    let away := (p.event k).any (fun e => e.1.pkg s.self != s.self)
    if away = remote ∧ s.prodReady c p k then s.landProd c p k else s

/-! Posted stores (R292, R293, R285) -/

/-- Event `k` of the `i`-th posted store of a context may be performed: every earlier access of the context that overlaps it is
done, an uncached one keeps its order (R276), stores to the own scratchpad are performed in program order (R124, R134, R184), as
are those that a right prediction has released, from their lowest granule on (R259, R287), and a Whisk contribution has reached
its owner. -/
def State.postedReady (s : State) (c i k : Nat) (p : Posted) (e : List Write) : Bool :=
  let x := s.ctx c
  (!p.own || !((x.posted.take i).any (·.own))) &&
  (!p.drained || (k == 0 && !((x.posted.take i).any (·.drained)))) &&
  e.all (fun w =>
    !(s.readBlocked c p.n w.loc w.bytes.length) && !(s.ucBlocked c p.n w.uc) &&
    (x.posted.take i).all (fun q => q.writes.all (fun v => !(v.overlaps w.loc w.bytes.length))))
  && (p.tree.isNone || p.taken)

/-- The `i`-th posted store of a context acknowledged (R292): all of it has been performed. -/
def State.acknowledge (s : State) (c i : Nat) (p : Posted) : State :=
  let x := s.ctx c
  let s1 := s.setCtx c { x with
    posted := x.posted.eraseIdx i
    pca := if p.own || p.clsB then x.pca else x.pca - 1
    pcb := if p.own || !p.clsB then x.pcb else x.pcb - 1 }
  s1.received c p

/-- Event `k` of the `i`-th posted store of a context performed; with the last one the store is acknowledged (R284, R292). -/
def State.performPosted (s : State) (c i k : Nat) (p : Posted) : State :=
  let s1 := s.perform (nth [] p.events k)
  let rest := p.events.eraseIdx k
  if rest = [] then s1.acknowledge c i p
  else s1.setCtx c { s1.ctx c with posted := setNth { p with events := rest } (s1.ctx c).posted i }

/-- Event `k` of the `i`-th posted store of context `c` performed, if it may be. -/
def State.ackPosted (s : State) (c i k : Nat) (remote : Bool) : State :=
  match (s.ctx c).posted[i]? with
  | none => s
  | some p =>
    match p.unsent with
    | some m => s.sendKept c i p m
    | none =>
    let e := nth [] p.events k
    let away := e.any (fun w => w.loc.pkg s.self != s.self)
    if away = remote ∧ (k < p.events.length ∨ p.events = []) ∧ s.postedReady c i k p e then s.performPosted c i k p else s

/-! Atomics at their point of coherence (R306 to R308) -/

/-- New (R307) on `w` bits: the new value and the flags. -/
def atomNew (op : AtomOp) (w o b e : Nat) : Nat × Nat :=
  let f := fun (r : Nat × Nat) => r
  match op with
  | .swap => (b, 0)
  | .add => ((o + b) % 2 ^ w, 0)
  | .and => (o &&& b, 0)
  | .or => (o ||| b, 0)
  | .xor => (o ^^^ b, 0)
  | .max => (if sextInt w o < sextInt w b then b else o, 0)
  | .min => (if sextInt w b < sextInt w o then b else o, 0)
  | .maxu => (max o b, 0)
  | .minu => (min o b, 0)
  | .cas => (if o = e then b else o, 0)
  | .fadd => f (fmt32.add mRNE 0 (fmt32.val o) (fmt32.val b))
  | .fmin => f (fmt32.minmax false o b)
  | .fmax => f (fmt32.minmax true o b)
  | .store => (b, 0)
  | .read => (o, 0)

/-- An atomic performed on the bytes of a place: the old value, the flags, and the state. -/
def State.atomAt (s : State) (op : AtomOp) (l : Loc) (size b e : Nat) : Nat × Nat × State :=
  let o := ofBytes (s.readLoc l size)
  let (v, fl) := atomNew op (8 * size) o b e
  let write := match op with
    | .cas => decide (o = e)
    | .read => false
    | _ => true
  (o, fl, if write then s.writeLoc l (bytesOf size v) else s)

/-- The atomic or ordered store that context `c` has sent performed at its point of coherence, if it may be (R285, R308). -/
def State.performAtom (s : State) (c : Nat) (remote : Bool) : State :=
  let x := s.ctx c
  match x.pend with
  | none => s
  | some p =>
    match p.op, p.result with
    | .atom op l size b e va uc, none =>
      let away := l.pkg s.self != s.self
      if away ≠ remote ∨ s.readBlocked c x.nseq l size ∨ s.ucBlocked c x.nseq uc
        ∨ x.posted.any (fun q => q.writes.any (fun w => w.overlaps l size)) then s
      else
        match (if op = .store then none else s.poisonedFor c l size) with
        | some u => s.setCtx c { x with pend := some { p with result := some (.trap cMCE va u) } }
        | none =>
          let (o, fl, s1) := s.atomAt op l size b.toNat e.toNat
          s1.setCtx c { x with pend := some { p with result := some (.ok (sextW (8 * size) o) 0 0 (BitVec.ofNat 6 fl)) } }
    | _, _ => s

/-! The Pod (R161 to R165) -/

/-- The result of a search over a Pod window (R162). -/
def podSearch (g : Grove) (first len maxd : Nat) (q : BitVec 4096) : Nat :=
  let best := (upFrom 0 len).foldl (fun (r : Nat × Nat) j =>
    let d := popcount 4096 ((tabGet 0 g.pod (first + j)) ^^^ q).toNat
    if d < r.1 then (d, j) else r) (4097, 0)
  if best.1 ≤ maxd then best.1 * 2 ^ 16 + best.2 else 2 ^ 64 - 1

/-- A search served (R162, R164). One that meets an entry poisoned since it issued leaves its destination as it was, with the
MCE deferred, since its unit has retired (R165; DESIGN CHOICE, log entry 78). -/
def State.serveSearch (s : State) (gn c : Nat) (p : Prod) (first len maxd : Nat) (q : BitVec 4096) : State :=
  let g := s.grove gn
  let x := s.ctx c
  let at_ := s.podBase gn ((x.task.map (·.launch)).getD 0) + first
  match (upFrom 0 len).find? (fun j => g.podPoison.contains (at_ + j)) with
  | some j =>
    let full := fun (r : Regs) => if p.push.isSome then r else r.setBits 0 p.reg (r.bitsAt 0 p.reg)
    s.setCtx c ((({ x with prods := dropFirst p x.prods } : Ctx).land p full).defer p (natW j, 6))
  | none => s.setCtx c { x with prods := swapFirst p { p with src := .value (podSearch g at_ len maxd q) } x.prods }

/-- The Pod write or read that context `c` waits for served (R161, R164, R165). -/
def State.serveEntry (s : State) (gn c : Nat) (p : Pend) : State :=
  let g := s.grove gn
  let x := s.ctx c
  let base := s.podBase gn ((x.task.map (·.launch)).getD 0)
  match p.op with
  | .podw e v =>
    (s.setGrove gn { g with pod := tabSet (base + e) v g.pod, podPoison := g.podPoison.filter (· != base + e) }).setCtx c
      { x with pend := some { p with result := some (.ok 0 0 0 0) } }
  | .podr e j =>
    let q : Pend := if g.podPoison.contains (base + e) then { p with result := some (.trap cMCE (natW j) 6) }
      else { p with result := some (.ok 0 0 0 0), entry := tabGet 0 g.pod (base + e) }
    s.setCtx c { x with pend := some q }
  | _ => s

/-- The request at the head of a Pod's queue served (R164). The entries of a search are read together (log entry 79). -/
def State.servePod (s : State) (gn : Nat) : State :=
  let g := s.grove gn
  match g.podQ with
  | [] => s
  | (c, n) :: rest =>
    let s1 := s.setGrove gn { g with podQ := rest }
    let x := s.ctx c
    let hit := x.prods.findSome? (fun p => match p.src with
      | .search first len maxd q => if p.n = n then some (p, first, len, maxd, q) else none
      | _ => none)
    match hit with
    | some (p, first, len, maxd, q) => s1.serveSearch gn c p first len maxd q
    | none =>
      match x.pend with
      | some p => if n = x.nseq ∧ p.result.isNone then s1.serveEntry gn c p else s1
      | none => s1

/-! Tile fills (R172, R173) -/

/-- A fill with read `k` made (R173, R284). -/
def Fill.read (f : Fill) (k : Nat) (p : Piece) (v : Nat) (bad : Bool) : Fill :=
  let f1 := { f with parts := f.parts.eraseIdx k, bad := f.bad || bad }
  if p.side then { f1 with side := BitVec.ofNat 256 (setElt 8 f.side.toNat p.ix v) }
  else { f1 with data := BitVec.ofNat 4096 (setElt 8 f.data.toNat p.ix v) }

/-- The slot when its fill has ended: it holds the data and sideband, or is marked with the error and left as it was (R172). -/
def Slot.filled (x : Slot) (f : Fill) (tag : Option Nat) : Slot :=
  if f.bad then { x with busy := false, fill := none, poison := true }
  else { x with busy := false, fill := none, data := f.data, side := f.side, tag := tag, poison := false }

/-- Event `k` of the fill of a slot performed, if it may be; after the last one the fill ends (R172, R173). -/
def State.completeFill (s : State) (core n k : Nat) : State :=
  let v := s.core core
  let x := tabGet {} v.slots n
  let put := fun (y : Slot) => s.setCore core { v with slots := tabSet n y v.slots }
  match x.owner, x.fill with
  | some c, some (f, tag) =>
    if f.parts = [] then put (x.filled f tag)
    else
      (match f.parts[k]? with
       | none => s
       | some p =>
         if s.readBlocked c f.n p.loc 8 || s.ucBlocked c f.n p.uc then s
         else
           let f1 := f.read k p (ofBytes (s.readFor c f.n p.loc 8)) (s.poisonedFor c p.loc 8).isSome
           put (if f1.parts = [] then x.filled f1 tag else { x with fill := some (f1, tag) }))
  | _, none => if x.busy then put { x with busy := false } else s
  | none, _ => s

/-- The invalidation that the Kettle has issued for a function's changed mapping completes (R273). -/
def State.invalidated (s : State) (vf : Nat) : State :=
  let s1 := s.dropHeld (fun e => e.vf == vf)
  { s1 with invals := s1.invals.filter (· != vf) }

/-- LONG_LATENCY_WRITE (R20): one event of an outstanding producer, or past those of the operand of the unit (R284). -/
def execLongLatencyWrite (c : Nat) (n : GranuleEvent) (s : State) : Out :=
  .next (s.produce c n.entry n.part false)

/-- SPOUT_PORT_PUSH (R317). -/
def execSpoutPortPush (c : Nat) (a : Word) (s : State) : Out :=
  match (s.ctx c).prods.find? (fun p => (p.push.map (portOf s.self)) == some .spout && (match p.src with
      | .value v => v == a.toNat
      | .desc b _ _ => b == a
      | _ => false)) with
  | some p => .next (if s.prodReady c p 0 then s.landProd c p 0 else s)
  | none => .next s

/-- SLOT_FILL_COMPLETE (R172): one event of the fill of the slot. -/
def execSlotFillComplete (core : Nat) (slot : GranuleEvent) (s : State) : Out :=
  .next (s.completeFill core slot.entry slot.part)

/-- POSTED_STORE_ACK (R292): one event of a posted store. -/
def execPostedStoreAck (c : Nat) (n : GranuleEvent) (s : State) : Out :=
  .next (s.ackPosted c n.entry n.part false)

/-- WAITA_WAKE (R313). -/
def execWaitaWake (c : Nat) (s : State) : Out :=
  match (s.ctx c).pend with
  | some p =>
    match p.op, p.result with
    | .sleep l size v, none =>
      if ofBytes (s.readFor c (s.ctx c).nseq l size) = v then .next s
      else .next (s.setCtx c { s.ctx c with pend := some { p with result := some (.ok 0 0 0 0) } })
    | _, _ => .next s
  | none => .next s

/-- HOME_SLICE_PERFORM (R308): the operation that the context has sent is performed, or its child launch reaches the Kettle
(R210). -/
def execHomeSlicePerform (c : Nat) (s : State) : Out :=
  .next ((s.performAtom c false).takeLnch c)

/-- POD_REQUEST_SERVED (R164). -/
def execPodRequestServed (g : Nat) (s : State) : Out :=
  .next (s.servePod g)

/-- A frame of this package that another package's access reaches. -/
def State.ownFrame (s : State) (pa : Nat) : Bool := fld pa 43 9 == s.self && s.installed pa

/-- REMOTE_MEMORY_REQUEST (R448). -/
def execRemoteMemoryRequest (r : RemoteReq) (s : State) : Out :=
  match r with
  | .producer c i k => .next (s.produce c i k true)
  | .posted c i k => .next (s.ackPosted c i k true)
  | .atomic c => .next (s.performAtom c true)
  | .foreignLoad src pa size =>
    if s.ownFrame pa then .next (s.sendPacket src (.memData (s.readLoc (.mem pa) size) (s.poisonedLoc (.mem pa) size).isSome)) else .next s
  | .foreignStore src pa bs => if s.ownFrame pa then .next ((s.writeLoc (.mem pa) bs).sendPacket src .memAck) else .next s
  | .foreignAtomic src pa size op b e =>
    if s.ownFrame pa then
      let (o, _, s1) := s.atomAt op (.mem pa) size b.toNat e.toNat
      .next (s1.sendPacket src (if op = .store then .memAck else .memData (bytesOf size o) (s.poisonedLoc (.mem pa) size).isSome))
    else .next s

/-- HOST_ATOMIC_UR (R310). -/
def execHostAtomicUr (c : Nat) (s : State) : Out :=
  match (s.ctx c).pend with
  | some p =>
    match p.op, p.result with
    | .atom op l _ _ _ va _, none =>
      let host : Bool := match l with
        | .mem pa => fld pa 41 2 == 2
        | _ => false
      if host ∧ op ≠ .store then
        .next (s.setCtx c { s.ctx c with pend := some { p with result := some (.trap cHOSTATOM va) } })
      else .next s
    | _, _ => .next s
  | none => .next s

/-- A range of frames touches a near page of this package that is fenced or under test, which receives no frame (R401, R402). -/
def State.onFenced (s : State) (a n : Nat) : Bool :=
  let tested := s.mgmt.testing.filterMap (fun u => match u with
    | .nearPage p => some p
    | _ => none)
  (s.mgmt.fencedPages ++ tested).any (fun p => decide (s.paOf 0 (2 ^ 21 * p) < a + n ∧ a < s.paOf 0 (2 ^ 21 * p) + 2 ^ 21))

/-- PAGE_MIGRATION (R278). -/
def execPageMigration (vf : Nat) (va src dst bytes : Nat) (ptes : List (Nat × Word)) (s : State) : Out :=
  if s.onFenced dst bytes then .next s
  else .next (s.beginMove { vf := vf, va := va, src := src, dst := dst, bytes := bytes, ptes := ptes })

/-- MAPPING_CHANGE (R273): the entries are written, and the Kettle's invalidation begins. -/
def execMappingChange (vf : Nat) (_va : Word) (ptes : List (Nat × Word)) (s : State) : Out :=
  let s1 := s.writePtes ptes
  .next { s1 with invals := if s1.invals.contains vf then s1.invals else s1.invals ++ [vf] }

/-- RETRY_FAULT_LAUNCH (R280). -/
def execRetryFaultLaunch (g tag : Nat) (s : State) : Out :=
  match (s.grove g).ring.find? (fun e => e.tag == tag) with
  | none => .next s
  | some e =>
    let num := ((s.owner e.ctx e.gen).bind (fun x => x.task.map (·.launch))).getD 0
    let t : TrapRec := { cause := cPAGE, tval := e.va, epc := 0, kind := BitVec.ofNat 4 e.kind, acc := if e.store then 1 else 0 }
    let s1 := s.postEvent e.vf 2 [natW (4 + 256 * 6), lidOf e.vf num, e.va, 0, 0, 0, tinfoOf t, s.caddrGen e.ctx e.gen]
    .next (s1.killLaunch num 6)

/-- HOST_AGENT_ACCESS (R301). -/
def execHostAgentAccess (a : HostAccess) (s : State) : Out :=
  match a with
  | .load pa size =>
    if fld pa 43 9 = s.self ∧ fld pa 41 2 = 2 then .next { s with hostOut := s.hostOut ++ [s.readLoc (.mem pa) size] } else .next s
  | .store pa bs => if fld pa 43 9 = s.self ∧ fld pa 41 2 = 2 then .next (s.writeLoc (.mem pa) bs) else .next s

end Sys2Proof.Machine
end

