-- ==== Sys2Proof/Machine/Units.lean ====
section
/-! DEFINITION. Units that fail: self-tests, fencing, and the work that moves away from a fenced unit (R401 to R403, R416,
R469). -/

namespace Sys2Proof.Machine

/-! The state of a unit (R401, R402) -/

/-- The code that TINFO gives the unit of an error (R393): 0 for a link that carries no data of its own. -/
def unitCode : UnitId → Nat
  | .core _ => 1
  | .grove _ => 6
  | .stack _ => 8
  | .frame _ _ => 7
  | .podEntry _ _ => 6
  | .nearPage _ => 8
  | .link _ => 10

/-- The five bytes that name a unit in a list of units: its kind, then its number, or its grove and its number (R402). -/
def unitBytes : UnitId → List Byte
  | .core n => 0 :: bytesOf 4 n
  | .grove n => 1 :: bytesOf 4 n
  | .stack n => 2 :: bytesOf 4 n
  | .frame g n => 3 :: bytesOf 4 (65536 * g + n)
  | .podEntry g n => 4 :: bytesOf 4 (65536 * g + n)
  | .nearPage n => 5 :: bytesOf 4 n
  | .link n => 6 :: bytesOf 4 n

/-! Moving a core's work (R281, R332, R403, R416) -/

/-- The context that `c` becomes when what core `k` holds moves to core `k1`. -/
def movedCtx (k k1 c : Nat) : Nat := if coreOf c = k then 4 * k1 + c % 4 else c

/-- A place of the own scratchpad after the move. -/
def Loc.moved (k k1 : Nat) : Loc → Loc
  | .scr j o => .scr (if j = k then k1 else j) o
  | l => l

def ProdSrc.moved (m : Loc → Loc) : ProdSrc → ProdSrc
  | .load l n x va => .load (m l) n x va
  | .gather w b ps => .gather w b (ps.map (fun p => { p with loc := m p.loc }))
  | .desc a b ps => .desc a b (ps.map (fun p => { p with loc := m p.loc }))
  | p => p

def movedWrites (m : Loc → Loc) (ws : List Write) : List Write := ws.map (fun w => { w with loc := m w.loc })

def PendOp.moved (m : Loc → Loc) : PendOp → PendOp
  | .atom op l n b e va uc => .atom op (m l) n b e va uc
  | .sleep l n v => .sleep (m l) n v
  | .read acc ps => .read acc (ps.map (fun p => { p with loc := m p.loc }))
  | .write es => .write (es.map (movedWrites m))
  | p => p

def Fill.moved (m : Loc → Loc) (f : Fill) : Fill := { f with parts := f.parts.map (fun p => { p with loc := m p.loc }) }

/-- A context whose scratchpad has moved. -/
def Ctx.moved (m : Loc → Loc) (x : Ctx) : Ctx :=
  { x with
    prods := x.prods.map (fun (p : Prod) => { p with src := p.src.moved m })
    posted := x.posted.map (fun (p : Posted) => { p with events := p.events.map (movedWrites m) })
    spec := x.spec.map (fun (sp : Spec) => { sp with held := sp.held.map (fun (h : Held) => { h with writes := movedWrites m h.writes }) })
    pend := x.pend.map (fun (p : Pend) => { p with op := p.op.moved m }) }

/-- Every record outside the contexts that names a context renamed: by number, by number and generation, and by address; a copy
of a context that has ended goes with its core's scratchpad too. A context that leaves a grove is no servicer of it any more. -/
def State.rename (s : State) (m : Nat → Nat) (gn : Nat → BitVec 16 → Nat × BitVec 16) (ad : Word → Word)
    (cp : Copy → Nat × BitVec 16) (fl : Loc → Loc) : State :=
  { s with
    groves := s.groves.map (fun (p : Nat × Grove) => (p.1, { p.2 with
      podQ := p.2.podQ.map (fun q => (m q.1, q.2))
      ring := p.2.ring.map (fun (e : RingEntry) => { e with ctx := (gn e.ctx e.gen).1, gen := (gn e.ctx e.gen).2 })
      queues := p.2.queues.map (fun (q : Nat × Queue) => (q.1, { q.2 with
        by_ := ad q.2.by_
        items := q.2.items.map (fun i => { i with ctx := (gn i.ctx i.gen).1, gen := (gn i.ctx i.gen).2 }) }))
      copies := p.2.copies.map (fun (k : Copy) => { k with
        ctx := (cp k).1, gen := (cp k).2, out := movedWrites (Loc.moved (coreOf k.ctx) (coreOf (cp k).1)) k.out })
      servicer := (p.2.servicer.map m).filter (fun c => groveOf c == p.1)
      batches := p.2.batches.map (fun (b : Batch) => { b with ctx := b.ctx.map m })
      families := p.2.families.map (fun (f : Nat × Family) => (f.1, { f.2 with waiters := f.2.waiters.map (fun w => (ad w.1, w.2)) })) }))
    dies := s.dies.map (fun (d : Nat × Die) => (d.1, { d.2 with
      wslots := d.2.wslots.map (fun (w : Nat × WSlot) => (w.1, { w.2 with owner := ad w.2.owner }))
      bars := d.2.bars.map (fun (b : Nat × List ExBar) => (b.1, b.2.map (fun (e : ExBar) =>
        { e with arrived := e.arrived.map (fun (a : Arrived) => { a with ctx := m a.ctx }), fly := e.fly.map (fun f => { f with loc := fl f.loc }) }))) }))
    launches := s.launches.map (fun (l : Nat × Launch) => (l.1, { l.2 with
      dual := l.2.dual.map (fun (d : Nat × Dual) => (d.1, { d.2 with places := d.2.places.map m })) }))
    groups := s.groups.map (fun (g : Group) => { g with
      members := g.members.map ad
      got := g.got.map (fun (c : Contribution) => { c with member := ad c.member }) }) }

/-- What a grove holds of a context that has moved to another lies there: its ring entries, with the same tags (R281), its requests
to the Pod (R163) and its copies (R319 to R322), in their order. -/
def State.rehomeRings (s : State) : State :=
  s.groves.foldl (fun (r : State) (p : Nat × Grove) =>
    let here := fun (c : Nat) => groveOf c == p.1
    let v := r.grove p.1
    let stays := v.ring.all (fun e => here e.ctx) && v.podQ.all (fun q => here q.1) && v.copies.all (fun k => here k.ctx)
    if stays then r
    else
      let gone := (v.ring.map (·.ctx) ++ v.podQ.map (·.1) ++ v.copies.map (·.ctx)).eraseDups.filter (fun c => !(here c))
      let r1 := r.setGrove p.1 { v with ring := v.ring.filter (fun e => here e.ctx), podQ := v.podQ.filter (fun q => here q.1)
                                        copies := v.copies.filter (fun k => here k.ctx) }
      gone.foldl (fun (q : State) c =>
        let g := groveOf c
        let w := q.grove g
        q.setGrove g { w with ring := w.ring ++ v.ring.filter (fun e => e.ctx == c), podQ := w.podQ ++ v.podQ.filter (fun e => e.1 == c)
                              copies := w.copies ++ v.copies.filter (fun k => k.ctx == c) }) r1) s

/-- The Pod grant of a launch made on another grove, with the contents of the old one at the same places (R159); none where
no range is free there. Where the launch already holds a grant there, that grant and its contents stay (DESIGN CHOICE, log entry 98: the
spec does not say which contents a moved context then sees). -/
def State.movePod (s : State) (num g g1 : Nat) : Option State :=
  match tabFind s.launches num with
  | none => some s
  | some l =>
    if g = g1 ∨ (tabFind (s.grove g1).grants num).isSome then some s
    else
      (s.grantPod num l g1).map (fun s1 =>
        let (b, n) := tabGet (0, 0) (s.grove g).grants num
        let (b1, _) := tabGet (0, 0) (s1.grove g1).grants num
        let v := s1.grove g1
        s1.setGrove g1 { v with
          pod := (upFrom 0 n).foldl (fun t j => tabSet (b1 + j) (tabGet 0 (s.grove g).pod (b + j)) t) v.pod
          podPoison := v.podPoison ++ ((upFrom 0 n).filter (fun j => (s.grove g).podPoison.contains (b + j))).map (b1 + ·) })

/-- What core `k` holds moves to core `k1`, whose contexts are free: contexts, scratchpad and slots together. The new
addresses have the generations of the new place, and the old ones lead to them (R19, R403, R416). A launch for which the new
place has no Pod range, no room for its residual or no slot in its launch table ends ABORTED (DESIGN CHOICE, log entry 85). -/
def State.moveCore (s0 : State) (k k1 : Nat) : State :=
  let s := if (s0.core k).testing then s0.wakeCore k else s0
  let cs := (upFrom (4 * k) 4).filter (fun c => (s.ctx c).status != .free)
  let nums := (cs.filterMap (fun c => (s.ctx c).task.map (·.launch))).eraseDups
  let s1 := nums.foldl (fun (r : State) n =>
    match ((r.movePod n (k / 24) (k1 / 24)).bind (fun q => q.carryResidual n (k1 / 288))).bind (fun q => q.tableSlot n (k1 / 288)) with
    | some (_, q) => q
    | none => r.killLaunch n 7) s
  let live := cs.filter (fun c => (s1.ctx c).status != .free)
  let m := movedCtx k k1
  let s0 := live.foldl (fun (r : State) c => r.claimPlace (m c)) s1
  let ad := fun (w : Word) => match live.find? (fun c => s0.caddr c == w) with
    | some c => s0.caddr (m c)
    | none => w
  let gn := fun (c : Nat) (g : BitVec 16) => if live.contains c ∧ (s0.ctx c).gen = g then (m c, (s0.ctx (m c)).gen) else (c, g)
  let cp := fun (q : Copy) =>
    if coreOf q.ctx = k ∧ (gn q.ctx q.gen).1 = q.ctx ∧ s0.runsFor (k / 24) q.vf ∧ (s0.savedCtx q.ctx q.gen).isNone then
      (m q.ctx, (s0.ctx (m q.ctx)).gen - 1)
    else gn q.ctx q.gen
  let m1 := fun c => if live.contains c then m c else c
  let s3 := (s0.rename m1 gn ad cp (Loc.moved k k1)).rehomeRings
  let s2 := live.foldl (fun (r : State) c =>
    let x := s0.ctx c
    let y := s0.ctx (m c)
    let slot := ((s0.bind c).launch.bind (fun n => (s0.tableSlot n (k1 / 288)).map (·.1))).getD 0
    let r1 := (r.setCtx (m c) { x.moved (Loc.moved k k1) with gen := y.gen, owed := x.owed.map m }).setBind (m c) { s0.bind c with lslot := slot }
    let r2 := (r1.emptyPlace c).setBind c {}
    { r2 with forwards := r2.forwards ++ [(s0.caddr c, s0.caddr (m c), (x.task.map (·.launch)).getD 0)] }) s3
  let a := s0.core k
  let sl := a.slots.map (fun (t : Nat × Slot) => (t.1, { t.2 with
    owner := t.2.owner.map m
    fill := t.2.fill.map (fun f => (f.1.moved (Loc.moved k k1), f.2)) }))
  (s2.setCore k { s2.core k with scratch := [], poison := [], slots := [], live := [] }).setCore k1
    { s2.core k1 with scratch := a.scratch, poison := a.poison, slots := sl, live := a.live }

/-- A core whose four contexts are free and bound to nothing, and which takes work. -/
def State.coreEmpty (s : State) (k : Nat) : Bool :=
  (upFrom (4 * k) 4).all (fun c => (s.bindable c) && (s.bind c).launch.isNone)

/-- A place for the work of core `k`: an empty core of its grove, or else of its partition (R403). -/
def State.placeFor (s : State) (k : Nat) : Option Nat :=
  let gs := match (s.partOf (k / 24)) with
    | some p => (tabGet {} s.parts p).groves.filter (· != k / 24)
    | none => []
  ((k / 24 :: gs).map (fun g => upFrom (24 * g) 24)).flatten.find? s.coreEmpty

/-- Work still on a fenced core moves as soon as a core is free for it (R403). -/
def State.rehome (s : State) : State :=
  ((s.cores.filter (fun k => k.2.fenced)).map (·.1)).foldl (fun (r : State) k =>
    if (upFrom (4 * k) 4).all (fun c => (r.ctx c).status == .free) then r
    else
      match r.placeFor k with
      | some k1 => r.moveCore k k1
      | none => r) s

/-! Fencing (R402, R403) -/

/-- A register of the context is marked poisoned (R399). -/
def Regs.anyPoison (r : Regs) : Bool := r.xP != 0 || r.fP != 0 || r.vP != 0 || r.hP != 0

/-- A context lost to a lasting fault: its group's members see COLLABORT code 5, and its launch ends ABORTED (R403, R261). -/
def State.loseCtx (s : State) (c : Nat) : State :=
  match (s.ctx c).task with
  | none => s.freeCtx c
  | some t =>
    let s1 := match s.groupOf c with
      | some g => s.abortGroup g 5
      | none => s
    s1.killLaunch t.launch 7

/-- A core fenced, and its work moved or ended (R403). -/
def State.fenceCore (s : State) (k : Nat) : State :=
  let s1 := s.setCore k { s.core k with fenced := true }
  let s2 := (upFrom (4 * k) 4).foldl (fun (r : State) c =>
    if (r.ctx c).status != .free && (r.ctx c).regs.anyPoison then r.loseCtx c
    else if (r.ctx c).status == .free then r.unbind c
    else r) s1
  s2.rehome

/-- A READY stream leaves the batch that has not started, and waits again (R346). -/
def State.unbatch (s : State) (g c : Nat) : State :=
  let h := s.handle g c
  let v := s.grove g
  let bs := v.batches.map (fun b => if b.ctx.isNone then { b with rows := b.rows.filter (· != h) } else b)
  (s.setGrove g { v with batches := bs.filter (fun b => b.rows != [] || b.ctx.isSome) }).setStream g c { s.stream g c with st := 1 }

/-- A stream that was to arrive on a fenced grove: a source that has not yet departed keeps it, and otherwise its launch ends ABORTED
(R403). -/
def State.turnAway (s : State) (g c : Nat) : State :=
  let t := s.stream g c
  let s1 := s.dropArriving g c
  if handlePkg t.newh.toNat ≠ s.self then s1.endOwner t.own 7
  else
    let (g0, c0) := (handleGrove t.newh.toNat, handleCtx t.newh.toNat)
    let x := s1.stream g0 c0
    if x.migp then s1.setStream g0 c0 { x with migp := false, newh := 0 }
    else if x.st = 5 then ((s1.freeStream g0 c0).tellGone x t.newh).endOwner x.own 7
    else s1

/-- A stream of a fenced grove migrates to the first of the given groves that takes it, at once or when its task halts, or its launch
ends ABORTED (R357, R403). -/
def State.evictStream (s : State) (g c : Nat) (dests : List Nat) : State :=
  let t := s.stream g c
  if t.arriving then s.turnAway g c
  else if !([1, 2, 3, 4].contains t.st) then s
  else
    match (tabFind (s.grove g).layers t.kid).bind (fun l =>
      dests.findSome? (fun g1 => s.reserveMove g1 t.vf t.own t.npg (s.handle g c) l.hdrA l.b l.win l.loga l.logn)) with
    | none => s.endOwner t.own 7
    | some (nh, s1) => (if t.st = 2 then s1.unbatch g c else s1).startMove g c nh

/-- The family records of a fenced grove move to another, or their launches end ABORTED (R403). -/
def State.evictRecords (s : State) (g : Nat) (dests : List Nat) : State :=
  (s.grove g).families.foldl (fun (r : State) (f : Nat × Family) =>
    match dests with
    | [] => r.endOwner f.2.own 7
    | g1 :: _ =>
      let r1 := r.setGrove g { r.grove g with families := tabDel f.1 (r.grove g).families }
      r1.setGrove g1 { r1.grove g1 with families := tabSet (movedRecord f.2.fam) f.2 (r1.grove g1).families }) s

/-- A die all of whose groves are fenced: the reductions in its slots cannot complete, and their owner launches end ABORTED
(R332; DEDUCED, log entry 86). -/
def State.fenceDie (s : State) (d : Nat) : State :=
  if (upFrom (12 * d) 12).all (fun g => (s.grove g).fenced) then
    ((s.die d).wslots.filter (fun w => w.2.opened)).foldl (fun (r : State) (w : Nat × WSlot) =>
      match (r.owner (ctxOfAddr w.2.owner) (BitVec.ofNat 16 w.2.owner.toNat)).bind (·.task) with
      | some t => if fld w.2.owner.toNat 32 9 = r.self then r.killLaunch t.launch 7 else r
      | none => r) s
  else s

/-- A grove fenced: its streams and family records move where they can, and its cores are fenced (R403). -/
def State.fenceGrove (s : State) (g : Nat) : State :=
  let s1 := s.setGrove g { s.grove g with fenced := true }
  let dests := match s.partOf g with
    | some p => (tabGet {} s.parts p).groves.filter (fun h => h != g && !(s.grove h).fenced && !(s.grove h).testing)
    | none => []
  let s2 := (s1.grove g).streams.foldl (fun (r : State) t => r.evictStream g t.1 dests) s1
  let s2 := s2.evictRecords g dests
  ((upFrom (24 * g) 24).foldl (fun r k => r.fenceCore k) s2).fenceDie (g / 12)

/-- The page in a fenced frame moves to another frame; its unreadable granules stay poisoned (R403). -/
def State.fenceFrame (s : State) (g n : Nat) : State :=
  match (s.grove g).census.find? (fun e => e.2.resident && ((e.2.into.getD e.2.loc) == n)), s.freeFrame g with
  | some (p, e), some f =>
    let s1 := s.putBlock (.frame g f 0) pageSize (s.cells (.frame g n 0) pageSize) (s.poisonOf (.frame g n 0) pageSize)
    ((s1.setPage g p (if e.into.isSome then { e with into := some f } else { e with loc := f })).clearFrame g n).rebase g p f
  | _, _ => s

/-- The Pod grant that holds a fenced entry moves to a range without it; unreadable entries stay poisoned (R403). -/
def State.fencePod (s : State) (g n : Nat) : State :=
  let v := s.grove g
  match v.grants.find? (fun k => decide (k.2.1 ≤ n ∧ n < k.2.1 + k.2.2)) with
  | none => s
  | some (num, (b, len)) =>
    match podRange { v with grants := tabDel num v.grants } len with
    | none => s
    | some b1 =>
      let keep := v.pod.filter (fun e => decide (e.1 < b ∨ b + len ≤ e.1))
      let inRange := fun e => decide (b ≤ e ∧ e < b + len)
      s.setGrove g { v with
        pod := (upFrom 0 len).foldl (fun t j => tabSet (b1 + j) (tabGet 0 v.pod (b + j)) t) keep
        podPoison := (v.podPoison.filter (fun e => inRange e || decide (e < b1 ∨ b1 + len ≤ e))).map (fun e => if inRange e then b1 + (e - b) else e)
        grants := tabSet num (b1, len) v.grants }

/-- A launch of a function, for an event that names one: the first that is not final; 0 is no launch. -/
def State.aLaunch (s : State) (vf : Nat) : Nat :=
  ((s.launches.find? (fun l => l.2.vf == vf && !(isFinal l.2.status))).map (·.1)).getD 0

/-- The tenant that owns a byte of memory: the function that maps its frame (R404; DESIGN CHOICE, log entry 96). -/
def State.memOwner (s : State) (pa : Nat) : Option (Nat × Nat) :=
  (s.vfs.find? (fun v => v.2.enabled && s.mappings pa 1 v.1 != [])).map (fun v => (v.1, s.aLaunch v.1))

/-- The tenant that owns a core's scratchpad: the function that the core's partition serves (R404, R412). -/
def State.coreOwner (s : State) (k : Nat) : Option (Nat × Nat) :=
  (s.partOf (k / 24)).map (fun p => let v := (tabGet {} s.parts p).vf; (v, s.aLaunch v))

/-- The tenant that owns the data in which an error arises, with its launch; none where the place does not say. -/
def State.ownerAt (s : State) : PoisonAt → Option (Nat × Nat)
  | .reg c _ _ => (s.ctx c).task.map (fun t => ((s.ctx c).vf, t.launch))
  | .slot k n => ((tabGet {} (s.core k).slots n).owner).bind (fun c => (s.ctx c).task.map (fun t => ((s.ctx c).vf, t.launch)))
  | .pod g n => ((s.grove g).grants.find? (fun k => decide (k.2.1 ≤ n ∧ n < k.2.1 + k.2.2))).bind
      (fun k => (tabFind s.launches k.1).map (fun l => (l.vf, k.1)))
  | .frame g n _ => ((s.grove g).census.find? (fun e => e.2.resident && e.2.loc == n)).map (fun e => (e.2.vf, e.2.own))
  | .mem q => s.memOwner (8 * q)
  | .scratch k _ => s.coreOwner k
  | .l1 _ q => s.memOwner (8 * q)
  | .l2 _ q => s.memOwner (8 * q)

/-- A spare near frame: one that no function maps, that holds no byte but 0, and that works (R403; DESIGN CHOICE, log entry 49). -/
def State.spareFrame (s : State) : Option Nat :=
  let used := s.mem.map (fun c => c.1 / 2 ^ 21)
  (upFrom 0 (2 ^ 18)).find? (fun n =>
    let a := s.paOf 0 (2 ^ 21 * n)
    s.installed a && !(s.resting (.mem a)) && !(used.contains (a / 2 ^ 21)) && s.vfs.all (fun v => s.mappings a (2 ^ 21) v.1 == [])
      && s.moving.all (fun m => decide (m.dst + m.bytes ≤ a ∨ a + 2 ^ 21 ≤ m.dst)))

/-- A near page fenced: where functions map it, it moves to a spare frame of the tier, and poisoned lines stay poisoned (R278,
R403). -/
def State.fencePage (s : State) (n : Nat) : State :=
  let a := s.paOf 0 (2 ^ 21 * n)
  let s1 := { s with mgmt := { s.mgmt with fencedPages := markIn true n s.mgmt.fencedPages } }
  match (s.vfs.map (fun v => (s.mappings a (2 ^ 21) v.1).map (fun x => (v.1, x)))).flatten, s1.spareFrame with
  | (vf, x) :: more, some q =>
    let d := s.paOf 0 (2 ^ 21 * q)
    let pte := fun (y : Mapped) =>
      let e := s.mem64 y.ea
      (y.ea, natW (e - 4096 * fld e 12 40 + d))
    s1.beginMove { vf := vf, va := x.va, src := a, dst := d, bytes := 2 ^ 21, ptes := ((x :: more.map (·.2)).map pte).eraseDups }
  | _, _ => s1

/-- The owner of a unit, who is told of its errors and fencing (R404): the function that the partition of a core or grove serves, the
owner launch of a frame, the launch of a Pod grant, the function that maps a near page; none of a stack or link (log entry 96). -/
def State.unitOwner (s : State) : UnitId → Option (Nat × Nat)
  | .core k => s.ownerAt (.scratch k 0)
  | .grove g => s.ownerAt (.scratch (24 * g) 0)
  | .stack _ => none
  | .frame g n => s.ownerAt (.frame g n 0)
  | .podEntry g n => s.ownerAt (.pod g n)
  | .nearPage n => s.memOwner (s.paOf 0 (2 ^ 21 * n))
  | .link _ => none

/-- The words of an ERROR event (R404): unit code, corrected or not, fenced or not. -/
def errorEvent (lid : Word) (code uncorrected fenced : Nat) : List Word := [5, lid, natW code, natW uncorrected, natW fenced]

/-- An error of a unit told to its owner (R404). -/
def State.tellError (s : State) (u : UnitId) (uncorrected fenced : Nat) : State :=
  match s.unitOwner u with
  | some (vf, num) => s.postEvent vf 1 (errorEvent (lidOf vf num) (unitCode u) uncorrected fenced)
  | none => s

/-! Links (R446, R455) -/

/-- Migrations between this package and one that cannot be reached any more: the owner launch ends ABORTED, and the stream is
freed on both; that of a row still in its batch is freed with the batch (R339, R455). -/
def State.abortMoves (s : State) (gone : Nat → Bool) : State :=
  s.groves.foldl (fun (r : State) (g : Nat × Grove) =>
    g.2.streams.foldl (fun (q : State) (t : Nat × Stream) =>
      let x := q.stream g.1 t.1
      let h := q.handle g.1 t.1
      let pk := handlePkg x.newh.toNat
      if pk = s.self ∨ !(gone pk) then q
      else if x.st = 5 then
        let q1 := if x.map < 1024 then q.dropMap g.1 x.map else q
        ((q1.freeStream g.1 t.1).tellGone x h).endOwner x.own 7
      else if (x.st = 2 ∨ x.st = 3) ∧ x.migp then ((q.retireHere x.fam h x.vf).tellGone x h).endOwner x.own 7
      else if x.arriving then q.dropArriving g.1 t.1
      else q) r) s

/-- A port is lost: routes take another, and migrations whose other package cannot be reached any more are aborted (R446, R455). -/
def State.linkLost (s : State) (port : Nat) : State :=
  let s1 := { s with mgmt := { s.mgmt with portsDown := markIn true port s.mgmt.portsDown } }
  s1.abortMoves (fun p => !(s1.hasRoute p))

/-- A unit with a lasting fault is fenced, its work is moved or ended, and its owner and management are told (R402 to R404). -/
def State.fenceUnit (s : State) (u : UnitId) : State :=
  let m := s.mgmt
  let s0 := s.tellError u 1 1
  let s1 := { s0 with mgmt := { m with
    fencedUnits := if m.fencedUnits.contains u then m.fencedUnits else m.fencedUnits ++ [u]
    reports := m.reports ++ [0x80 :: unitBytes u] } }
  match u with
  | .core k => s1.fenceCore k
  | .grove g => s1.fenceGrove g
  | .frame g n => (s1.setGrove g { s1.grove g with frameFenced := markIn true n (s1.grove g).frameFenced }).fenceFrame g n
  | .podEntry g n => (s1.setGrove g { s1.grove g with podFenced := markIn true n (s1.grove g).podFenced }).fencePod g n
  | .nearPage n => s1.fencePage n
  | .stack n => { s1 with mgmt := { s1.mgmt with fencedStacks := markIn true n s1.mgmt.fencedStacks } }
  | .link n => s1.linkLost n

/-- A day and an hour in cycles (R3: 3 GHz). -/
def dayCycles : Nat := 24 * 3600 * 3000000000
def hourCycles : Nat := 3600 * 3000000000

/-- The end of a self-test (R402): a unit that passed returns to service unless this is its third upset in 24 hours. -/
def State.endTest (s : State) (u : UnitId) (pass : Bool) : State :=
  if !(s.mgmt.testing.contains u) then s
  else
    let s1 := s.setTesting u false
    let ups := s.mgmt.upsets.filter (fun x => decide (s.tick < x.2 + dayCycles))
    let old := (ups.filter (fun x => x.1 == u)).length
    let s2 := { s1 with mgmt := { s1.mgmt with upsets := ups ++ [(u, s.tick)] } }
    if pass ∧ old < 2 then s2 else s2.fenceUnit u

/-! Errors (R399, R401) -/

/-- The unit in which an error arises; none for memory that is not of this package's stacks (log entry 13). -/
def State.unitAt (s : State) : PoisonAt → Option UnitId
  | .reg c _ _ => some (.core (coreOf c))
  | .slot k _ => some (.core k)
  | .pod g n => some (.podEntry g n)
  | .frame g n _ => some (.frame g n)
  | .mem q => if fld (8 * q) 41 2 = 0 ∧ fld (8 * q) 43 9 = s.self then some (.nearPage (fld (8 * q) 21 18)) else none
  | .scratch k _ => some (.core k)
  | .l1 k _ => some (.core k)
  | .l2 g _ => some (.grove g)

/-- The code of R393 for the unit that an ERROR event names. -/
def errorCode : PoisonAt → Nat
  | .reg _ _ _ => 1
  | .slot _ _ => 5
  | .pod _ _ => 6
  | .frame _ _ _ => 7
  | .mem q => if fld (8 * q) 41 2 = 0 then 8 else 9
  | .scratch _ _ => 4
  | .l1 _ _ => 2
  | .l2 _ _ => 3

/-- The data marked poisoned where it lies (R399); in far memory an expander marks the whole line (R457). -/
def State.poisonPlace (s : State) : PoisonAt → State
  | .reg c cls n =>
    let x := s.ctx c
    let r := x.regs
    if r.emptyAt cls.toNat n then s else s.setCtx c { x with regs := r.setPoison cls.toNat n }
  | .slot k n => s.setCore k { s.core k with slots := tabSet n { tabGet {} (s.core k).slots n with poison := true } (s.core k).slots }
  | .pod g n => s.setGrove g { s.grove g with podPoison := markIn true n (s.grove g).podPoison }
  | .frame g n q =>
    let v := s.grove g
    s.setGrove g { v with framePoison := if v.framePoison.contains (n, q) then v.framePoison else v.framePoison ++ [(n, q)] }
  | .mem q =>
    let line := if fld (8 * q) 41 2 = 1 then upFrom (q / 8 * 8) 8 else [q]
    { s with memPoison := line.foldl (fun t g => markIn true g t) s.memPoison }
  | .scratch k q => s.setCore k { s.core k with poison := markIn true q (s.core k).poison }
  | .l1 k q => { s with cachePoison := if s.cachePoison.contains (2, k, q) then s.cachePoison else s.cachePoison ++ [(2, k, q)] }
  | .l2 g q => { s with cachePoison := if s.cachePoison.contains (3, g, q) then s.cachePoison else s.cachePoison ++ [(3, g, q)] }

end Sys2Proof.Machine
end

