-- ==== Sys2Proof/Machine/Halt.lean ====
section
/-! DEFINITION. HALT and the end of a task (R118, R205, R206, R211, R347). -/

namespace Sys2Proof.Machine

/-! DUAL tasks (R205, R206) -/

/-- The sequence that a signature covers: of each global store its address, its size and its data; the size byte of a store of
256 bytes or more holds the low bits (R205; DESIGN CHOICE, log entry 28). -/
def signed (ws : List (Word × List Byte)) : List Byte :=
  (ws.map (fun w => bytesOf 8 w.1.toNat ++ [BitVec.ofNat 8 w.2.length] ++ w.2)).flatten

/-- The signature of a halted copy (R205). -/
def signatureOf (x : Ctx) : BitVec 256 := BitVec.ofNat 256 (ofBytes (shake256 (signed x.wrote) 32))

/-- The bytes that stores put at an address. -/
def bytesPut (ws : List (Word × List Byte)) (a : Nat) : List Byte :=
  ws.filterMap (fun w => if w.1.toNat ≤ a ∧ a < w.1.toNat + w.2.length then some (nth 0 w.2 (a - w.1.toNat)) else none)

/-- The addresses that stores wrote. -/
def addrsOf (ws : List (Word × List Byte)) : List Nat := ((ws.map (fun w => upFrom w.1.toNat w.2.length)).flatten).eraseDups

/-- Bytes that the primaries of a failed DUAL task stored: each is a free choice among what a copy stored there or what it held
before (R206). -/
def State.freeStores (s : State) (vf : Nat) (d : Dual) : List Nat → State
  | [] => s
  | a :: t =>
    let set := bytesPut d.wrote a ++ bytesPut d.olds a
    match s.walk vf a .store with
    | .fault _ => s.freeStores vf d t
    | .ok pa _ _ s1 =>
      let b := nth 0 set ((Config.freeByte s1.freeIx).toNat % max 1 set.length)
      State.freeStores (if set = [] then s1 else { s1.writeLoc (.mem pa) [b] with freeIx := s1.freeIx + 1 }) vf d t

/-- The address of a core (R239). -/
def State.coreAddr (s : State) (k : Nat) : Word :=
  natW (2 ^ 32 * s.self + 2 ^ 30 * (k / 288) + 2 ^ 26 * (k / 24 % 12) + 2 ^ 21 * (k % 24))

/-- A core enters its self-test (R401, R206). -/
def State.testCore (s : State) (k : Nat) : State := s.setTesting (.core k) true

/-- DUALCNT counts a task completed after a mismatch, or a failed launch (R420). -/
def State.countDual (s : State) (vf n : Nat) : State := s.setVf vf { s.vf vf with dualcnt := (s.vf vf).dualcnt + natW n }

/-- One task of a launch is complete; with the last the launch is DONE (R211). -/
def State.taskDone (s : State) (num : Nat) : State :=
  match tabFind s.launches num with
  | none => s
  | some l =>
    let s1 := s.setLaunch num { l with halted := l.halted + 1 }
    if l.halted + 1 = l.total then s1.endLaunch num 3 else s1

/-- A copy of a DUAL task has halted: the outcome is decided as R206 states. -/
def State.dualHalt (s : State) (num : Nat) (l : Launch) (t : TaskOf) (x : Ctx) : State :=
  let d := tabGet {} l.dual t.ord
  let perf := decide (t.copy = 0 ∨ t.copy = 3)
  let d1 := { d with sigs := tabSet t.copy (signatureOf x) d.sigs
                     stores := if perf then d.stores ++ x.wrote else d.stores
                     wrote := d.wrote ++ x.wrote, olds := d.olds ++ x.olds }
  let s1 := s.setLaunch num { l with dual := tabSet t.ord d1 l.dual }
  let sg := fun k => tabFind d1.sigs k
  let core := fun k => coreOf (nth 0 d1.places k)
  let event := fun (r : State) (o : Nat) =>
    r.postEvent l.vf 1 [2, lidOf l.vf num, natW t.ord, r.coreAddr (core 0), r.coreAddr (core 1), natW o]
  let fail := fun (r : State) => ((r.freeStores l.vf d1 (addrsOf d1.stores)).countDual l.vf (2 ^ 32)).endLaunch num 8
  if t.copy < 2 then
    if (sg 0).isNone ∨ (sg 1).isNone then s1
    else if sg 0 = sg 1 then s1.taskDone num
    else (s1.testCore (core 0)).testCore (core 1)
  else if t.copy = 2 then
    if sg 2 = sg 0 then ((event s1 1).countDual l.vf 1).taskDone num
    else if sg 2 = sg 1 then event s1 2
    else fail (event s1 3)
  else if sg 3 = sg 1 then (s1.countDual l.vf 1).taskDone num
  else fail s1

/-- The gang task of a context never joined its gang group: the group's count falls (R256). -/
def State.leaveGang (s : State) (c : Nat) : State :=
  match s.gangOf c with
  | none => s
  | some (l, q) =>
    if (s.ctx c).joinedGang then s
    else
      match s.groups.find? (fun g => g.launch == some l && g.gang == some q) with
      | some g => s.lowerGroup g
      | none => s

/-- HALT completes: rows are settled, the groups left, the context freed, the task's end recorded (R118, R206, R211, R347). -/
def State.haltDone (s : State) (c : Nat) : State :=
  let x := s.ctx c
  let s1 := (((s.settleBatch c).leaveGroup c).leaveGang c).freeCtx c
  match x.task with
  | none => s1
  | some t =>
    match tabFind s1.launches t.launch with
    | none => s1
    | some l =>
      if l.layerOf.isSome ∨ isFinal l.status then s1
      else if l.isDual then s1.dualHalt t.launch l t x
      else
        let s2 := s1.taskDone t.launch
        if l.gang then s2.unbind c else s2

/-- What HALT waits for (R118). -/
def State.haltReady (s : State) (c : Nat) : Bool :=
  let x := s.ctx c
  x.spec.isNone && x.prods == [] && (s.ringOf c) == [] && x.pca == 0 && x.pcb == 0 && x.posted == [] && x.mce == []
    && !((s.core (coreOf c)).slots.any (fun k => k.2.owner == some c && k.2.busy))

/-- HALT (R118). -/
def execHalt (sm l : Bool) (s : State) : Out :=
  issue (cSig (.halt sm l)) s fun s =>
    match s.me.pend with
    | some { op := .halt _, result := r, .. } => if r.isSome then .quit (s.haltDone s.cur) else .wait
    | _ => s.send (.halt (s.unit.mode == 0))

/-- HALT_COMPLETE (R118). -/
def execHaltComplete (c : Nat) (s : State) : Out :=
  match (s.ctx c).pend with
  | some p =>
    match p.op with
    | .halt lone =>
      if !(s.haltReady c) ∨ p.result.isSome then .next s
      else if lone then .next (s.haltDone c)
      else .next (s.setCtx c { s.ctx c with pend := some { p with result := some (.ok 0 0 0 0) } })
    | _ => .next s
  | none => .next s

end Sys2Proof.Machine
end

