-- ==== Sys2Proof/Machine/EvKettle.lean ====
section
/-! DEFINITION. What the Kettle does for launches and contexts: scheduling passes, task starts, services, lost replies and errors (R198 to R208, R394 to R404). -/

namespace Sys2Proof.Machine

/-! Starting tasks (R198, R204, R207) -/

/-- A context on which a task of a launch can start, its residual apart: free, in service, 128 counts after a wrap of its
generation (R248), of a partition that serves the launch (R201). -/
def State.startable (s : State) (c : Nat) (l : Launch) : Bool :=
  let k := s.core (coreOf c)
  let g := s.grove (groveOf c)
  (s.ctx c).status == .free && !k.fenced && !k.testing && !g.fenced && !g.testing && !(s.die (dieOf c)).stopped
    && (s.place c).wrapped.all (fun w => decide (w + 128 ≤ s.tick)) && s.serves c l.vf && l.admitted && !(isFinal l.status)

/-- A free bound context takes an ordinal and starts a task, or its gang starts when every member is bound (R204, R207).
Where its die does not hold the launch's residual any more, it is specialised again first (R199, R228). -/
def State.startOn (s : State) (c : Nat) : State :=
  match (s.bind c).launch with
  | none => s
  | some num =>
    match tabFind s.launches num with
    | none => s
    | some l =>
      if !(s.startable c l) || l.layerOf.isSome then s
      else if !(s.readyOn l (dieOf c)) then s.specialise num (dieOf c)
      else if l.gang then
        let cs := s.unstarted num
        if cs.length = l.e0 ∧ cs.all (fun d => s.startable d l) then s.startGang num l cs else s
      else if l.split then (let s1 := s.specialise num (dieOf c); ((s1.nextTask c num ((tabFind s1.launches num).getD l)).trimQueues))
      else s

/-- A free context started as a handler context of the Kettle: in handler mode, with the reset values of R35 (R29, R280,
R405). JOBSEED, WID, WIDW and LID, which R35 takes from a launch, read 0 in it, as in a freed context and at device reset:
DESIGN CHOICE, log entry 92. -/
def State.startHandler (s : State) (c : Nat) (h : HandlerStart) : State :=
  if !(s.bindable c) || (s.bind c).launch.isSome then s
  else
    let s0 := s.claimPlace c
    let s1 := s0.setCtx c { s0.ctx c with
      status := .run, vf := h.vf, handler := true, regs := { ({} : Regs).setCsr csrTSTAT (tstatOf true false false) with pc := h.pc } }
    if h.servicer then s1.setGrove (groveOf c) { s1.grove (groveOf c) with servicer := some c } else s1

/-- The contexts that a gang could have now on the run of `n` cores from `k0`; none where a core of the run is fenced
(R208). -/
def State.runFree (s : State) (k0 n : Nat) : Option Nat :=
  if (upFrom k0 n).any (fun k => (s.core k).fenced) then none
  else some (((upFrom k0 n).map (fun k => upFrom (4 * k) 4)).flatten.filter (fun c => s.bindable c)).length

/-- The run that R208 reserves for a gang of `e`: most free contexts, the lowest grove and core among equals. -/
def State.bestRun (s : State) (vf e : Nat) : Option (Nat × Nat) :=
  let n := min e 24
  let gs := ((s.parts.filter (fun p => p.2.vf == vf && p.2.phase == 0)).map (·.2.groves)).flatten
  let runs := (((upFrom 0 48).filter (fun g => gs.contains g && !(s.grove g).fenced)).map (fun g =>
    (upFrom (24 * g) (25 - n)).map (fun k => (g, k)))).flatten
  (runs.foldl (fun (r : Option (Nat × Nat × Nat)) k =>
    match s.runFree k.2 n, r with
    | none, _ => r
    | some f, none => some (f, k)
    | some f, some b => if b.1 < f then some (f, k) else r) none).map (·.2)

/-- A gang that has waited more than 100 microseconds has a run reserved (R208). -/
def State.reserveGang (s : State) (num : Nat) : State :=
  match tabFind s.launches num with
  | none => s
  | some l =>
    if !l.gang ∨ !l.hasWork ∨ l.run.isSome ∨ s.tick ≤ max l.queued l.lastCtx + 300000 ∨ !(s.heads.any (fun h => h.2 == num)) then s
    else
      match s.bestRun l.vf l.e0 with
      | none => s
      | some r =>
        let l1 := { l with run := some r }
        (s.setLaunch num l1).markRun num l1

/-! Services (R394, R395, R398) -/

/-- A context that waits for a service resumes at TEPC in its former mode (R395); its first unit is not compared with
the breakpoints (R398). -/
def Ctx.resumed (x : Ctx) (t : TrapRec) : Ctx :=
  { x with
    status := .run
    wait := 0
    waitOn := none
    skipBkp := true
    regs := { x.regs with pc := t.epc } }

/-- An ECALL service ends: the context resumes at TEPC + 4, and the loop-end check applies to a lone word (R395). -/
def State.endService (s : State) (c : Nat) (t : TrapRec) (r : Regs) : State :=
  let r1 := if t.lone then r.loopEnd (t.epc + 4) false false else { r with pc := t.epc + 4 }
  s.setCtx c { s.ctx c with status := .run, wait := 0, waitOn := none, skipBkp := false, regs := r1 }

/-- The request that a context waits on, when its trap is of the given cause. -/
def Ctx.serviceOf (x : Ctx) (cause : BitVec 6) : Option TrapRec :=
  match x.status with
  | .service t => if t.cause = cause then some t else none
  | _ => none

/-- A context stopped for a debugger resumes at TEPC with the CSRs from before the trap (R394, R395). -/
def Ctx.undebugged (x : Ctx) : Ctx :=
  match x.status with
  | .debug t csr => ({ x with regs := { x.regs with csr := csr } } : Ctx).resumed t
  | _ => x

/-! Lost replies (R400) -/

/-- The time after which a reply is lost. -/
def replyLimit : Nat := 2 ^ 32

/-- A place whose data another agent supplies: another package, or the host or far tier (R400). -/
def State.farLoc (s : State) (l : Loc) : Bool :=
  l.pkg s.self != s.self || (match l with
    | .mem pa => fld pa 41 2 != 0
    | _ => false)

/-- The address for which a load waits on another agent, if it does (R400). -/
def State.farLoad (s : State) : ProdSrc → Option Word
  | .load l _ _ va => if s.farLoc l then some va else none
  | .gather _ _ ps => (ps.find? (fun p => s.farLoc p.loc)).map (·.va)
  | .desc a _ ps => if ps.any (fun p => s.farLoc p.loc) then some a else none
  | _ => none

/-- The value of TVAL when an operation's reply is lost; none for one that never times out (R369, R400). -/
def State.replyOf (s : State) : PendOp → Option Word
  | .strm h => some h
  | .join h waits => if waits then none else some h
  | .atom _ l _ _ _ va _ => if s.farLoc l then some va else none
  | .read _ ps => (ps.find? (fun p => s.farLoc p.loc)).map (·.va)
  | .lnch h => some h
  | .colx id _ => some (natW id)
  | _ => none

/-- The tile load of a context that waits too long for data of another agent: its slot and address (R400, R447). -/
def State.lateFill (s : State) (c : Nat) : Option (Nat × Word) :=
  (s.core (coreOf c)).slots.findSome? (fun t =>
    match t.2.fill with
    | some (f, _) =>
      if t.2.owner = some c ∧ f.since + replyLimit ≤ s.tick then (f.parts.find? (fun p => s.farLoc p.loc)).map (fun p => (t.1, p.va)) else none
    | none => none)

/-- The free bytes from the next free value on. -/
def State.freeBytes (s : State) (n : Nat) : Nat := ofBytes ((upFrom 0 n).map (fun k => Config.freeByte (s.freeIx + k)))

/-- A tile load whose data has not come: the fill ends, with a free value in the slot (R400, log entry 14). -/
def State.timeOutFill (s : State) (c n : Nat) (va : Word) : State :=
  let k := s.core (coreOf c)
  let y := { tabGet {} k.slots n with busy := false, fill := none, data := BitVec.ofNat 4096 (s.freeBytes 512), side := 0, tag := none }
  { s.setCore (coreOf c) { k with slots := tabSet n y k.slots } with freeIx := s.freeIx + 512 }.takeTrap c
    { cause := cTIMEOUT, tval := va, epc := (s.ctx c).regs.pc, acc := accCode .load }

/-- A context whose reply has not come within 2^32 cycles traps TIMEOUT: an operation at its own unit, a load before the
next unit, with a free value in its destination (R400, log entry 14). -/
def State.timeOut (s : State) (c : Nat) : State :=
  let x := s.ctx c
  match x.pend.bind (fun p => if p.result.isNone ∧ p.since + replyLimit ≤ s.tick then (s.replyOf p.op).map (fun v => (p, v)) else none) with
  | some (p, v) => s.setCtx c { x with pend := some { p with result := some (.trap cTIMEOUT v) } }
  | none =>
    match x.prods.findSome? (fun p => if p.issued + replyLimit ≤ s.tick then (s.farLoad p.src).map (fun v => (p, v)) else none) with
    | some (p, v) =>
      if x.status ≠ .run ∨ x.pend.isSome then s
      else
        let n := if p.cls = 0 then 8 else if p.cls = 1 then 4 else if p.cls = 2 then 64 else 512
        let bits := s.freeBytes n
        let x1 := ({ x with prods := dropFirst p x.prods } : Ctx)
        let x2 := if p.push.isSome then x1 else x1.land p (fun r => r.setBits p.cls.toNat p.reg bits)
        { s.setCtx c x2 with freeIx := s.freeIx + n }.takeTrap c { cause := cTIMEOUT, tval := v, epc := x.regs.pc, acc := accCode .load }
    | none =>
      match s.lateFill c with
      | some (n, va) => if x.status ≠ .run ∨ x.pend.isSome then s else s.timeOutFill c n va
      | none => s

/-- TASK_START (R198); of a handler context where the Kettle starts one (R29). -/
def execTaskStart (c : TaskBegin) (s : State) : Out :=
  match c.handler with
  | some h => .next (s.startHandler c.ctx h)
  | none => .next (s.startOn c.ctx)

/-- SCHEDULING_PASS (R201). -/
def execSchedulingPass (plan : List Nat) (s : State) : Out :=
  .next (s.rehome.schedulingPass plan)

/-- GANG_RESERVATION (R208). -/
def execGangReservation (launch : Nat) (s : State) : Out :=
  .next (s.reserveGang launch)

/-- PAGE_SERVICE (R395). -/
def execPageService (c : Nat) (ptes : List (Nat × Word)) (resolved : Bool) (s : State) : Out :=
  match (s.ctx c).serviceOf cPAGE with
  | none => .next s
  | some t =>
    if resolved then .next ((s.writePtes ptes).setCtx c ((s.ctx c).resumed t))
    else .next ((s.setCtx c { s.ctx c with status := .run }).deliverTrap c t)

/-- SETVEC (R394). -/
def execSetvec (c : Nat) (s : State) : Out :=
  match (s.ctx c).serviceOf cECALL with
  | none => .next s
  | some t =>
    let r := (s.ctx c).regs
    let v := r.xAt 6
    if r.xAt 5 ≠ 1 then .next s
    else if v.toNat % 4 = 0 ∧ v.toNat < 2 ^ 52 then .next (s.endService c t ((r.setCsr csrTVEC v).setX 5 0))
    else .next (s.endService c t (r.setX 5 minusOne))

/-- EVENT (R394). -/
def execEvent (c : Nat) (s : State) : Out :=
  match (s.ctx c).serviceOf cECALL with
  | none => .next s
  | some t =>
    let x := s.ctx c
    if x.regs.xAt 5 ≠ 2 then .next s
    else
      let lid := match x.task with
        | some k => lidOf x.vf k.launch
        | none => 0
      .next ((s.postEvent x.vf 1 [6, lid, x.regs.xAt 6]).endService c t (x.regs.setX 5 0))

/-- REPLY_TIMEOUT (R400). -/
def execReplyTimeout (c : Nat) (s : State) : Out :=
  .next (s.timeOut c)

/-- ACK_LOST (R400): of the `i`-th posted store of context `c`; which of its events were performed is a free choice. -/
def execAckLost (c i : Nat) (s : State) : Out :=
  match (s.ctx c).posted[i]?, (s.ctx c).task with
  | some p, some t =>
    let x := s.ctx c
    let s2 := p.events.foldl (fun (r : State) e =>
      let (b, r1) := r.freeBit
      if b then r1.perform e else r1) s
    let s3 := (s2.setCtx c { s2.ctx c with posted := x.posted.eraseIdx i }).received c p
    let code := match p.writes.head?.map (·.loc) with
      | some (.mem pa) => if fld pa 43 9 ≠ s.self then 10 else if fld pa 41 2 = 0 then 8 else 9
      | some (.scr _ _) => 4
      | some (.frame _ _ _) => 7
      | _ => 10
    .next ((s3.postEvent x.vf 1 (errorEvent (lidOf x.vf t.launch) code 1 0)).killLaunch t.launch 7)
  | _, _ => .next s

/-- SELF_TEST_COMPLETE (R402). -/
def execSelfTestComplete (u : UnitId) (pass : Bool) (s : State) : Out :=
  .next (s.endTest u pass)

/-- UNCORRECTABLE_ERROR (R399). -/
def execUncorrectableError (at_ : PoisonAt) (s : State) : Out :=
  let s1 := s.poisonPlace at_
  let s2 := match s.ownerAt at_ with
    | some (vf, num) => s1.postEvent vf 1 (errorEvent (lidOf vf num) (errorCode at_) 1 0)
    | none => s1
  match s.unitAt at_ with
  | some u => .next (s2.setTesting u true)
  | none => .next s2

/-- CORRECTED_ERROR (R401): counted; more than 1,000 in an hour start the self-test, and the owner is told (R404; log entry 96). -/
def execCorrectedError (u : UnitId) (s : State) : Out :=
  let cs := (s.mgmt.corrected.filter (fun x => decide (s.tick < x.2 + hourCycles))) ++ [(u, s.tick)]
  let s1 := { s with mgmt := { s.mgmt with corrected := cs } }
  .next (if 1000 < (cs.filter (fun x => x.1 == u)).length then (s1.tellError u 0 0).setTesting u true else s1)

/-- DEBUGGER_RESUME (R394). -/
def execDebuggerResume (c : Nat) (s : State) : Out :=
  .next (s.setCtx c (s.ctx c).undebugged)

end Sys2Proof.Machine
end

