-- ==== Sys2Proof/Machine/Sencha.lean ====
section
/-! DEFINITION. The Sencha: reports, weight regions and their counters, identity (R226, R422 to R429, R471, R472). -/

namespace Sys2Proof.Machine

/-! Reports (R428, R472) -/

/-- Zero bytes. -/
def zeros (n : Nat) : List Byte := List.replicate n 0

/-- The bytes of a digest or other wide value, least significant first. -/
def wideBytes {n : Nat} (w : BitVec n) : List Byte := bytesOf (n / 8) w.toNat

/-- A report's 256 bytes completed with their digest and its signature, 1,600 bytes in all (R428). -/
def signedReport (body : List Byte) : List Byte :=
  let digest := shake256 body 64
  body ++ digest ++ wideBytes (Config.sign (BitVec.ofNat 512 (ofBytes digest)))

/-- Bytes 0x000 to 0x0FF of a meter report on a region (R428). -/
def State.meterBody (s : State) (kind seq num : Nat) (r : Region) (target : BitVec 256) (nonce : BitVec 128) : List Byte :=
  bytesOf 8 kind ++ bytesOf 8 seq ++ wideBytes Config.devid ++ wideBytes s.sencha.deploy ++ wideBytes r.owner
    ++ bytesOf 2 num ++ bytesOf 2 r.vf ++ bytesOf 4 r.epoch.toNat ++ bytesOf 8 r.ops ++ bytesOf 8 r.bytes ++ bytesOf 8 s.tick
    ++ wideBytes target ++ wideBytes nonce ++ bytesOf 8 r.restarts ++ zeros 72

/-- Bytes 0x000 to 0x0FF of a meter report from another device (R428). -/
def reportBody (r : HandoverReport) : List Byte :=
  wideBytes r.kind ++ wideBytes r.seq ++ wideBytes r.devid ++ wideBytes r.deploy ++ wideBytes r.owner ++ wideBytes r.region
    ++ wideBytes r.vf ++ wideBytes r.epoch ++ wideBytes r.ops ++ wideBytes r.bytes ++ wideBytes r.stamp ++ wideBytes r.target
    ++ wideBytes r.nonce ++ wideBytes r.restarts ++ zeros 72

/-- A meter report on a region, with the next report sequence number (R428). -/
def State.meterReport (s : State) (kind num : Nat) (r : Region) (target : BitVec 256) (nonce : BitVec 128) : List Byte × State :=
  let n := s.sencha.seq + 1
  (signedReport (s.meterBody kind n num r target nonce), { s with sencha := { s.sencha with seq := n } })

/-- The firmware image that runs: one staged before the last reset, or the one built in (R470). -/
def State.image (s : State) (k : Nat) : Firmware := tabGet (Config.firmware k) s.sencha.running k

/-- The Infuser configuration word (R226): its REV is the running Infuser firmware's (R470). -/
def State.icfg (s : State) : Nat :=
  2 ^ 32 * ((s.image 2).rev % 2 ^ 16) + 2 ^ 16 * 16384 + 2 ^ 8 * 64 + 4

/-- The measurement of a running firmware image (R472). -/
def State.measurement (s : State) (k : Nat) : BitVec 256 := (s.image k).digest

/-- The number of fenced units of one kind. -/
def State.fencedCount (s : State) (p : UnitId → Bool) : Nat := (s.mgmt.fencedUnits.filter p).length

/-- An attestation report, with the next report sequence number (R472). -/
def State.attest (s : State) (nonce : BitVec 128) : List Byte × State :=
  let n := s.sencha.seq + 1
  let isCore := fun (u : UnitId) => match u with
    | .core _ => true
    | _ => false
  let isGrove := fun (u : UnitId) => match u with
    | .grove _ => true
    | _ => false
  let isStack := fun (u : UnitId) => match u with
    | .stack _ => true
    | .nearPage _ => true
    | _ => false
  let isLink := fun (u : UnitId) => match u with
    | .link _ => true
    | _ => false
  let body := bytesOf 8 4 ++ bytesOf 8 n ++ wideBytes Config.devid ++ wideBytes s.sencha.deploy ++ wideBytes nonce ++ bytesOf 8 s.icfg
    ++ bytesOf 8 (s.mgmt.stage.getD 0) ++ wideBytes (s.measurement 0) ++ wideBytes (s.measurement 1) ++ wideBytes (s.measurement 2)
    ++ bytesOf 8 (s.fencedCount isCore) ++ bytesOf 8 (s.fencedCount isGrove) ++ bytesOf 8 (s.fencedCount isStack)
    ++ bytesOf 8 (s.fencedCount isLink) ++ zeros 32
  (signedReport body, { s with sencha := { s.sencha with seq := n } })

/-! The request page (R420, R423; log entry 15) -/

/-- An answer written to a function's request page: a status word (0 done, 1 refused), then a report's bytes. -/
def State.mailAnswer (s : State) (vf status : Nat) (bs : List Byte) : State :=
  { s with mem := memWrite (s.paOf 2 (s.vf vf).mailbox.toNat) (bytesOf 8 status ++ bs) s.mem }

/-- A meter report delivered through the request page, with MSI-X vector 3 (R419). -/
def State.mailReport (s : State) (vf : Nat) (bs : List Byte) : State :=
  let s1 := s.mailAnswer vf 0 bs
  s1.setVf vf { s1.vf vf with msix := (s1.vf vf).msix ++ [3] }

/-! Regions (R422, R423, R429) -/

/-- Two ranges have a common byte. -/
def rangesMeet (a n b m : Nat) : Bool := decide (a < b + m ∧ b < a + n)

/-- A registration that the Sencha refuses: unaligned or empty, outside the function's space, overlapping a region of the
function, or without the owner's signature on the deregistration key (R422, R423). -/
def State.regionBad (s : State) (r : RegionReq) : Bool :=
  r.base % 0x10000 != 0 || r.len % 0x10000 != 0 || r.len == 0 || decide (deviceBase < r.base + r.len)
    || s.sencha.regions.any (fun x => x.2.vf == r.vf && rangesMeet x.2.base x.2.len r.base r.len)
    || !(Config.verify r.owner (wideBytes r.deregKey) r.sig)

/-- A region registered under the lowest number that is free and was not used in its epoch, in a new epoch with both counters at 0; none where it is refused
(R422, R423, R426). -/
def State.addRegion (s : State) (r : RegionReq) : Option (Nat × State) :=
  if s.regionBad r then none
  else
    let e := s.sencha.epoch + 1
    ((upFrom 0 4096).find? (fun n => (tabFind s.sencha.regions n).isNone && !(s.sencha.used.contains (n, e)))).map (fun n =>
      let x : Region := { vf := r.vf, base := r.base, len := r.len, pol := r.pol, owner := r.owner, epoch := e, ceilo := opsStep, ceilb := bytesStep }
      (n, { s with sencha := { s.sencha with epoch := e, regions := tabSet n x s.sencha.regions } }))

/-- The bytes that a deregistration request signs. -/
def deregBytes (num : Nat) (nonce : BitVec 128) : List Byte := bytesOf 2 num ++ wideBytes nonce

/-- A region record replaced. -/
def State.setRegion (s : State) (n : Nat) (r : Region) : State :=
  { s with sencha := { s.sencha with regions := tabSet n r s.sencha.regions } }

/-- A HANDOVER report that a replacement device continues region `n` from (R429): signed over its digest by the device that it
names, for this device, of the same deployment, owner and region, and not taken before. Neither counter may be lowered (R424,
log entry 53). -/
def State.handoverOk (s : State) (n : Nat) (x : Region) (r : HandoverReport) : Bool :=
  r.kind == 2 && Config.verify r.devid (shake256 (reportBody r) 64) r.sig
    && r.deploy == s.sencha.deploy && r.target == Config.devid && r.owner == x.owner && r.region.toNat == n
    && !(s.sencha.seen.contains (r.devid, r.seq.toNat)) && decide (x.ops ≤ r.ops.toNat) && decide (x.bytes ≤ r.bytes.toNat)

/-- The counters of a region start at the values of a HANDOVER report, whose epoch later regions do not share (R423, R429). -/
def State.acceptHandover (s : State) (n : Nat) (x : Region) (r : HandoverReport) : State :=
  let y := { x with
    ops := r.ops.toNat
    bytes := r.bytes.toNat
    epoch := r.epoch
    restarts := r.restarts.toNat
    ceilo := min (r.ops.toNat + opsStep) max64
    ceilb := min (r.bytes.toNat + bytesStep) max64 }
  let s1 := s.setRegion n y
  { s1 with sencha := { s1.sencha with
      seen := s1.sencha.seen ++ [(r.devid, r.seq.toNat)]
      epoch := if s1.sencha.epoch.toNat < r.epoch.toNat then r.epoch else s1.sencha.epoch } }

/-- The Sencha persists a ceiling one step higher once the counter has passed the ceiling less half a step (R427). -/
def Region.renew (r : Region) (isBytes : Bool) : Region :=
  if isBytes then (if r.ceilb < r.bytes + bytesStep / 2 then { r with ceilb := min (r.ceilb + bytesStep) max64 } else r)
  else (if r.ceilo < r.ops + opsStep / 2 then { r with ceilo := min (r.ceilo + opsStep) max64 } else r)

/-- A region after a loss of power that was not orderly: both counters at their ceilings, RESTARTS one higher (R427). -/
def Region.restart (r : Region) : Region :=
  { r with
    ops := min r.ceilo max64
    bytes := min r.ceilb max64
    ceilo := min (r.ceilo + opsStep) max64
    ceilb := min (r.ceilb + bytesStep) max64
    restarts := r.restarts + 1 }

end Sys2Proof.Machine
end

