-- ==== Sys2Proof/Machine/EvHost.lean ====
section
/-! DEFINITION. The host's and the tenant's requests: the register page, BAR2, the request page of the Sencha (R196, R420 to R429, R372, R277). -/

namespace Sys2Proof.Machine

/-! Launch submission (R196, R201, R420) -/

/-- A launch refused at submission: its header cannot be read, so it takes status FAULT and is never queued (R196). -/
def State.faultLaunch (s : State) (vf : Nat) : Nat × State :=
  let l : Launch := { vf := vf, hdr := zeros 256, queued := s.tick, lastCtx := s.tick }
  (s.nextNum, ({ s with launches := tabSet s.nextNum l s.launches, nextNum := s.nextNum + 1 } : State).endLaunch s.nextNum 6)

/-- A host write to SUBMIT (R196, R420). -/
def State.hostSubmit (s : State) (vf : Nat) (addr : Word) : State :=
  let setRes := fun (r : State) (v : Word) => r.setVf vf { r.vf vf with submitRes := v }
  if Config.submitCapacity ≤ (s.vf vf).submitQ.length then setRes s 0
  else
    match (if addr.toNat % 256 = 0 then s.readVirt vf 2 addr.toNat 256 else none) with
    | some (hdr, s1) =>
      let (n, s2) := s1.enqueue vf hdr none
      setRes s2 (lidOf vf n)
    | none =>
      let (n, s2) := s.faultLaunch vf
      setRes s2 (lidOf vf n)

/-- The status that STATUSQ reads for an LID of the function (R211). -/
def State.hostStatus (s : State) (vf : Nat) (lid : Word) : Nat :=
  match tabFind s.launches (fld lid.toNat 0 40) with
  | some l => if l.vf = vf ∧ lid = lidOf vf (fld lid.toNat 0 40) then l.status else 0
  | none => 0

/-- What the host reads, in the order of its reads: one record of bytes for each, empty for a Completer Abort. -/
def State.tellHost (s : State) (bs : List Byte) : State := { s with hostOut := s.hostOut ++ [bs] }

/-- A host write to a register of the function's page (R420): offsets not named and read-only registers ignore it. -/
def State.pageWrite (s : State) (vf off : Nat) (v : Word) : State :=
  let x := s.vf vf
  match off with
  | 0x000 => s.hostSubmit vf v
  | 0x008 => s.setVf vf { x with statusSel := v }
  | 0x010 => s.setVf vf { x with evbase := natW (v.toNat / 4096 * 4096) }
  | 0x020 => (s.setVf vf { x with evtail := natW (v.toNat % 4096) }).drainEvents vf
  | 0x038 => s.setVf vf { x with mailbox := natW (v.toNat / 4096 * 4096) }
  | _ => s

/-- What a host read of a register of the function's page returns (R420). -/
def State.pageRead (s : State) (vf off : Nat) : Word :=
  let x := s.vf vf
  match off with
  | 0x000 => x.submitRes
  | 0x008 => natW (s.hostStatus vf x.statusSel)
  | 0x010 => x.evbase
  | 0x018 => x.evhead
  | 0x020 => x.evtail
  | 0x028 => x.evlost
  | 0x030 => x.dualcnt
  | 0x038 => x.mailbox
  | _ => 0

/-! BAR2 (R419, R425) -/

/-- A host access through BAR2 reaches a weight region of the function. -/
def State.hostRegion (s : State) (vf va n : Nat) : Bool :=
  s.sencha.regions.any (fun x => x.2.vf == vf && rangesMeet x.2.base x.2.len va n)

/-- Bytes that the host writes through BAR2, page by page; where the translation faults they are discarded. -/
def State.writeVirt (s : State) (vf : Nat) : Nat → Nat → List Byte → State
  | 0, _, _ => s
  | f + 1, va, bs =>
    if bs = [] then s
    else
      let k := min bs.length (4096 - va % 4096)
      let s1 := if deviceBase < va + k then s
        else
          match s.walk vf va .store with
          | .ok pa _ _ s2 => s2.writeLoc (.mem pa) (bs.take k)
          | .fault _ => s
      s1.writeVirt vf f (va + k) (bs.drop k)

/-- Whether the tenant's function lives in the partition of a grove (R412, R421). -/
def State.ownsGrove (s : State) (vf g : Nat) : Bool :=
  s.parts.any (fun p => p.2.groves.contains g && (p.2.vf == vf || p.2.saved.any (fun v => v.vf == vf)))

/-- SUBMIT (R420). -/
def execSubmit (vf : Nat) (addr : Word) (s : State) : Out :=
  if !(s.vf vf).enabled then .next s
  else .next (s.hostSubmit vf addr)

/-- STATUSQ (R420). -/
def execStatusq (vf : Nat) (lid : Word) (s : State) : Out :=
  if !(s.vf vf).enabled then .next s
  else .next ((s.pageWrite vf 0x008 lid).tellHost (bytesOf 8 (s.hostStatus vf lid)))

/-- EVTAIL (R420). -/
def execEvtail (vf : Nat) (val : Word) (s : State) : Out :=
  if !(s.vf vf).enabled then .next s
  else .next (s.pageWrite vf 0x020 val)

/-- VF_REGISTER_WRITE (R420): a host write of a register of the page, or a read, whose value the host receives. -/
def execVfRegisterWrite (w : PageAccess) (s : State) : Out :=
  if !(s.vf w.vf).enabled then .next s
  else
    match w.val with
    | some v => .next (s.pageWrite w.vf w.off v)
    | none => .next (s.tellHost (bytesOf 8 (s.pageRead w.vf w.off).toNat))

/-- BAR2_READ (R425). -/
def execBar2Read (vf : Nat) (va : Word) (size : Nat) (s : State) : Out :=
  if !(s.vf vf).enabled then .next s
  else if s.hostRegion vf va.toNat size then .next ((s.postEvent vf 1 (errorEvent 0 0 0 0)).tellHost [])
  else
    match s.readVirt vf (size / 4096 + 2) va.toNat size with
    | some (bs, s1) => .next (s1.tellHost bs)
    | none => .next (s.tellHost [])

/-- BAR2_WRITE (R425). -/
def execBar2Write (vf : Nat) (va : Word) (bytes : List Byte) (s : State) : Out :=
  if !(s.vf vf).enabled then .next s
  else if s.hostRegion vf va.toNat bytes.length then .next (s.postEvent vf 1 (errorEvent 0 0 0 0))
  else .next (s.writeVirt vf (bytes.length / 4096 + 2) va.toNat bytes)

/-- REGION_REGISTER (R423). -/
def execRegionRegister (r : RegionReq) (s : State) : Out :=
  if !(s.vf r.vf).enabled then .next s
  else match s.addRegion r with
    | some (n, s1) => .next (s1.mailAnswer r.vf 0 (bytesOf 8 n))
    | none => .next (s.mailAnswer r.vf 1 [])

/-- REGION_DEREGISTER (R423). -/
def execRegionDeregister (region : Nat) (nonce : BitVec 128) (sig : BitVec 10240) (s : State) : Out :=
  match tabFind s.sencha.regions region with
  | none => .next s
  | some x =>
    if !(s.vf x.vf).enabled then .next s
    else if !(Config.verify x.owner (deregBytes region nonce) sig) then .next (s.mailAnswer x.vf 1 [])
    else
      let (bs, s1) := s.meterReport 3 region x 0 nonce
      let t := s1.sencha
      .next (({ s1 with sencha := { t with regions := tabDel region t.regions, used := t.used ++ [(region, x.epoch)] } } : State).mailReport x.vf bs)

/-- METER_REPORT_REQUEST (R428). -/
def execMeterReportRequest (vf region : Nat) (nonce : BitVec 128) (s : State) : Out :=
  if !(s.vf vf).enabled then .next s
  else match tabFind s.sencha.regions region with
    | none => .next (s.mailAnswer vf 1 [])
    | some x =>
      if x.vf ≠ vf then .next (s.mailAnswer vf 1 [])
      else
        let (bs, s1) := s.meterReport 1 region x 0 nonce
        .next (s1.mailReport vf bs)

/-- HANDOVER (R429). -/
def execHandover (r : HandoverReq) (s : State) : Out :=
  match r with
  | .sign n target nonce =>
    (match tabFind s.sencha.regions n with
     | none => .next s
     | some x =>
       if !(s.vf x.vf).enabled then .next s
       else
       let (bs, s1) := s.meterReport 2 n x target nonce
       .next ((s1.setRegion n { x with frozen := true }).mailReport x.vf bs))
  | .accept n p =>
    (match tabFind s.sencha.regions n with
     | none => .next s
     | some x =>
       if !(s.vf x.vf).enabled then .next s
       else if s.handoverOk n x p then .next ((s.acceptHandover n x p).mailAnswer x.vf 0 []) else .next (s.mailAnswer x.vf 1 []))

/-- MAILBOX_ATTEST (R472). -/
def execMailboxAttest (vf : Nat) (nonce : BitVec 128) (s : State) : Out :=
  if !(s.vf vf).enabled then .next s
  else 
    let (bs, s1) := s.attest nonce
    .next (s1.mailAnswer vf 0 bs)

/-- OKEY_SET (R372). -/
def execOkeySet (vf : Nat) (key : BitVec 128) (s : State) : Out :=
  if !(s.vf vf).enabled then .next s
  else .next (s.setVf vf { s.vf vf with okey := key })

/-- HOME_DESCRIPTOR_SET (R421). -/
def execHomeDescriptorSet (vf idx : Nat) (val : Word) (s : State) : Out :=
  if !(s.vf vf).enabled then .next s
  else if idx < 64 ∧ s.ownsGrove vf (fld val.toNat 36 2 * 12 + fld val.toNat 32 4) ∧ fld val.toNat 32 4 < 12 then
    .next (s.setVf vf { s.vf vf with hd := tabSet idx val (s.vf vf).hd })
  else .next s

/-- STASH_SIZE_SET (R421). -/
def execStashSizeSet (vf core kib : Nat) (s : State) : Out :=
  if !(s.vf vf).enabled then .next s
  else if core < numCore ∧ s.ownsGrove vf (core / 24) ∧ [0, 32, 64, 128].contains kib then
    .next (s.setVf vf { s.vf vf with stash := tabSet core kib (s.vf vf).stash })
  else .next s

/-- CEILING_PERSIST (R427). -/
def execCeilingPersist (region : Nat) (isBytes : Bool) (s : State) : Out :=
  match tabFind s.sencha.regions region with
  | none => .next s
  | some x => .next (s.setRegion region (x.renew isBytes))

end Sys2Proof.Machine
end

