-- ==== Sys2Proof/Machine/Shape.lean ====
section
/-! DEFINITION. What the Infuser sees of a word without executing it: whether it decodes, and the registers that it names
(R214, R219, R480). The words of the majors 0x11 to 0x1E are read here as `decodeAHigh` reads them. -/

namespace Sys2Proof.Machine

/-- A word as the Infuser sees it: the trap its decoding raises, or its sources and destinations. -/
inductive Shape where
  | illegal
  | reserved
  | word (srcs : List Src) (dsts : List Dst)
  deriving DecidableEq, Repr

/-- A word whose operation is assigned: RESERVED unless its fields are as they must be. -/
def shapeRow (good : Bool) (srcs : List Src) (dsts : List Dst) : Shape := if good then .word srcs dsts else .reserved

/-- The shape of an A-class word of major 0x11 (R53). -/
def shapeA11 (w : Nat) : Shape :=
  match fld w 0 3 with
  | 0 => shapeRow (fld w 9 5 == 0 && ((BitVec.ofNat 3 (fld w 3 3)) != 3 && (BitVec.ofNat 3 (fld w 3 3)) != 7)) [⟨1, 2, (BitVec.ofNat 5 (fld w 14 5)).toNat, false⟩] [⟨2, (BitVec.ofNat 5 (fld w 19 5)).toNat⟩]
  | 1 => shapeRow (fld w 9 5 == 0 && ((BitVec.ofNat 3 (fld w 3 3)) != 3 && (BitVec.ofNat 3 (fld w 3 3)) != 7)) [⟨1, 2, (BitVec.ofNat 5 (fld w 14 5)).toNat, false⟩] [⟨2, (BitVec.ofNat 5 (fld w 19 5)).toNat⟩]
  | 2 => shapeRow (decide ((BitVec.ofNat 3 (fld w 3 3)).toNat < 2)) [⟨1, 2, (BitVec.ofNat 5 (fld w 14 5)).toNat, false⟩, ⟨2, 2, (BitVec.ofNat 5 (fld w 9 5)).toNat, false⟩] [⟨2, (BitVec.ofNat 5 (fld w 19 5)).toNat⟩]
  | 3 => shapeRow ((decide ((BitVec.ofNat 3 (fld w 3 3)).toNat < 2) && decide ((BitVec.ofNat 5 (fld w 9 5)).toNat < 2))) [⟨1, 2, (BitVec.ofNat 5 (fld w 14 5)).toNat, false⟩] [⟨2, (BitVec.ofNat 5 (fld w 19 5)).toNat⟩]
  | 4 => shapeRow (fld w 3 3 == 0 && decide ((BitVec.ofNat 5 (fld w 9 5)).toNat < 4)) [⟨1, 2, (BitVec.ofNat 5 (fld w 14 5)).toNat, false⟩] [⟨2, (BitVec.ofNat 5 (fld w 19 5)).toNat⟩]
  | 5 => shapeRow (fld w 3 3 == 0 && decide ((BitVec.ofNat 5 (fld w 9 5)).toNat < 4)) [⟨1, 2, (BitVec.ofNat 5 (fld w 14 5)).toNat, false⟩] [⟨2, (BitVec.ofNat 5 (fld w 19 5)).toNat⟩]
  | 6 => shapeRow (fld w 3 3 == 0 && decide ((BitVec.ofNat 5 (fld w 9 5)).toNat < 8)) [⟨1, 2, (BitVec.ofNat 5 (fld w 14 5)).toNat, false⟩] [⟨2, (BitVec.ofNat 5 (fld w 19 5)).toNat⟩]
  | 7 => shapeRow (fld w 3 3 == 0 && decide ((BitVec.ofNat 5 (fld w 9 5)).toNat < 8)) [⟨1, 2, (BitVec.ofNat 5 (fld w 14 5)).toNat, false⟩] [⟨2, (BitVec.ofNat 5 (fld w 19 5)).toNat⟩]
  | _ => .illegal

/-- The shape of an A-class word of major 0x12 (R53). -/
def shapeA12 (w : Nat) : Shape :=
  match fld w 3 3 with
  | 0 => shapeRow (fld w 9 5 == 0 && decide ((BitVec.ofNat 3 (fld w 0 3)).toNat < 3)) [⟨1, 2, (BitVec.ofNat 5 (fld w 14 5)).toNat, false⟩] [⟨2, (BitVec.ofNat 5 (fld w 19 5)).toNat⟩]
  | 1 => shapeRow (fld w 9 5 == 0 && decide ((BitVec.ofNat 3 (fld w 0 3)).toNat < 3)) [⟨1, 2, (BitVec.ofNat 5 (fld w 14 5)).toNat, false⟩] [⟨2, (BitVec.ofNat 5 (fld w 19 5)).toNat⟩]
  | 2 => shapeRow (fld w 9 5 == 0 && decide ((BitVec.ofNat 3 (fld w 0 3)).toNat < 3)) [⟨1, 2, (BitVec.ofNat 5 (fld w 14 5)).toNat, false⟩] [⟨2, (BitVec.ofNat 5 (fld w 19 5)).toNat⟩]
  | 3 => shapeRow (fld w 9 5 == 0 && decide ((BitVec.ofNat 3 (fld w 0 3)).toNat < 3)) [⟨1, 2, (BitVec.ofNat 5 (fld w 14 5)).toNat, false⟩] [⟨2, (BitVec.ofNat 5 (fld w 19 5)).toNat⟩]
  | 4 => shapeRow (fld w 9 5 == 0 && decide ((BitVec.ofNat 3 (fld w 0 3)).toNat < 3)) [⟨1, 2, (BitVec.ofNat 5 (fld w 14 5)).toNat, false⟩] [⟨2, (BitVec.ofNat 5 (fld w 19 5)).toNat⟩]
  | 5 => shapeRow (fld w 9 5 == 0 && decide ((BitVec.ofNat 3 (fld w 0 3)).toNat < 3)) [⟨1, 2, (BitVec.ofNat 5 (fld w 14 5)).toNat, false⟩] [⟨2, (BitVec.ofNat 5 (fld w 19 5)).toNat⟩]
  | 6 => shapeRow (fld w 9 5 == 0 && decide ((BitVec.ofNat 3 (fld w 0 3)).toNat < 3)) [⟨1, 2, (BitVec.ofNat 5 (fld w 14 5)).toNat, false⟩] [⟨2, (BitVec.ofNat 5 (fld w 19 5)).toNat⟩]
  | 7 => shapeRow (fld w 9 5 == 0 && decide ((BitVec.ofNat 3 (fld w 0 3)).toNat < 3)) [⟨1, 2, (BitVec.ofNat 5 (fld w 14 5)).toNat, false⟩] [⟨2, (BitVec.ofNat 5 (fld w 19 5)).toNat⟩]
  | _ => .illegal

/-- The shape of an A-class word of major 0x13 (R53). -/
def shapeA13 (w : Nat) : Shape :=
  match fld w 0 3 with
  | 0 => shapeRow (fld w 3 6 == 0 && (decide ((BitVec.ofNat 5 (fld w 19 5)).toNat < 8) && decide ((BitVec.ofNat 5 (fld w 14 5)).toNat < 8) && decide ((BitVec.ofNat 5 (fld w 9 5)).toNat < 8))) [] [⟨4, (BitVec.ofNat 5 (fld w 19 5)).toNat⟩]
  | 1 => shapeRow (fld w 3 6 == 0 && (decide ((BitVec.ofNat 5 (fld w 19 5)).toNat < 8) && decide ((BitVec.ofNat 5 (fld w 14 5)).toNat < 8) && decide ((BitVec.ofNat 5 (fld w 9 5)).toNat < 8))) [] [⟨4, (BitVec.ofNat 5 (fld w 19 5)).toNat⟩]
  | 2 => shapeRow (fld w 3 6 == 0 && (decide ((BitVec.ofNat 5 (fld w 19 5)).toNat < 8) && decide ((BitVec.ofNat 5 (fld w 14 5)).toNat < 8) && decide ((BitVec.ofNat 5 (fld w 9 5)).toNat < 8))) [] [⟨4, (BitVec.ofNat 5 (fld w 19 5)).toNat⟩]
  | 3 => shapeRow (fld w 3 6 == 0 && (decide ((BitVec.ofNat 5 (fld w 19 5)).toNat < 8) && decide ((BitVec.ofNat 5 (fld w 14 5)).toNat < 8) && decide ((BitVec.ofNat 5 (fld w 9 5)).toNat < 8))) [] [⟨4, (BitVec.ofNat 5 (fld w 19 5)).toNat⟩]
  | 4 => shapeRow (fld w 3 11 == 0 && (decide ((BitVec.ofNat 5 (fld w 19 5)).toNat < 8) && decide ((BitVec.ofNat 5 (fld w 14 5)).toNat < 8))) [] [⟨4, (BitVec.ofNat 5 (fld w 19 5)).toNat⟩]
  | 5 => shapeRow (fld w 3 11 == 0 && (decide ((BitVec.ofNat 5 (fld w 19 5)).toNat < 8) && decide ((BitVec.ofNat 5 (fld w 14 5)).toNat < 8))) [] [⟨4, (BitVec.ofNat 5 (fld w 19 5)).toNat⟩]
  | 6 => shapeRow (fld w 3 11 == 0 && decide ((BitVec.ofNat 5 (fld w 19 5)).toNat < 8)) [⟨1, 0, (BitVec.ofNat 5 (fld w 14 5)).toNat, false⟩] [⟨4, (BitVec.ofNat 5 (fld w 19 5)).toNat⟩]
  | 7 => shapeRow (fld w 3 11 == 0 && decide ((BitVec.ofNat 5 (fld w 14 5)).toNat < 8)) [] [⟨0, (BitVec.ofNat 5 (fld w 19 5)).toNat⟩]
  | _ => .illegal

/-- The shape of an A-class word of major 0x14 (R53). -/
def shapeA14 (w : Nat) : Shape :=
  shapeRow (fld w 0 2 == 0 && decide ((BitVec.ofNat 3 (fld w 2 3)).toNat < 6)) [⟨1, 0, (BitVec.ofNat 5 (fld w 15 5)).toNat, false⟩, ⟨2, 0, (BitVec.ofNat 5 (fld w 10 5)).toNat, false⟩, ⟨3, 1, (BitVec.ofNat 5 (fld w 5 5)).toNat, false⟩] [⟨6, (BitVec.ofNat 2 (fld w 22 2)).toNat⟩]

/-- The shape of an A-class word of major 0x15 (R53). -/
def shapeA15 (w : Nat) : Shape :=
  shapeRow (fld w 0 2 == 0 && decide ((BitVec.ofNat 3 (fld w 2 3)).toNat < 6)) [⟨1, 0, (BitVec.ofNat 5 (fld w 15 5)).toNat, false⟩, ⟨2, 0, (BitVec.ofNat 5 (fld w 10 5)).toNat, false⟩, ⟨3, 1, (BitVec.ofNat 5 (fld w 5 5)).toNat, false⟩] [⟨6, (BitVec.ofNat 2 (fld w 22 2)).toNat⟩]

/-- The shape of an A-class word of major 0x16 (R53). -/
def shapeA16 (w : Nat) : Shape :=
  shapeRow (fld w 0 2 == 0 && decide ((BitVec.ofNat 3 (fld w 2 3)).toNat < 6)) [⟨1, 0, (BitVec.ofNat 5 (fld w 15 5)).toNat, false⟩, ⟨2, 0, (BitVec.ofNat 5 (fld w 10 5)).toNat, false⟩, ⟨3, 1, (BitVec.ofNat 5 (fld w 5 5)).toNat, false⟩] [⟨6, (BitVec.ofNat 2 (fld w 22 2)).toNat⟩]

/-- The shape of an A-class word of major 0x17 (R53). -/
def shapeA17 (w : Nat) : Shape :=
  shapeRow (fld w 0 2 == 0 && decide ((BitVec.ofNat 3 (fld w 2 3)).toNat < 6)) [⟨1, 0, (BitVec.ofNat 5 (fld w 15 5)).toNat, false⟩, ⟨2, 0, (BitVec.ofNat 5 (fld w 10 5)).toNat, false⟩, ⟨3, 1, (BitVec.ofNat 5 (fld w 5 5)).toNat, false⟩] [⟨6, (BitVec.ofNat 2 (fld w 22 2)).toNat⟩]

/-- The shape of an A-class word of major 0x18 (R53). -/
def shapeA18 (w : Nat) : Shape :=
  shapeRow (fld w 0 2 == 0 && decide ((BitVec.ofNat 3 (fld w 2 3)).toNat < 6)) [⟨1, 0, (BitVec.ofNat 5 (fld w 15 5)).toNat, false⟩, ⟨2, 0, (BitVec.ofNat 5 (fld w 10 5)).toNat, false⟩, ⟨3, 1, (BitVec.ofNat 5 (fld w 5 5)).toNat, false⟩] [⟨6, (BitVec.ofNat 2 (fld w 22 2)).toNat⟩]

/-- The shape of an A-class word of major 0x19 (R53). -/
def shapeA19 (w : Nat) : Shape :=
  shapeRow (fld w 0 1 == 0 && fld w 2 8 == 0) [⟨1, 0, (BitVec.ofNat 5 (fld w 15 5)).toNat, false⟩, ⟨2, 0, (BitVec.ofNat 5 (fld w 10 5)).toNat, false⟩] [⟨6, (BitVec.ofNat 2 (fld w 22 2)).toNat⟩]

/-- The shape of an A-class word of major 0x1A (R53). -/
def shapeA1A (w : Nat) : Shape :=
  match fld w 3 6 with
  | 0 => shapeRow (fld w 0 3 == 0 && fld w 9 10 == 0 && decide ((BitVec.ofNat 5 (fld w 19 5)).toNat < 4)) [] [⟨6, (BitVec.ofNat 5 (fld w 19 5)).toNat⟩]
  | 1 => shapeRow (fld w 0 2 == 0 && fld w 9 5 == 0 && fld w 19 5 == 0) [⟨1, 0, (BitVec.ofNat 5 (fld w 14 5)).toNat, (bitAt w 2)⟩] [⟨4, 5⟩, ⟨4, 6⟩, ⟨4, 7⟩]
  | 2 => shapeRow (fld w 0 1 == 0 && fld w 2 1 == 0 && decide ((BitVec.ofNat 5 (fld w 14 5)).toNat < 4)) [⟨2, 0, (BitVec.ofNat 5 (fld w 9 5)).toNat, (bitAt w 1)⟩] [⟨2, (BitVec.ofNat 5 (fld w 19 5)).toNat⟩]
  | 3 => shapeRow (fld w 0 1 == 0 && decide ((BitVec.ofNat 5 (fld w 19 5)).toNat < 4)) [⟨1, 2, (BitVec.ofNat 5 (fld w 14 5)).toNat, (bitAt w 2)⟩, ⟨2, 0, (BitVec.ofNat 5 (fld w 9 5)).toNat, (bitAt w 1)⟩] [⟨6, (BitVec.ofNat 5 (fld w 19 5)).toNat⟩]
  | _ => .illegal

/-- The shape of an A-class word of major 0x1B (R53). -/
def shapeA1B (w : Nat) : Shape :=
  match fld w 13 2 with
  | 0 => shapeRow (fld w 0 12 == 0) [⟨1, 3, (BitVec.ofNat 3 (fld w 18 3)).toNat, (bitAt w 12)⟩, ⟨2, 3, (BitVec.ofNat 3 (fld w 15 3)).toNat, (bitAt w 12)⟩] [⟨3, (BitVec.ofNat 3 (fld w 21 3)).toNat⟩]
  | 1 => shapeRow (fld w 15 3 == 0) [⟨1, 3, (BitVec.ofNat 3 (fld w 18 3)).toNat, (bitAt w 12)⟩] [⟨3, (BitVec.ofNat 3 (fld w 21 3)).toNat⟩]
  | 2 => shapeRow (fld w 0 12 == 0 && fld w 15 3 == 0) [⟨1, 3, (BitVec.ofNat 3 (fld w 18 3)).toNat, (bitAt w 12)⟩] [⟨3, (BitVec.ofNat 3 (fld w 21 3)).toNat⟩]
  | 3 => shapeRow (fld w 0 12 == 0 && fld w 15 3 == 0) [⟨1, 3, (BitVec.ofNat 3 (fld w 18 3)).toNat, (bitAt w 12)⟩] [⟨3, (BitVec.ofNat 3 (fld w 21 3)).toNat⟩]
  | _ => .illegal

/-- The shape of an A-class word of major 0x1C (R53). -/
def shapeA1C (w : Nat) : Shape :=
  match fld w 10 2 with
  | 0 => shapeRow (fld w 0 10 == 0 && fld w 15 3 == 0 && fld w 21 3 == 0) [⟨1, 3, (BitVec.ofNat 3 (fld w 18 3)).toNat, (bitAt w 12)⟩] [⟨5, (BitVec.ofNat 2 (fld w 13 2)).toNat⟩]
  | 1 => shapeRow (fld w 0 10 == 0 && fld w 12 1 == 0 && fld w 15 9 == 0) [] [⟨5, (BitVec.ofNat 2 (fld w 13 2)).toNat⟩]
  | 2 => shapeRow (fld w 0 10 == 0 && fld w 15 3 == 0) [⟨1, 3, (BitVec.ofNat 3 (fld w 18 3)).toNat, (bitAt w 12)⟩] [⟨3, (BitVec.ofNat 3 (fld w 21 3)).toNat⟩]
  | _ => .illegal

/-- The shape of an A-class word of major 0x1D (R53). -/
def shapeA1D (w : Nat) : Shape :=
  match fld w 10 2 with
  | 0 => shapeRow (fld w 5 5 == 0 && fld w 13 2 == 0 && fld w 21 3 == 0) [⟨1, 3, (BitVec.ofNat 3 (fld w 18 3)).toNat, (bitAt w 12)⟩, ⟨2, 3, (BitVec.ofNat 3 (fld w 15 3)).toNat, (bitAt w 12)⟩] [⟨0, (BitVec.ofNat 5 (fld w 0 5)).toNat⟩]
  | 1 => shapeRow (fld w 5 5 == 0 && fld w 13 5 == 0 && fld w 21 3 == 0) [⟨1, 3, (BitVec.ofNat 3 (fld w 18 3)).toNat, (bitAt w 12)⟩] [⟨0, (BitVec.ofNat 5 (fld w 0 5)).toNat⟩]
  | _ => .illegal

/-- The shape of an A-class word of major 0x1E (R53). -/
def shapeA1E (w : Nat) : Shape :=
  match fld w 0 6 with
  | 0 | 8 | 16 | 24 | 32 | 40 | 48 | 56 => shapeRow (fld w 3 3 == 0) [⟨1, 2, (BitVec.ofNat 5 (fld w 14 5)).toNat, false⟩, ⟨2, 0, (BitVec.ofNat 5 (fld w 9 5)).toNat, false⟩, ⟨3, 2, (BitVec.ofNat 5 (fld w 19 5)).toNat, false⟩] [⟨2, (BitVec.ofNat 5 (fld w 19 5)).toNat⟩]
  | 1 => shapeRow (fld w 6 3 == 0 && (BitVec.ofNat 5 (fld w 14 5)).toNat % 4 == 0) [⟨2, 0, (BitVec.ofNat 5 (fld w 9 5)).toNat, false⟩] [⟨2, (BitVec.ofNat 5 (fld w 19 5)).toNat⟩]
  | 9 => shapeRow (fld w 6 3 == 0 && fld w 14 5 == 0) [⟨2, 0, (BitVec.ofNat 5 (fld w 9 5)).toNat, false⟩] [⟨2, (BitVec.ofNat 5 (fld w 19 5)).toNat⟩]
  | 17 => shapeRow (fld w 6 3 == 0 && fld w 19 5 == 0) [⟨1, 2, (BitVec.ofNat 5 (fld w 14 5)).toNat, false⟩, ⟨2, 0, (BitVec.ofNat 5 (fld w 9 5)).toNat, false⟩] []
  | 2 | 10 | 18 | 26 | 34 | 42 | 50 | 58 => shapeRow (fld w 3 11 == 0 && fld w 22 2 == 0) [⟨1, 0, (BitVec.ofNat 5 (fld w 14 5)).toNat, false⟩] [⟨3, (BitVec.ofNat 3 (fld w 19 3)).toNat⟩]
  | 3 | 11 | 19 | 27 | 35 | 43 | 51 | 59 => shapeRow (fld w 3 11 == 0 && fld w 19 5 == 0) [⟨1, 0, (BitVec.ofNat 5 (fld w 14 5)).toNat, false⟩] []
  | 4 | 12 | 20 | 28 | 36 | 44 | 52 | 60 => shapeRow (fld w 3 16 == 0) [] [⟨0, (BitVec.ofNat 5 (fld w 19 5)).toNat⟩]
  | 25 | 33 | 41 | 49 | 57 => .reserved
  | _ => .illegal

/-- The shape of a decoded instruction. -/
def Decoded.shape : Decoded → Shape
  | .ok i => .word (Instr.sources i) (Instr.dests i)
  | .illegal => .illegal
  | .reserved => .reserved

/-- The instruction of a word of a major that may fold or redirect, but MASK and MACC (R216 to R218): a C word, or an A word
below major 0x11. -/
def lowInstr (w : Nat) : Option Instr :=
  match (if isA w then (if fld w 24 6 < 17 then decodeALow w else .reserved) else decodeC w) with
  | .ok i => some i
  | .illegal => none
  | .reserved => none

/-- The shape of a word. -/
def shapeOf (w : Nat) : Shape :=
  if !(isA w) then Decoded.shape (decodeC w)
  else if fld w 24 6 < 17 then Decoded.shape (decodeALow w)
  else
    match fld w 24 6 with
    | 17 => shapeA11 w
    | 18 => shapeA12 w
    | 19 => shapeA13 w
    | 20 => shapeA14 w
    | 21 => shapeA15 w
    | 22 => shapeA16 w
    | 23 => shapeA17 w
    | 24 => shapeA18 w
    | 25 => shapeA19 w
    | 26 => shapeA1A w
    | 27 => shapeA1B w
    | 28 => shapeA1C w
    | 29 => shapeA1D w
    | 30 => shapeA1E w
    | _ => .reserved

end Sys2Proof.Machine
end

