-- ==== Sys2Proof/Machine/Infuser.lean ====
section
/-! DEFINITION. The Infuser (R213 to R222, R229, R480): from a kernel image and a launch header, the residual words with
their back map, or the reason for which infusion is abandoned (R223). Words are named by their index in the image. What an
instruction that may fold computes is what its own meaning does to a context that holds the known values. -/

namespace Sys2Proof.Machine

/-! The image (R214, R215, R219) -/

/-- A place in the walk: the unrolled loops around it, outermost first, each by the index of its LOOP, its number and the
iteration (R220). -/
abbrev WalkPath := List (Nat × Bool × Nat)

/-- What the Infuser knows at a point (R215): X registers with their values and whether they are present, M registers and
geometry CSRs. What is not listed is unknown. -/
structure Known where
  x : Tab (Word × Bool) := []
  m : Tab (BitVec 16) := []
  g : Tab Word := []
  deriving DecidableEq, Repr

/-- The offset of a CB-format word or a JAL, in words (R219). -/
def offsetOf (w : Nat) : Option Int :=
  if isA w then none
  else
    match fld w 23 6 with
    | 2 | 3 | 4 | 5 | 0x1A => some (sextInt 12 (fld w 0 12))
    | 6 => some (sextInt 18 (fld w 0 18))
    | _ => none

/-- What the Infuser reads off an image before its walk: the words, the header, the invariant registers (R214), whether X24
to X31 are unknown throughout (R215), the joins that branches, CBRs and JALs name, the words that follow a JAL that links
(R219), and the limit (R221). -/
structure Image where
  img : List Nat
  hdr : List Byte
  inv : List Nat
  qb : Bool
  joins : List Nat
  rets : List Nat
  limit : Nat
  deriving DecidableEq, Repr

/-- Word `k` of the image. -/
def wordAt (img : List Nat) (k : Nat) : Nat := nth 0 img k

/-- A C word at `k` that forms a pair with the A word after it (R40). A kernel image starts at a multiple of 64. -/
def pairAt (img : List Nat) (k : Nat) : Bool :=
  let w := wordAt img k
  !(isA w) && !(isLone w) && k % 2 == 0 && decide (k + 1 < img.length) && isA (wordAt img (k + 1))

/-- A C word that the image makes a pairing violation (R40). -/
def badPairAt (img : List Nat) (k : Nat) : Bool :=
  let w := wordAt img k
  !(isA w) && !(isLone w) && !(pairAt img k)

/-- The index after the unit at `k`. -/
def unitEnd (img : List Nat) (k : Nat) : Nat := if pairAt img k then k + 2 else k + 1

/-- The X destinations of a shape, but X0. -/
def Shape.xDests : Shape → List Nat
  | .word _ ds => ds.filterMap (fun d => if d.cls = 0 ∧ d.n ≠ 0 then some d.n else none)
  | _ => []

/-- The X sources of a shape, but X0, each once, in ascending order. -/
def Shape.xReads : Shape → List Nat
  | .word ss _ => (upFrom 1 31).filter (fun n => ss.any (fun (x : Src) => x.cls == 0 && x.n == n))
  | _ => []

/-- Whether an instruction binds a queue register (R215). -/
def bindsQueue : Option Instr → Bool
  | some (.qbind _ _ _ _ _) => true
  | some (.csrr _ _ _ c) => decide (csrQB0 ≤ c.toNat ∧ c.toNat < csrQB0 + 8)
  | some (.csrw _ _ _ _ c) => decide (csrQB0 ≤ c.toNat ∧ c.toNat < csrQB0 + 8)
  | some (.csrs _ _ _ _ c) => decide (csrQB0 ≤ c.toNat ∧ c.toNat < csrQB0 + 8)
  | some (.csrc _ _ _ _ c) => decide (csrQB0 ≤ c.toNat ∧ c.toNat < csrQB0 + 8)
  | _ => false

/-- A link-writing JAL. -/
def isLink (w : Nat) : Bool := !(isA w) && fld w 23 6 == 6 && fld w 18 5 != 0

/-- The image with what the Infuser marks in it (R214, R215, R219, R221). -/
def Image.of (img : List Nat) (hdr : List Byte) : Image :=
  let ks := upFrom 0 img.length
  { img := img, hdr := hdr
    inv := (upFrom 1 8).filter (fun n => !(img.any (fun w => (shapeOf w).xDests.contains n)))
    qb := img.any (fun w => bindsQueue (lowInstr w))
    joins := ks.filterMap (fun (k : Nat) => (offsetOf (wordAt img k)).bind (fun (o : Int) => if 0 ≤ (k : Int) + o then some ((k : Int) + o).toNat else none))
    rets := ks.filterMap (fun k => if isLink (wordAt img k) then some (unitEnd img k) else none)
    limit := min 16384 (4 * img.length) }

/-- The argument that X register `n` of 1 to 8 holds at a task's start (R198, R214). -/
def Image.arg (im : Image) (n : Nat) : Word := natW (hdrWord im.hdr (0x38 + 8 * n))

/-- What is known at a task's start, and where only the invariant registers are known (R214). -/
def Image.start (im : Image) : Known := { x := (upFrom 1 8).map (fun n => (n, (im.arg n, true))) }
def Image.invKnown (im : Image) : Known := { x := im.inv.map (fun n => (n, (im.arg n, true))) }

/-- The value of X n, if it is known (R214, R215). -/
def Image.xv (im : Image) (k : Known) (n : Nat) : Option Word :=
  if n = 0 then some 0 else if im.qb ∧ 24 ≤ n then none else (tabFind k.x n).map (·.1)

/-- The values of M n and of a geometry CSR, if they are known. -/
def Known.mv (k : Known) (n : Nat) : Option (BitVec 16) := if n = 0 then some 0xFFFF else tabFind k.m n
def Known.gv (k : Known) (a : Nat) : Option Word := tabFind k.g a

/-- The meet of two edges (R219): known with one value on both, present where both have it present. -/
def Known.meet (a b : Known) : Known :=
  { x := a.x.filterMap (fun (p : Nat × (Word × Bool)) => (tabFind b.x p.1).bind (fun q =>
      if p.2.1 = q.1 then some (p.1, (q.1, p.2.2 && q.2)) else none))
    m := a.m.filter (fun p => tabFind b.m p.1 == some p.2)
    g := a.g.filter (fun p => tabFind b.g p.1 == some p.2) }

def meetAll : List Known → Option Known
  | [] => none
  | k :: t => some (t.foldl Known.meet k)

/-! What one word does to what is known (R215 to R218) -/

/-- A geometry CSR (R215). -/
def isGeom (a : Nat) : Bool := decide (csrMGM ≤ a ∧ a ≤ csrMGON)

/-- A context that holds the known values and runs task code. -/
def Known.scratch (k : Known) : State :=
  { State.reset with ctxs := [(0, { status := .run
                                    regs := { pc := 0x10000, x := k.x.map (fun p => (p.1, p.2.1)), m := k.m, csr := k.g } })] }

/-- The meaning of a word whose form may fold, but LDG and LOOP, run alone (R216); a branch with its offset replaced by 2. -/
def foldRun (w : Nat) (s : State) : Option Out :=
  if isA w && fld w 24 6 == 0x13 then
    match fld w 0 3 with
    | 0 => some (execMand (bitAt w 30) (BitVec.ofNat 5 (fld w 19 5)) (BitVec.ofNat 5 (fld w 14 5)) (BitVec.ofNat 5 (fld w 9 5)) s)
    | 1 => some (execMor (bitAt w 30) (BitVec.ofNat 5 (fld w 19 5)) (BitVec.ofNat 5 (fld w 14 5)) (BitVec.ofNat 5 (fld w 9 5)) s)
    | 2 => some (execMxor (bitAt w 30) (BitVec.ofNat 5 (fld w 19 5)) (BitVec.ofNat 5 (fld w 14 5)) (BitVec.ofNat 5 (fld w 9 5)) s)
    | 3 => some (execMandn (bitAt w 30) (BitVec.ofNat 5 (fld w 19 5)) (BitVec.ofNat 5 (fld w 14 5)) (BitVec.ofNat 5 (fld w 9 5)) s)
    | 4 => some (execMnot (bitAt w 30) (BitVec.ofNat 5 (fld w 19 5)) (BitVec.ofNat 5 (fld w 14 5)) s)
    | 5 => some (execMfirst (bitAt w 30) (BitVec.ofNat 5 (fld w 19 5)) (BitVec.ofNat 5 (fld w 14 5)) s)
    | 6 => some (execMfromx (bitAt w 30) (BitVec.ofNat 5 (fld w 19 5)) (BitVec.ofNat 5 (fld w 14 5)) s)
    | _ => some (execMtox (bitAt w 30) (BitVec.ofNat 5 (fld w 19 5)) (BitVec.ofNat 5 (fld w 14 5)) s)
  else if isA w && fld w 24 6 == 0x1A && fld w 3 6 == 1 then some (execMedge (bitAt w 30) (BitVec.ofNat 5 (fld w 14 5)) (bitAt w 2) s)
  else
    match lowInstr w with
    | some (.add sm d a b t u x) => some (execAdd sm d a b t u x s)
    | some (.sub sm d a b t u x) => some (execSub sm d a b t u x s)
    | some (.and sm d a b t u x) => some (execAnd sm d a b t u x s)
    | some (.or sm d a b t u x) => some (execOr sm d a b t u x s)
    | some (.xor sm d a b t u x) => some (execXor sm d a b t u x s)
    | some (.andn sm d a b t u x) => some (execAndn sm d a b t u x s)
    | some (.sll sm d a b t u x) => some (execSll sm d a b t u x s)
    | some (.srl sm d a b t u x) => some (execSrl sm d a b t u x s)
    | some (.sra sm d a b t u x) => some (execSra sm d a b t u x s)
    | some (.ror sm d a b t u x) => some (execRor sm d a b t u x s)
    | some (.slt sm d a b t u x) => some (execSlt sm d a b t u x s)
    | some (.sltu sm d a b t u x) => some (execSltu sm d a b t u x s)
    | some (.min sm d a b t u x) => some (execMin sm d a b t u x s)
    | some (.max sm d a b t u x) => some (execMax sm d a b t u x s)
    | some (.minu sm d a b t u x) => some (execMinu sm d a b t u x s)
    | some (.maxu sm d a b t u x) => some (execMaxu sm d a b t u x s)
    | some (.mul sm d a b t u x) => some (execMul sm d a b t u x s)
    | some (.mulh sm d a b t u) => some (execMulh sm d a b t u s)
    | some (.mulhu sm d a b t u) => some (execMulhu sm d a b t u s)
    | some (.div sm d a b t u x) => some (execDiv sm d a b t u x s)
    | some (.divu sm d a b t u x) => some (execDivu sm d a b t u x s)
    | some (.rem sm d a b t u x) => some (execRem sm d a b t u x s)
    | some (.remu sm d a b t u x) => some (execRemu sm d a b t u x s)
    | some (.adds sm d a b t u x) => some (execAdds sm d a b t u x s)
    | some (.subs sm d a b t u x) => some (execSubs sm d a b t u x s)
    | some (.clz sm d a t x) => some (execClz sm d a t x s)
    | some (.ctz sm d a t x) => some (execCtz sm d a t x s)
    | some (.popc sm d a t x) => some (execPopc sm d a t x s)
    | some (.chkb sm d a b t u) => some (execChkb sm d a b t u s)
    | some (.addi sm d a t i) => some (execAddi sm d a t i s)
    | some (.andi sm d a t i) => some (execAndi sm d a t i s)
    | some (.ori sm d a t i) => some (execOri sm d a t i s)
    | some (.xori sm d a t i) => some (execXori sm d a t i s)
    | some (.slti sm d a t i) => some (execSlti sm d a t i s)
    | some (.slli sm d a t w c) => some (execSlli sm d a t w c s)
    | some (.srli sm d a t w c) => some (execSrli sm d a t w c s)
    | some (.srai sm d a t w c) => some (execSrai sm d a t w c s)
    | some (.rori sm d a t w c) => some (execRori sm d a t w c s)
    | some (.sel sm d a b c t u v) => some (execSel sm d a b c t u v s)
    | some (.selN sm d a b c t u v) => some (execSelN sm d a b c t u v s)
    | some (.csrr sm l d c) => some (execCsrr sm l d c s)
    | some (.csrw sm l d a c) => some (execCsrw sm l d a c s)
    | some (.csrs sm l d a c) => some (execCsrs sm l d a c s)
    | some (.csrc sm l d a c) => some (execCsrc sm l d a c s)
    | some (.lui sm l d k) => some (execLui sm l d k s)
    | some (.luiSh sm l d k) => some (execLuiSh sm l d k s)
    | some (.beq sm l a b _) => some (execBeq sm l a b 2 s)
    | some (.bne sm l a b _) => some (execBne sm l a b 2 s)
    | some (.blt sm l a b _) => some (execBlt sm l a b 2 s)
    | some (.bge sm l a b _) => some (execBge sm l a b 2 s)
    | some (.bltu sm l a b _) => some (execBltu sm l a b 2 s)
    | some (.bgeu sm l a b _) => some (execBgeu sm l a b 2 s)
    | some (.bmskAny sm l k _) => some (execBmskAny sm l k 2 s)
    | some (.bmskNone sm l k _) => some (execBmskNone sm l k 2 s)
    | some (.bmskAll sm l k _) => some (execBmskAll sm l k 2 s)
    | some (.bmskNall sm l k _) => some (execBmskNall sm l k 2 s)
    | _ => none

/-- The M registers and CSRs that a word of those forms reads (R216, R217). -/
def foldReads (w : Nat) : List Nat × List Nat :=
  if isA w && fld w 24 6 == 0x13 then
    match fld w 0 3 with
    | 0 | 1 | 2 | 3 => ([fld w 14 5, fld w 9 5], [])
    | 6 => ([], [])
    | _ => ([fld w 14 5], [])
  else if isA w && fld w 24 6 == 0x1A then ([], [csrMGM, csrMGN, csrMGK, csrMGOM, csrMGON])
  else
    match lowInstr w with
    | some (.csrr _ _ _ c) => ([], [c.toNat])
    | some (.csrw _ _ d _ c) => ([], if d = 0 then [] else [c.toNat])
    | some (.csrs _ _ _ _ c) => ([], [c.toNat])
    | some (.csrc _ _ _ _ c) => ([], [c.toNat])
    | some (.bmskAny _ _ k _) => ([k.toNat], [])
    | some (.bmskNone _ _ k _) => ([k.toNat], [])
    | some (.bmskAll _ _ k _) => ([k.toNat], [])
    | some (.bmskNall _ _ k _) => ([k.toNat], [])
    | _ => ([], [])

/-- The static mark (R39). -/
def isStatic (w : Nat) : Bool := bitAt w 30

/-- The known bytes at an address of the launch window (R214), of `n` bytes and `n`-aligned. -/
def Image.windowBytes (im : Image) (a n : Nat) : Option (List Byte) :=
  if launchBase + 0x20 ≤ a ∧ a + n ≤ launchBase + 0x100 ∧ a % n = 0 then some ((im.hdr.drop (a - launchBase)).take n) else none

/-- The registers after a word of a form that may fold: every source known, no trap and no FFLAGS bit (R216 items 2, 3
and 5). -/
def Image.eval (im : Image) (k : Known) (w : Nat) : Option Regs :=
  if (shapeOf w).xReads.all (fun n => (im.xv k n).isSome) && (foldReads w).1.all (fun n => (k.mv n).isSome)
      && (foldReads w).2.all (fun a => (k.gv a).isSome) then
    match lowInstr w with
    | some (.ldg _ _ d a o z wt e) =>
      if wt ≠ 0 then none
      else
        let m : Nat := 2 ^ z.toNat
        let va := (im.xv k a.toNat).getD 0 + wordOf (sextInt 8 o.toNat * m)
        (im.windowBytes va.toNat m).map (fun bs => (k.scratch.ctx 0).regs.setX d.toNat (natW (loadBits m (!e) bs)))
    | _ =>
      match foldRun w k.scratch with
      | some (.next t) => if (t.ctx 0).status = .run ∧ (t.ctx 0).regs.csrAt csrFFLAGS = 0 then some (t.ctx 0).regs else none
      | _ => none
  else none

/-- A change of what is known: of an X register, an M register, or a geometry CSR; none makes it unknown. -/
inductive Upd where
  | x (n : Nat) (v : Option (Word × Bool))
  | m (n : Nat) (v : Option (BitVec 16))
  | g (a : Nat) (v : Option Word)
  deriving DecidableEq, Repr

def tabPut {α : Type} (k : Nat) (v : Option α) (t : Tab α) : Tab α :=
  match v with
  | some a => tabSet k a t
  | none => tabDel k t

def Image.apply (im : Image) (k : Known) : Upd → Known
  | .x n v => if n = 0 then k else { k with x := tabPut n (if im.qb ∧ 24 ≤ n then none else v) k.x }
  | .m n v => if n = 0 then k else { k with m := tabPut n v k.m }
  | .g a v => { k with g := tabPut a v k.g }

def Image.applyAll (im : Image) (k : Known) (us : List Upd) : Known := us.foldl im.apply k

/-- The geometry CSR that a CSRW, CSRS or CSRC writes (R217). -/
def geomWritten (w : Nat) : List Nat :=
  match lowInstr w with
  | some (.csrw _ _ _ _ c) => if isGeom c.toNat then [c.toNat] else []
  | some (.csrs _ _ _ a c) => if isGeom c.toNat ∧ a ≠ 0 then [c.toNat] else []
  | some (.csrc _ _ _ a c) => if isGeom c.toNat ∧ a ≠ 0 then [c.toNat] else []
  | _ => []

/-- The M registers that a word writes. -/
def Shape.mDests : Shape → List Nat
  | .word _ ds => ds.filterMap (fun d => if d.cls = 4 ∧ d.n ≠ 0 then some d.n else none)
  | _ => []
def Shape.writesM : Shape → Bool
  | .word _ ds => ds.any (fun d => d.cls == 4)
  | _ => false

/-- A form of R216's table whose result is an X register: ALU, immediates, selects, constants, CSRR of a geometry CSR, LDG
and MTOX. -/
def foldsToX (w : Nat) : Bool :=
  if isA w then (decide (fld w 24 6 ≤ 7) || (fld w 24 6 == 0x13 && fld w 0 3 == 7))
  else
    match lowInstr w with
    | some (.lui _ _ _ _) => true
    | some (.luiSh _ _ _ _) => true
    | some (.csrr _ _ _ c) => isGeom c.toNat
    | some (.ldg _ _ _ _ _ _ _ _) => true
    | _ => false

/-- What a kept word makes unknown (R216). -/
def unknowns (w : Nat) : List Upd :=
  (shapeOf w).xDests.map (fun n => .x n none) ++ (shapeOf w).mDests.map (fun n => .m n none) ++ (geomWritten w).map (fun a => .g a none)

/-- Whether a word that redirects nothing is kept, and what it changes (R216 to R218). `mode` is 0 where it may fold, 1
where it is kept for its place in a pair (R480), 2 where REP repeats it (`Image.repeated` says what the unit leaves). -/
def Image.effect (im : Image) (k : Known) (mode w : Nat) : Bool × List Upd :=
  let sh := shapeOf w
  let gs := geomWritten w
  if mode = 2 then (true, unknowns w)
  else if sh.writesM || gs != [] then
    match im.eval k w with
    | none => (true, unknowns w)
    | some r =>
      let same := sh.mDests.all (fun n => k.mv n == some (r.mAt n)) && gs.all (fun a => k.gv a == some (r.csrAt a))
        && sh.xDests.all (fun n => im.xv k n == some (r.xAt n))
      if mode = 0 && isStatic w && same then (false, [])
      else (true, sh.xDests.map (fun n => .x n (some (r.xAt n, true))) ++ sh.mDests.map (fun n => .m n (some (r.mAt n)))
        ++ gs.map (fun a => .g a (some (r.csrAt a))))
  else if mode = 0 && isStatic w && foldsToX w && !(im.qb && sh.xDests.any (fun n => decide (24 ≤ n))) then
    match im.eval k w with
    | none => (true, unknowns w)
    | some r => (false, sh.xDests.map (fun n => .x n (some (r.xAt n, false))))
  else (true, unknowns w)

/-- One iteration of the unit at `k`, which REP repeats: what its A word writes by R217; what its C word writes is unknown. -/
def Image.iterate (im : Image) (k : Nat) (kn : Known) : Known :=
  let pr := pairAt im.img k
  let us := (im.effect kn 1 (wordAt im.img (if pr then k + 1 else k))).2
  im.applyAll kn (if pr then us ++ unknowns (wordAt im.img k) else us)

/-- The M registers that the unit at `k` leaves known when REP repeats it (R217): with a known count, what that many
iterations write. From the second iteration on the X destinations of the C word are unknown, and each form of R217's table that
may stand there settles or alternates: every even count ends as the second iteration does, and every odd one from 3 on as the
third. With an unknown count, what every number of iterations writes alike. -/
def Image.repeated (im : Image) (kn : Known) (k : Nat) (count : Option Nat) : List Upd :=
  let k1 := im.iterate k kn
  let k2 := im.iterate k k1
  let k3 := im.iterate k k2
  let res := match count with
    | some c => if c = 1 then k1 else if c % 2 = 1 then k3 else k2
    | none => (k1.meet k2).meet k3
  let wa := wordAt im.img (if pairAt im.img k then k + 1 else k)
  (shapeOf wa).mDests.map (fun n => .m n (tabFind res.m n))

/-! Emission (R219, R221, R222, R229) -/

/-- A residual word before its offset is known: the word, the image index of its back-map entry, whether it is inserted, the
loops around it, and the image place that its offset names. -/
structure Emitted where
  word : Nat
  off : Nat
  ins : Bool := false
  path : WalkPath := []
  tgt : Option (WalkPath × Nat) := none
  deriving DecidableEq, Repr

/-- What waits for the next residual word: the JAL of a taken branch, or an image place that is reached after one. -/
inductive Awaited where
  | jal (e : Emitted)
  | label (p : WalkPath × Nat)
  deriving DecidableEq, Repr

/-- What is left of the waiting items when a residual word follows: a JAL is omitted where its target's residual word follows at
once (R218). -/
def heldLeft : List Awaited → List Awaited
  | [] => []
  | .label p :: t => .label p :: heldLeft t
  | .jal e :: t =>
    let t1 := heldLeft t
    let next := t1.takeWhile (fun (h : Awaited) => match h with
      | .label _ => true
      | .jal _ => false)
    if next.any (fun (h : Awaited) => match h with
        | .label p => e.tgt == some p
        | .jal _ => false) then t1 else .jal e :: t1

/-- The unit that REP repeats: the count, if it is known and in range, and whether it may be 0. -/
structure Repeats where
  count : Option Nat
  mayBe0 : Bool
  deriving DecidableEq, Repr

/-- The walk under way: the words emitted, last first, and their number; the residual places of image places; the edges into
joins; the joins found to be reached from at or above them; the starts and ends of kept loops; what is known where control
falls through, if it does; the JALs of taken branches not yet emitted with the places reached after them; whether REP repeats
the next unit. -/
structure Walk where
  out : List Emitted := []
  n : Nat := 0
  labels : List ((WalkPath × Nat) × Nat) := []
  edges : List ((WalkPath × Nat) × Known) := []
  back : List (WalkPath × Nat) := []
  kept : List (WalkPath × Nat) := []
  cur : Option Known := none
  held : List Awaited := []
  rep : Option Repeats := none
  deriving DecidableEq, Repr

/-- Why a walk stops: the limit is passed (code 0), or a reason of R223; with the joins found so far. -/
structure Stop where
  code : Nat
  back : List (WalkPath × Nat)
  deriving DecidableEq, Repr

abbrev WalkM := Except Stop

def Walk.put (w : Walk) (im : Image) (e : Emitted) : WalkM Walk :=
  if im.limit ≤ w.n then .error { code := 0, back := w.back } else .ok { w with out := e :: w.out, n := w.n + 1 }

/-- The waiting items settled, since a residual word follows (R218). -/
def Walk.flush (w : Walk) (im : Image) : WalkM Walk :=
  (heldLeft w.held).foldlM (fun (z : Walk) (h : Awaited) => match h with
    | .jal e => z.put im e
    | .label p => .ok { z with labels := (p, z.n) :: z.labels }) { w with held := [] }

/-- Image place `p` stands where the next residual word will. -/
def Walk.mark (w : Walk) (p : WalkPath × Nat) : Walk :=
  if w.held = [] then { w with labels := (p, w.n) :: w.labels } else { w with held := w.held ++ [.label p] }

def Walk.emit (w : Walk) (im : Image) (e : Emitted) : WalkM Walk := do
  let w1 ← w.flush im
  w1.put im e

/-- `ADDI xr, xi, imm`, `LUI xr, k` and `LUI.SH xr, k` (R103, R106). -/
def addiWord (r i : Nat) (imm : Int) : Nat := 0x81000000 + 2 ^ 19 * r + 2 ^ 14 * i + (imm % 8192).toNat
def luiWord (sh : Bool) (r k : Nat) : Nat := 0x32000000 + 2 ^ 18 * r + 2 ^ 16 * b2n sh + k

/-- The fewest 16-bit chunks whose sign extension gives the value. -/
def chunks (v : Word) : Nat := (((upFrom 1 3).filter (fun n => sextW (16 * n) v.toNat == v)).head?).getD 4

/-- The words that make value `v` present in X r (R219). -/
def Image.makeWords (im : Image) (r : Nat) (v : Word) : List Nat :=
  let i := im.inv.headD 0
  let d := (v - im.arg i).toInt
  if -4096 ≤ v.toInt ∧ v.toInt ≤ 4095 then [addiWord r 0 v.toInt]
  else if im.inv ≠ [] ∧ -4096 ≤ d ∧ d ≤ 4095 then [addiWord r i d]
  else
    let n := chunks v
    (upFrom 0 n).map (fun j => luiWord (j != 0) r (fld v.toNat (16 * (n - 1 - j)) 16))

/-- The registers among `rs` that are known and absent, in ascending order, made present before image word `off` (R219). -/
def Walk.present (im : Image) (path : WalkPath) (off : Nat) (rs : List Nat) (k : Known) (w : Walk) : WalkM (Known × Walk) :=
  rs.foldlM (fun (q : Known × Walk) r =>
    match tabFind q.1.x r with
    | some (v, false) => do
      let w1 ← (im.makeWords r v).foldlM (fun (y : Walk) a => y.emit im { word := a, off := off, ins := true, path := path }) q.2
      .ok ({ q.1 with x := tabSet r (v, true) q.1.x }, w1)
    | _ => .ok q) (k, w)

/-- Every absent known register made present. -/
def Walk.presentAll (im : Image) (path : WalkPath) (off : Nat) (k : Known) (w : Walk) : WalkM (Known × Walk) :=
  w.present im path off (upFrom 1 31) k

/-- A padding NOP before image word `off` where the next word would not stand at `par` modulo 2 (R222, R480). -/
def Walk.pad (im : Image) (path : WalkPath) (off par : Nat) (w : Walk) : WalkM Walk := do
  let w1 ← w.flush im
  if w1.n % 2 = par then .ok w1 else w1.emit im { word := 0x20000001, off := off, ins := true, path := path }

/-- An edge into image place `t` from the word at `k`: one from at or above its target leaves only the invariant registers known
there (R219). A target outside the image is none. -/
def Walk.edge (im : Image) (path : WalkPath) (k : Nat) (t : Int) (kn : Known) (w : Walk) : Walk :=
  if t < 0 ∨ im.img.length ≤ t.toNat then w
  else if t.toNat ≤ k then { w with back := if w.back.contains (path, t.toNat) then w.back else w.back ++ [(path, t.toNat)] }
  else { w with edges := ((path, t.toNat), kn) :: w.edges }

def Walk.edgesAt (w : Walk) (p : WalkPath × Nat) : List Known := (w.edges.filter (fun e => e.1 == p)).map (·.2)

/-- Control arrives at image place `k` (R219): at a join what is known is the meet of its edges, and only the invariant
registers where an edge comes from at or above it (`loops`), at the start and end of a kept loop, and after a linking JAL. -/
def Walk.arrive (im : Image) (loops : List (WalkPath × Nat)) (path : WalkPath) (k : Nat) (w : Walk) : WalkM Walk :=
  let p := (path, k)
  let low := loops.contains p || w.kept.contains p || im.rets.contains k
  if !low && !(im.joins.contains k) then .ok w
  else do
    let w1 ← match w.cur with
      | some kn => do
        let (k1, y) ← w.presentAll im path k kn
        .ok { y with cur := some k1 }
      | none => .ok w
    match (if loops.contains p then some im.invKnown else meetAll (w1.cur.toList ++ w1.edgesAt p)) with
    | none => .ok w1
    | some st => .ok { w1.mark p with cur := some (if low then im.invKnown else st) }

/-! Units (R40, R218, R222, R480) -/

/-- How the first word of a unit passes control (R219). -/
inductive Flow where
  | plain
  | stop
  | jalr
  | jal (link : Bool) (t : Int)
  | branch (t : Int)
  | cbr (t : Int)
  | loop (num : Bool) (count : Nat) (stop : Int)
  | rep (count : Nat) (imm : Int)
  deriving DecidableEq, Repr

/-- The flow of the word at image place `k`. -/
def wordFlow (k w : Nat) : Flow :=
  let t (o : BitVec 12) : Int := k + sextInt 12 o.toNat
  match lowInstr w with
  | some (.halt _ _) => .stop
  | some (.hret _ _) => .stop
  | some (.jalr _ _ _ _ _ _) => .jalr
  | some (.jal _ _ d o) => .jal (d != 0) (k + sextInt 18 o.toNat)
  | some (.beq _ _ _ _ o) => .branch (t o)
  | some (.bne _ _ _ _ o) => .branch (t o)
  | some (.blt _ _ _ _ o) => .branch (t o)
  | some (.bge _ _ _ _ o) => .branch (t o)
  | some (.bltu _ _ _ _ o) => .branch (t o)
  | some (.bgeu _ _ _ _ o) => .branch (t o)
  | some (.bmskAny _ _ _ o) => .branch (t o)
  | some (.bmskNone _ _ _ o) => .branch (t o)
  | some (.bmskAll _ _ _ o) => .branch (t o)
  | some (.bmskNall _ _ _ o) => .branch (t o)
  | some (.cbrAny _ _ _ _ o) => .cbr (t o)
  | some (.cbrAll _ _ _ _ o) => .cbr (t o)
  | some (.cbrMaj _ _ _ _ o) => .cbr (t o)
  | some (.loop _ _ n a _ i) => .loop n a.toNat (t i)
  | some (.rep _ _ a _ i) => .rep a.toNat (sextInt 12 i.toNat)
  | _ => .plain

/-- A flow that is a redirect (R219). -/
def Flow.redirects : Flow → Bool
  | .jalr => true
  | .jal _ _ => true
  | .branch _ => true
  | .cbr _ => true
  | .loop _ _ _ => true
  | _ => false

/-- The image place that the offset of a kept word names. -/
def Flow.target (p : WalkPath) : Flow → Option (WalkPath × Nat)
  | .jal _ t => if t < 0 then some (p, 65536) else some (p, t.toNat)
  | .branch t => if t < 0 then some (p, 65536) else some (p, t.toNat)
  | .cbr t => if t < 0 then some (p, 65536) else some (p, t.toNat)
  | .loop _ _ e => if e < 0 then some (p, 65536) else some (p, e.toNat)
  | _ => none

/-- What a resolved branch does: taken, or not (R218); none where it is kept. -/
def Image.resolve (im : Image) (k : Known) (at_ mode w : Nat) : Option Bool :=
  match wordFlow at_ w with
  | .branch t =>
    if mode = 0 && isStatic w && decide ((at_ : Int) < t) then (im.eval k w).map (fun r => r.pc == 0x10008) else none
  | _ => none

/-- A handler-only instruction, or a CSR access that only a handler may make (R30, R405): in task code it traps PRIV. -/
def privileged (w : Nat) : Bool :=
  match lowInstr w with
  | some (.csrr _ _ _ c) => csrTrap false c.toNat none == some cPRIV
  | some (.csrw _ _ _ _ c) => csrTrap false c.toNat (some 0) == some cPRIV
  | some (.csrs _ _ _ a c) => csrTrap false c.toNat (if a = 0 then none else some 0) == some cPRIV
  | some (.csrc _ _ _ a c) => csrTrap false c.toNat (if a = 0 then none else some 0) == some cPRIV
  | some i => Instr.handlerOnly i
  | none => false

/-- The unit at `k` would trap by R45 rows 2 to 7 in task mode (R56). -/
def trapsAt (img : List Nat) (k : Nat) : Bool :=
  match shapeOf (wordAt img k) with
  | .word _ ds =>
    privileged (wordAt img k) || pairAt img k && (match shapeOf (wordAt img (k + 1)) with
      | .word _ es => sameDest ds es
      | _ => true)
  | _ => true

/-- The registers that the unit at `k` reads, and its X destinations. Of a unit that does not decode, a handler that skips
the C word of a pair reaches the A word. -/
def unitReads (img : List Nat) (k : Nat) : List Nat :=
  let late := if pairAt img k then (shapeOf (wordAt img (k + 1))).xReads else []
  if (trapsAt img k && !(privileged (wordAt img k))) || badPairAt img k then late else (shapeOf (wordAt img k)).xReads ++ late
def unitDests (img : List Nat) (k : Nat) : List Nat :=
  (shapeOf (wordAt img k)).xDests ++ (if pairAt img k then (shapeOf (wordAt img (k + 1))).xDests else [])

/-- The word of a kept C word emitted lone (R222). -/
def aloneWord (w : Nat) : Nat := if isA w || isLone w then w else w + 0x20000000

/-- The A word of the pair at `k` is the target of a branch, CBR, JAL or kept loop (R480). -/
def Walk.enteredAt (im : Image) (loops : List (WalkPath × Nat)) (path : WalkPath) (k : Nat) (w : Walk) : Bool :=
  im.joins.contains k || w.kept.contains (path, k) || loops.contains (path, k)

/-- The registers to make present before a kept REP for the unit that it repeats (R480): those that the unit reads; those
that it writes where the count may be 0; all of them where the unit redirects or is a join. -/
def Walk.forRepeated (im : Image) (loops : List (WalkPath × Nat)) (path : WalkPath) (u : Nat) (mayBe0 : Bool) (w : Walk) : List Nat :=
  if im.joins.contains u || im.rets.contains u || loops.contains (path, u) || w.kept.contains (path, u)
      || (!(trapsAt im.img u) && !(badPairAt im.img u) && (wordFlow u (wordAt im.img u)).redirects) || (pairAt im.img u && w.enteredAt im loops path (u + 1)) then upFrom 1 31
  else (upFrom 1 31).filter (fun r => (unitReads im.img u).contains r || (mayBe0 && (unitDests im.img u).contains r))

/-- What REP sets up (R113). -/
def Image.repeats (im : Image) (k : Known) (a : Nat) (imm : Int) : Repeats :=
  match (im.xv k a).map (fun v => v.toInt + imm) with
  | some c => { count := if 0 ≤ c ∧ c ≤ 65535 then some c.toNat else none, mayBe0 := c == 0 }
  | none => { count := none, mayBe0 := true }

/-- The state in which the unit at `k` is entered (R480): where other edges enter its A word, every absent known register is made
present, as before a join, and the state is the meet of the edge through the pair and those edges. -/
def Walk.entry (im : Image) (loops : List (WalkPath × Nat)) (path : WalkPath) (k : Nat) (kn : Known) (w : Walk) : WalkM (Known × Walk) :=
  if pairAt im.img k && w.enteredAt im loops path (k + 1) then do
    let (k1, y) ← w.presentAll im path k kn
    .ok (if loops.contains (path, k + 1) || y.kept.contains (path, k + 1) then im.invKnown
         else (y.edgesAt (path, k + 1)).foldl Known.meet k1, y)
  else .ok (kn, w)

/-- What the A word of the pair at `k` leaves where it executes alone, entered in a state (R480). -/
def Image.afterA (im : Image) (k : Nat) (st : Known) : Known := im.applyAll st (im.effect st 1 (wordAt im.img (k + 1))).2

/-- An edge that is walked enters the A word of the unit at `k` (R219, R480). -/
def Walk.reachesA (im : Image) (loops : List (WalkPath × Nat)) (path : WalkPath) (k : Nat) (w : Walk) : Bool :=
  pairAt im.img k && (loops.contains (path, k + 1) || w.kept.contains (path, k + 1) || w.edgesAt (path, k + 1) != [])

/-- The words of a unit that traps at its decoding, emitted as they stand in the image (R56, R480). A pairing violation
stands at 4 mod 8; after a REP that is emitted with its A word it stands at 0 mod 8 before a C word, since nothing comes
between the two, and violates R40 there in the same way (DEDUCED). -/
def Walk.unchanged (im : Image) (loops : List (WalkPath × Nat)) (path : WalkPath) (k : Nat) (kn : Known) (repeated : Bool) (w : Walk) :
    WalkM Walk := do
  let pr := pairAt im.img k
  let bad := badPairAt im.img k
  let entered : Bool := pr && w.enteredAt im loops path (k + 1)
  let (st, w0) ← w.entry im loops path k kn
  let (k1, w1) ← w0.present im path k ((upFrom 1 31).filter (fun r => entered || (unitReads im.img k).contains r)) st
  let w2 ← (if pr then w1.pad im path k 0 else if bad && !repeated then w1.pad im path k 1 else .ok w1)
  let w3 ← w2.emit im { word := wordAt im.img k, off := k, path := path }
  let w4 ← (if pr then (w3.mark (path, k + 1)).emit im { word := wordAt im.img (k + 1), off := k + 1, path := path }
    else if bad && w3.n % 2 == 1 then w3.emit im { word := 0x20000001, off := k, ins := true, path := path } else .ok w3)
  let us := unknowns (wordAt im.img k) ++ (if pr then unknowns (wordAt im.img (k + 1)) else [])
  let k2 := im.applyAll k1 us
  let late := if w4.reachesA im loops path k then some (im.afterA k st) else none
  .ok { w4 with cur := match wordFlow k (wordAt im.img k) with
    | .stop => late
    | _ => if bad then none else some (if entered then k2.meet (im.afterA k st) else k2) }

/-- How the words of the unit at `k` are treated: the first word is kept, what it changes; the A word, if there is one, is
kept, what it changes (R41, R216 to R222, R480). `unroll` says that the first word is a LOOP that is unrolled. -/
def Image.plan (im : Image) (kn : Known) (k mode : Nat) (entered unroll : Bool) : Bool × List Upd × Bool × List Upd :=
  let wc := wordAt im.img k
  let wa := wordAt im.img (k + 1)
  let pr := pairAt im.img k
  let fl := wordFlow k wc
  let special : Bool := fl.redirects || (match fl with
    | .rep _ _ => true
    | _ => false)
  let gone : Bool := unroll || (match im.resolve kn k mode wc with
    | some b => !(b && entered)
    | none => false)
  let (ka0, ua0) := if pr then im.effect kn (if mode = 0 ∧ entered then 1 else mode) wa else (false, [])
  let clash : Bool := special && !gone && !ka0 && (shapeOf wa).xDests.any (fun n => (shapeOf wc).xReads.contains n)
  let (ka, ua) := if pr && clash then im.effect kn 1 wa else (ka0, ua0)
  let (kc0, uc0) := if special then (!gone, if gone then [] else unknowns wc) else im.effect kn mode wc
  let (kc, uc) :=
    if pr && entered && !kc0 && (shapeOf wc).xDests.any (fun n => (shapeOf wa).xReads.contains n) then im.effect kn 1 wc else (kc0, uc0)
  (kc, uc, ka, ua)

/-- The unit at `k` emitted, up to where its own words end: the state in which its edges leave, and the walk (R219, R222,
R480). A taken branch whose pair's A word other edges enter becomes a JAL in that pair, which is emitted as one (R218, R480). -/
def Walk.words (im : Image) (loops : List (WalkPath × Nat)) (path : WalkPath) (k mode : Nat) (unroll : Bool) (kn : Known) (w : Walk) :
    WalkM (Known × Walk) := do
  let wc := wordAt im.img k
  let wa := wordAt im.img (k + 1)
  let pr := pairAt im.img k
  let fl := wordFlow k wc
  let entered : Bool := pr && w.enteredAt im loops path (k + 1)
  let (kc, uc, ka, ua) := im.plan kn k mode entered unroll
  let (more, w0, rep) := match fl with
    | .rep a imm =>
      let z := im.repeats kn a imm
      (w.forRepeated im loops path (unitEnd im.img k) z.mayBe0, w, some z)
    | _ => ([], w, none)
  let all : Bool := (kc && fl.redirects) || entered
  let wj := if im.resolve kn k mode wc == some true then 0x03000000 else wc
  let want := fun (rs : List Nat) => if all then upFrom 1 31 else (upFrom 1 31).filter (fun r => rs.contains r || more.contains r)
  if kc && ka then
    let (k1, w1) ← w0.present im path k (want (unitReads im.img k)) kn
    let w2 ← w1.pad im path k 0
    let w3 ← w2.emit im { word := wj, off := k, path := path, tgt := fl.target path }
    let w4 ← (if entered then w3.mark (path, k + 1) else w3).emit im { word := wa, off := k + 1, path := path }
    .ok (im.applyAll (im.applyAll k1 ua) uc, { w4 with rep := rep })
  else if kc then
    let early : Bool := all || rep.isSome
    let k0 := if early then im.applyAll kn ua else kn
    let (k1, w1) ← w0.present im path k (want (shapeOf wc).xReads) k0
    let w2 ← (match rep with
      | some _ =>
        let u := unitEnd im.img k
        if pairAt im.img u then w1.pad im path k 1 else if badPairAt im.img u then w1.pad im path k 0 else .ok w1
      | none => .ok w1)
    let w3 ← w2.emit im { word := aloneWord wc, off := k, path := path, tgt := fl.target path }
    .ok (im.applyAll (if early then k1 else im.applyAll k1 ua) uc, { w3 with rep := rep })
  else if ka then
    let k0 := if entered then im.applyAll kn uc else kn
    let (k1, w1) ← w0.present im path (k + 1) (want (shapeOf wa).xReads) k0
    let w2 ← w1.flush im
    let w3 ← (if entered then w2.mark (path, k + 1) else w2).emit im { word := wa, off := k + 1, path := path }
    .ok (im.applyAll (if entered then k1 else im.applyAll k1 uc) ua, w3)
  else .ok (im.applyAll (im.applyAll kn ua) uc, w0)

/-- The unit at `k` walked, its edges recorded (R218, R219). The unit after a REP that is dead is walked as after any other
unit (R216; DESIGN CHOICE, log entry 98). -/
def Walk.unit (im : Image) (loops : List (WalkPath × Nat)) (path : WalkPath) (k : Nat) (kn0 : Known) (w0 : Walk) : WalkM Walk := do
  let rep := w0.rep
  let mode := if rep.isSome then 2 else 0
  let (kn, w) ← { w0 with rep := none }.entry im loops path k kn0
  let wc := wordAt im.img k
  let nx := unitEnd im.img k
  let pr := pairAt im.img k
  let w1 ←
    if badPairAt im.img k || trapsAt im.img k then w.unchanged im loops path k kn rep.isSome
    else do
      let entered : Bool := pr && w.enteredAt im loops path (k + 1)
      let taken := im.resolve kn k mode wc
      let (k0, y0) ← w.words im loops path k mode false kn
      let k2 := match rep with
        | some r => im.applyAll k0 (im.repeated kn k r.count)
        | none => k0
      let (k1, y) ← (if taken = some true then y0.presentAll im path k k2 else .ok (k2, y0))
      let fl := wordFlow k wc
      let y1 := match fl with
        | .jal _ t => y.edge im path k t k1
        | .cbr t => y.edge im path k t k1
        | .branch t => if taken = some false then y else y.edge im path k t k1
        | .loop _ _ e =>
          let z := { y with kept := (path, nx) :: (path, e.toNat) :: y.kept }
          if e ≤ nx ∨ im.img.length ≤ e.toNat then z.edge im path nx e k1 else { z with edges := ((path, e.toNat), im.invKnown) :: z.edges }
        | _ => y
      let on := if entered then k1.meet (im.afterA k kn) else k1
      let late := if y1.reachesA im loops path k then some (im.afterA k kn) else none
      .ok (match fl with
      | .stop => { y1 with cur := late }
      | .jalr => { y1 with cur := late }
      | .jal link _ => { y1 with cur := late, edges := if link then ((path, nx), im.invKnown) :: y1.edges else y1.edges }
      | .branch t =>
        if taken = some true then
          let e : Emitted := { word := 0x23000000, off := k, path := path, tgt := (Flow.branch t).target path }
          if entered then { y1 with cur := late } else { y1 with cur := none, held := y1.held ++ [.jal e] }
        else { y1 with cur := some on }
      | _ => { y1 with cur := some on })
  .ok (match rep with
    | some r =>
      if r.mayBe0 then
        let skip := im.applyAll kn (unknowns wc ++ (if pr then unknowns (wordAt im.img (k + 1)) else []))
        { w1 with cur := some (match w1.cur with
          | some c => c.meet skip
          | none => skip) }
      else w1
    | none => w1)

/-! Unrolling (R220, R221) and the walk -/

/-- The count with which the LOOP at `k` is unrolled, with its number, its body's start and end: it is static, its count is
known and at most 64, and its body is closed (R220). With a count above 0, a body whose last unit is a REP, which traps there
(R113), or whose end parts a pair, where no count is taken (R112), is not unrolled: its copies would not do what the original
does (R224; DEDUCED, log entry 20). -/
def Image.unrolls (im : Image) (kn : Known) (k hi : Nat) : Option (Bool × Nat × Nat × Nat) :=
  let w := wordAt im.img k
  if !(isStatic w) || trapsAt im.img k || badPairAt im.img k then none
  else
    match wordFlow k w with
    | .loop num a e =>
      let s := unitEnd im.img k
      let inside := fun (t : Int) => decide ((s : Int) ≤ t ∧ t < e)
      let closed := fun (never : Bool) => (upFrom 0 im.img.length).all (fun q =>
        let wq := wordAt im.img q
        let c : Bool := !(isA wq)
        let endOf : Int := q + sextInt 12 (fld wq 0 12)
        let tgt : Option Int := (offsetOf wq).map (fun (o : Int) => (q : Int) + o)
        if s ≤ q ∧ (q : Int) < e then
          tgt.all inside
            && !(c && fld wq 23 6 == 7)
            && !(c && fld wq 23 6 == 8 && (bitAt wq 18 == num || decide (endOf < s ∨ e < endOf)))
            && (never || !(c && fld wq 23 6 == 9 && decide ((unitEnd im.img q : Int) = e)))
            && (never || !(pairAt im.img q && decide ((q : Int) + 1 = e)))
        else !(tgt.any inside))
      match im.xv kn a with
      | some v => if v.toNat ≤ 64 ∧ (s : Int) < e ∧ e.toNat ≤ hi ∧ closed (v == 0) then some (num, v.toNat, s, e.toNat) else none
      | none => none
    | _ => none

/-- An iteration of an unrolled body ends: where an inner kept loop ends with it, or a linking JAL returns there, the end
is a join (R219, R220). -/
def Walk.endBody (im : Image) (path : WalkPath) (e : Nat) (w : Walk) : WalkM Walk :=
  if w.edgesAt (path, e) = [] then .ok w
  else do
    let w1 ← match w.cur with
      | some kn => do
        let (_, y) ← w.presentAll im path e kn
        .ok y
      | none => .ok w
    .ok { w1.mark (path, e) with cur := some im.invKnown }

/-- The words from `k` to `hi` walked in address order (R219). Edges that enter the A word of a LOOP's pair run its body once and
leave LC as it is: such a LOOP is unrolled only where its count is 1, with its CSRW before the A word (R220, R224, R480; DEDUCED,
log entry 20). -/
def Walk.run (im : Image) (loops : List (WalkPath × Nat)) : Nat → WalkPath → Nat → Nat → Walk → WalkM Walk
  | 0, _, _, _, w => .error { code := 1, back := w.back }
  | f + 1, path, k, hi, w =>
    if hi ≤ k then .ok w
    else do
      let w1 ← w.arrive im loops path k
      match w1.cur with
      | none => Walk.run im loops f path (k + 1) hi w1
      | some kn =>
        let keep := (do
          let w2 ← w1.unit im loops path k kn
          Walk.run im loops f path (unitEnd im.img k) hi w2 : WalkM Walk)
        let entered := pairAt im.img k && w1.enteredAt im loops path (k + 1)
        match (if w1.rep.isSome then none else (im.unrolls kn k hi).filter (fun u => !entered || u.2.1 == 1)) with
        | none => keep
        | some (num, c, s, e) =>
          let body := (do
            let csrw : Emitted := { word := if num then 0x20800833 else 0x20800830, off := k, path := path }
            let (st, w2) ← w1.entry im loops path k kn
            let w3 ← (if entered then w2.emit im csrw else .ok w2)
            let (k1, y) ← w3.words im loops path k 0 true st
            let y1 ← (if entered then .ok y else y.emit im csrw)
            let y2 := { y1 with cur := some (if entered then k1.meet (im.afterA k st) else k1) }
            (upFrom 0 c).foldlM (fun (z : Walk) i => do
              let z1 ← Walk.run im loops f (path ++ [(k, num, i)]) s e z
              z1.endBody im (path ++ [(k, num, i)]) e) y2 : WalkM Walk)
          match body with
          | .ok z => Walk.run im loops f path e hi z
          | .error r => if r.code = 0 ∧ path = [] then keep else .error r

/-- The whole image walked once: an image whose walk falls through its end has no residual (R223). -/
def Image.walk (im : Image) (loops : List (WalkPath × Nat)) : WalkM Walk := do
  let w ← Walk.run im loops (3 * im.img.length + 8) [] 0 im.img.length { cur := some im.start }
  let w1 ← w.flush im
  if w1.cur.isSome ∨ w1.edgesAt ([], im.img.length) ≠ [] then .error { code := 3, back := w1.back } else .ok w1

/-- The walk repeated until every join that is reached from at or above it is taken as such (R219). -/
def Image.settle (im : Image) : Nat → List (WalkPath × Nat) → WalkM Walk
  | 0, loops => im.walk loops
  | f + 1, loops =>
    let r := im.walk loops
    let back := match r with
      | .ok w => w.back
      | .error e => e.back
    let more := back.filter (fun p => !(loops.contains p))
    if more = [] then r else im.settle f (loops ++ more)

/-! The residual (R222, R223, R229) -/

/-- The back-map entry of a word (R229). -/
def backOf (e : Emitted) : Nat :=
  let part := fun (num : Bool) (u it : Nat) =>
    match e.path.find? (fun p => p.2.1 == num) with
    | some p => 2 ^ u + 2 ^ it * p.2.2
    | none => 0
  2 ^ 19 * e.off + 2 ^ 18 * b2n e.ins + part true 17 11 + part false 10 4

/-- A word with its offset for residual place `at_`; none where its target has no residual or the offset does not fit its field
(R223, reason 2). -/
def fixWord (labels : List ((WalkPath × Nat) × Nat)) (at_ : Nat) (e : Emitted) : Option Nat :=
  match e.tgt with
  | none => some e.word
  | some p =>
    match labels.find? (fun l => l.1 == p) with
    | none => none
    | some l =>
      let n := if fld e.word 23 6 = 6 then 18 else 12
      let o : Int := (l.2 : Int) - at_
      if sextInt n (o % (2 ^ n : Nat)).toNat = o then some (e.word - fld e.word 0 n + (o % (2 ^ n : Nat)).toNat) else none

/-- The residual of an image under a header: words and back map, or the reason of R223. -/
def infuse (img : List Nat) (hdr : List Byte) : Except Nat (List Nat × List Nat) :=
  let im := Image.of img hdr
  match im.settle (64 * im.img.length + 64) [] with
  | .error e => .error (if e.code = 0 then 1 else e.code)
  | .ok w =>
    let es := w.out.reverse
    match (es.zip (upFrom 0 es.length)).mapM (fun p => fixWord w.labels p.2 p.1) with
    | none => .error 2
    | some ws => .ok (ws, es.map backOf)

end Sys2Proof.Machine
end

