-- ==== Sys2Proof/Machine/EvInfuser.lean ====
section
/-! DEFINITION. The completion of an infusion (R199, R213, R223, R226 to R228). -/

namespace Sys2Proof.Machine

/-- The key of a launch's residual (R226). -/
def State.residualKey (s : State) (l : Launch) : BitVec 128 :=
  BitVec.ofNat 128 (ofBytes (shake256 ((l.hdr.drop 0x20).take 0xE0 ++ bytesOf 8 s.icfg) 16))

/-- A die's entry of a key and function, used now (R227). -/
def State.cacheHit (s : State) (d vf : Nat) (key : BitVec 128) : Option State :=
  let es := (s.die d).cache
  if es.any (fun r => r.key == key && r.vf == vf) then
    some (s.setDie d { s.die d with cache := es.map (fun r => if r.key == key && r.vf == vf then { r with used := s.tick } else r) })
  else none

/-- The launch's tasks may start on the die in residual code (R199). -/
def State.infused (s : State) (num : Nat) (l : Launch) (d : Nat) (key : BitVec 128) : State :=
  s.setLaunch num { l with residual := some key, ready := if l.ready.contains d then l.ready else l.ready ++ [d], infusing := l.infusing.filter (· != d) }

/-- Infusion is abandoned: the launch runs from KADDR, and its tenant is told the reason (R223, R404). With reason 4 on one die, after
tasks have run infused on another, every later task of the launch runs un-infused on every die (DESIGN CHOICE, log entry 98), but a later
copy of a DUAL task whose first copy ran infused (R234). -/
def State.abandon (s : State) (num : Nat) (l : Launch) (reason : Option Nat) : State :=
  let s1 := s.setLaunch num { l with plain := true, infusing := [] }
  match (if l.plain then none else reason) with
  | some k => s1.postEvent l.vf 1 [natW (3 + 256 * k), lidOf l.vf num]
  | none => s1

/-- The words of a kernel image. -/
def imageWords (klen : Nat) (bs : List Byte) : List Nat := (upFrom 0 (2 * klen)).map (fun k => ofBytes ((bs.drop (4 * k)).take 4))

/-- INFUSION_COMPLETE (R199, R213, R223, R226). -/
def execInfusionComplete (die launch : Nat) (s : State) : Out :=
  match tabFind s.launches launch with
  | none => .next s
  | some l =>
    if !(l.infusing.contains die) || (l.plain && !l.awaitsResidual) || isFinal l.status then .next s
    else
      let key := s.residualKey l
      match s.cacheHit die l.vf key with
      | some s1 => .next (s1.infused launch l die key)
      | none =>
        match infuse (imageWords l.klen l.image) l.hdr with
        | .error k => .next (s.abandon launch l (some k))
        | .ok (ws, back) =>
          match s.cachePut die { key := key, vf := l.vf, words := ws, back := back, used := s.tick } with
          | some s1 => .next (s1.infused launch l die key)
          | none => .next (s.abandon launch l (some 4))

end Sys2Proof.Machine
end

