-- ==== Sys2Proof/Machine/EvMgmt.lean ====
section
/-! DEFINITION. Start, firmware, management, power and heat (R443, R456, R457, R468 to R476). -/

namespace Sys2Proof.Machine

/-! Start (R443, R468 to R470) -/

/-- A firmware image that the boot ROM accepts: its digest signed by Folnov, at or above the floor (R470). -/
def State.firmwareOk (s : State) (f : Firmware) : Bool :=
  decide (f.which < 3) && decide (f.version < 2 ^ 32) && decide (tabGet 0 s.sencha.floors f.which ≤ f.version)
    && Config.verify Config.folnovKey (wideBytes f.digest) f.sig

/-- The images that run from a reset on: a staged one that is still accepted, which raises its floor, or the one that ran
before (R470). -/
def Sencha.boot (s : State) : Sencha :=
  s.sencha.staged.foldl (fun (r : Sencha) f =>
    if s.firmwareOk f.2 then { r with running := tabSet f.1 f.2 r.running, floors := tabSet f.1 f.2.version r.floors } else r)
    { s.sencha with staged := [] }

/-- Of each image the boot ROM accepts the staged one or the one in the other bank (R469, R470). -/
def State.imagesOk (s : State) : Bool :=
  (upFrom 0 3).all (fun k => (tabFind s.sencha.staged k).any s.firmwareOk || s.firmwareOk (s.image k))

/-- The device after a reset, before stage 0: everything at its reset value but the package number, what is installed, the
Sencha's store, and memory (log entry 16). -/
def State.deviceReset (s : State) : State :=
  let m := s.mgmt
  { ({} : State) with
    freeIx := s.freeIx
    agenda := s.agenda
    mem := s.mem
    memPoison := s.memPoison
    hostOut := s.hostOut
    sencha := s.sencha
    mgmt := { ({} : Mgmt) with
      domain := natW (3932160 + 512 * s.self)
      reports := m.reports
      temps := m.temps
      watts := m.watts
      served := m.served
      rails := m.rails } }

/-- Stage 0 (R468): firmware is verified, TSTAMP starts at 0, counters resume (R427), and a rail fault is reported (R476). It
does not end where an image is not accepted, or where the Sencha or the lead Kettle fails, which is a free choice (R469; log entry
4). -/
def State.stage0 (s : State) (orderly : Bool) : State :=
  let (broken, s1) := s.deviceReset.freeBit
  let up := !broken && s1.imagesOk
  let k := Sencha.boot s1
  { s1 with
    sencha := if orderly then k else { k with regions := k.regions.map (fun r => (r.1, r.2.restart)) }
    mgmt := { s1.mgmt with
      powered := true
      stage := if up then some 0 else none
      windows := if up then Config.hostWindows else []
      rails := []
      reports := s1.mgmt.reports ++ s1.mgmt.rails.map (fun r => 0x81 :: bytesOf 1 r) } }

/-- The cycle by which a stage ends (R468). -/
def stageLimit (n : Nat) : Nat := if n = 0 then 300000000 else if n = 1 then 9000000000 else 24000000000

/-- The far-memory decoders programmed with what the expanders hold, up to 2 TiB in all (R457; log entry 67). -/
def Mgmt.decoders (m : Mgmt) : Mgmt :=
  let a := min (Config.farCapacity 0) (2 ^ 41)
  { m with far0 := a, far1 := min (Config.farCapacity 1) (2 ^ 41 - a) }

/-- A stage ends: stage 1 programs the far-memory decoders (R457, R468), and failing units are fenced (R469). -/
def State.endStage (s : State) (n : Nat) (failed : List UnitId) : State :=
  if s.mgmt.stage = some (n - 1) ∧ !s.mgmt.stuck ∧ s.tick ≤ stageLimit n then
    let s1 := { s with mgmt := { (if n = 1 then s.mgmt.decoders else s.mgmt) with stage := some n } }
    let s2 := failed.foldl State.fenceUnit s1
    if n = 2 then { s2 with vfs := (upFrom 0 64).foldl (fun t v => tabSet v { tabGet {} t v with enabled := true } t) s2.vfs } else s2
  else s

/-! Management requests (R473) -/

/-- A response on the I3C port. -/
def State.respond (s : State) (bs : List Byte) : State := { s with mgmt := { s.mgmt with reports := s.mgmt.reports ++ [bs] } }

/-- A management request: served one at a time from the end of stage 0 on. The answer is a status byte, what the request
returns, and the state it leaves; one that arrives while another is served is answered 2 and has no effect (R468, R473). -/
def State.request (s : State) (f : State → Nat × List Byte × State) : State :=
  if s.mgmt.stage = none then s
  else if s.tick < s.mgmt.busy then s.respond [2]
  else
    let (st, bs, s1) := f s
    let s2 := s1.respond (BitVec.ofNat 8 st :: bs)
    { s2 with mgmt := { s2.mgmt with served := s2.mgmt.served + 1, busy := s2.tick + Config.serviceTime s2.mgmt.served } }

/-- A signed number in 8 bytes. -/
def intBytes (i : Int) : List Byte := bytesOf 8 (wordOf i).toNat

/-- A sensor: 0 to 3 the dies, 4 and 5 the coolant at inlet and outlet. -/
def State.temp (s : State) (k : Nat) : Int := tabGet 0 s.mgmt.temps k

/-- Every context of a function stopped for the debugger resumes, resident or saved (R473). -/
def State.undebugAll (s : State) (vf : Nat) : State :=
  let go := fun (x : Nat × Ctx) => if x.2.vf = vf then (x.1, x.2.undebugged) else x
  { s with
    ctxs := s.ctxs.map go
    parts := s.parts.map (fun (p : Nat × Part) => (p.1, { p.2 with saved := p.2.saved.map (fun (v : SavedSet) => { v with
      cores := v.cores.map (fun (k : SavedCore) => { k with ctxs := k.ctxs.map go }) }) })) }

/-! Heat (R475) -/

/-- The launches with a task on a die, each with one of its contexts there. -/
def State.launchesOn (s : State) (d : Nat) : List (Nat × Nat) :=
  s.ctxs.foldl (fun r x =>
    match x.2.task with
    | some t => if dieOf x.1 = d ∧ x.2.status ≠ .free ∧ !(r.any (fun k => k.1 == t.launch)) then r ++ [(t.launch, x.1)] else r
    | none => r) []

/-- A die that is too hot stops, and every launch with a task on it takes FAULT (R475). -/
def State.overheat (s : State) (d : Nat) : State :=
  let s1 := (s.setDie d { s.die d with stopped := true }).respond (0x82 :: bytesOf 1 d)
  if (s.die d).stopped then s
  else (s.launchesOn d).foldl (fun (r : State) k =>
    if (r.ctx k.2).task.any (fun t => t.launch == k.1) then
      (r.postEvent (s.ctx k.2).vf 2 (r.faultEvent k.2 (lidOf (s.ctx k.2).vf k.1))).killLaunch k.1 6
    else r) s1

/-- SENSORS (R473). -/
def execSensors (s : State) : Out :=
  .next (s.request (fun r => (0, ((upFrom 0 4).map (fun k => intBytes (r.temp k))).flatten ++ bytesOf 8 r.mgmt.watts
    ++ intBytes (r.temp 4) ++ intBytes (r.temp 5) ++ bytesOf 8 r.mgmt.cap, r)))

/-- FENCES (R473). -/
def execFences (s : State) : Out :=
  .next (s.request (fun r => (0, (r.mgmt.fencedUnits.map unitBytes).flatten, r)))

/-- ATTEST (R472). -/
def execAttest (nonce : BitVec 128) (s : State) : Out :=
  .next (s.request (fun r =>
    let (bs, r1) := r.attest nonce
    (0, bs, r1)))

/-- METER (R428). -/
def execMeter (region : Nat) (nonce : BitVec 128) (s : State) : Out :=
  .next (s.request (fun r =>
    match tabFind r.sencha.regions region with
    | none => (1, [], r)
    | some x =>
      let (bs, r1) := r.meterReport 1 region x 0 nonce
      (0, bs, r1)))

/-- POWERCAP (R475), or a request of an unknown command byte (R473). -/
def execPowercap (cap : CapReq) (s : State) : Out :=
  .next (s.request (fun r =>
    match cap with
    | .watts n => if 1600 ≤ n ∧ n ≤ 2400 then (0, [], { r with mgmt := { r.mgmt with cap := n } }) else (1, [], r)
    | .unknown b => if 1 ≤ b ∧ b ≤ 9 then (1, [], r) else (3, [], r)))

/-- DEBUG (R232). -/
def execDebugAttach (vf : Nat) (infuse : Bool) (s : State) : Out :=
  .next (s.request (fun r =>
    if vf < 64 then (0, [], r.setVf vf { r.vf vf with debugAsk := some infuse }) else (1, [], r)))

/-- UNDEBUG (R473). -/
def execDebugDetach (vf : Nat) (s : State) : Out :=
  .next (s.request (fun r =>
    if vf < 64 then (0, [], (r.setVf vf { r.vf vf with debug := false, debugInfuse := false, debugAsk := none }).undebugAll vf)
    else (1, [], r)))

/-- DEPLOY (R471). -/
def execDeploy (val : BitVec 128) (sig : BitVec 10240) (s : State) : Out :=
  .next (s.request (fun r =>
    if r.sencha.deploySet ∧ !(Config.verify Config.operatorKey (wideBytes val) sig) then (1, [], r)
    else (0, [], { r with sencha := { r.sencha with deploy := val, deploySet := true } })))

/-- RESET (R473). -/
def execReset (s : State) : Out :=
  .next (s.request (fun r => (0, [], r.stage0 true)))

/-- FIRMWARE_STAGE (R470). -/
def execFirmwareStage (f : Firmware) (s : State) : Out :=
  if s.mgmt.stage ≠ none ∧ s.firmwareOk f then .next { s with sencha := { s.sencha with staged := tabSet f.which f s.sencha.staged } }
  else .next s

/-- POWER_GOOD (R468). -/
def execPowerGood (s : State) : Out :=
  .next (s.stage0 (!s.mgmt.powered))

/-- STAGE_1 (R468). -/
def execStage1 (failed : List UnitId) (s : State) : Out :=
  .next (s.endStage 1 failed)

/-- STAGE_2 (R468). -/
def execStage2 (failed : List UnitId) (s : State) : Out :=
  .next (s.endStage 2 failed)

/-- STAGE_TIMEOUT (R468). -/
def execStageTimeout (s : State) : Out :=
  let n := (s.mgmt.stage.map (· + 1)).getD 0
  if s.mgmt.powered ∧ n ≤ 2 ∧ !s.mgmt.stuck ∧ stageLimit n < s.tick then
    .next (({ s with mgmt := { s.mgmt with stuck := true } } : State).respond (0x83 :: bytesOf 1 n))
  else .next s

/-- RAIL_FAULT (R476). -/
def execRailFault (rail : Nat) (s : State) : Out :=
  .next { s with mgmt := { s.mgmt with stopped := true, rails := s.mgmt.rails ++ [rail] } }

/-- THERMAL_THROTTLE (R475): sensor readings; a die that has reached 115 °C stops. -/
def execThermalThrottle (temps : List Int) (watts : Nat) (s : State) : Out :=
  let m := s.mgmt
  let tab := ((upFrom 0 temps.length).zip temps).foldl (fun (t : Tab Int) k => tabSet k.1 k.2 t) m.temps
  let hot := decide (m.cap < watts) || (temps.take 4).any (fun t => decide (100 < t))
  let s1 : State := { s with mgmt := { m with temps := tab, watts := watts, clock := if hot then max 50 (m.clock - 5) else m.clock } }
  .next (((upFrom 0 4).filter (fun d => decide (115 ≤ s1.temp d))).foldl State.overheat s1)

/-- DIE_OVERTEMP (R475): the die reaches 115 °C. -/
def execDieOvertemp (die : Nat) (s : State) : Out :=
  if die < 4 then .next (({ s with mgmt := { s.mgmt with temps := tabSet die (max 115 (s.temp die)) s.mgmt.temps } } : State).overheat die)
  else .next s

/-- DIE_COOLED (R475): a stopped die that has cooled below 90 °C resumes at stage 2, whose test fences failing units. -/
def execDieCooled (die : Nat) (failed : List UnitId) (s : State) : Out :=
  if die < 4 ∧ (s.die die).stopped ∧ s.temp die < 90 then
    .next (failed.foldl State.fenceUnit (s.setDie die { s.die die with stopped := false }))
  else .next s

/-- EXPANDER_LINK_DOWN (R457). -/
def execExpanderLinkDown (port : Nat) (s : State) : Out :=
  .next { s with mgmt := { s.mgmt with farDown := markIn true port s.mgmt.farDown } }

/-- ORDERLY_SHUTDOWN (R427). -/
def execOrderlyShutdown (s : State) : Out :=
  .next s.deviceReset

end Sys2Proof.Machine
end

