-- ==== Sys2Proof/Machine/Join.lean ====
section
/-! DEFINITION. Joins: the JOIN forms (R368, R369). -/

namespace Sys2Proof.Machine

/-- A JOIN form (R368, R369): performed at once by the own grove's Strainer, sent to that of any other grove. -/
def joinForm (i : Sig) (form : JoinForm) (d : Option (BitVec 5)) (a : BitVec 5) (x dl : State → Word) (s : State) : Out :=
  issue i s fun s =>
    let fin := fun (q q1 : State) (v jv js : Word) =>
      match d with
      | some r => Res.done (((q.putWithin q1 r.toNat v).setCsr csrJVAL jv).setCsr csrJSTAT js)
      | none => .done (q.within q1)
    s.whenDone (fun s =>
      let v := s.rx 1 a.toNat
      if s.handleProt v (some (groveOf s.cur)) then .trap { cause := cPROT, tval := v }
      else if s.acquiring then .wait
      else if handlePkg v.toNat = s.self ∧ handleGrove v.toNat = groveOf s.cur then
        match s.joinOp (some (groveOf s.cur)) (s.caddr s.cur) s.tick s.me.vf form v (x s) (dl s) with
        | .ok r jv js s1 => fin s s1 r jv js
        | .trap w => .trap w
        | .waits s1 => (s.within s1).send (.join v true)
      else
        (s.sendPacket (handlePkg v.toNat) (.joinReq (s.caddr s.cur) s.tick s.me.vf form v (x s) (dl s))).send (.join v (form == .jwait)))
      (fun q v jv js _ => fin q q v jv js)

/-- JOPEN (R369). -/
def execJopen (sm l : Bool) (d a b : BitVec 5) (t u : Bool) (s : State) : Out :=
  joinForm (cSig (.jopen sm l d a b t u)) .jopen none a (fun q => q.rx 2 b.toNat) (fun q => q.rx 4 d.toNat) s

/-- JWAIT (R369). -/
def execJwait (sm l : Bool) (d a : BitVec 5) (t : Bool) (s : State) : Out :=
  joinForm (cSig (.jwait sm l d a t)) .jwait (some d) a (fun _ => 0) (fun _ => 0) s

/-- JPOLL (R369). -/
def execJpoll (sm l : Bool) (d a b : BitVec 5) (t u : Bool) (s : State) : Out :=
  joinForm (cSig (.jpoll sm l d a b t u)) .jpoll (some d) a (fun q => q.rx 2 b.toNat) (fun _ => 0) s

/-- JCLOSE (R369). -/
def execJclose (sm l : Bool) (a b : BitVec 5) (t u : Bool) (s : State) : Out :=
  joinForm (cSig (.jclose sm l a b t u)) .jclose none a (fun q => q.rx 2 b.toNat) (fun _ => 0) s

end Sys2Proof.Machine
end

