-- ==== Sys2Proof/Machine/EvStream.lean ====
section
/-! DEFINITION. What the Samovar, the Caddy and the Strainer do by themselves or for other groves and packages (R337 to R371, R455). -/

namespace Sys2Proof.Machine

/-! Layer tasks (R346, R348) -/

/-- The first batch of a layer entry that has not started. -/
def State.nextBatch (s : State) (g kid : Nat) : Option Batch :=
  (s.grove g).batches.find? (fun b => b.kid == kid && b.ctx.isNone)

/-- The 128 bytes of a batch's log record (R348). -/
def logRecord (tick : Nat) (b : Batch) : List Byte :=
  bytesOf 8 b.bser ++ bytesOf 8 (2 ^ 48 * b.layer.toNat + 2 ^ 42 * b.kid + 2 ^ 37 * b.rows.length) ++ bytesOf 8 tick ++ bytesOf 8 0
    ++ ((upFrom 0 16).map (fun n => bytesOf 4 (nth 0 b.rows n).toNat)).flatten ++ (upFrom 0 32).map (fun _ => 0)

/-- The log record of a batch written; a fault ends the owner launch of each row with FAULT (R348). -/
def State.writeLog (s : State) (g : Nat) (l : Layer) (b : Batch) : State :=
  if l.loga = 0 then s
  else
    let a := l.loga.toNat + 128 * ((b.bser - 1) % l.logn)
    let fail := fun (r : State) => (b.rows.map (fun h => (s.stream g (handleCtx h.toNat)).own)).eraseDups.foldl (fun q o => q.endOwner o 6) r
    if deviceBase < a + 128 ∨ s.meterTrap l.vf (natW a) .store false then fail s
    else
      match s.walk l.vf a .store with
      | .fault _ => fail s
      | .ok pa _ _ s1 => s1.writeLoc (.mem pa) (logRecord s.tick b)

/-- The registers of a layer task (R346). -/
def layerRegs (x : Launch) (num : Nat) (b : Batch) (residual : Bool) : Regs :=
  let r0 := taskRegs x num (natW b.bser) (natW b.layer.toNat) residual
  let r1 := r0.setCsr csrSCUR (natW (2 ^ 32 * b.bser + 2 ^ 16 * b.kid + b.layer.toNat))
  let r2 := ((upFrom 0 b.rows.length).zip b.rows).foldl (fun (r : Regs) p => r.setCsr (csrSB0 + p.1) (natW p.2.toNat)) r1
  r2.setCsr csrSBN (natW b.rows.length)

/-- A batch started on a context bound to its layer launch (R346). -/
def State.startBatch (s : State) (c num : Nat) (x : Launch) (l : Layer) (b : Batch) : State :=
  let g := groveOf c
  let s1 := s.writeLog g l b
  let v := s1.grove g
  let s2 := s1.setGrove g { v with batches := v.batches.map (fun y => if y.kid = b.kid ∧ y.bser = b.bser then { y with ctx := some c } else y) }
  let s3 := b.rows.foldl (fun (r : State) h =>
    let t := r.stream g (handleCtx h.toNat)
    if t.st = 2 ∧ t.gen = fld h.toNat 0 7 then r.setStream g (handleCtx h.toNat) { t with st := 3 } else r) s2
  s3.startRegs c x { launch := num, ord := b.bser } (layerRegs x num b x.residualOn)

/-! Spills (R351, R352) -/

/-- Free frames of a grove. -/
def State.framesFree (s : State) (g : Nat) : Nat :=
  let v := s.grove g
  2048 - ((v.census.filter (fun p => p.2.v && !p.2.spl)).length + (v.census.filter (fun p => p.2.into.isSome)).length + v.frameFenced.length)

/-- One background spill begun, where the Caddy is short of frames (R351, R352). -/
def State.beginSpill (s : State) (g : Nat) : State :=
  let n := s.framesFree g
  let on := decide (n < 64) || ((s.grove g).draining && decide (n < 128))
  let s1 := s.setGrove g { s.grove g with draining := on }
  let busy := ((s.grove g).census.filter (fun p => p.2.spilling == 1)).length
  if !on ∨ 128 ≤ n + busy then s1
  else
    match oldestPage ((s1.residents.filter (fun x => x.1 == g && x.2.2.spilling == 0)).filter s1.spillable) with
    | none => s1
    | some (_, p, e) =>
      match s1.takeSlot g p with
      | none => s1
      | some (k, s2) =>
        if !e.dirty ∧ e.slot.isSome then s2.spilled g p k
        else
          let s3 := s2.writeSlot g p k
          s3.setPage g p { s3.page g p with spilling := 1 }

/-- A background spill's write completed: the frame is freed, or the page stays resident with the slot as its copy: one that
has been accessed or pinned since, or is held for a store (R340, R352, R478). -/
def State.endSpill (s : State) (g p : Nat) : State :=
  let e := s.page g p
  match e.slot with
  | none => s
  | some k =>
    if e.spilling = 1 ∧ !e.pin ∧ !(s.heldPage g p) then s.spilled g p k
    else if e.spilling ≠ 0 then
      let a := s.pageLoc g p
      let b := s.slotLoc e.vf k
      s.setPage g p { e with spilling := 0
                             dirty := s.cells a pageSize != s.cells b pageSize || s.poisonOf a pageSize != s.poisonOf b pageSize }
    else s

/-! Seed packets (R358, R455) -/

/-- The seed packets of a departure arrive in order (R358), and END waits for an order that retires the stream on arrival
(R366). -/
def State.seedInOrder (s : State) (a : Arrival) : Bool :=
  s.inOrder seedOfPacket a &&
    (match (match a with
      | .net n => s.net[n]?
      | .leaf _ _ p => some p) with
     | some (.seedEnd h _ _) => !(s.net.any (fun p => match p with
        | .retire _ k _ _ _ => k == h
        | _ => false))
     | _ => true)

/-- An acknowledgement toward the source of a migration. -/
def State.ackSeed (s : State) (src : BitVec 32) (slot : Option Nat) : State :=
  if handlePkg src.toNat = s.self ∧ slot.isSome then s else s.sendPacket (handlePkg src.toNat) (.seedAck src slot)

/-- A seed packet performed at its destination (R358). -/
def State.takeSeed (s : State) : Packet → State
  | .seedCtx n _ f _ =>
    (match s.arrivingAt n with
     | none => s
     | some (g, c, t) =>
       s.setStream g c { t with aq := f.aq, hor := f.hor, layer := f.layer, ret := f.ret, hash := f.hash, ver := f.ver, fam := f.fam
                                ford := f.ford, par := f.par, inf := f.inf })
  | .seedPage n src q cs pin ps _ =>
    (match s.arrivingAt n with
     | none => s
     | some (g, _, t) =>
       let p := nth 0 t.resv q
       let s1 := s.putBlock (s.pageLoc g p) pageSize cs ps
       (s1.setPage g p { s1.page g p with pin := pin, dirty := true, last := s.tick }).ackSeed src (some q))
  | .seedEnd n src _ =>
    (match s.arrivingAt n with
     | none => s
     | some (g, c, t) =>
       if t.dieOnArrival then (s.dropArriving g c).ackSeed src none
       else
         match s.freeMap g with
         | none => s
         | some m =>
           let s1 := (s.setMap g m { mref := 1, pages := t.resv }).setStream g c
             { t with st := 1, arriving := false, resv := [], map := m, newh := 0 }
           (s1.parkStream g c).ackSeed src none)
  | _ => s

/-- An acknowledgement at the source: a page let go, or the departure ended (R358, R455). -/
def State.takeAck (s : State) (src : BitVec 32) (slot : Option Nat) : State :=
  let g := handleGrove src.toNat
  let c := handleCtx src.toNat
  let t := s.stream g c
  if t.st ≠ 5 ∨ t.gen ≠ fld src.toNat 0 7 then s
  else
    match slot with
    | some q =>
      if t.map = 1024 ∨ t.sentPages.contains q then s
      else (s.dropPage g (nth 0 (s.smap g t.map).pages q)).setStream g c { t with sentPages := t.sentPages ++ [q] }
    | none =>
      let s1 := if t.map = 1024 then s else s.setMap g t.map {}
      let s2 := s1.setStream g c { t with st := 6, map := 1024, fwd := s.tick + 2 ^ 20 }
      if handlePkg t.fam.toNat = s.self then s2.takeMoved t.fam t.newh t.ford
      else s2.sendPacket (handlePkg t.fam.toNat) (.moved t.fam src t.newh t.ford)

/-- A request for a stream of this package (R353, R357); none where it must wait, as a packet in the mesh. The second part is
what a wait has begun. -/
def State.takeStreamRequest (s s1 : State) : Packet → Option State × State
  | .strmReq src sent vf form h x =>
    let pkg := fld src.toNat 32 9
    let iss := if pkg = s.self then some (ctxOfAddr src) else none
    (match s1.strmOp iss vf form h x with
     | .ok v fl s2 => (some (s2.sendReply src sent (.ok v 0 0 fl)), s)
     | .trap w => (some (s1.sendReply src sent (.trap w.cause w.tval w.unit)), s)
     | .wait => (none, s)
     | .stall g q => (none, s.startReload g q)
     | .ask pk f => (some (s1.sendPacket pk (f src sent)), s))
  | .migReq src sent old g f q hdr loga b win logn => (some (s1.takeMigReq src sent old g f q hdr loga b win logn), s)
  | .migDrop h => (some (s1.unreserve h), s)
  | .endOwner own st => (some (s1.killLaunch own st), s)
  | _ => (none, s)

/-- A packet of a kind that REMOTE_STREAM_REQUEST takes. -/
def isStreamRequest : Packet → Bool
  | .strmReq _ _ _ _ _ _ => true
  | .migReq _ _ _ _ _ _ _ _ _ _ _ => true
  | .migDrop _ => true
  | .endOwner _ _ => true
  | _ => false

/-- REMOTE_STREAM_REQUEST (R353). -/
def execRemoteStreamRequest (a : Arrival) (s : State) : Out :=
  match s.takePacket a with
  | none => .next (s.land a)
  | some (p, s1) =>
    if !(isStreamRequest p) then .next (s.land a)
    else
      match s.takeStreamRequest s1 p with
      | (some s2, _) => .next s2
      | (none, s2) => .next (s2.land a)

/-- An answer for a context or a Samovar of this package; none where it must wait or is no answer. -/
def State.takeReply (s : State) : Packet → Option State
  | .reply dst sent r => some (s.giveReply dst sent r)
  | .migGrant src sent vf old newh => some (s.takeMigGrant src sent vf old newh)
  | .forkGrant src sent vf fam parent o v => s.takeForkGrant src sent vf fam parent o v
  | _ => none

/-- REMOTE_REPLY (R353). -/
def execRemoteReply (a : Arrival) (s : State) : Out :=
  .next (s.arrives a State.takeReply)

/-- SEED_PACKET_ARRIVAL (R358). -/
def execSeedPacketArrival (a : Arrival) (s : State) : Out :=
  .next (s.arrives a (fun s1 p => if s.seedInOrder a then some ((s1.countSeed p).takeSeed p) else none))

/-- SEED_ACK (R455). -/
def execSeedAck (a : Arrival) (s : State) : Out :=
  .next (s.arrives a (fun s1 p =>
    match p with
    | .seedAck src slot => some (s1.takeAck src slot)
    | _ => none))

/-- FORWARDING_EXPIRY (R339). -/
def execForwardingExpiry (g n : Nat) (s : State) : Out :=
  let t := s.stream g n
  if t.st = 6 ∧ t.fwd ≤ s.tick then .next (s.freeStream g n) else .next s

/-- BATCH_WINDOW_EXPIRY (R345): the bucket's window has ended, or it is full. -/
def execBatchWindowExpiry (g kid layer : Nat) (s : State) : Out :=
  .next (if s.batchDue g kid (BitVec.ofNat 16 layer) then s.formBatch g kid (BitVec.ofNat 16 layer) else s)

/-- LAYER_TASK_START (R346). -/
def execLayerTaskStart (c : Nat) (s : State) : Out :=
  match (s.bind c).launch with
  | none => .next s
  | some num =>
    match tabFind s.launches num with
    | none => .next s
    | some x =>
      match x.layerOf with
      | none => .next s
      | some (g, kid) =>
        match s.nextBatch g kid, tabFind (s.grove g).layers kid with
        | some b, some l =>
          if (s.ctx c).status = .free ∧ groveOf c = g ∧ s.serves c x.vf then
            (if s.readyOn x (dieOf c) then .next (s.startBatch c num x l b) else .next (s.specialise num (dieOf c)))
          else .next s
        | _, _ => .next s

/-- BACKGROUND_SPILL (R351). -/
def execBackgroundSpill (g : Nat) (s : State) : Out :=
  .next (s.beginSpill g)

/-- SPILL_COMPLETE (R352). -/
def execSpillComplete (g entry : Nat) (s : State) : Out :=
  .next (s.endSpill g entry)

/-- RELOAD_COMPLETE (R352). -/
def execReloadComplete (g entry : Nat) (s : State) : Out :=
  .next (s.reloaded g entry)

/-- The member of a family that a packet to the record is about: its family, its handle and its FORD. -/
def memberOfPacket : Packet → Option (BitVec 32 × BitVec 32 × BitVec 16)
  | .report fam h o _ _ _ => some (fam, h, o)
  | .gone fam h o => some (fam, h, o)
  | .moved fam h _ o => some (fam, h, o)
  | .forkDone fam h o => some (fam, h, o)
  | .forkAsk _ _ _ fam h o => some (fam, h, o)
  | .subAsk _ _ _ fam h o => some (fam, h, o)
  | _ => none

/-- What one Samovar tells a record of one stream arrives in the order in which it was sent (R363). -/
def State.reportInOrder (s : State) (a : Arrival) : Bool := s.inOrder memberOfPacket a

/-- An event of a record that another grove or package tells (R363). -/
def State.takeFamilyReport (s : State) : Packet → Option State
  | .report fam h o r i v => some (s.takeReport fam h o r i v)
  | .gone fam _ o => some (s.takeGone fam o)
  | .moved fam _ n o => some (s.takeMoved fam n o)
  | .forkAsk src sent vf fam h o => some (s.takeForkAsk src sent vf fam h o)
  | .forkDone fam ch o => some (s.takeForkDone fam ch o)
  | .subAsk src sent vf fam h o => some (s.retireTree fam h o vf (some (src, sent)))
  | _ => none

/-- FAMILY_REPORT (R363). -/
def execFamilyReport (a : Arrival) (s : State) : Out :=
  .next (s.arrives a (fun s1 p => if s.reportInOrder a then s1.takeFamilyReport p else none))

/-- JOIN_DEADLINE (R366). -/
def execJoinDeadline (g n : Nat) (s : State) : Out :=
  match tabFind (s.grove g).families n with
  | some f => .next (s.settleFamily g n f)
  | none => .next s

/-- The retirement orders of one family to one package are performed in the order in which they were made (R366, R386). -/
def State.orderInOrder (s : State) (a : Arrival) : Bool :=
  s.inOrder (fun p => match p with
    | .retire f k _ _ _ => some (f, handlePkg k.toNat)
    | _ => none) a

/-- RETIRE_ORDER (R366). An order for a stream of another package leaves when a route exists. -/
def execRetireOrder (a : Arrival) (s : State) : Out :=
  .next (s.arrives a (fun s1 p =>
    match p with
    | .retire fam h vf res ack =>
      if !(s.orderInOrder a) then none
      else if handlePkg h.toNat = s.self then some (s1.performRetire fam h vf res ack)
      else if s.hasRoute (handlePkg h.toNat) then some (s1.sendPacket (handlePkg h.toNat) (.retire fam h vf res ack))
      else none
    | _ => none))

/-- REMOTE_JOIN_REQUEST (R369). -/
def execRemoteJoinRequest (a : Arrival) (s : State) : Out :=
  .next (s.arrives a (fun s1 p =>
    match p with
    | .joinReq src sent vf form fam x dl =>
      let user := if fld src.toNat 32 9 = s.self then some (groveOf (ctxOfAddr src)) else none
      some (match s1.joinOp user src sent vf form fam x dl with
        | .ok v jv js s2 => s2.sendReply src sent (.ok v jv js 0)
        | .trap w => s1.sendReply src sent (.trap w.cause w.tval w.unit)
        | .waits s2 => s2)
    | _ => none))

end Sys2Proof.Machine
end

