-- ==== Sys2Proof/Machine/EvSwitch.lean ====
section
/-! DEFINITION. Gang switches, consistent cuts and recovery (R412 to R418, R446, R455, R458 to R460). -/

namespace Sys2Proof.Machine

/-! Gang switches (R412 to R417) -/

/-- The contexts and cores of a partition that the state lists. -/
def State.partCtxs (s : State) (p : Part) : List (Nat × Ctx) := s.ctxs.filter (fun x => p.groves.contains (groveOf x.1))
def Part.cores (p : Part) : List Nat := (p.groves.map (fun g => upFrom (24 * g) 24)).flatten

/-- A packet of a message, a Whisk contribution or a stream's seed that belongs to a partition (step 2 of R413). -/
def State.drops (s : State) (p : Part) : Packet → Bool
  | .msg m => if fld m.dst.toNat 32 9 = s.self then p.groves.contains (groveOf (ctxOfAddr m.dst)) else p.groves.contains (groveOf (ctxOfAddr m.src))
  | .whisk m => if fld m.src.toNat 32 9 = s.self then p.groves.contains (groveOf (ctxOfAddr m.src)) else m.vf == p.vf
  | .seedCtx h o _ _ => p.groves.contains (handleGrove (if handlePkg h.toNat = s.self then h else o).toNat)
  | .seedPage h o _ _ _ _ _ => p.groves.contains (handleGrove (if handlePkg h.toNat = s.self then h else o).toNat)
  | .seedEnd h o _ => p.groves.contains (handleGrove (if handlePkg h.toNat = s.self then h else o).toNat)
  | _ => false

/-- A packet enters a drop buffer, where the receiving core counts it under its own colour (R418). -/
def State.dropOne (s : State) : Packet → Packet × State
  | .msg m => (.msg { m with counted := true }, s.countMsg m)
  | .whisk m =>
    let c := ctxOfAddr m.src
    if fld m.src.toNat 32 9 ≠ s.self ∨ s.caddr c ≠ m.src ∨ !((s.ctx c).posted.any (fun q => q.n == m.n && q.row == m.row && !q.counted)) then (.whisk m, s)
    else
      let x := s.ctx c
      (.whisk m, (s.setCtx c { x with posted := x.posted.map (fun (q : Posted) => if q.n = m.n ∧ q.row = m.row then { q with counted := true } else q) }).countRecv (coreOf c) m.colour)
  | .seedCtx n o f k => (.seedCtx n o f none, s.countSeed (.seedCtx n o f k))
  | .seedPage n o q b pn ps k => (.seedPage n o q b pn ps none, s.countSeed (.seedPage n o q b pn ps k))
  | .seedEnd n o k => (.seedEnd n o none, s.countSeed (.seedEnd n o k))
  | p => (p, s)

/-- The packets of a partition leave the mesh for the drop buffers, in order (R413, R415). -/
def State.dropAll (s : State) (p : Part) : List Packet → List Packet × State
  | [] => ([], s)
  | q :: t =>
    if s.drops p q then
      let (q1, s1) := s.dropOne q
      let (r, s2) := s1.dropAll p t
      (q1 :: r, s2)
    else s.dropAll p t

/-- What waits in the I/O die for its turn in a flow stays there, as in a drop buffer, and is counted (R418, R446). -/
def State.countEarly (s : State) (p : Part) : State :=
  s.early.foldl (fun (r : State) e =>
    if s.drops p e.2.2 then
      let (q, r1) := r.dropOne e.2.2
      { r1 with early := r1.early ++ [(e.1, e.2.1, q)] }
    else { r with early := r.early ++ [e] }) { s with early := [] }

/-- Step 1 and 2 of R413, with the CFLIP of a cut on every core (R418). -/
def State.stopPart (s : State) (n : Nat) (p : Part) : State :=
  let s1 := match p.cut with
    | none => s
    | some id => p.cores.foldl (fun (r : State) k => r.setCore k { r.core k with colour := !(r.core k).colour, cutid := id }) s
  let (ds, s2) := (s1.countEarly p).dropAll p s1.net
  { s2 with
    net := s2.net.filter (fun q => !(s.drops p q))
    parts := tabSet n { p with phase := 2, drop := p.drop ++ ds } s2.parts }

/-- An operation that a gang switch abandons or that its save area keeps; every other one completes first (R253, R262,
R413). -/
def PendOp.parks (o : PendOp) : Bool := o.abandoned || o == .cbr || o == .ttrun

/-- The operand of the unit has been read. -/
def PendOp.hasRead : PendOp → Bool
  | .read _ ps => ps == []
  | _ => false

/-- Operations under way have completed (step 3 of R413), and no context is in trap entry (R393). A Whisk contribution in a drop buffer and a push to a full queue
do not. -/
def State.drained (s : State) (p : Part) : Bool :=
  (s.partCtxs p).all (fun x =>
    x.2.prods.all (fun q => q.push.isSome && (match q.src with
      | .value _ => true
      | _ => false))
    && x.2.posted.all (fun q => q.tree.isSome && (q.counted || q.unsent.isSome))
    && x.2.pend.all (fun q => q.result.isSome || q.op.parks || q.op.hasRead)
    && (match x.2.status with
        | .service _ => false
        | _ => true))
  && p.groves.all (fun g => (s.grove g).podQ == [] && (s.grove g).copies.all (fun k => k.status != 2))
  && p.cores.all (fun k => (s.core k).slots.all (fun t => !t.2.busy))

/-- What the Kettle saves of a core: its contexts, their bind records, its scratchpad and slots (R413, R414). A core that holds
nothing of these has no save. -/
def State.saveCore (s : State) (k : Nat) : Option SavedCore :=
  let cs := upFrom (4 * k) 4
  let live := cs.filter (fun c => (s.ctx c).status != .free)
  let bound := cs.filter (fun c => (s.bind c).launch.isSome)
  if live = [] ∧ bound = [] ∧ (s.core k).scratch = [] ∧ (s.core k).poison = [] ∧ (s.core k).slots = [] then none
  else some { core := k, ctxs := live.map (fun c => (c, (s.ctx c).parked)), binds := bound.map (fun c => (c, s.bind c)), data := s.core k, mail := (s.core k).mail }

/-- A reduction whose owner is a context of the partition (R332). -/
def State.ownsSlot (s : State) (p : Part) (w : WSlot) : Bool :=
  w.opened && fld w.owner.toNat 32 9 == s.self && p.groves.contains (groveOf (ctxOfAddr w.owner))

/-- The saved set of a partition (R413, R414). -/
def State.saveSet (s : State) (p : Part) : SavedSet :=
  let cores := p.cores.filterMap s.saveCore
  let saved := fun (c : Nat) => cores.any (fun k => k.ctxs.any (fun x => x.1 == c))
  { vf := p.vf, cores := cores, drop := p.drop, bars := s.barsOf (fun c => p.groves.contains (groveOf c)) ++ (p.cores.map (fun k => (s.core k).bars)).flatten
    groves := p.groves.map (fun g =>
      let v := s.grove g
      (g, { pod := v.pod, podPoison := v.podPoison, grants := v.grants, queues := v.queues, servicer := v.servicer
            batches := v.batches.filter (fun b => b.ctx.any saved) })) }

/-- Steps 4 of R413: contexts, slots, grants, queue tables, barriers and the runs reserved for gangs leave the partition. Its
reductions keep their slots (R332). -/
def State.clearPart (s0 : State) (p : Part) (v : SavedSet) : State :=
  let s := s0.launches.foldl (fun (r : State) l => if l.2.run.any (fun k => p.groves.contains k.1) then r.dropRun l.1 else r) s0
  let cs := (v.cores.map (fun k => k.ctxs.map (·.1))).flatten
  let s1 := (cs.foldl State.vacate (s.leaveBars (fun c => p.groves.contains (groveOf c))))
  let s2 := { s1 with binds := s1.binds.filter (fun b => !(p.groves.contains (groveOf b.1))) }
  let s3 := v.cores.foldl (fun (r : State) (k : SavedCore) => r.setCore k.core { r.core k.core with slots := [], live := [], mail := [], bars := [] }) s2
  p.groves.foldl (fun (r : State) g =>
    let w := r.grove g
    r.setGrove g { w with grants := [], queues := [], servicer := none, batches := w.batches.filter (fun b => !(b.ctx.any cs.contains)) }) s3

/-- A state page of the function that ran last leaves its frame (R417). Where the spill area is exhausted its owner launch ends
ABORTED (DESIGN CHOICE, log entry 57). -/
def State.spillOut (s : State) (g p : Nat) : State :=
  let e := s.page g p
  if e.into.isSome then s.setPage g p { e with into := none }
  else if e.spl then s
  else
    match s.spillNow g p with
    | some s1 => s1
    | none => s.endOwner e.own 7

/-- The cleansing before another function runs (R417): every state page is spilled to the function's area, and scratchpads,
slots, Pod entries, queue tables and frames are zero, and the translation units hold nothing. A page under a held store returns
before its context goes on (R478; log entry 57). -/
def State.cleanse (s : State) (p : Part) : State :=
  let s1 := p.cores.foldl (fun (r : State) k => r.setCore k { r.core k with scratch := [], poison := [], slots := [], live := [], tlb := [] }) s
  p.groves.foldl (fun (r : State) g =>
    let r1 := ((r.grove g).census.filter (fun e => e.2.v)).foldl (fun (q : State) e => q.spillOut g e.1) r
    r1.setGrove g { r1.grove g with gtu := [], pod := [], podPoison := [], queues := [], frames := [], framePoison := [] }) s1

/-! Checkpoints (R418, R459) -/

/-- The 2 MiB near page of this package in which a frame lies. -/
def State.nearOf (s : State) (pa : Nat) : List Nat :=
  if fld pa 41 2 = 0 ∧ fld pa 43 9 = s.self then [pa / 2 ^ 21] else []

/-- The 2 MiB near pages of this package below a page table, with those of the tables themselves (R268). -/
def State.leavesFrom (s : State) : List Nat → Nat → List Nat
  | [], _ => []
  | lo :: more, t =>
    s.nearOf t ++ ((upFrom 0 (if lo = 48 then 16 else 512)).map (fun i =>
      let e := s.mem64 (t + 8 * i)
      if !(bitAt e 0) then []
      else
        match fld e 7 2 with
        | 0 => s.leavesFrom more (fld e 12 40 * 4096)
        | 3 => s.nearOf (fld e 12 40 * 4096)
        | _ => [])).flatten

/-- The near pages of a function: those that its page table maps, those of the tables, and its spill area's (R352, R459). -/
def State.nearPages (s : State) (vf : Nat) : List Nat :=
  let v := s.vf vf
  let a := s.paOf 0 v.spillBase
  s.leavesFrom [48, 39, 30, 21] v.root ++ (if v.spillSlots = 0 then [] else
    upFrom (a / 2 ^ 21) ((a + pageSize * v.spillSlots - 1) / 2 ^ 21 + 1 - a / 2 ^ 21))

/-- The package to which a checkpoint is also written (R459); a domain of one package has none. -/
def State.partner (s : State) : Option Nat :=
  let d := s.mgmt.domain.toNat
  ((upFrom 0 3).find? (fun k => fld d (3 * k) 3 != 0)).map (fun k =>
    let n := fld d (3 * k) 3 + 1
    let c := fld s.self (3 * k) 3
    s.self - 2 ^ (3 * k) * c + 2 ^ (3 * k) * ((c + n / 2) % n))

/-- The checkpoint of a saved partition whose cut has closed, written to the partner too, and a READING report for every region
(R418, R459). -/
def State.checkpoint (s : State) (n : Nat) : State :=
  let p := tabGet {} s.parts n
  if p.phase ≠ 3 ∨ p.cut = none ∨ !p.closed then s
  else
    let vfs := (p.saved.map (·.vf)).eraseDups
    let pages := ((vfs.map s.nearPages).flatten).eraseDups
    let k : Ckpt := { vf := p.last, sets := p.saved, drop := p.drop, groves := p.groves.map (fun g => (g, s.grove g)), pages := pages
                      near := s.mem.filter (fun c => pages.contains (c.1 / 2 ^ 21))
                      poison := s.memPoison.filter (fun q => pages.contains (q / 2 ^ 18))
                      launches := s.launches.filter (fun l => vfs.contains l.2.vf), vfs := s.vfs.filter (fun v => vfs.contains v.1)
                      groups := s.groups.filter (fun g => vfs.contains g.vf)
                      wslots := ((s.dies.map (fun d => (d.2.wslots.filter (fun w => s.ownsSlot p w.2)).map (fun w => (d.1, w.1, w.2)))).flatten) }
    let s0 := { s with parts := tabSet n { p with ckpt := some k, cut := none } s.parts }
    let s1 := match s0.partner with
      | some q => s0.sendPacket q (.ckpt s.self n)
      | none => s0
    s1.sencha.regions.foldl (fun (r : State) (x : Nat × Region) =>
      let (bs, r1) := r.meterReport 1 x.1 x.2 0 0
      { r1 with mgmt := { r1.mgmt with reports := r1.mgmt.reports ++ [bs] } }) s1

/-- Step 4 and 5 of R413: the partition is saved, and cleansed when another function runs next. -/
def State.savePart (s : State) (n next : Nat) (p : Part) : State :=
  let v := s.saveSet p
  let s1 := s.clearPart p v
  let s2 := { s1 with parts := tabSet n { p with phase := 3, vf := next, last := p.vf, drop := []
                                                 saved := p.saved.filter (fun (x : SavedSet) => x.vf != p.vf) ++ [v] } s1.parts }
  (if next = p.vf then s2 else s2.cleanse p).checkpoint n

/-! Resuming (R249, R253, R416) -/

/-- A saved core put back where it was; its contexts keep their addresses (R416). -/
def State.putCore (s : State) (k : SavedCore) : State :=
  let s1 := s.setCore k.core { s.core k.core with scratch := k.data.scratch, poison := k.data.poison, slots := k.data.slots, live := k.data.live }
  let s2 := k.ctxs.foldl (fun (r : State) x => r.setCtx x.1 (x.2.unparked (tabGet [] k.mail x.1))) s1
  k.binds.foldl (fun (r : State) b => r.setBind b.1 b.2) s2

/-- A saved set put back (R416): its timetables arrive again (R253), and the pages of its held stores are resident (R478). -/
def State.putSet (s : State) (v : SavedSet) : State :=
  let s1 := v.cores.foldl State.putCore s
  let s2 := v.groves.foldl (fun (r : State) g =>
    let w := r.grove g.1
    r.setGrove g.1 { w with pod := g.2.pod, podPoison := g.2.podPoison, grants := g.2.grants, queues := g.2.queues
                            servicer := g.2.servicer, batches := w.batches ++ g.2.batches }) s1
  let pages := (v.cores.map (fun k => (k.ctxs.map (fun x => x.2.heldPages)).flatten)).flatten.eraseDups
  (pages.foldl (fun (r : State) q => r.reloadHeld q.1 q.2) s2).rearrive v.bars

/-- Contexts of launches that ended while they were saved are freed (R394, R211). -/
def State.dropEnded (s : State) : State :=
  s.launches.foldl (fun (r : State) (l : Nat × Launch) =>
    if isFinal l.2.status ∧ r.ctxsOf l.1 ≠ [] then r.killLaunch l.1 l.2.status else r) s

/-- A core's work placed on another core, where that core is empty (R403, R416). -/
def State.placeOn (s : State) (p : Part) (m : Nat × Nat) : State :=
  if p.cores.contains m.1 ∧ p.cores.contains m.2 ∧ m.1 ≠ m.2 ∧ s.coreEmpty m.2 then s.moveCore m.1 m.2 else s

/-- A partition resumes (R416): saved contexts are bound again, those of a fenced core or a re-placed one elsewhere; drop
buffers are re-injected ahead of what has come since (R246); every core is released. -/
def State.resumePart (s : State) (n : Nat) (place : List (Nat × Nat)) : State :=
  let p := tabGet {} s.parts n
  let p1 := { p with phase := 0, time := 0, cut := none, closed := false, drop := [], saved := p.saved.filter (fun (v : SavedSet) => v.vf != p.vf) }
  let s1 := { s with parts := tabSet n p1 s.parts }
  match p.saved.find? (fun v => v.vf == p.vf) with
  | none => s1
  | some v =>
    let s2 := place.foldl (fun (r : State) m => r.placeOn p m) (s1.putSet v).dropEnded
    let s3 := s2.rehome
    { s3 with net := v.drop ++ s3.net }

/-! Cuts (R418) -/

/-- SENT minus RECV of the old colour over the partition's cores of this package. -/
def State.cutSum (s : State) (p : Part) : Int :=
  (p.cores.map (fun k =>
    let x := s.core k
    if x.colour then (x.sent0 : Int) - (x.recv0 : Int) else (x.sent1 : Int) - (x.recv1 : Int))).sum

/-! Lost packages and links (R446, R455, R458 to R460) -/

/-- The packages one hop away (R442, R444). -/
def State.neighbours (s : State) (p : Nat) : List Nat :=
  let d := s.mgmt.domain.toNat
  let ring := fun (lo : Nat) =>
    let n := fld d lo 3 + 1
    let c := fld p lo 3
    if n = 1 then [] else [p - 2 ^ lo * c + 2 ^ lo * ((c + 1) % n), p - 2 ^ lo * c + 2 ^ lo * ((c + n - 1) % n)]
  ((ring 0 ++ ring 3 ++ ring 6).eraseDups).filter (· != p)

/-- A record loses its members on a lost package (R366, R458); a child whose handle is still to come is on its parent's. -/
def Family.loses (f : Family) (p : Nat) : Family :=
  { f with members := f.members.filter (fun m => handlePkg (if m.handle = 0 then m.par else m.handle).toNat != p), kept := if f.kept ≠ 0 ∧ handlePkg f.kept.toNat = p then 0 else f.kept }

/-- The members here of a group whose home is lost take code 5, where they have contributed (R261, R452). -/
def State.orphanGroup (s : State) (g : Group) : State :=
  g.members.foldl (fun (r : State) m =>
    match r.owner (ctxOfAddr m) (BitVec.ofNat 16 m.toNat) with
    | some x => if x.spec.isSome || x.pend.any (fun q => q.op == .cbr) then r.sendResult m (.abort 5) else r
    | none => r) { s with groups := setGroup { g with aborted := true } s.groups }

/-- A lost package (R366, R452, R455, R458): groups with a member on it, or with their home there, are aborted with code 5,
families lose their members there, and orders for it are kept no longer. -/
def State.losePackage (s : State) (p : Nat) : State :=
  let hit := s.groups.filter (fun g => !g.aborted && g.home == s.self && g.members.any (fun m => fld m.toNat 32 9 == p))
  let s1 := hit.foldl (fun r g => r.abortGroup g 5) s
  let s2 := (s1.groups.filter (fun g => !g.aborted && g.home == p && p != s.self)).foldl State.orphanGroup s1
  let s3 := s2.groves.foldl (fun (r : State) (g : Nat × Grove) =>
    g.2.families.foldl (fun (q : State) (f : Nat × Family) =>
      match tabFind (q.grove g.1).families f.1 with
      | some x => if x.loses p = x then q else q.settleFamily g.1 f.1 (x.loses p)
      | none => q) r) s2
  let s4 := { s3 with net := s3.net.filter (fun q => match q with
    | .retire _ h _ _ _ => handlePkg h.toNat != p
    | _ => true) }
  s4.abortMoves (· == p)

/-- A reduction of a checkpoint put back in its slot; where another has opened that slot since, its owner launch ends ABORTED
(R332). -/
def State.putSlot (s : State) (x : Nat × Nat × WSlot) : State :=
  let d := s.die x.1
  if (tabGet {} d.wslots x.2.1).opened then
    match (s.savedCtx (ctxOfAddr x.2.2.owner) (BitVec.ofNat 16 x.2.2.owner.toNat)).bind (·.task) with
    | some t => s.killLaunch t.launch 7
    | none => s
  else s.setDie x.1 { d with wslots := tabSet x.2.1 x.2.2 d.wslots }

/-- The state of a partition replaced by its last closed cut, stopped and ready to resume; no unit holds a translation of it, and
residuals are on their dies again (R234, R460). -/
def State.rollBack (s : State) (n : Nat) (p : Part) (k : Ckpt) : State :=
  let old := (s.partCtxs p).map (·.1)
  let s1 := (old.filter (fun c => (s.ctx c).status != .free)).foldl (fun r c => (r.emptyPlace c).setBind c {}) (s.leaveBars (fun c => p.groves.contains (groveOf c)))
  let s2 := p.cores.foldl (fun (r : State) j => r.setCore j { r.core j with scratch := [], poison := [], slots := [], live := [] }) s1
  let s3 := k.groves.foldl (fun (r : State) g =>
    let now := r.grove g.1
    r.setGrove g.1 { g.2 with fenced := now.fenced, testing := now.testing, frameFenced := now.frameFenced, podFenced := now.podFenced
                              orphans := now.orphans }) s2
  let vfs := k.sets.map (·.vf)
  let shut := fun (w : WSlot) => if s.ownsSlot p w then { w with opened := false, got := [], result := [] } else w
  let s4 : State := { s3 with
    mem := k.near.foldl (fun m c => memPut c.1 c.2 m) (s3.mem.filter (fun c => !(k.pages.contains (c.1 / 2 ^ 21))))
    memPoison := s3.memPoison.filter (fun q => !(k.pages.contains (q / 2 ^ 18))) ++ k.poison
    binds := s3.binds.filter (fun b => !(p.groves.contains (groveOf b.1)))
    launches := k.launches.foldl (fun t l => tabSet l.1 l.2 t) s3.launches
    groups := s3.groups.filter (fun g => !(vfs.contains g.vf)) ++ k.groups
    vfs := k.vfs.foldl (fun t v =>
      let w := tabGet {} t v.1
      tabSet v.1 { w with submitQ := v.2.submitQ, childQ := v.2.childQ, childDone := v.2.childDone, spillUsed := v.2.spillUsed } t) s3.vfs
    net := s3.net.filter (fun q => !(s.drops p q))
    dies := s3.dies.map (fun (d : Nat × Die) => (d.1, { d.2 with wslots := d.2.wslots.map (fun w => (w.1, shut w.2)) }))
    parts := tabSet n { p with phase := 3, vf := k.vf, cut := none, closed := false, time := 0, saved := k.sets, drop := k.drop } s3.parts }
  let s5 := (k.wslots.foldl State.putSlot s4).dropHeld (fun e => vfs.contains e.vf)
  k.launches.foldl (fun (r : State) l => l.2.ready.foldl (fun q d =>
    match q.carryResidual l.1 d with
    | some q1 => q1
    | none => q.killLaunch l.1 7) r) s5

/-- GANG_SWITCH_POST (R413). -/
def execGangSwitchPost (p t : Nat) (cut : Option (BitVec 32)) (s : State) : Out :=
  match tabFind s.parts p with
  | none => .next s
  | some q =>
    if q.phase = 0 ∧ s.tick + 60000 ≤ t then .next { s with parts := tabSet p { q with phase := 1, time := t, cut := cut, closed := false } s.parts }
    else .next s

/-- GANG_SWITCH_STOP (R413). -/
def execGangSwitchStop (p : Nat) (s : State) : Out :=
  match tabFind s.parts p with
  | none => .next s
  | some q => if q.phase = 1 ∧ q.time ≤ s.tick then .next (s.stopPart p q) else .next s

/-- PARTITION_SAVE (R413). -/
def execPartitionSave (p : Nat) (next : Nat) (s : State) : Out :=
  match tabFind s.parts p with
  | none => .next s
  | some q => if q.phase = 2 ∧ s.drained q then .next (s.savePart p next q) else .next s

/-- The places of the saved contexts may be bound: 128 counts after a wrap of their generations (R248). -/
def State.placesRest (s : State) (p : Part) : Bool :=
  p.saved.all (fun v => v.vf != p.vf || v.cores.all (fun k => k.ctxs.all (fun x =>
    (s.place x.1).wrapped.all (fun w => decide (w + 128 ≤ s.tick)))))

/-- PARTITION_RESUME (R416). -/
def execPartitionResume (p : Nat) (place : List (Nat × Nat)) (s : State) : Out :=
  match tabFind s.parts p with
  | none => .next s
  | some q => if q.phase = 3 ∧ q.cut = none ∧ s.placesRest q then .next (s.resumePart p place) else .next s

/-- CUT_EVALUATION (R418). -/
def execCutEvaluation (p : Nat) (others : Int) (s : State) : Out :=
  match tabFind s.parts p with
  | none => .next s
  | some q =>
    if 2 ≤ q.phase ∧ q.cut ≠ none ∧ !q.closed ∧ s.cutSum q + others = 0 then
      .next (({ s with parts := tabSet p { q with closed := true } s.parts } : State).checkpoint p)
    else .next s

/-- HEARTBEAT (R458): this package's is sent to each neighbour. A package that three miss at every neighbour able to report is failed:
all of them agree, so the majority does (log entry 98). -/
def execHeartbeat (missed : List (Nat × List Nat)) (s : State) : Out :=
  let key := fun (p q : Nat) => 512 * p + q
  let late := fun (p q : Nat) => missed.any (fun m => m.1 == p && m.2.contains q)
  let tab := (missed.map (fun m => (s.neighbours m.1).map (fun q => (m.1, q)))).flatten.foldl
    (fun (t : Tab Nat) k => if late k.1 k.2 then tabSet (key k.1 k.2) (tabGet 0 s.mgmt.hbMissed (key k.1 k.2) + 1) t else t) []
  let voters := fun (p : Nat) => (s.neighbours p).filter (fun q => s.present q && !(s.mgmt.failed.contains q))
  let lost := ((missed.map (·.1)).eraseDups).filter (fun p => p != s.self && !(s.mgmt.failed.contains p) && voters p != []
    && (voters p).all (fun q => decide (3 ≤ tabGet 0 tab (key p q))))
  let s1 := lost.foldl State.losePackage { s with mgmt := { s.mgmt with hbMissed := tab, failed := s.mgmt.failed ++ lost } }
  .next ((s1.neighbours s1.self).foldl (fun (r : State) q => r.sendPacket q (.heartbeat r.self)) s1)

/-- DOMAIN_RECOVERY (R460): the partitions that span the failed package resume from their last closed cuts; a standby takes its number
(log entry 12). -/
def execDomainRecovery (failed : Nat) (standby : Option Nat) (s : State) : Out :=
  let m := s.mgmt
  let fenced := m.fencedPkgs.filter (· != failed)
  let hit := s.parts.filter (fun p => s.spans p.1 failed)
  let s1 := ({ s with mgmt := { m with
    domain := if standby = some s.self then natW (m.domain.toNat - 512 * s.self + 512 * failed) else m.domain
    fencedPkgs := if standby.isSome then fenced else fenced ++ [failed]
    failed := m.failed.filter (· != failed)
    hbMissed := m.hbMissed.filter (fun k => k.1 / 512 != failed) } } : State).losePackage failed
  .next (hit.foldl (fun (r : State) (p : Nat × Part) =>
    let q := tabGet {} r.parts p.1
    match q.ckpt with
    | some k => (r.rollBack p.1 q k).resumePart p.1 []
    | none => r) s1)

/-- LINK_FAILURE (R446). -/
def execLinkFailure (port : Nat) (s : State) : Out :=
  .next (s.linkLost port)

end Sys2Proof.Machine
end

