-- ==== Sys2Proof/Machine/ScalarMem.lean ====
section
/-! DEFINITION. Scalar loads and stores (R121 to R125). -/

namespace Sys2Proof.Machine

/-- LDG (R122). -/
def execLdg (sm l : Bool) (d a : BitVec 5) (o : BitVec 8) (z w : BitVec 2) (e : Bool) (s : State) : Out :=
  issue (cSig (.ldg sm l d a o z w e)) s fun s =>
    let m := 2 ^ z.toNat
    s.load 0 (s.addrOf a o m) m w 0 d.toNat (!e)

/-- STG (R122). -/
def execStg (sm l : Bool) (d a : BitVec 5) (o : BitVec 8) (z w : BitVec 2) (t : Bool) (s : State) : Out :=
  issue (cSig (.stg sm l d a o z w t)) s fun s =>
    let m := 2 ^ z.toNat
    s.store 0 (s.addrOf a o m) (bytesOf m (s.rx 4 d.toNat).toNat) w 1

/-- LDS (R122). -/
def execLds (sm l : Bool) (d a : BitVec 5) (o : BitVec 8) (z w : BitVec 2) (e : Bool) (s : State) : Out :=
  issue (cSig (.lds sm l d a o z w e)) s fun s =>
    let m := 2 ^ z.toNat
    s.load 1 (s.addrOf a o m) m w 0 d.toNat (!e)

/-- STS (R122). -/
def execSts (sm l : Bool) (d a : BitVec 5) (o : BitVec 8) (z w : BitVec 2) (t : Bool) (s : State) : Out :=
  issue (cSig (.sts sm l d a o z w t)) s fun s =>
    let m := 2 ^ z.toNat
    s.store 1 (s.addrOf a o m) (bytesOf m (s.rx 4 d.toNat).toNat) w 1

/-- LDW (R122). -/
def execLdw (sm l : Bool) (d a : BitVec 5) (o : BitVec 8) (z w : BitVec 2) (e : Bool) (s : State) : Out :=
  issue (cSig (.ldw sm l d a o z w e)) s fun s =>
    let m := 2 ^ z.toNat
    s.load 2 (s.addrOf a o m) m w 0 d.toNat (!e)

/-- STW (R350). -/
def execStw (sm l : Bool) (d a : BitVec 5) (o : BitVec 8) (z w : BitVec 2) (t : Bool) (s : State) : Out :=
  issue (cSig (.stw sm l d a o z w t)) s fun s =>
    let m := 2 ^ z.toNat
    s.store 2 (s.addrOf a o m) (bytesOf m (s.rx 4 d.toNat).toNat) w 1

end Sys2Proof.Machine
end

