-- ==== Sys2Proof/Machine/Sysx.lean ====
section
/-! DEFINITION. The SYSX forms: replay, invalidation, colour and metering reads (R405 to R409). -/

namespace Sys2Proof.Machine

/-- A register written in the owning context and in its checkpoint, which the access precedes (R258). -/
def Ctx.landRegs (x : Ctx) (f : Regs → Regs) : Ctx :=
  { x with regs := f x.regs, spec := x.spec.map (fun sp => { sp with cp := f sp.cp }) }

/-- A producer put among those of its context in program order. -/
def insertProd (p : Prod) (ps : List Prod) : List Prod :=
  ps.filter (fun q => decide (q.n ≤ p.n)) ++ [p] ++ ps.filter (fun q => decide (p.n < q.n))

/-- The bytes that a replayed load of at most 8 bytes reads: those of its context's earlier stores that are not performed yet
over the memory's (R288). -/
def State.replayBytes (s : State) (e : RingEntry) (l : Loc) : List Byte :=
  let own := match s.owner e.ctx e.gen with
    | some x => x.ownWrites e.n
    | none => []
  overlay l own (s.readLoc l e.size)

/-- The value that a replayed load brings to its destination in the owning context, resident or saved (R24, R406), or the unit of
poisoned data that it met (R399); a push waits for the context's earlier ones to the port (R26, R281). -/
def State.replayLoad (s : State) (e : RingEntry) (v : Nat) (bad : Option (BitVec 4)) : State :=
  match bad with
  | some u =>
    s.setOwner e.ctx e.gen (fun x =>
      let y : Ctx := { x with mce := x.mce ++ [(e.va, u)], spec := x.spec.map (fun sp => { sp with mce := sp.mce ++ [(e.va, u)] }) }
      if e.push.isSome then y else y.landRegs (fun r => r.setPoison e.cls.toNat e.reg))
  | none =>
    match e.push with
    | some p =>
      let q : Prod := { n := e.n, cls := e.cls, reg := e.reg, push := some p, issued := s.tick, src := .value v }
      s.setOwner e.ctx e.gen (fun x => { x with prods := insertProd q x.prods })
    | none => s.setOwner e.ctx e.gen (fun x => x.landRegs (fun r => r.setBits e.cls.toNat e.reg v))

/-- What performing a ring entry answers; `send` where its granules are still to be read or written. -/
inductive Replayed where
  | ok (s : State)
  | send (s : State) (op : PendOp)
  | fault (kind : Nat)
  | wait

/-- An entry must follow earlier accesses of its context that are not yet performed (R285, R286 row 1). -/
def State.replayWaits (s : State) (e : RingEntry) (l : Loc) (uc : Option Nat) : Bool :=
  let x := s.ctx e.ctx
  x.status != .free && x.gen == e.gen &&
    (s.readBlocked e.ctx e.n l e.size || s.ucBlocked e.ctx e.n uc
      || ((e.store || decide (8 < e.size)) && x.posted.any (fun p => decide (p.n < e.n) && p.writes.any (fun w => w.overlaps l e.size))))

/-- The effect of a replayed store on its owner: PCB falls (R279), and it is counted as sent and performed (R418; log entry 47). -/
def State.storeReplayed (s : State) (e : RingEntry) : State :=
  let k := coreOf e.ctx
  ((s.setOwner e.ctx e.gen (fun x => { x with pcb := x.pcb - 1 })).countSent k).countRecv k (s.core k).colour

/-- A ring entry performed with the translation in force (R406): one of at most 8 bytes at once; of a wider one its granules,
one event each (R284). -/
def State.replayEntry (s : State) (e : RingEntry) : Replayed :=
  let acc := if e.store then Acc.store else .load
  if s.meterTrap e.vf e.va acc false then .fault 2
  else
    match s.walk e.vf e.va.toNat acc with
    | .fault k => .fault k
    | .ok pa leaf _ s1 =>
      if s.replayWaits e (.mem pa) (ucTier leaf pa) then .wait
      else if e.store then
        let s2 := s1.setOwner e.ctx e.gen (fun x => { x with olds := x.olds ++ [(e.va, s1.readLoc (.mem pa) e.size)] })
        if e.size ≤ 8 then .ok ((s2.writeLoc (.mem pa) e.data).storeReplayed e)
        else .send s2 (.write ((eventsOf [{ loc := .mem pa, bytes := e.data }])))
      else
        match s1.countBytes e.vf e.va.toNat e.size with
        | some s2 =>
          if e.size ≤ 8 then .ok (s2.replayLoad e (loadBits e.size (!e.zext) (s2.replayBytes e (.mem pa))) (s2.poisonedLoc (.mem pa) e.size))
          else .send s2 (.read 15 (piecesFrom 0 (.mem pa) e.size e.va none))
        | none => .wait

/-- REPLAY (R406). -/
def execReplay (sm l : Bool) (d a : BitVec 5) (t : Bool) (s : State) : Out :=
  issue (cSig (.replay sm l d a t)) s fun s =>
    let v := s.rx 1 a.toNat
    if !s.isKettle then .trap { cause := cPROT, tval := v }
    else if v.toNat / 2 ^ 16 ≠ 0 then .trap { cause := cILLEGAL, tval := v }
    else
      let gn := groveOf s.cur
      let g := s.grove gn
      let drop := fun (s s1 : State) (tag : Nat) =>
        let g1 := s1.grove gn
        Res.done (s.putWithin (s1.setGrove gn { g1 with ring := g1.ring.filter (fun x => x.tag != tag) }) d.toNat 0)
      let find := fun (s : State) (k : RingEntry → Res) =>
        match g.ring.find? (fun e => e.tag == v.toNat) with
        | none => .done (s.putX d.toNat 2)
        | some e => k e
      s.whenRead
        (fun s => find s (fun e =>
          match s.replayEntry e with
          | .wait => .wait
          | .fault k =>
            let r := g.ring.map (fun x => if x.tag = e.tag then { x with kind := k, offered := true } else x)
            .done ((s.setGrove gn { g with ring := r }).putX d.toNat (natW (1 + 16 * k)))
          | .send s1 op => s1.send op
          | .ok s1 => drop s s1 e.tag))
        (fun s t => find s (fun e =>
          drop s (s.replayLoad e (ofWords (wordsFrom t 0 (e.size / 8))) ((tabFind t poisonMark).map (fun u => BitVec.ofNat 4 u.toNat))) e.tag))
        (fun s _ _ _ _ => find s (fun e => drop s (s.storeReplayed e) e.tag))

/-- TLBINV (R407). -/
def execTlbinv (sm l : Bool) (a b : BitVec 5) (t u : Bool) (s : State) : Out :=
  issue (cSig (.tlbinv sm l a b t u)) s fun s =>
    let v := s.rx 2 b.toNat
    if fld v.toNat 6 57 ≠ 0 then .trap { cause := cILLEGAL, tval := v }
    else if !s.isKettle ∧ fld v.toNat 0 6 ≠ s.me.vf then .trap { cause := cPROT, tval := v }
    else
      let a := (s.rx 1 a.toNat).toNat
      .done (s.dropHeld (fun e => e.vf == fld v.toNat 0 6 && (bitAt v.toNat 63 || e.page == a / 2 ^ e.bits)))

/-- CFLIP (R408). -/
def execCflip (sm l : Bool) (a : BitVec 5) (t : Bool) (s : State) : Out :=
  issue (cSig (.cflip sm l a t)) s fun s =>
    let v := s.rx 1 a.toNat
    if !s.isKettle then .trap { cause := cPROT, tval := v }
    else
      let k := s.core (coreOf s.cur)
      .done (s.setCore (coreOf s.cur) { k with colour := !k.colour, cutid := BitVec.ofNat 32 v.toNat })

/-- MTRD (R409). -/
def execMtrd (sm l : Bool) (d a b : BitVec 5) (t u : Bool) (s : State) : Out :=
  issue (cSig (.mtrd sm l d a b t u)) s fun s =>
    let r := s.rx 1 a.toNat
    let k := s.rx 2 b.toNat
    match (if r.toNat < 4096 then tabFind s.sencha.regions r.toNat else none) with
    | none => .trap { cause := cPROT, tval := r }
    | some x =>
      if x.vf ≠ s.me.vf then .trap { cause := cPROT, tval := r }
      else if 1 < k.toNat then .trap { cause := cILLEGAL, tval := k }
      else .done (s.putX d.toNat (natW (if k = 0 then x.ops else x.bytes)))

end Sys2Proof.Machine
end

