-- ==== Sys2Proof/Machine/Dispatch.lean ====
section
/-! DEFINITION. The meaning of each instruction and event: one arm for each constructor of Instr. -/

namespace Sys2Proof.Machine

/-- One instruction or event executed (R51 to R54; the events of the opcode table). -/
def exec (i : Instr) (s : State) : Host.Outcome State Fault Refusal :=
  match i with
  | .nop sm l => Sys2Proof.Machine.execNop sm l s
  | .halt sm l => Sys2Proof.Machine.execHalt sm l s
  | .ecall sm l => Sys2Proof.Machine.execEcall sm l s
  | .ebreak sm l => Sys2Proof.Machine.execEbreak sm l s
  | .hret sm l => Sys2Proof.Machine.execHret sm l s
  | .yield sm l => Sys2Proof.Machine.execYield sm l s
  | .csrr sm l d c => Sys2Proof.Machine.execCsrr sm l d c s
  | .csrw sm l d a c => Sys2Proof.Machine.execCsrw sm l d a c s
  | .csrs sm l d a c => Sys2Proof.Machine.execCsrs sm l d a c s
  | .csrc sm l d a c => Sys2Proof.Machine.execCsrc sm l d a c s
  | .beq sm l a b o => Sys2Proof.Machine.execBeq sm l a b o s
  | .bne sm l a b o => Sys2Proof.Machine.execBne sm l a b o s
  | .blt sm l a b o => Sys2Proof.Machine.execBlt sm l a b o s
  | .bge sm l a b o => Sys2Proof.Machine.execBge sm l a b o s
  | .bltu sm l a b o => Sys2Proof.Machine.execBltu sm l a b o s
  | .bgeu sm l a b o => Sys2Proof.Machine.execBgeu sm l a b o s
  | .bmskAny sm l k o => Sys2Proof.Machine.execBmskAny sm l k o s
  | .bmskNone sm l k o => Sys2Proof.Machine.execBmskNone sm l k o s
  | .bmskAll sm l k o => Sys2Proof.Machine.execBmskAll sm l k o s
  | .bmskNall sm l k o => Sys2Proof.Machine.execBmskNall sm l k o s
  | .jal sm l d o => Sys2Proof.Machine.execJal sm l d o s
  | .jalr sm l d a t im => Sys2Proof.Machine.execJalr sm l d a t im s
  | .loop sm l n a t im => Sys2Proof.Machine.execLoop sm l n a t im s
  | .rep sm l a t im => Sys2Proof.Machine.execRep sm l a t im s
  | .ldg sm l d a o z w e => Sys2Proof.Machine.execLdg sm l d a o z w e s
  | .stg sm l d a o z w t => Sys2Proof.Machine.execStg sm l d a o z w t s
  | .lds sm l d a o z w e => Sys2Proof.Machine.execLds sm l d a o z w e s
  | .sts sm l d a o z w t => Sys2Proof.Machine.execSts sm l d a o z w t s
  | .ldw sm l d a o z w e => Sys2Proof.Machine.execLdw sm l d a o z w e s
  | .stw sm l d a o z w t => Sys2Proof.Machine.execStw sm l d a o z w t s
  | .vldg sm l d a o z w => Sys2Proof.Machine.execVldg sm l d a o z w s
  | .vstg sm l d a o z w t => Sys2Proof.Machine.execVstg sm l d a o z w t s
  | .vlds sm l d a o z w => Sys2Proof.Machine.execVlds sm l d a o z w s
  | .vsts sm l d a o z w t => Sys2Proof.Machine.execVsts sm l d a o z w t s
  | .vgath sm l d a b t u p m => Sys2Proof.Machine.execVgath sm l d a b t u p m s
  | .vscat sm l d a b t u p m => Sys2Proof.Machine.execVscat sm l d a b t u p m s
  | .ldo sm l d a z e o c => Sys2Proof.Machine.execLdo sm l d a z e o c s
  | .sto sm l a b z o c => Sys2Proof.Machine.execSto sm l a b z o c s
  | .amoSwap sm l d a b z o c => Sys2Proof.Machine.execAmoSwap sm l d a b z o c s
  | .amoAdd sm l d a b z o c => Sys2Proof.Machine.execAmoAdd sm l d a b z o c s
  | .amoAnd sm l d a b z o c => Sys2Proof.Machine.execAmoAnd sm l d a b z o c s
  | .amoOr sm l d a b z o c => Sys2Proof.Machine.execAmoOr sm l d a b z o c s
  | .amoXor sm l d a b z o c => Sys2Proof.Machine.execAmoXor sm l d a b z o c s
  | .amoMax sm l d a b z o c => Sys2Proof.Machine.execAmoMax sm l d a b z o c s
  | .amoMin sm l d a b z o c => Sys2Proof.Machine.execAmoMin sm l d a b z o c s
  | .amoMaxu sm l d a b z o c => Sys2Proof.Machine.execAmoMaxu sm l d a b z o c s
  | .amoxMinu sm l d a b z o c => Sys2Proof.Machine.execAmoxMinu sm l d a b z o c s
  | .amoxCas sm l d a b z o c => Sys2Proof.Machine.execAmoxCas sm l d a b z o c s
  | .amoxFadd sm l d a b o c => Sys2Proof.Machine.execAmoxFadd sm l d a b o c s
  | .amoxFmin sm l d a b o c => Sys2Proof.Machine.execAmoxFmin sm l d a b o c s
  | .amoxFmax sm l d a b o c => Sys2Proof.Machine.execAmoxFmax sm l d a b o c s
  | .fence sm l o c => Sys2Proof.Machine.execFence sm l o c s
  | .waitc sm l c => Sys2Proof.Machine.execWaitc sm l c s
  | .waita sm l d a b t u z c => Sys2Proof.Machine.execWaita sm l d a b t u z c s
  | .qbind sm l d a t => Sys2Proof.Machine.execQbind sm l d a t s
  | .qunbind sm l d => Sys2Proof.Machine.execQunbind sm l d s
  | .ttrun sm l d a t => Sys2Proof.Machine.execTtrun sm l d a t s
  | .send sm l a b t u z => Sys2Proof.Machine.execSend sm l a b t u z s
  | .qnew sm l d c => Sys2Proof.Machine.execQnew sm l d c s
  | .cbrAny sm l a h o => Sys2Proof.Machine.execCbrAny sm l a h o s
  | .cbrAll sm l a h o => Sys2Proof.Machine.execCbrAll sm l a h o s
  | .cbrMaj sm l a h o => Sys2Proof.Machine.execCbrMaj sm l a h o s
  | .colxJoin sm l d a b t u => Sys2Proof.Machine.execColxJoin sm l d a b t u s
  | .colxLeave sm l => Sys2Proof.Machine.execColxLeave sm l s
  | .sptCpy sm l d a t => Sys2Proof.Machine.execSptCpy sm l d a t s
  | .sptCan sm l d a t => Sys2Proof.Machine.execSptCan sm l d a t s
  | .sptPoll sm l d a t => Sys2Proof.Machine.execSptPoll sm l d a t s
  | .barInit sm l a b t u => Sys2Proof.Machine.execBarInit sm l a b t u s
  | .barExp sm l a b t u => Sys2Proof.Machine.execBarExp sm l a b t u s
  | .barArv sm l d a t => Sys2Proof.Machine.execBarArv sm l d a t s
  | .barWt sm l d a b t u => Sys2Proof.Machine.execBarWt sm l d a b t u s
  | .mclaim sm l d a t => Sys2Proof.Machine.execMclaim sm l d a t s
  | .mrel sm l a t => Sys2Proof.Machine.execMrel sm l a t s
  | .mld sm l d a b t u c p => Sys2Proof.Machine.execMld sm l d a b t u c p s
  | .mstF32 sm l n a b t u m p => Sys2Proof.Machine.execMstF32 sm l n a b t u m p s
  | .mstH sm l n a b t u m p => Sys2Proof.Machine.execMstH sm l n a b t u m p s
  | .mstB sm l n a b t u m p => Sys2Proof.Machine.execMstB sm l n a b t u m p s
  | .mdrain sm l n a b t u => Sys2Proof.Machine.execMdrain sm l n a b t u s
  | .ctld sm l a t p n => Sys2Proof.Machine.execCtld sm l a t p n s
  | .hldG sm l h a t => Sys2Proof.Machine.execHldG sm l h a t s
  | .hldS sm l h a t => Sys2Proof.Machine.execHldS sm l h a t s
  | .hstG sm l a h t u => Sys2Proof.Machine.execHstG sm l a h t u s
  | .hstS sm l a h t u => Sys2Proof.Machine.execHstS sm l a h t u s
  | .podw sm l a h t u => Sys2Proof.Machine.execPodw sm l a h t u s
  | .pods sm l d h u => Sys2Proof.Machine.execPods sm l d h u s
  | .podr sm l h a t => Sys2Proof.Machine.execPodr sm l h a t s
  | .sspawn sm l d a t => Sys2Proof.Machine.execSspawn sm l d a t s
  | .sfork sm l d a t => Sys2Proof.Machine.execSfork sm l d a t s
  | .snext sm l a b t u => Sys2Proof.Machine.execSnext sm l a b t u s
  | .sret sm l a b t u => Sys2Proof.Machine.execSret sm l a b t u s
  | .sretire sm l a t => Sys2Proof.Machine.execSretire sm l a t s
  | .sretireSub sm l a t => Sys2Proof.Machine.execSretireSub sm l a t s
  | .smig sm l d a b t u => Sys2Proof.Machine.execSmig sm l d a b t u s
  | .sinfeas sm l a t => Sys2Proof.Machine.execSinfeas sm l a t s
  | .sapush sm l d a b t u => Sys2Proof.Machine.execSapush sm l d a b t u s
  | .sapop sm l d a t => Sys2Proof.Machine.execSapop sm l d a t s
  | .sstat sm l d a t => Sys2Proof.Machine.execSstat sm l d a t s
  | .spin sm l a b t u => Sys2Proof.Machine.execSpin sm l a b t u s
  | .sunpin sm l a b t u => Sys2Proof.Machine.execSunpin sm l a b t u s
  | .jopen sm l d a b t u => Sys2Proof.Machine.execJopen sm l d a b t u s
  | .jwait sm l d a t => Sys2Proof.Machine.execJwait sm l d a t s
  | .jpoll sm l d a b t u => Sys2Proof.Machine.execJpoll sm l d a b t u s
  | .jclose sm l a b t u => Sys2Proof.Machine.execJclose sm l a b t u s
  | .wopen sm l d a t => Sys2Proof.Machine.execWopen sm l d a t s
  | .wsumI sm l a b t u => Sys2Proof.Machine.execWsumI sm l a b t u s
  | .wsumF sm l a b t u => Sys2Proof.Machine.execWsumF sm l a b t u s
  | .wmaxvI sm l a b t u => Sys2Proof.Machine.execWmaxvI sm l a b t u s
  | .wmaxvF sm l a b t u => Sys2Proof.Machine.execWmaxvF sm l a b t u s
  | .wminvI sm l a b t u => Sys2Proof.Machine.execWminvI sm l a b t u s
  | .wminvF sm l a b t u => Sys2Proof.Machine.execWminvF sm l a b t u s
  | .wmax sm l a b t u => Sys2Proof.Machine.execWmax sm l a b t u s
  | .replay sm l d a t => Sys2Proof.Machine.execReplay sm l d a t s
  | .tlbinv sm l a b t u => Sys2Proof.Machine.execTlbinv sm l a b t u s
  | .cflip sm l a t => Sys2Proof.Machine.execCflip sm l a t s
  | .mtrd sm l d a b t u => Sys2Proof.Machine.execMtrd sm l d a b t u s
  | .lui sm l d k => Sys2Proof.Machine.execLui sm l d k s
  | .luiSh sm l d k => Sys2Proof.Machine.execLuiSh sm l d k s
  | .lnch sm l d a t => Sys2Proof.Machine.execLnch sm l d a t s
  | .lnchPoll sm l d a t => Sys2Proof.Machine.execLnchPoll sm l d a t s
  | .lnchWait sm l d a t => Sys2Proof.Machine.execLnchWait sm l d a t s
  | .add sm d a b t u x => Sys2Proof.Machine.execAdd sm d a b t u x s
  | .sub sm d a b t u x => Sys2Proof.Machine.execSub sm d a b t u x s
  | .and sm d a b t u x => Sys2Proof.Machine.execAnd sm d a b t u x s
  | .or sm d a b t u x => Sys2Proof.Machine.execOr sm d a b t u x s
  | .xor sm d a b t u x => Sys2Proof.Machine.execXor sm d a b t u x s
  | .andn sm d a b t u x => Sys2Proof.Machine.execAndn sm d a b t u x s
  | .sll sm d a b t u x => Sys2Proof.Machine.execSll sm d a b t u x s
  | .srl sm d a b t u x => Sys2Proof.Machine.execSrl sm d a b t u x s
  | .sra sm d a b t u x => Sys2Proof.Machine.execSra sm d a b t u x s
  | .ror sm d a b t u x => Sys2Proof.Machine.execRor sm d a b t u x s
  | .slt sm d a b t u x => Sys2Proof.Machine.execSlt sm d a b t u x s
  | .sltu sm d a b t u x => Sys2Proof.Machine.execSltu sm d a b t u x s
  | .min sm d a b t u x => Sys2Proof.Machine.execMin sm d a b t u x s
  | .max sm d a b t u x => Sys2Proof.Machine.execMax sm d a b t u x s
  | .minu sm d a b t u x => Sys2Proof.Machine.execMinu sm d a b t u x s
  | .maxu sm d a b t u x => Sys2Proof.Machine.execMaxu sm d a b t u x s
  | .mul sm d a b t u x => Sys2Proof.Machine.execMul sm d a b t u x s
  | .mulh sm d a b t u => Sys2Proof.Machine.execMulh sm d a b t u s
  | .mulhu sm d a b t u => Sys2Proof.Machine.execMulhu sm d a b t u s
  | .div sm d a b t u x => Sys2Proof.Machine.execDiv sm d a b t u x s
  | .divu sm d a b t u x => Sys2Proof.Machine.execDivu sm d a b t u x s
  | .rem sm d a b t u x => Sys2Proof.Machine.execRem sm d a b t u x s
  | .remu sm d a b t u x => Sys2Proof.Machine.execRemu sm d a b t u x s
  | .adds sm d a b t u x => Sys2Proof.Machine.execAdds sm d a b t u x s
  | .subs sm d a b t u x => Sys2Proof.Machine.execSubs sm d a b t u x s
  | .clz sm d a t x => Sys2Proof.Machine.execClz sm d a t x s
  | .ctz sm d a t x => Sys2Proof.Machine.execCtz sm d a t x s
  | .popc sm d a t x => Sys2Proof.Machine.execPopc sm d a t x s
  | .wfld sm d a b t u => Sys2Proof.Machine.execWfld sm d a b t u s
  | .chkb sm d a b t u => Sys2Proof.Machine.execChkb sm d a b t u s
  | .addi sm d a t im => Sys2Proof.Machine.execAddi sm d a t im s
  | .andi sm d a t im => Sys2Proof.Machine.execAndi sm d a t im s
  | .ori sm d a t im => Sys2Proof.Machine.execOri sm d a t im s
  | .xori sm d a t im => Sys2Proof.Machine.execXori sm d a t im s
  | .slti sm d a t im => Sys2Proof.Machine.execSlti sm d a t im s
  | .slli sm d a t w c => Sys2Proof.Machine.execSlli sm d a t w c s
  | .srli sm d a t w c => Sys2Proof.Machine.execSrli sm d a t w c s
  | .srai sm d a t w c => Sys2Proof.Machine.execSrai sm d a t w c s
  | .rori sm d a t w c => Sys2Proof.Machine.execRori sm d a t w c s
  | .sel sm d a b c t u v => Sys2Proof.Machine.execSel sm d a b c t u v s
  | .selN sm d a b c t u v => Sys2Proof.Machine.execSelN sm d a b c t u v s
  | .fadd sm d a b t u => Sys2Proof.Machine.execFadd sm d a b t u s
  | .fsub sm d a b t u => Sys2Proof.Machine.execFsub sm d a b t u s
  | .fmul sm d a b t u => Sys2Proof.Machine.execFmul sm d a b t u s
  | .fdiv sm d a b t u => Sys2Proof.Machine.execFdiv sm d a b t u s
  | .fmin sm d a b t u => Sys2Proof.Machine.execFmin sm d a b t u s
  | .fmax sm d a b t u => Sys2Proof.Machine.execFmax sm d a b t u s
  | .fsqrt sm d a t => Sys2Proof.Machine.execFsqrt sm d a t s
  | .fabs sm d a t => Sys2Proof.Machine.execFabs sm d a t s
  | .fneg sm d a t => Sys2Proof.Machine.execFneg sm d a t s
  | .fsgnj sm d a b t u => Sys2Proof.Machine.execFsgnj sm d a b t u s
  | .feq sm d a b t u => Sys2Proof.Machine.execFeq sm d a b t u s
  | .flt sm d a b t u => Sys2Proof.Machine.execFlt sm d a b t u s
  | .fle sm d a b t u => Sys2Proof.Machine.execFle sm d a b t u s
  | .fclass sm d a t => Sys2Proof.Machine.execFclass sm d a t s
  | .fmvXf sm d a t => Sys2Proof.Machine.execFmvXf sm d a t s
  | .fmvFx sm d a t => Sys2Proof.Machine.execFmvFx sm d a t s
  | .fmadd sm d a b c t u v => Sys2Proof.Machine.execFmadd sm d a b c t u v s
  | .fmsub sm d a b c t u v => Sys2Proof.Machine.execFmsub sm d a b c t u v s
  | .fcvtFI sm d a t => Sys2Proof.Machine.execFcvtFI sm d a t s
  | .fcvtFU sm d a t => Sys2Proof.Machine.execFcvtFU sm d a t s
  | .fcvtIF sm d a t => Sys2Proof.Machine.execFcvtIF sm d a t s
  | .fcvtUF sm d a t => Sys2Proof.Machine.execFcvtUF sm d a t s
  | .fcvtHF sm d a t => Sys2Proof.Machine.execFcvtHF sm d a t s
  | .fcvtFH sm d a t => Sys2Proof.Machine.execFcvtFH sm d a t s
  | .fcvtBF sm d a t => Sys2Proof.Machine.execFcvtBF sm d a t s
  | .fcvtFB sm d a t => Sys2Proof.Machine.execFcvtFB sm d a t s
  | .fcvtT8F sm d a t => Sys2Proof.Machine.execFcvtT8F sm d a t s
  | .fcvtFT8 sm d a t => Sys2Proof.Machine.execFcvtFT8 sm d a t s
  | .fcvtT4F sm d a t => Sys2Proof.Machine.execFcvtT4F sm d a t s
  | .fcvtFT4 sm d a t => Sys2Proof.Machine.execFcvtFT4 sm d a t s
  | .vadd sm d a b m y => Sys2Proof.Machine.execVadd sm d a b m y s
  | .vsub sm d a b m y => Sys2Proof.Machine.execVsub sm d a b m y s
  | .vadds sm d a b m y => Sys2Proof.Machine.execVadds sm d a b m y s
  | .vsubs sm d a b m y => Sys2Proof.Machine.execVsubs sm d a b m y s
  | .vmul sm d a b m y => Sys2Proof.Machine.execVmul sm d a b m y s
  | .vmin sm d a b m y => Sys2Proof.Machine.execVmin sm d a b m y s
  | .vmax sm d a b m y => Sys2Proof.Machine.execVmax sm d a b m y s
  | .vsh sm d a b m y => Sys2Proof.Machine.execVsh sm d a b m y s
  | .vand sm d a b m => Sys2Proof.Machine.execVand sm d a b m s
  | .vor sm d a b m => Sys2Proof.Machine.execVor sm d a b m s
  | .vxor sm d a b m => Sys2Proof.Machine.execVxor sm d a b m s
  | .vandn sm d a b m => Sys2Proof.Machine.execVandn sm d a b m s
  | .vnot sm d a m => Sys2Proof.Machine.execVnot sm d a m s
  | .vmov sm d a m => Sys2Proof.Machine.execVmov sm d a m s
  | .vfadd sm d a b m f => Sys2Proof.Machine.execVfadd sm d a b m f s
  | .vfsub sm d a b m f => Sys2Proof.Machine.execVfsub sm d a b m f s
  | .vfmul sm d a b m f => Sys2Proof.Machine.execVfmul sm d a b m f s
  | .vfdiv sm d a b m f => Sys2Proof.Machine.execVfdiv sm d a b m f s
  | .vfmin sm d a b m f => Sys2Proof.Machine.execVfmin sm d a b m f s
  | .vfmax sm d a b m f => Sys2Proof.Machine.execVfmax sm d a b m f s
  | .vfabs sm d a m f => Sys2Proof.Machine.execVfabs sm d a m f s
  | .vfneg sm d a m f => Sys2Proof.Machine.execVfneg sm d a m f s
  | .vfmadd sm d a b m f => Sys2Proof.Machine.execVfmadd sm d a b m f s
  | .vfmsub sm d a b m f => Sys2Proof.Machine.execVfmsub sm d a b m f s
  | .vfnmadd sm d a b m f => Sys2Proof.Machine.execVfnmadd sm d a b m f s
  | .vfnmsub sm d a b m f => Sys2Proof.Machine.execVfnmsub sm d a b m f s
  | .vfdot2 sm d a b m f => Sys2Proof.Machine.execVfdot2 sm d a b m f s
  | .vrsum sm d a m y => Sys2Proof.Machine.execVrsum sm d a m y s
  | .vrmax sm d a m y => Sys2Proof.Machine.execVrmax sm d a m y s
  | .vrmin sm d a m y => Sys2Proof.Machine.execVrmin sm d a m y s
  | .vrargmax sm d a m y => Sys2Proof.Machine.execVrargmax sm d a m y s
  | .vrargmin sm d a m y => Sys2Proof.Machine.execVrargmin sm d a m y s
  | .vrband sm d a m y => Sys2Proof.Machine.execVrband sm d a m y s
  | .vrbor sm d a m y => Sys2Proof.Machine.execVrbor sm d a m y s
  | .vrbxor sm d a m y => Sys2Proof.Machine.execVrbxor sm d a m y s
  | .vperm sm d a b m y => Sys2Proof.Machine.execVperm sm d a b m y s
  | .vbcast sm d a m y => Sys2Proof.Machine.execVbcast sm d a m y s
  | .vbcastx sm d a m y => Sys2Proof.Machine.execVbcastx sm d a m y s
  | .vrot sm d a b m y => Sys2Proof.Machine.execVrot sm d a b m y s
  | .vcomp sm d a m y => Sys2Proof.Machine.execVcomp sm d a m y s
  | .vexpd sm d a m y => Sys2Proof.Machine.execVexpd sm d a m y s
  | .vinsx sm d a b y => Sys2Proof.Machine.execVinsx sm d a b y s
  | .vextx sm d a b y => Sys2Proof.Machine.execVextx sm d a b y s
  | .vcmpEq sm d a b m y => Sys2Proof.Machine.execVcmpEq sm d a b m y s
  | .vcmpNe sm d a b m y => Sys2Proof.Machine.execVcmpNe sm d a b m y s
  | .vcmpLt sm d a b m y => Sys2Proof.Machine.execVcmpLt sm d a b m y s
  | .vcmpLe sm d a b m y => Sys2Proof.Machine.execVcmpLe sm d a b m y s
  | .vcmpGt sm d a b m y => Sys2Proof.Machine.execVcmpGt sm d a b m y s
  | .vcmpGe sm d a b m y => Sys2Proof.Machine.execVcmpGe sm d a b m y s
  | .vcmpUnord sm d a b m => Sys2Proof.Machine.execVcmpUnord sm d a b m s
  | .vcvtFi sm d a m y => Sys2Proof.Machine.execVcvtFi sm d a m y s
  | .vcvtIf sm d a m y => Sys2Proof.Machine.execVcvtIf sm d a m y s
  | .vcvtNar sm d a b m y => Sys2Proof.Machine.execVcvtNar sm d a b m y s
  | .vcvtWid sm d a q m y => Sys2Proof.Machine.execVcvtWid sm d a q m y s
  | .vcvtEt8 sm d a q m => Sys2Proof.Machine.execVcvtEt8 sm d a q m s
  | .vcvtDt8 sm d a q m => Sys2Proof.Machine.execVcvtDt8 sm d a q m s
  | .vcvtEt4 sm d a q m => Sys2Proof.Machine.execVcvtEt4 sm d a q m s
  | .vcvtDt4 sm d a q m => Sys2Proof.Machine.execVcvtDt4 sm d a q m s
  | .vexp2 sm d a m f => Sys2Proof.Machine.execVexp2 sm d a m f s
  | .vlog2 sm d a m f => Sys2Proof.Machine.execVlog2 sm d a m f s
  | .vrcp sm d a m f => Sys2Proof.Machine.execVrcp sm d a m f s
  | .vrsqrt sm d a m f => Sys2Proof.Machine.execVrsqrt sm d a m f s
  | .vsqrt sm d a m f => Sys2Proof.Machine.execVsqrt sm d a m f s
  | .vtanh sm d a m f => Sys2Proof.Machine.execVtanh sm d a m f s
  | .vsigm sm d a m f => Sys2Proof.Machine.execVsigm sm d a m f s
  | .vgelu sm d a m f => Sys2Proof.Machine.execVgelu sm d a m f s
  | .mand sm d a b => Sys2Proof.Machine.execMand sm d a b s
  | .mor sm d a b => Sys2Proof.Machine.execMor sm d a b s
  | .mxor sm d a b => Sys2Proof.Machine.execMxor sm d a b s
  | .mandn sm d a b => Sys2Proof.Machine.execMandn sm d a b s
  | .mnot sm d a => Sys2Proof.Machine.execMnot sm d a s
  | .mfirst sm d a => Sys2Proof.Machine.execMfirst sm d a s
  | .mfromx sm d a => Sys2Proof.Machine.execMfromx sm d a s
  | .mtox sm d a => Sys2Proof.Machine.execMtox sm d a s
  | .mmaH sm c k z a b f r => Sys2Proof.Machine.execMmaH sm c k z a b f r s
  | .mmaB sm c k z a b f r => Sys2Proof.Machine.execMmaB sm c k z a b f r s
  | .mmaT8 sm c k z a b f r => Sys2Proof.Machine.execMmaT8 sm c k z a b f r s
  | .mmaT84 sm c k z a b f r => Sys2Proof.Machine.execMmaT84 sm c k z a b f r s
  | .mmaT4 sm c k z a b f r => Sys2Proof.Machine.execMmaT4 sm c k z a b f r s
  | .mmaI8 sm c k z a b t => Sys2Proof.Machine.execMmaI8 sm c k z a b t s
  | .mzero sm d => Sys2Proof.Machine.execMzero sm d s
  | .medge sm a t => Sys2Proof.Machine.execMedge sm a t s
  | .mrowr sm d a b u => Sys2Proof.Machine.execMrowr sm d a b u s
  | .mroww sm d a b t u => Sys2Proof.Machine.execMroww sm d a b t u s
  | .hbind sm d a b t => Sys2Proof.Machine.execHbind sm d a b t s
  | .hperm sm d a t im => Sys2Proof.Machine.execHperm sm d a t im s
  | .hnot sm d a t => Sys2Proof.Machine.execHnot sm d a t s
  | .hmov sm d a t => Sys2Proof.Machine.execHmov sm d a t s
  | .hbundle sm a b t => Sys2Proof.Machine.execHbundle sm a b t s
  | .hclr sm b => Sys2Proof.Machine.execHclr sm b s
  | .hthr sm d a b t => Sys2Proof.Machine.execHthr sm d a b t s
  | .hdist sm a b t d => Sys2Proof.Machine.execHdist sm a b t d s
  | .hpop sm a t d => Sys2Proof.Machine.execHpop sm a t d s
  | .noise sm d a b m => Sys2Proof.Machine.execNoise sm d a b m s
  | .chash sm d a b => Sys2Proof.Machine.execChash sm d a b s
  | .chashLd sm d b => Sys2Proof.Machine.execChashLd sm d b s
  | .chashSt sm a b => Sys2Proof.Machine.execChashSt sm a b s
  | .hrand sm d a => Sys2Proof.Machine.execHrand sm d a s
  | .rseed sm a => Sys2Proof.Machine.execRseed sm a s
  | .rbits sm d => Sys2Proof.Machine.execRbits sm d s
  | .spoutPortPush c a => Sys2Proof.Machine.execSpoutPortPush c a s
  | .longLatencyWrite c n => Sys2Proof.Machine.execLongLatencyWrite c n s
  | .slotFillComplete core slot => Sys2Proof.Machine.execSlotFillComplete core slot s
  | .postedStoreAck c n => Sys2Proof.Machine.execPostedStoreAck c n s
  | .waitaWake c => Sys2Proof.Machine.execWaitaWake c s
  | .haltComplete c => Sys2Proof.Machine.execHaltComplete c s
  | .batchWindowExpiry g kid layer => Sys2Proof.Machine.execBatchWindowExpiry g kid layer s
  | .layerTaskStart c => Sys2Proof.Machine.execLayerTaskStart c s
  | .backgroundSpill g => Sys2Proof.Machine.execBackgroundSpill g s
  | .spillComplete g entry => Sys2Proof.Machine.execSpillComplete g entry s
  | .reloadComplete g entry => Sys2Proof.Machine.execReloadComplete g entry s
  | .seedPacketArrival a => Sys2Proof.Machine.execSeedPacketArrival a s
  | .seedAck a => Sys2Proof.Machine.execSeedAck a s
  | .forwardingExpiry g n => Sys2Proof.Machine.execForwardingExpiry g n s
  | .remoteStreamRequest a => Sys2Proof.Machine.execRemoteStreamRequest a s
  | .remoteReply a => Sys2Proof.Machine.execRemoteReply a s
  | .familyReport a => Sys2Proof.Machine.execFamilyReport a s
  | .joinDeadline g n => Sys2Proof.Machine.execJoinDeadline g n s
  | .retireOrder a => Sys2Proof.Machine.execRetireOrder a s
  | .remoteJoinRequest a => Sys2Proof.Machine.execRemoteJoinRequest a s
  | .messageArrival a => Sys2Proof.Machine.execMessageArrival a s
  | .timetableRelease die e => Sys2Proof.Machine.execTimetableRelease die e s
  | .contributionArrival a => Sys2Proof.Machine.execContributionArrival a s
  | .cbrResult c => Sys2Proof.Machine.execCbrResult c s
  | .roundTimeout group => Sys2Proof.Machine.execRoundTimeout group s
  | .copyStart g n => Sys2Proof.Machine.execCopyStart g n s
  | .copyComplete g n => Sys2Proof.Machine.execCopyComplete g n s
  | .cancelAck g n => Sys2Proof.Machine.execCancelAck g n s
  | .whiskContributionArrival a => Sys2Proof.Machine.execWhiskContributionArrival a s
  | .remoteMemoryRequest r => Sys2Proof.Machine.execRemoteMemoryRequest r s
  | .hostAtomicUr c => Sys2Proof.Machine.execHostAtomicUr c s
  | .pageMigration vf va src dst bytes ptes => Sys2Proof.Machine.execPageMigration vf va src dst bytes ptes s
  | .retryFaultLaunch g tag => Sys2Proof.Machine.execRetryFaultLaunch g tag s
  | .pageService c ptes resolved => Sys2Proof.Machine.execPageService c ptes resolved s
  | .setvec c => Sys2Proof.Machine.execSetvec c s
  | .event c => Sys2Proof.Machine.execEvent c s
  | .replyTimeout c => Sys2Proof.Machine.execReplyTimeout c s
  | .ackLost c n => Sys2Proof.Machine.execAckLost c n s
  | .selfTestComplete u pass => Sys2Proof.Machine.execSelfTestComplete u pass s
  | .deadlockScan => Sys2Proof.Machine.execDeadlockScan s
  | .schedulingPass plan => Sys2Proof.Machine.execSchedulingPass plan s
  | .gangReservation launch => Sys2Proof.Machine.execGangReservation launch s
  | .infusionComplete die launch => Sys2Proof.Machine.execInfusionComplete die launch s
  | .taskStart c => Sys2Proof.Machine.execTaskStart c s
  | .gangSwitchPost p t cut => Sys2Proof.Machine.execGangSwitchPost p t cut s
  | .gangSwitchStop p => Sys2Proof.Machine.execGangSwitchStop p s
  | .partitionSave p next => Sys2Proof.Machine.execPartitionSave p next s
  | .partitionResume p place => Sys2Proof.Machine.execPartitionResume p place s
  | .cutEvaluation p others => Sys2Proof.Machine.execCutEvaluation p others s
  | .heartbeat missed => Sys2Proof.Machine.execHeartbeat missed s
  | .domainRecovery failed standby => Sys2Proof.Machine.execDomainRecovery failed standby s
  | .linkFailure port => Sys2Proof.Machine.execLinkFailure port s
  | .submit vf addr => Sys2Proof.Machine.execSubmit vf addr s
  | .statusq vf lid => Sys2Proof.Machine.execStatusq vf lid s
  | .evtail vf val => Sys2Proof.Machine.execEvtail vf val s
  | .vfRegisterWrite w => Sys2Proof.Machine.execVfRegisterWrite w s
  | .bar2Read vf va size => Sys2Proof.Machine.execBar2Read vf va size s
  | .bar2Write vf va bytes => Sys2Proof.Machine.execBar2Write vf va bytes s
  | .regionRegister r => Sys2Proof.Machine.execRegionRegister r s
  | .regionDeregister region nonce sig => Sys2Proof.Machine.execRegionDeregister region nonce sig s
  | .meterReportRequest vf region nonce => Sys2Proof.Machine.execMeterReportRequest vf region nonce s
  | .handover r => Sys2Proof.Machine.execHandover r s
  | .mailboxAttest vf nonce => Sys2Proof.Machine.execMailboxAttest vf nonce s
  | .okeySet vf key => Sys2Proof.Machine.execOkeySet vf key s
  | .homeDescriptorSet vf idx val => Sys2Proof.Machine.execHomeDescriptorSet vf idx val s
  | .stashSizeSet vf core kib => Sys2Proof.Machine.execStashSizeSet vf core kib s
  | .ceilingPersist region isBytes => Sys2Proof.Machine.execCeilingPersist region isBytes s
  | .sensors => Sys2Proof.Machine.execSensors s
  | .fences => Sys2Proof.Machine.execFences s
  | .attest nonce => Sys2Proof.Machine.execAttest nonce s
  | .meter region nonce => Sys2Proof.Machine.execMeter region nonce s
  | .powercap watts => Sys2Proof.Machine.execPowercap watts s
  | .debugAttach vf infuse => Sys2Proof.Machine.execDebugAttach vf infuse s
  | .debugDetach vf => Sys2Proof.Machine.execDebugDetach vf s
  | .deploy val sig => Sys2Proof.Machine.execDeploy val sig s
  | .reset => Sys2Proof.Machine.execReset s
  | .firmwareStage f => Sys2Proof.Machine.execFirmwareStage f s
  | .powerGood => Sys2Proof.Machine.execPowerGood s
  | .stage1 failed => Sys2Proof.Machine.execStage1 failed s
  | .stage2 failed => Sys2Proof.Machine.execStage2 failed s
  | .stageTimeout => Sys2Proof.Machine.execStageTimeout s
  | .railFault rail => Sys2Proof.Machine.execRailFault rail s
  | .thermalThrottle temps watts => Sys2Proof.Machine.execThermalThrottle temps watts s
  | .dieOvertemp die => Sys2Proof.Machine.execDieOvertemp die s
  | .dieCooled die failed => Sys2Proof.Machine.execDieCooled die failed s
  | .homeSlicePerform c => Sys2Proof.Machine.execHomeSlicePerform c s
  | .podRequestServed g => Sys2Proof.Machine.execPodRequestServed g s
  | .uncorrectableError at_ => Sys2Proof.Machine.execUncorrectableError at_ s
  | .correctedError u => Sys2Proof.Machine.execCorrectedError u s
  | .hostAgentAccess a => Sys2Proof.Machine.execHostAgentAccess a s
  | .expanderLinkDown port => Sys2Proof.Machine.execExpanderLinkDown port s
  | .orderlyShutdown => Sys2Proof.Machine.execOrderlyShutdown s
  | .mappingChange vf va ptes => Sys2Proof.Machine.execMappingChange vf va ptes s
  | .debuggerResume c => Sys2Proof.Machine.execDebuggerResume c s

end Sys2Proof.Machine
end

