-- ==== Sys2Proof/Machine/Pair.lean ====
section
/-! DEFINITION. How the two words of a pair run as one issue unit (R40 to R45), and one issue turn of a context: the deferred
machine check (R399), the breakpoints (R398), the unit formed and executed. -/

namespace Sys2Proof.Machine

/-! Pairs (R41 to R44) -/

/-- Full/empty or poison bits after a pair: those that the C word changed, over those that the A word left. -/
def mergeBits {n : Nat} (old c a : BitVec n) : BitVec n :=
  let d := old ^^^ c
  (c &&& d) ||| (a &&& ~~~d)

/-- The registers after a pair: each word has read those before it and written its own (R41, R42); the flags that the A word
raised are added to those that the C word leaves (R42), and Rooibos draws are taken C word first. -/
def Regs.mergePair (old c a : Regs) : Regs :=
  let r : Regs :=
    { x := tabMerge 0 old.x c.x a.x
      f := tabMerge 0 old.f c.f a.f
      v := tabMerge 0 old.v c.v a.v
      m := tabMerge 0xFFFF old.m c.m a.m
      h := tabMerge 0 old.h c.h a.h
      b := tabMerge 0 old.b c.b a.b
      acc := tabMerge 0 old.acc c.acc a.acc
      xE := mergeBits old.xE c.xE a.xE
      fE := mergeBits old.fE c.fE a.fE
      vE := mergeBits old.vE c.vE a.vE
      hE := mergeBits old.hE c.hE a.hE
      xP := mergeBits old.xP c.xP a.xP
      fP := mergeBits old.fP c.fP a.fP
      vP := mergeBits old.vP c.vP a.vP
      hP := mergeBits old.hP c.hP a.hP
      csr := tabMerge 0 old.csr c.csr a.csr
      rhi := a.rhi
      rlo := a.rlo
      ct8 := c.ct8
      ct4 := c.ct4
      pc := old.pc }
  r.setCsr csrFFLAGS (c.csrAt csrFFLAGS ||| a.csrAt csrFFLAGS)

/-- The state in which the A word of a pair executes, after its C word: the registers and operand slots as they stood before
the pair (R41). -/
def State.forA (s2 s3 : State) : State :=
  let r := { s2.regs with rhi := s3.regs.rhi, rlo := s3.regs.rlo }
  { s3.setRegs (r.setCsr csrFFLAGS 0) with
    unit := { s3.unit with mode := 2, ended := .none, slots := some (s2.core (coreOf s2.cur)).slots } }

/-- A trap of one word of a pair: the pair has no effect (R44). -/
def State.pairTrap (s : State) (r : TrapRec) : State :=
  { (s.setMe { s.me with pend := none }).takeTrap s.cur r with unit := {} }

/-- What a word that neither retired nor sent an operation does to its pair (R44); none for one that did. -/
def State.pairStops (s : State) : WordEnd → Option State
  | .trap r => some (s.pairTrap r)
  | .wait on => some (s.waitsOn on)
  | .stall g p => some (s.startReload g p).waits
  | _ => none

/-- The A word, which may trap by itself (R45 row 9), executed after the C word, which left `s3`; `k` goes on where it
retired. -/
def runA (s s2 s3 : State) (a : Instr) (k : State → Out) : Out :=
  match s3.unit.late with
  | some y => .next (s.traps y true)
  | none =>
    match exec a (s2.forA s3) with
    | .next s4 =>
      match s.pairStops s4.unit.ended with
      | some t => .next t
      | none => k s4
    | r => r

/-- The pushes of the C word made, before the A word (R45 row 9); `k` goes on with the state after them. Those of a word whose
operation has been performed are made with the A word's. -/
def pushC (s s3 : State) (k : State → Out) : Out :=
  if s.performed then k s3
  else
    match s3.doPushes s.me.pend (pushPlace false) s3.unit.pushes with
    | .ok _ s4 => k s4
    | .trap y => .next (s.traps y false)
    | .wait => .next s.waits
    | .read l a => .next (s.readsDesc s3.unit (pushPlace false) l a)

/-- A pair that retires: its registers merged, its pushes made, its end taken (R25, R26, R44). -/
def State.pairEnds (s s2 s3 s4 : State) (w : Bool × Bool) (jump : Option Word) : State :=
  s.makePushes (s4.setRegs (s2.regs.mergePair s3.regs s4.regs)) true (fun t => s.endUnit t.doPops w jump)

/-- The A word's pushes tried before the operation of the C word is sent, which can then not be undone (R44); `k` goes on. -/
def State.tryPushes (s s4 : State) (k : State → Out) : Out :=
  match s4.doPushes s.me.pend (pushPlace true) s4.unit.pushes with
  | .ok _ s5 => k s5
  | .trap y => .next (s.traps y true)
  | .wait => .next s.waits
  | .read l a => .next (s.readsDesc s4.unit (pushPlace true) l a)

/-- A pair executed (R44): both words or neither. A C word whose operation must complete first is sent only when the A word
would retire. -/
def runPair (s : State) (c a : Instr) : Out :=
  let s1 := { s with unit := { mode := 1 } }
  match s1.gate [(cSig c, false), (aSigOf a, true)] with
  | .trap w aw => .next (s1.traps w aw)
  | .wait on => .next (s1.waitsOn on)
  | .go s2 =>
    match exec c s2 with
    | .next s3 =>
      match s.pairStops s3.unit.ended with
      | some t => .next t
      | none =>
        match s3.unit.ended with
        | .hold =>
          runA s s2 { s3 with unit := { s3.unit with pushes := [] } } a (fun s4 => s.tryPushes s4 (fun _ => .next (s3.holdsAfter s)))
        | .quit =>
          runA s s2 s2 a (fun s4 => s.tryPushes s4 (fun s5 =>
            match exec c { s5.doPops.setRegs s2.regs with unit := s2.unit } with
            | .next s6 => .next { s6 with unit := {} }
            | r => r))
        | .jump t => pushC s s3 (fun r => runA s s2 r a (fun s4 => .next (s.pairEnds s2 r s4 (cSig c).loops (some t))))
        | _ => pushC s s3 (fun r => runA s s2 r a (fun s4 => .next (s.pairEnds s2 r s4 (cSig c).loops none)))
    | r => r

/-! One issue turn -/

/-- The lowest armed breakpoint at the address of the unit at the PC of context `c`; in residual code its word's original
address, and none for an inserted word (R398, R232). -/
def State.breakpoint (s : State) (c : Nat) : Option Nat :=
  let x := s.ctx c
  if x.regs.hm || x.skipBkp || x.pend.isSome then none
  else
    let (src, _, ins) := s.sourceOf c x.regs.pc
    if ins then none
    else
      (upFrom 0 4).find? (fun n =>
        let b := (x.regs.csrAt (csrBKP0 + n)).toNat
        bitAt b 63 && fld b 2 50 == fld src.toNat 2 50)

/-- The unit at the PC of the current context executed. -/
noncomputable def State.runFetched (s : State) : Out :=
  match s.formUnit with
  | .lone i s1 => exec i s1
  | .pair c a s1 => runPair s1 c a
  | .trap w aw => .next (s.traps w aw)

/-- The words of the unit whose operation is pending, which have been fetched. -/
def State.heldWords (s : State) : List Instr :=
  match s.me.pend with
  | some p => if p.words.all Instr.wf then p.words else []
  | none => []

/-- The unit of the current context executed: the words of a unit whose operation is pending, or those at the PC. -/
noncomputable def State.runUnit (s : State) : Out :=
  match s.heldWords with
  | [i] => exec i s
  | [c, a] => runPair s c a
  | _ => s.runFetched

/-- The words of the unit of the current context, kept while its operation is pending. -/
noncomputable def State.unitWords (s : State) : List Instr :=
  match s.heldWords with
  | i :: t => i :: t
  | [] =>
    match s.formUnit with
    | .lone i _ => [i]
    | .pair c a _ => [c, a]
    | .trap _ _ => []

/-- The words noted in an operation that the unit has left pending. -/
def Ctx.noteWords (ws : List Instr) (x : Ctx) : Ctx :=
  { x with pend := x.pend.map (fun (p : Pend) => { p with words := ws }) }

/-- Every context that waits may try its unit again (R209). -/
def State.wakeAll (s : State) : State :=
  { s with ctxs := s.ctxs.map (fun (p : Nat × Ctx) => (p.1, if p.2.wait = 2 then { p.2 with wait := 1 } else p.2)) }

/-- After a turn of context `c`: a unit that only waits changes nothing for the others. -/
def State.afterTurn (s0 s : State) (c : Nat) : State :=
  if (s.ctx c).wait = 2 ∧ ((s.ctx c).pend.map (·.since)) = ((s0.ctx c).pend.map (·.since)) then s else s.wakeAll

/-- Context `c` takes its issue turn: what it owes is void, and no YIELD waits for it any more (R120). -/
def State.tookTurn (s : State) (c : Nat) : State :=
  let s1 := s.setCtx c { s.ctx c with owed := [] }
  { s1 with ctxs := s1.ctxs.map (fun (p : Nat × Ctx) =>
      (p.1, if p.2.owed.contains c then { p.2 with owed := p.2.owed.filter (· != c) } else p.2)) }

/-- Context `c` takes an issue turn (R209): a deferred machine check before its next unit (R399), a breakpoint (R398), or the
unit itself. -/
noncomputable def State.turn (s : State) (c : Nat) : Out :=
  let k := coreOf c
  let s0 := { (s.tookTurn c).setCore k { s.core k with turn := c % 4 } with cur := c, unit := {} }
  let x := s0.me
  let halts : Bool := match x.pend with
    | none => true
    | some p => (match p.op with
      | .halt _ => true
      | _ => false)
  match (if halts then x.mce.head? else none) with
  | some (va, u) =>
    .next { (({ s0.setMe { x with mce := x.mce.drop 1, pend := none } with unit := {} }.takeTrap c
      { cause := cMCE, tval := va, epc := x.regs.pc, dfr := true, unit := u, acc := accCode .load }).wakeAll) with unit := {} }
  | none =>
    match s0.breakpoint c with
    | some n => .next { (s0.takeTrap c { cause := cBREAK, tval := natW (n + 1), epc := x.regs.pc }).wakeAll with unit := {} }
    | none =>
      match s0.runUnit with
      | .next t =>
        let t1 := if (t.ctx c).pend.isSome ∧ (t.ctx c).status = .run then t.setCtx c ((t.ctx c).noteWords s0.unitWords) else t
        .next (s0.afterTurn t1 c)
      | r => r

end Sys2Proof.Machine
end

