-- ==== Sys2Proof/Machine/Sched.lean ====
section
/-! DEFINITION. What the machine may do next (R209, log entry 6): issue turns of the contexts that are ready, and the events that
the device itself brings about. Events that need data or a decision from outside come from the agenda. -/

namespace Sys2Proof.Machine

/-! Issue turns (R29, R120, R209) -/

/-- A context may issue: it runs, does not wait, holds no trap (R258), lies on units that work (R402, R403, R475), and its
partition has not stopped (R413). -/
def State.mayIssue (s : State) (c : Nat) : Bool :=
  let x := s.ctx c
  let k := s.core (coreOf c)
  let g := s.grove (groveOf c)
  x.status == .run && x.wait != 2 && x.spec.all (·.trap.isNone) && !k.fenced && !k.testing && !g.testing && !(s.die (dieOf c)).stopped &&
  (match s.partOf (groveOf c) with
   | some p => s.partRuns (tabGet {} s.parts p)
   | none => true)

/-- The context of a core whose turn it is: round-robin; one that has yielded waits for every other ready context's turn (R120,
R209). -/
def State.pick (s : State) (k : Nat) : Option Nat :=
  let rs := ((upFrom 1 4).map (fun j => 4 * k + ((s.core k).turn + j) % 4)).filter s.mayIssue
  rs.find? (fun c => (s.ctx c).owed.all (fun d => !(s.mayIssue d)))

/-- The cores that hold contexts, each once. -/
def State.usedCores (s : State) : List Nat :=
  s.ctxs.foldl (fun (r : List Nat) p => if r.contains (coreOf p.1) then r else r ++ [coreOf p.1]) []

/-! Events that the device brings about -/

/-- An event that is due by itself. -/
inductive Auto where
  | produce (c i k : Nat)
  | spoutPush (c : Nat) (a : Word)
  | fill (core slot k : Nat)
  | posted (c i k : Nat)
  | wake (c : Nat)
  | home (c : Nat)
  | halt (c : Nat)
  | timeout (c : Nat)
  | setvec (c : Nat)
  | event (c : Nat)
  | task (c : Nat)
  | layerTask (c : Nat)
  | pod (g : Nat)
  | copyStart (g n : Nat)
  | copyRead (g n : Nat)
  | copyWrite (g n i : Nat)
  | invalidated (vf : Nat)
  | moveEnd (n : Nat)
  | copyEnd (g n : Nat)
  | cancel (g n : Nat)
  | window (g kid layer : Nat)
  | spill (g : Nat)
  | spilled (g e : Nat)
  | reloaded (g e : Nat)
  | forwarding (g n : Nat)
  | deadline (g n : Nat)
  | barrier (d e : Nat)
  | packet (n : Nat) (p : Packet)
  | roundTimeout (id : Nat)
  | scan
  | pass
  | reserve (l : Nat)
  | infusion (d l : Nat)
  | stopPart (p : Nat)
  | ceiling (r : Nat) (bytes : Bool)
  deriving DecidableEq, Repr

/-- The event of a packet that has arrived. -/
def arrival (n : Nat) (p : Packet) (s : State) : Out :=
  match p with
  | .msg _ => execMessageArrival (.net n) s
  | .contrib _ => execContributionArrival (.net n) s
  | .result _ _ _ => execContributionArrival (.net n) s
  | .whisk _ => execWhiskContributionArrival (.net n) s
  | .seedCtx _ _ _ _ => execSeedPacketArrival (.net n) s
  | .seedPage _ _ _ _ _ _ _ => execSeedPacketArrival (.net n) s
  | .seedEnd _ _ _ => execSeedPacketArrival (.net n) s
  | .seedAck _ _ => execSeedAck (.net n) s
  | .report _ _ _ _ _ _ => execFamilyReport (.net n) s
  | .gone _ _ _ => execFamilyReport (.net n) s
  | .moved _ _ _ _ => execFamilyReport (.net n) s
  | .retire _ _ _ _ _ => execRetireOrder (.net n) s
  | .strmReq _ _ _ _ _ _ => execRemoteStreamRequest (.net n) s
  | .migReq _ _ _ _ _ _ _ _ _ _ _ => execRemoteStreamRequest (.net n) s
  | .migDrop _ => execRemoteStreamRequest (.net n) s
  | .endOwner _ _ => execRemoteStreamRequest (.net n) s
  | .joinReq _ _ _ _ _ _ _ => execRemoteJoinRequest (.net n) s
  | .reply _ _ _ => execRemoteReply (.net n) s
  | .migGrant _ _ _ _ _ => execRemoteReply (.net n) s
  | .forkGrant _ _ _ _ _ _ _ => execRemoteReply (.net n) s
  | .forkAsk _ _ _ _ _ _ => execFamilyReport (.net n) s
  | .forkDone _ _ _ => execFamilyReport (.net n) s
  | .subAsk _ _ _ _ _ _ => execFamilyReport (.net n) s
  | .groupAsk _ _ _ _ => execContributionArrival (.net n) s
  | .groupReply _ _ _ _ _ _ => execContributionArrival (.net n) s
  | .groupLeave _ _ _ => execContributionArrival (.net n) s
  | .groupGone _ _ => execContributionArrival (.net n) s
  | .room _ _ => execMessageArrival (.net n) s
  | .memData _ _ => .next s
  | .memAck => .next s
  | .heartbeat _ => .next s
  | .ckpt _ _ => .next s
  | .whiskAck _ _ _ => execWhiskContributionArrival (.net n) s

/-- An event that is due, executed. -/
def Auto.run (s : State) : Auto → Out
  | .produce c i k => execLongLatencyWrite c { entry := i, part := k } s
  | .spoutPush c a => execSpoutPortPush c a s
  | .fill k n j => execSlotFillComplete k { entry := n, part := j } s
  | .posted c i k => execPostedStoreAck c { entry := i, part := k } s
  | .wake c => execWaitaWake c s
  | .home c => execHomeSlicePerform c s
  | .halt c => execHaltComplete c s
  | .timeout c => execReplyTimeout c s
  | .setvec c => execSetvec c s
  | .event c => execEvent c s
  | .task c => execTaskStart { ctx := c } s
  | .layerTask c => execLayerTaskStart c s
  | .pod g => execPodRequestServed g s
  | .copyStart g n => execCopyStart g n s
  | .copyRead g n => .next (s.copyRead g n)
  | .copyWrite g n i => .next (s.copyWrite g n i)
  | .invalidated vf => .next (s.invalidated vf)
  | .moveEnd n => .next (s.endMove n)
  | .copyEnd g n => execCopyComplete g n s
  | .cancel g n => execCancelAck g n s
  | .window g kid layer => execBatchWindowExpiry g kid layer s
  | .spill g => execBackgroundSpill g s
  | .spilled g e => execSpillComplete g e s
  | .reloaded g e => execReloadComplete g e s
  | .forwarding g n => execForwardingExpiry g n s
  | .deadline g n => execJoinDeadline g n s
  | .barrier d e => execTimetableRelease d e s
  | .packet n p => arrival n p s
  | .roundTimeout id => execRoundTimeout id s
  | .scan => execDeadlockScan s
  | .pass => execSchedulingPass [] s
  | .reserve l => execGangReservation l s
  | .infusion d l => execInfusionComplete d l s
  | .stopPart p => execGangSwitchStop p s
  | .ceiling r b => execCeilingPersist r b s

/-- The numbers of the events of an access, of which there is at least one. -/
def eventsUpTo (n : Nat) : List Nat := upFrom 0 (max 1 n)

/-- Every context's events. -/
def ctxAutos (c : Nat) (x : Ctx) : List Auto :=
  ((x.prods.zip (upFrom 0 x.prods.length)).map (fun (p : Prod × Nat) =>
    (eventsUpTo p.1.src.places.length).map (fun k => Auto.produce c p.2 k))).flatten
  ++ x.prods.filterMap (fun (p : Prod) => match p.push, p.src with
      | some _, .value v => some (Auto.spoutPush c (natW v))
      | _, _ => none)
  ++ ((x.posted.zip (upFrom 0 x.posted.length)).map (fun (p : Posted × Nat) =>
    (eventsUpTo p.1.events.length).map (fun k => Auto.posted c p.2 k))).flatten
  ++ (match x.pend.map (·.op) with
      | none => []
      | some (.read _ ps) => (upFrom 0 ps.length).map (fun k => Auto.produce c x.prods.length k)
      | some (.write es) => (upFrom 0 es.length).map (fun k => Auto.produce c x.prods.length k)
      | some _ => [Auto.wake c, .home c, .halt c])
  ++ (if x.pend.isSome || x.prods != [] then [Auto.timeout c] else [])
  ++ (match x.status with
      | .service _ => [Auto.setvec c, .event c]
      | _ => [])

/-- A grove's events. -/
def groveAutos (g : Nat) (v : Grove) : List Auto :=
  (if v.podQ = [] then [] else [Auto.pod g])
  ++ ((upFrom 0 v.copies.length).map (fun n => [Auto.copyStart g n, .copyRead g n, .copyEnd g n, .cancel g n])).flatten
  ++ ((v.copies.zip (upFrom 0 v.copies.length)).map (fun (k : Copy × Nat) =>
    (upFrom 0 k.1.out.length).map (fun i => Auto.copyWrite g k.2 i))).flatten
  ++ v.streams.filterMap (fun (t : Nat × Stream) => if !t.2.parked then none else some (Auto.window g t.2.kid t.2.layer.toNat))
  ++ v.streams.filterMap (fun (t : Nat × Stream) => if t.2.st = 6 then some (Auto.forwarding g t.1) else none)
  ++ (if v.census = [] then [] else [Auto.spill g])
  ++ (v.census.map (fun (e : Nat × Census) => [Auto.spilled g e.1, .reloaded g e.1])).flatten
  ++ v.families.map (fun (f : Nat × Family) => Auto.deadline g f.1)

/-- The events that may be due. -/
def State.autos (s : State) : List Auto :=
  (s.ctxs.map (fun (p : Nat × Ctx) => ctxAutos p.1 p.2)).flatten
  ++ (s.binds.map (fun (b : Nat × Bind) => if b.2.launch.isSome then [Auto.task b.1, .layerTask b.1] else [])).flatten
  ++ (s.cores.map (fun (k : Nat × Core) => (k.2.slots.map (fun (t : Nat × Slot) =>
    match t.2.fill with
    | some f => (eventsUpTo f.1.parts.length).map (fun j => Auto.fill k.1 t.1 j) ++ t.2.owner.toList.map Auto.timeout
    | none => if t.2.busy then [Auto.fill k.1 t.1 0] else [])).flatten)).flatten
  ++ (s.groves.map (fun (g : Nat × Grove) => groveAutos g.1 g.2)).flatten
  ++ (s.dies.map (fun (d : Nat × Die) => d.2.bars.map (fun (b : Nat × List ExBar) => Auto.barrier d.1 b.1))).flatten
  ++ (s.net.zip (upFrom 0 s.net.length)).map (fun q => Auto.packet q.2 q.1)
  ++ s.groups.filterMap (fun (g : Group) => if g.got = [] then none else some (Auto.roundTimeout g.id))
  ++ (if s.scanned + 30000 ≤ s.tick then [Auto.scan] else [])
  ++ (if s.launches = [] then [] else [Auto.pass])
  ++ (s.launches.map (fun (l : Nat × Launch) => (if l.2.gang then [Auto.reserve l.1] else []) ++ l.2.infusing.map (fun d => Auto.infusion d l.1))).flatten
  ++ s.parts.filterMap (fun (p : Nat × Part) => if p.2.phase = 1 ∧ p.2.time ≤ s.tick then some (Auto.stopPart p.1) else none)
  ++ s.invals.map Auto.invalidated
  ++ (upFrom 0 s.moving.length).map Auto.moveEnd
  ++ (s.sencha.regions.map (fun (r : Nat × Region) => [Auto.ceiling r.1 false, .ceiling r.1 true])).flatten

/-- An event that changes something. -/
def State.moves (s : State) (a : Auto) : Bool :=
  match a.run s with
  | .next t => decide (t ≠ s)
  | _ => true

/-- The contexts whose round has a result that takes effect now: it does so at one TSTAMP value at all of them (R259). -/
def State.resolving (s : State) : Option Nat :=
  (s.ctxs.find? (fun (p : Nat × Ctx) => p.2.result.isSome && (match execCbrResult p.1 s with
    | .next t => decide (t ≠ s)
    | _ => true))).map (·.1)

/-! The next thing that happens -/

/-- What the machine may do next. -/
inductive Choice where
  | turn (c : Nat)
  | auto (a : Auto)
  deriving DecidableEq, Repr

/-- Every issue turn and every event that is due; the order among them is not stated (R282, log entry 6). -/
def State.choices (s : State) : List Choice :=
  (s.usedCores.filterMap s.pick).map Choice.turn ++ (s.autos.filter s.moves).map Choice.auto

/-- Time passes by one count (log entry 6). -/
def State.later (s : State) : State :=
  { s with tick := s.tick + 1, agenda := match s.agenda with
      | (d, e) :: t => (d - 1, e) :: t
      | [] => [] }

/-- A choice carried out: an issue turn takes one count. -/
noncomputable def State.carry (s : State) : Choice → Out
  | .turn c => s.later.turn c
  | .auto a =>
    match a.run s with
    | .next t => .next { t with unit := {} }.wakeAll
    | r => r

/-- The event that starts a module that a rail has stopped (R476). -/
def startsModule : Instr → Bool
  | .powerGood => true
  | _ => false

/-- The event at the head of the agenda is due. Only events happen so: an instruction word there is passed over, and a stopped
module takes nothing but the next power-good (R476). -/
def State.dueEvent (s : State) : Option (Option Instr × State) :=
  match s.agenda with
  | (0, e) :: t => some (if encode e = 0 ∧ (!s.mgmt.stopped ∨ startsModule e) then some e else none, { s with agenda := t })
  | _ => none

/-- One of the things that may happen, by a free choice where there are several (log entry 4); where there is none, time
passes. -/
noncomputable def State.goOn (s : State) : Out :=
  match s.choices with
  | [] => .next s.later
  | [a] => s.carry a
  | a :: more =>
    let n := (Config.freeByte s.freeIx).toNat + 256 * (Config.freeByte (s.freeIx + 1)).toNat
    { s with freeIx := s.freeIx + 2 }.carry (nth a (a :: more) (n % (more.length + 1)))

/-- One step: a due event of the agenda, else a round's result, else one of the choices. -/
noncomputable def State.advance (s : State) : Out :=
  match s.dueEvent with
  | some (some e, s1) =>
    match exec e s1 with
    | .next t => .next { t with unit := {} }.wakeAll
    | r => r
  | some (none, s1) => .next s1
  | none =>
    if s.mgmt.stopped then (if s.agenda = [] then .fault .stopped else .next s.later)
    else
      match s.resolving with
      | some c =>
        match execCbrResult c s with
        | .next t => .next { t with unit := {} }.wakeAll
        | r => r
      | none => s.goOn

/-! An instruction placed where it is fetched next -/

/-- Four table entries and a 2 MiB page that map virtual address 0 of function 0 with execute permission (R268, R271). -/
def State.mapFirst (s : State) (t f : Nat) : State :=
  let put := fun (m : List Host.Cell) (a v : Nat) => memWrite a (bytesOf 8 v) m
  { s.setVf 0 { s.vf 0 with root := t } with
    mem := put (put (put (put s.mem t (t + 0x1001)) (t + 0x1000) (t + 0x2001)) (t + 0x2000) (t + 0x3001)) (t + 0x3000) (f + 0x1CF) }

/-- Context 0 runs task code of function 0 from address 0, where the words stand. -/
def State.placeWords (s : State) (ws : List Nat) : State :=
  let base := s.self * 2 ^ 43
  let s1 := (s.mapFirst base (base + 0x200000)).dropHeld (fun e => e.vf == 0)
  let s2 := { s1 with mem := memWrite (base + 0x200000) ((ws.map (bytesOf 4)).flatten) s1.mem, agenda := [], unit := {} }
  s2.setCtx 0 { gen := (s.ctx 0).gen, status := .run }

end Sys2Proof.Machine
end

