-- ==== Sys2Proof/Machine/Step.lean ====
section
/-! DEFINITION. One step of the machine, and the state whose next step runs a given instruction word. -/

namespace Sys2Proof.Machine

/-- One step of the machine (R44, R209; log entry 6). -/
noncomputable def step (s : State) : Host.Outcome State Fault Refusal :=
  s.advance

/-- The instruction of table word `w` placed where context 0 fetches its next unit: a program comes to run by a launch (log
entry 17), and this stands for it. A C word that is not LONE runs only with an A word after it (R40): ADDI x0, x0, 0. -/
def State.withFetchWord (s : State) (nbits w : Nat) : State :=
  let v := w % 2 ^ nbits % 2 ^ 32
  s.placeWords (if isA v || isLone v then [v] else [v, 0x81000000])

end Sys2Proof.Machine
end

