-- ==== Sys2Proof/Safety.lean ====
section
/-! DEFINITION. The terms in which claims are stated: when a word passes every check before it executes (R21 to R26, R45),
how a unit ends (R44, R112, R114), what an instruction leaves unchanged, and the states between steps. -/

namespace Sys2Proof.Machine

/-- A register that a word may use at once: not bound to a port (R25), full (R20) and not marked poisoned (R399). -/
def Regs.plain (r : Regs) (cls n : Nat) : Bool :=
  (portNamed r cls n).isNone && !(r.emptyAt cls n) && !(r.poisonAt cls n)

/-- A destination that a word may write at once: not empty (R23) and not bound to a port (R25). The classes above 3 have no
full/empty bits (R20). -/
def Regs.writable (r : Regs) (d : Dst) : Bool :=
  decide (3 < d.cls) || ((portNamed r d.cls d.n).isNone && !(r.emptyAt d.cls d.n))

/-- No unit of the current context is under way or pending: a lone word starts. -/
def State.fresh (s : State) : Bool := s.unit == {} && s.me.pend == none

/-- A lone word passes every check before it executes: its mode (R29), an unresolved collective branch (R258), repetition and
DUAL (R115, R205), its sources (R21, R399) and destinations (R23). -/
def State.ready (s : State) (g : Sig) : Bool :=
  s.fresh
  && (!g.handlerOnly || s.regs.hm)
  && (!g.stalls || s.me.spec.isNone)
  && (!g.notRepeated || s.regs.rc == 0)
  && (!g.notInDual || !s.inDual)
  && g.srcs.all (fun x => s.regs.plain x.cls x.n)
  && g.dsts.all s.regs.writable

/-- The operation of the current context's unit has been performed with a result, and its operands popped no port. -/
def State.answered (s : State) (v jv js : Word) (fl : BitVec 6) : Bool :=
  s.unit == {} && s.performed && (match s.me.pend with
    | some p => p.result == some (.ok v jv js fl) && p.latched == [] && p.pops == []
    | none => false)

/-- The current context's unit has read, granule by granule, the operand `t` that it sent for (R284), and popped no port. -/
def State.gathered (s : State) (t : Tab Word) : Bool :=
  s.unit == {} && (tabFind t 0).isSome && (match s.me.pend with
    | some { op := .read _ [], result := none, got := u, latched := [], pops := [], .. } => u == t
    | _ => false)

/-- The state in which the rest of a unit executes once its operation has been performed (R308). -/
def State.unpend (s : State) : State := s.setMe { s.me with pend := none }

/-- The unit of word `g` retires at `s` with its effects in `s1`, and goes on in sequence (R44, R112, R114). -/
def State.retires (s : State) (g : Sig) (s1 : State) : State :=
  s.endUnit (s1.setMe { s1.me with nseq := s1.me.nseq + 1 }) g.loops none

/-- The unit of word `g` retires at `s` with its effects in `s1`, and goes on at `t`. -/
def State.redirects (s : State) (g : Sig) (s1 : State) (t : Word) : State :=
  s.endUnit (s1.setMe { s1.me with nseq := s1.me.nseq + 1 }) g.loops (some t)

/-- A lone word `i` of signature `g` that is ready retires with the effects `f` where `p` holds. -/
def DoneIf (i : Instr) (g : Sig) (p : State → Prop) (f : State → State) : Prop :=
  ∀ s, s.ready g = true → p s → exec i s = .next (s.retires g (f s))

/-- A lone word `i` of signature `g` that is ready retires with the effects `f`. -/
def Done (i : Instr) (g : Sig) (f : State → State) : Prop :=
  ∀ s, s.ready g = true → exec i s = .next (s.retires g (f s))

/-- A lone word `i` that is ready retires with the effects `f` and goes on at `t` where `p` holds. -/
def JumpIf (i : Instr) (g : Sig) (p : State → Prop) (f : State → State) (t : State → Word) : Prop :=
  ∀ s, s.ready g = true → p s → exec i s = .next (s.redirects g (f s) (t s))

/-- A lone word `i` that is ready traps with `w` where `p` holds, and has no effect (R44). -/
def TrapIf (i : Instr) (g : Sig) (p : State → Prop) (w : State → Why) : Prop :=
  ∀ s, s.ready g = true → p s → exec i s = .next (s.traps (w s) false)

/-- A lone word `i` that is ready only waits where `p` holds, and has no effect (R209). -/
def WaitIf (i : Instr) (g : Sig) (p : State → Prop) : Prop :=
  ∀ s, s.ready g = true → p s → exec i s = .next s.waits

/-- A lone word `i` that is ready sends `op`, over the state `f`, where `p` holds, and waits for its completion (R209, R308). -/
def SendIf (i : Instr) (g : Sig) (p : State → Prop) (f : State → State) (op : State → PendOp) : Prop :=
  ∀ s, s.ready g = true → p s →
    exec i s = .next ((f s).setMe { (f s).me with pend := some { pc := (f s).pc, op := op s, since := (f s).tick } }).holds

/-- A lone word `i` whose operation has been performed, and whose destinations can be written, retires with the effects `f`,
which take the value, JVAL, JSTAT and flags answered (R308). -/
def AnswerDone (i : Instr) (g : Sig) (f : State → Word → Word → Word → Nat → State) : Prop :=
  ∀ s v jv js fl, s.answered v jv js fl = true → g.dsts.all s.regs.writable = true →
    exec i s = .next (s.retires g (f s.unpend v jv js fl.toNat))

/-- A lone word `i` that has read its operand from memory, and whose destinations can be written, retires with the effects `f`,
which take what was read, where `p` holds (R284). -/
def ReadDoneIf (i : Instr) (g : Sig) (p : State → Tab Word → Prop) (f : State → Tab Word → State) : Prop :=
  ∀ s t, s.gathered t = true → g.dsts.all s.regs.writable = true → p s.unpend t →
    exec i s = .next (s.retires g (f s.unpend t))

/-- A lone word `i` that has read its operand from memory traps with `w` where `p` holds, and has no effect (R44, R284). -/
def ReadTrapIf (i : Instr) (g : Sig) (p : State → Tab Word → Prop) (w : State → Tab Word → Why) : Prop :=
  ∀ s t, s.gathered t = true → g.dsts.all s.regs.writable = true → p s.unpend t →
    exec i s = .next (s.traps (w s.unpend t) false)

/-- A lone word `i` that has read its operand from memory sends `op`, over the state `f`, where `p` holds, and keeps what was read
where `k` says so (R284, R308). -/
def ReadSendIf (i : Instr) (g : Sig) (p : State → Tab Word → Prop) (f : State → Tab Word → State)
    (op : State → Tab Word → PendOp) (k : Bool) : Prop :=
  ∀ s t, s.gathered t = true → g.dsts.all s.regs.writable = true → p s.unpend t →
    let u := f s.unpend t
    let p : Pend := { pc := u.pc, op := op s.unpend t, since := u.tick, got := if k then t else [] }
    exec i s = .next (u.setMe { u.me with pend := some p }).holds

/-- A lone word `i` that has read its operand from memory waits where `p` holds, for `on`, and keeps what was read (R209, R250). -/
def ReadWaitIf (i : Instr) (g : Sig) (p : State → Tab Word → Prop) (on : State → Option WaitOn) : Prop :=
  ∀ s t, s.gathered t = true → g.dsts.all s.regs.writable = true → p s.unpend t → exec i s = .next (s.waitsOn (on s))

/-- The reads of the `n` bytes at a place, one for each granule, numbered from `k` (R284). -/
def granulesOf (k : Nat) (l : Loc) (n : Nat) (va : Word) (uc : Option Nat) : List Piece :=
  (upFrom 0 (n / 8)).map (fun j => { ix := k + j, loc := l.add (8 * j), va := va, uc := uc })

/-- An event `e` leads to `f` where `p` holds. -/
def Happens (e : Instr) (p : State → Prop) (f : State → State) : Prop := ∀ s, p s → exec e s = .next (f s)

/-! Results as the rules write them -/

/-- A result of 64 bits, or, where X is set, of 32 bits sign-extended (R74, R100). -/
def inWidth (x : Bool) (f : (w : Nat) → BitVec w → BitVec w → BitVec w) (a b : Word) : Word :=
  if x then (f 32 (a.setWidth 32) (b.setWidth 32)).signExtend 64 else f 64 a b

/-- 1 where a condition holds. -/
def bit1 (w : Nat) (b : Bool) : BitVec w := if b then 1#w else 0#w

/-- Registers of the current context written. -/
def State.writeX (s : State) (d : BitVec 5) (v : Word) : State := s.setRegs (s.regs.setX d.toNat v)
def State.writeF (s : State) (d : BitVec 5) (v : Nat) : State := s.setRegs (s.regs.setF d.toNat (BitVec.ofNat 32 v))
def State.writeV (s : State) (d : BitVec 5) (v : Nat) : State := s.setRegs (s.regs.setV d.toNat (BitVec.ofNat 512 v))
def State.writeM (s : State) (d : Nat) (v : BitVec 16) : State := s.setRegs (s.regs.setM d v)
def State.writeH (s : State) (d : BitVec 3) (v : BitVec 4096) : State := s.setRegs (s.regs.setH d.toNat v)

/-- The instruction writes X d with `f` of its X sources. -/
def XFrom2 (i : Instr) (d a b : BitVec 5) (f : Word → Word → Word) : Prop :=
  Done i (aSigOf i) (fun s => s.writeX d (f (s.regs.xAt a.toNat) (s.regs.xAt b.toNat)))
def XFrom1 (i : Instr) (d a : BitVec 5) (f : Word → Word) : Prop :=
  Done i (aSigOf i) (fun s => s.writeX d (f (s.regs.xAt a.toNat)))

/-- A rounded F result: the mode is FRM, one draw is taken in SR, and the flags are raised (R77, R79, R81). -/
def State.roundF (s : State) (d : BitVec 5) (op : Nat → Nat → Nat × Nat) : State :=
  let q := s.draws s.regs.frm 1
  let r := op s.regs.frm (q.1.headD 0)
  (q.2.writeF d r.1).orFlags r.2

/-- A rounded X result (R95). -/
def State.roundX (s : State) (d : BitVec 5) (op : Nat → Nat → Word × Nat) : State :=
  let q := s.draws s.regs.frm 1
  let r := op s.regs.frm (q.1.headD 0)
  (q.2.writeX d r.1).orFlags r.2

/-- A rounded V result: one draw for each destination lane in SR; inactive lanes are kept (R129, R130). -/
def State.roundV (s : State) (d : BitVec 5) (m : BitVec 3) (w : Nat) (op : Nat → Nat → Nat → Nat × Nat) : State :=
  let q := s.draws s.regs.frm (512 / w)
  let r := mergeLanes w (s.regs.mAt m.toNat) (s.regs.vAt d.toNat) (fun k => op s.regs.frm (nth 0 q.1 k) k)
  (q.2.setRegs (q.2.regs.setV d.toNat r.1)).orFlags r.2

/-- The instruction writes V d: each active lane of width `w` takes `f`, the others keep their value, and the flags are `fl`
(R129). -/
def LanesDone (i : Instr) (g : Sig) (d : BitVec 5) (m : BitVec 3) (w : Nat) (f : State → Nat → Nat) (fl : State → Nat) : Prop :=
  ∀ s, s.ready g = true → ∃ v : BitVec 512,
    exec i s = .next (s.retires g ((s.setRegs (s.regs.setV d.toNat v)).orFlags (fl s)))
    ∧ ∀ k, k < 512 / w →
      lane w k v.toNat = if active w (s.regs.mAt m.toNat) k then f s k % 2 ^ w else lane w k (s.regs.vAt d.toNat).toNat

/-- A lane of a V source as a bit vector of the lane's width. -/
def State.laneBV (s : State) (n : BitVec 5) (w k : Nat) : BitVec w := BitVec.ofNat w (s.vl n w k)

/-- The flags of the active lanes together (R129). -/
def State.laneFlags (s : State) (m : BitVec 3) (w : Nat) (fl : Nat → Nat) : Nat :=
  ((upFrom 0 (512 / w)).map (fun k => if active w (s.regs.mAt m.toNat) k then fl k else 0)).foldl (· ||| ·) 0

/-- The codes of width `cw` of the 16 FP32 lanes of V a written to group `q` of V d, lane by lane where the mask admits the
code's place; the codes outside the group are kept (R149). -/
def State.encodeGroup (s : State) (d a q : BitVec 5) (m : BitVec 3) (cw : Nat) (tab : Tab (BitVec 32)) : State :=
  let on := fun k => (s.regs.mAt m.toNat).getLsbD ((16 * q.toNat + k) * cw / 32)
  let rs := (upFrom 0 (512 / cw)).map (fun j =>
    if 16 * q.toNat ≤ j ∧ j < 16 * q.toNat + 16 ∧ on (j - 16 * q.toNat) then
      (encodeT (2 ^ cw) tab (s.vf_ a fmt32 (j - 16 * q.toNat))).getD (0, 0)
    else (lane cw j (s.regs.vAt d.toNat).toNat, 0))
  (s.writeV d (ofLanes cw (rs.map (·.1)))).orFlags ((rs.map (·.2)).foldl (· ||| ·) 0)

/-! Loads and stores (R121 to R124, R133, R158) -/

/-- The address of an access of `m` bytes with a signed offset in units of `m`; under REP the index is added (R122, R125). -/
def State.offsetAddr (s : State) (a : BitVec 5) (o : BitVec 8) (m : Nat) : Word :=
  s.regs.xAt a.toNat + o.signExtend 64 * natW m
    + (if s.regs.csrAt csrRC = 0 then 0 else s.regs.csrAt csrRI * natW m)

/-- An access of `n` bytes at `a` of space `sp` passes its checks of space and alignment, and waits for nothing earlier (R122
to R124, R286). -/
def State.accessOk (s : State) (sp : Nat) (a : Word) (n : Nat) (w : BitVec 2) (acc : Acc) : Prop :=
  s.checkSpace sp a acc = none ∧ a.toNat % n = 0 ∧ s.wField w = true ∧ s.acquiring = false

/-- The outcomes that loads and stores share: the traps of the space, made on the address alone, then of the alignment, and
the wait for the W field or for an acquire load. -/
def AccessStops (i : Instr) (sp : Nat) (adr : State → Word) (n : Nat) (w : BitVec 2) (acc : Acc) : Prop :=
  (∀ y, TrapIf i (cSig i) (fun s => s.checkSpace sp (adr s) acc = some y) (fun _ => y))
  ∧ TrapIf i (cSig i) (fun s => s.checkSpace sp (adr s) acc = none ∧ (adr s).toNat % n ≠ 0)
      (fun s => { cause := cMISALIGN, tval := adr s, acc := accCode acc })
  ∧ WaitIf i (cSig i) (fun s => s.checkSpace sp (adr s) acc = none ∧ (adr s).toNat % n = 0
      ∧ (s.wField w = false ∨ s.acquiring = true))

/-- A load of `n` bytes at `adr` of space `sp` to register `reg` of class `cls`: its destination becomes empty, and a
producer brings the bytes, sign-extended where `sext` is set, in one event for each granule that it spans (`loadSrc`). Up to 8
bytes of the own scratchpad, and the stream window, are read at once, in program order. A global load whose translation fails is
parked on the retry ring (R279). -/
def LoadForms (i : Instr) (sp : Nat) (adr : State → Word) (n : Nat) (w : BitVec 2) (cls reg : Nat) (sext : Bool) : Prop :=
  let g := cSig i
  let glob := fun (s : State) => s.accessOk 0 (adr s) n w .load ∧ s.ringOverlap (adr s).toNat n = false
  let scr := fun (s : State) (k o : Nat) => s.accessOk 1 (adr s) n w .load ∧ s.scrLoc s.cur (adr s).toNat n = some (.scr k o)
  AccessStops i sp adr n w .load
  ∧ (sp = 0 →
      (∀ l leaf s1 s2, DoneIf i g (fun s => glob s ∧ s.reach (adr s) .load false = .at_ l leaf s1
          ∧ s1.countBytes s.me.vf (adr s).toNat n = some s2)
        (fun s => s2.addProd cls reg false (loadSrc l n sext (adr s) (l.uc leaf)) (l.uc leaf)))
      ∧ (∀ k s1, DoneIf i g (fun s => glob s ∧ s.reach (adr s) .load false = .fault k
          ∧ s.park k (adr s) n false (!sext) cls reg [] = some s1) (fun _ => s1))
      ∧ (∀ y, TrapIf i g (fun s => glob s ∧ s.reach (adr s) .load false = .trap y) (fun _ => y))
      ∧ WaitIf i g (fun s => s.accessOk 0 (adr s) n w .load ∧ s.ringOverlap (adr s).toNat n = true))
  ∧ (sp = 1 →
      (∀ o, DoneIf i g (fun s => scr s (coreOf s.cur) o ∧ n ≤ 8 ∧ s.ownWaits (.scr (coreOf s.cur) o) = false
            ∧ s.poisonedLoc (.scr (coreOf s.cur) o) n = none)
        (fun s => s.addProd cls reg false (.value (loadBits n sext (s.readFor s.cur s.me.nseq (.scr (coreOf s.cur) o) n)))))
      ∧ (∀ k o, DoneIf i g (fun s => scr s k o ∧ s.ownWaits (.scr k o) = false ∧ (k ≠ coreOf s.cur ∨ 8 < n))
        (fun s => s.addProd cls reg false (loadSrc (.scr k o) n sext (adr s) none)))
      ∧ (∀ k o, WaitIf i g (fun s => scr s k o ∧ s.ownWaits (.scr k o) = true)))
  ∧ (sp = 2 → ∀ bs s1, DoneIf i g (fun s => s.accessOk 2 (adr s) n w .load ∧ s.readWindow (adr s) n = .bytes bs s1)
        (fun _ => s1.addProd cls reg false (.value (loadBits n sext bs))))

/-- A store posted in class A or B, or, with no class, to the own scratchpad (R124, R292): one event for each granule that it
spans (R284); in a class it counts until the last has been performed. -/
def State.posts (s : State) (cls : Option Bool) (w : Write) : State :=
  let x := s.me
  let p : Posted := { n := x.nseq, clsB := cls == some true, events := w.granules.map (fun v => [v]), own := cls.isNone
                      colour := (s.core (coreOf s.cur)).colour }
  let y : Ctx := { x with posted := x.posted ++ [p] }
  match cls with
  | none => s.setMe y
  | some b => (s.setMe { y with pca := y.pca + (if b then 0 else 1), pcb := y.pcb + (if b then 1 else 0) }).countSent (coreOf s.cur)

/-- A store held under an unresolved collective branch (R258). -/
def State.holdsStore (s : State) (entries : Nat) (cls : Option Bool) (w : Write) (page : Option (Nat × Nat)) : State :=
  s.setMe { s.me with spec := s.me.spec.map (fun sp =>
    { sp with held := sp.held ++ [{ n := s.me.nseq, entries := entries, cls := cls, writes := [w], page := page }] }) }

/-- A store of the bytes `bs` at `adr` of space `sp`: in the own scratchpad performed at once up to 8 bytes, and in its
granules beyond; posted in class A to another core's and in class B to global memory; held under an unresolved collective
branch while its entries fit the buffer of 64; parked on the retry ring where its translation fails. -/
def StoreForms (i : Instr) (sp : Nat) (adr : State → Word) (bs : State → List Byte) (n : Nat) (w : BitVec 2) (entries : Nat) : Prop :=
  let g := cSig i
  let room := fun (s : State) => ∀ p, s.me.spec = some p → p.taken + entries ≤ 64
  let scr := fun (s : State) (k o : Nat) => s.accessOk 1 (adr s) n w .store ∧ s.scrLoc s.cur (adr s).toNat n = some (.scr k o)
  let glob := fun (s : State) => s.accessOk 0 (adr s) n w .store ∧ s.ringOverlap (adr s).toNat n = false
    ∧ s.meterTrap s.me.vf (adr s) .store false = false ∧ s.inShadow = false ∧ s.inDual = false
  let win := fun (s : State) (h c q : Nat) => s.accessOk 2 (adr s) n w .store ∧ s.windowRow (adr s) = (h, c, q)
  AccessStops i sp adr n w .store
  ∧ (sp = 1 →
      (∀ o, DoneIf i g (fun s => scr s (coreOf s.cur) o ∧ s.ownWaits (.scr (coreOf s.cur) o) = false ∧ s.me.spec = none ∧ n ≤ 8)
        (fun s => s.storeLoc (.scr (coreOf s.cur) o) (bs s)))
      ∧ (∀ o, DoneIf i g (fun s => scr s (coreOf s.cur) o ∧ s.ownWaits (.scr (coreOf s.cur) o) = false ∧ s.me.spec = none ∧ 16 ≤ n)
        (fun s => s.posts none { loc := .scr (coreOf s.cur) o, bytes := bs s }))
      ∧ (∀ k o, DoneIf i g (fun s => scr s k o ∧ k ≠ coreOf s.cur ∧ s.ownWaits (.scr k o) = false ∧ s.me.spec = none ∧ s.me.pca < 1024)
        (fun s => s.posts (some false) { loc := .scr k o, bytes := bs s }))
      ∧ (∀ o, DoneIf i g (fun s => scr s (coreOf s.cur) o ∧ s.ownWaits (.scr (coreOf s.cur) o) = false ∧ s.me.spec ≠ none ∧ room s)
        (fun s => s.holdsStore entries none { loc := .scr (coreOf s.cur) o, bytes := bs s } none))
      ∧ (∀ k o, DoneIf i g (fun s => scr s k o ∧ k ≠ coreOf s.cur ∧ s.ownWaits (.scr k o) = false ∧ s.me.spec ≠ none ∧ room s)
        (fun s => s.holdsStore entries (some false) { loc := .scr k o, bytes := bs s } none))
      ∧ (∀ k o, WaitIf i g (fun s => scr s k o ∧ s.ownWaits (.scr k o) = true)))
  ∧ (sp = 0 →
      (∀ l leaf s1, DoneIf i g (fun s => glob s ∧ s.reach (adr s) .store false = .at_ l leaf s1 ∧ s.me.spec = none ∧ s.me.pcb < 1024)
        (fun s => s1.posts (some true) { loc := l, bytes := bs s, uc := l.uc leaf }))
      ∧ (∀ l leaf s1, DoneIf i g (fun s => glob s ∧ s.reach (adr s) .store false = .at_ l leaf s1 ∧ s.me.spec ≠ none ∧ room s)
        (fun s => s1.holdsStore entries (some true) { loc := l, bytes := bs s, uc := l.uc leaf } none))
      ∧ (∀ k s1, DoneIf i g (fun s => glob s ∧ s.reach (adr s) .store false = .fault k
          ∧ s.park k (adr s) n true false 0 0 (bs s) = some s1) (fun _ => s1))
      ∧ TrapIf i g (fun s => s.accessOk 0 (adr s) n w .store ∧ s.ringOverlap (adr s).toNat n = false
          ∧ s.meterTrap s.me.vf (adr s) .store false = true) (fun s => { cause := cMETER, tval := adr s, acc := accCode .store })
      ∧ WaitIf i g (fun s => s.accessOk 0 (adr s) n w .store ∧ s.ringOverlap (adr s).toNat n = true))
  ∧ (sp = 2 →
      (∀ h c q p s1, DoneIf i g (fun s => win s h c q ∧ s.copyOnWrite h c q = .here h p s1 ∧ s1.me.spec = none)
        (fun s =>
          let t := (s.within s1).setPage h p { s1.page h p with dirty := true }
          t.storeLoc ((t.pageLoc h p).add (fld (adr s).toNat 0 14)) (bs s)))
      ∧ (∀ h c q p s1 x, DoneIf i g (fun s => win s h c q ∧ s.copyOnWrite h c q = .here h p s1 ∧ s1.me.spec = some x
            ∧ x.taken + entries ≤ 64)
        (fun s =>
          let t := (s.within s1).setPage h p { s1.page h p with dirty := true }
          t.holdsStore entries none { loc := (t.pageLoc h p).add (fld (adr s).toNat 0 14), bytes := bs s } (some (h, p)))))

/-- The bytes and the address of element `e` of an MST of format 0 FP32, 1 FP16 or 2 BF16, with its flags; `rv` are the
draws. -/
def mstElt (s : State) (fmt : Nat) (n : BitVec 2) (a b : BitVec 5) (rv : List Nat) (e : Nat) : MElt × Nat :=
  let z := if fmt = 0 then 4 else 2
  let v := (accElt (s.regs.accAt n.toNat) e).toNat
  let r := if fmt = 0 then (v, 0) else (if fmt = 1 then fmt16 else fmtB16).put s.regs.frm (nth 0 rv e) (fmt32.val v)
  ({ row := e / 16, addr := s.regs.xAt a.toNat + natW (e / 16) * s.regs.xAt b.toNat + natW (e % 16 * z), bytes := bytesOf z r.1 }, r.2)

/-! What is left unchanged -/

/-- What an instruction may change: registers by class and number as `Dst` names them, CSRs by address, the generator of R81,
and the code tables. -/
structure Kept where
  dsts : List Dst := []
  csrs : List Nat := []
  rooibos : Bool := false
  tables : Bool := false

/-- The CSRs that the end of a unit may change: loop counts, repeat count and index (R112, R114). -/
def endCsrs : List Nat := [csrLC0, csrLC1, csrRC, csrRI]

/-- Between `s` and `t` the registers of the current context are unchanged but for those that `k` names; the PC apart. -/
def State.keepsRegs (s t : State) (k : Kept) : Prop :=
  (∀ n, ⟨0, n⟩ ∉ k.dsts → t.regs.xAt n = s.regs.xAt n)
  ∧ (∀ n, ⟨1, n⟩ ∉ k.dsts → t.regs.fAt n = s.regs.fAt n)
  ∧ (∀ n, ⟨2, n⟩ ∉ k.dsts → t.regs.vAt n = s.regs.vAt n)
  ∧ (∀ n, ⟨3, n⟩ ∉ k.dsts → t.regs.hAt n = s.regs.hAt n)
  ∧ (∀ n, ⟨4, n⟩ ∉ k.dsts → t.regs.mAt n = s.regs.mAt n)
  ∧ (∀ n, ⟨5, n⟩ ∉ k.dsts → t.regs.bAt n = s.regs.bAt n)
  ∧ (∀ n, ⟨6, n⟩ ∉ k.dsts → t.regs.accAt n = s.regs.accAt n)
  ∧ (∀ a, a ∉ k.csrs ++ endCsrs → t.regs.csrAt a = s.regs.csrAt a)
  ∧ (k.rooibos = false → t.regs.rhi = s.regs.rhi ∧ t.regs.rlo = s.regs.rlo)
  ∧ (k.tables = false → t.regs.ct8 = s.regs.ct8 ∧ t.regs.ct4 = s.regs.ct4)

/-- Every byte of every memory reads the same. -/
def State.keepsMemory (s t : State) : Prop := ∀ l, t.byteAt l = s.byteAt l

/-- Every byte of every memory outside the `n` bytes at `l` reads the same. -/
def State.keepsMemoryBut (s t : State) (l : Loc) (n : Nat) : Prop :=
  ∀ k, (∀ j, j < n → k ≠ l.add j) → t.byteAt k = s.byteAt k

/-! The states between steps -/

/-- No issue unit is partly executed: a unit has all of its effects or none (R44). -/
def State.Whole (s : State) : Prop := s.unit = {}

end Sys2Proof.Machine
end

