-- ==== Sys2Proof/Certificates/Slice0/Obligations.lean ====
section
/-! DEFINITION. The statements for the provers. -/

open Sys2Proof Sys2Proof.Machine

/-- R100: each integer register instruction writes rd with its operation on rs1 and rs2, on 64 bits or, with X set, on the low 32
bits with the result sign-extended; shift counts are taken modulo the width; division by zero gives every bit set, and the
remainder then is the dividend. -/
def Obligations.IntegerResults : Prop :=
  ∀ (sm : Bool) (d a b : BitVec 5) (t u x : Bool),
    XFrom2 (.add sm d a b t u x) d a b (inWidth x (fun _ p q => p + q))
    ∧ XFrom2 (.sub sm d a b t u x) d a b (inWidth x (fun _ p q => p - q))
    ∧ XFrom2 (.and sm d a b t u x) d a b (inWidth x (fun _ p q => p &&& q))
    ∧ XFrom2 (.or sm d a b t u x) d a b (inWidth x (fun _ p q => p ||| q))
    ∧ XFrom2 (.xor sm d a b t u x) d a b (inWidth x (fun _ p q => p ^^^ q))
    ∧ XFrom2 (.andn sm d a b t u x) d a b (inWidth x (fun _ p q => p &&& ~~~q))
    ∧ XFrom2 (.sll sm d a b t u x) d a b (inWidth x (fun w p q => p <<< (q.toNat % w)))
    ∧ XFrom2 (.srl sm d a b t u x) d a b (inWidth x (fun w p q => p >>> (q.toNat % w)))
    ∧ XFrom2 (.sra sm d a b t u x) d a b (inWidth x (fun w p q => p.sshiftRight (q.toNat % w)))
    ∧ XFrom2 (.ror sm d a b t u x) d a b (inWidth x (fun w p q => p.rotateRight (q.toNat % w)))
    ∧ XFrom2 (.slt sm d a b t u x) d a b (inWidth x (fun w p q => bit1 w (p.slt q)))
    ∧ XFrom2 (.sltu sm d a b t u x) d a b (inWidth x (fun w p q => bit1 w (p.ult q)))
    ∧ XFrom2 (.min sm d a b t u x) d a b (inWidth x (fun _ p q => if p.slt q then p else q))
    ∧ XFrom2 (.max sm d a b t u x) d a b (inWidth x (fun _ p q => if q.slt p then p else q))
    ∧ XFrom2 (.minu sm d a b t u x) d a b (inWidth x (fun _ p q => if p.ult q then p else q))
    ∧ XFrom2 (.maxu sm d a b t u x) d a b (inWidth x (fun _ p q => if q.ult p then p else q))
    ∧ XFrom2 (.mul sm d a b t u x) d a b (inWidth x (fun _ p q => p * q))
    ∧ XFrom2 (.div sm d a b t u x) d a b (inWidth x (fun w p q => if q = 0#w then BitVec.allOnes w else p.sdiv q))
    ∧ XFrom2 (.divu sm d a b t u x) d a b (inWidth x (fun w p q => if q = 0#w then BitVec.allOnes w else p / q))
    ∧ XFrom2 (.rem sm d a b t u x) d a b (inWidth x (fun _ p q => p.srem q))
    ∧ XFrom2 (.remu sm d a b t u x) d a b (inWidth x (fun _ p q => p % q))
    ∧ XFrom2 (.mulh sm d a b t u) d a b (fun p q => ((p.signExtend 128 * q.signExtend 128) >>> 64).setWidth 64)
    ∧ XFrom2 (.mulhu sm d a b t u) d a b (fun p q => ((p.setWidth 128 * q.setWidth 128) >>> 64).setWidth 64)
    ∧ XFrom1 (.clz sm d a t x) d a (fun p => inWidth x (fun w q _ => BitVec.ofNat w (leadingZeros w q.toNat)) p 0)
    ∧ XFrom1 (.ctz sm d a t x) d a (fun p => inWidth x (fun w q _ => BitVec.ofNat w (lowestSet w q.toNat)) p 0)
    ∧ XFrom1 (.popc sm d a t x) d a (fun p => inWidth x (fun w q _ => BitVec.ofNat w (popcount w q.toNat)) p 0)

/-- R73, R79, R100: ADDS and SUBS write the exact sum or difference clamped to the signed range of the width, and set SAT exactly
when it was clamped. -/
def Obligations.SaturatingResults : Prop :=
  ∀ (sm : Bool) (d a b : BitVec 5) (t u x : Bool),
    let w := if x then 32 else 64
    let clamped := fun (v : Int) => if v < smin w then smin w else if smax w < v then smax w else v
    let flag := fun (v : Int) => if clamped v = v then 0 else flSAT
    let sum := fun (s : State) => sextInt w (s.regs.xAt a.toNat).toNat + sextInt w (s.regs.xAt b.toNat).toNat
    let diff := fun (s : State) => sextInt w (s.regs.xAt a.toNat).toNat - sextInt w (s.regs.xAt b.toNat).toNat
    Done (.adds sm d a b t u x) (aSigOf (.adds sm d a b t u x))
        (fun s => (s.writeX d (wordOf (clamped (sum s)))).orFlags (flag (sum s)))
    ∧ Done (.subs sm d a b t u x) (aSigOf (.subs sm d a b t u x))
        (fun s => (s.writeX d (wordOf (clamped (diff s)))).orFlags (flag (diff s)))

/-- R101, R102: WFLD writes the field of level n of a work identifier and traps ILLEGAL on a level above 5; CHKB copies its value
when it is below the bound and traps BOUND otherwise. -/
def Obligations.FieldAndBound : Prop :=
  ∀ (sm : Bool) (d a b : BitVec 5) (t u : Bool),
    let width := fun (s : State) (k : Nat) => (s.regs.csrAt csrWIDW).toNat / 2 ^ (6 * k) % 64
    DoneIf (.wfld sm d a b t u) (aSigOf (.wfld sm d a b t u)) (fun s => (s.regs.xAt b.toNat).toNat ≤ 5)
        (fun s => s.writeX d (BitVec.ofNat 64 ((s.regs.xAt a.toNat).toNat
          / 2 ^ ((List.range (s.regs.xAt b.toNat).toNat).map (width s)).sum % 2 ^ width s (s.regs.xAt b.toNat).toNat)))
    ∧ TrapIf (.wfld sm d a b t u) (aSigOf (.wfld sm d a b t u)) (fun s => 5 < (s.regs.xAt b.toNat).toNat)
        (fun s => { cause := cILLEGAL, tval := s.regs.xAt b.toNat })
    ∧ DoneIf (.chkb sm d a b t u) (aSigOf (.chkb sm d a b t u))
        (fun s => (s.regs.xAt a.toNat).ult (s.regs.xAt b.toNat) = true) (fun s => s.writeX d (s.regs.xAt a.toNat))
    ∧ TrapIf (.chkb sm d a b t u) (aSigOf (.chkb sm d a b t u))
        (fun s => (s.regs.xAt a.toNat).ult (s.regs.xAt b.toNat) = false)
        (fun s => { cause := cBOUND, tval := s.regs.xAt a.toNat })

/-- R103 to R106: the immediate forms, the shifts by a constant, SEL and SEL.N (which read all three sources) and the constants
LUI and LUI.SH write rd as the rules say; ADDI, ANDI and SLTI sign-extend their immediate, ORI and XORI zero-extend it. -/
def Obligations.ImmediateResults : Prop :=
  ∀ (sm l : Bool) (d a b c : BitVec 5) (t u v x : Bool) (i : BitVec 13) (n : BitVec 6) (k : BitVec 16),
    XFrom1 (.addi sm d a t i) d a (fun p => p + i.signExtend 64)
    ∧ XFrom1 (.andi sm d a t i) d a (fun p => p &&& i.signExtend 64)
    ∧ XFrom1 (.ori sm d a t i) d a (fun p => p ||| i.setWidth 64)
    ∧ XFrom1 (.xori sm d a t i) d a (fun p => p ^^^ i.setWidth 64)
    ∧ XFrom1 (.slti sm d a t i) d a (fun p => bit1 64 (p.slt (i.signExtend 64)))
    ∧ XFrom1 (.slli sm d a t x n) d a (fun p => inWidth x (fun w q _ => q <<< (n.toNat % w)) p 0)
    ∧ XFrom1 (.srli sm d a t x n) d a (fun p => inWidth x (fun w q _ => q >>> (n.toNat % w)) p 0)
    ∧ XFrom1 (.srai sm d a t x n) d a (fun p => inWidth x (fun w q _ => q.sshiftRight (n.toNat % w)) p 0)
    ∧ XFrom1 (.rori sm d a t x n) d a (fun p => inWidth x (fun w q _ => q.rotateRight (n.toNat % w)) p 0)
    ∧ Done (.sel sm d a b c t u v) (aSigOf (.sel sm d a b c t u v))
        (fun s => s.writeX d (if s.regs.xAt a.toNat = 0 then s.regs.xAt c.toNat else s.regs.xAt b.toNat))
    ∧ Done (.selN sm d a b c t u v) (aSigOf (.selN sm d a b c t u v))
        (fun s => s.writeX d (if (s.regs.xAt a.toNat).slt 0 then s.regs.xAt b.toNat else s.regs.xAt c.toNat))
    ∧ Done (.lui sm l d k) (cSig (.lui sm l d k)) (fun s => s.writeX d (k.signExtend 64))
    ∧ Done (.luiSh sm l d k) (cSig (.luiSh sm l d k))
        (fun s => s.writeX d (s.regs.xAt d.toNat <<< 16 ||| k.setWidth 64))

/-- R126, R127: the scalar floating-point operations write F d, or X d for the comparisons, the class and the move, with the
operation's value and raise its flags; a rounding one takes its mode from FRM and one draw in SR. FABS, FNEG, FSGNJ and the
moves work on the bits alone. -/
def Obligations.FloatResults : Prop :=
  ∀ (sm : Bool) (d a b c : BitVec 5) (t u v : Bool),
    Done (.fadd sm d a b t u) (aSigOf (.fadd sm d a b t u)) (fun s => s.roundF d (fun m r => fmt32.add m r (s.fv a) (s.fv b)))
    ∧ Done (.fsub sm d a b t u) (aSigOf (.fsub sm d a b t u)) (fun s => s.roundF d (fun m r => fmt32.sub m r (s.fv a) (s.fv b)))
    ∧ Done (.fmul sm d a b t u) (aSigOf (.fmul sm d a b t u)) (fun s => s.roundF d (fun m r => fmt32.mul m r (s.fv a) (s.fv b)))
    ∧ Done (.fdiv sm d a b t u) (aSigOf (.fdiv sm d a b t u)) (fun s => s.roundF d (fun m r => fmt32.div m r (s.fv a) (s.fv b)))
    ∧ Done (.fsqrt sm d a t) (aSigOf (.fsqrt sm d a t)) (fun s => s.roundF d (fun m r => fmt32.sqrt m r (s.fv a)))
    ∧ Done (.fmadd sm d a b c t u v) (aSigOf (.fmadd sm d a b c t u v))
        (fun s => s.roundF d (fun m r => fmt32.fma m r (s.fv a) (s.fv b) (s.fv c)))
    ∧ Done (.fmsub sm d a b c t u v) (aSigOf (.fmsub sm d a b c t u v))
        (fun s => s.roundF d (fun m r => fmt32.fma m r (s.fv a) (s.fv b) (s.fv c).neg))
    ∧ Done (.fmin sm d a b t u) (aSigOf (.fmin sm d a b t u))
        (fun s => let r := fmt32.minmax false (s.regs.fAt a.toNat).toNat (s.regs.fAt b.toNat).toNat
                  (s.writeF d r.1).orFlags r.2)
    ∧ Done (.fmax sm d a b t u) (aSigOf (.fmax sm d a b t u))
        (fun s => let r := fmt32.minmax true (s.regs.fAt a.toNat).toNat (s.regs.fAt b.toNat).toNat
                  (s.writeF d r.1).orFlags r.2)
    ∧ Done (.fabs sm d a t) (aSigOf (.fabs sm d a t))
        (fun s => (s.setRegs (s.regs.setF d.toNat (s.regs.fAt a.toNat &&& 0x7FFFFFFF#32))).orFlags 0)
    ∧ Done (.fneg sm d a t) (aSigOf (.fneg sm d a t))
        (fun s => (s.setRegs (s.regs.setF d.toNat (s.regs.fAt a.toNat ^^^ 0x80000000#32))).orFlags 0)
    ∧ Done (.fsgnj sm d a b t u) (aSigOf (.fsgnj sm d a b t u))
        (fun s => (s.setRegs (s.regs.setF d.toNat
          ((s.regs.fAt a.toNat &&& 0x7FFFFFFF#32) ||| (s.regs.fAt b.toNat &&& 0x80000000#32)))).orFlags 0)
    ∧ Done (.feq sm d a b t u) (aSigOf (.feq sm d a b t u))
        (fun s => (s.writeX d (bit1 64 (fEq (s.fv a) (s.fv b)).1)).orFlags (fEq (s.fv a) (s.fv b)).2)
    ∧ Done (.flt sm d a b t u) (aSigOf (.flt sm d a b t u))
        (fun s => (s.writeX d (bit1 64 (fLt (s.fv a) (s.fv b)).1)).orFlags (fLt (s.fv a) (s.fv b)).2)
    ∧ Done (.fle sm d a b t u) (aSigOf (.fle sm d a b t u))
        (fun s => (s.writeX d (bit1 64 (fLe (s.fv a) (s.fv b)).1)).orFlags (fLe (s.fv a) (s.fv b)).2)
    ∧ Done (.fclass sm d a t) (aSigOf (.fclass sm d a t))
        (fun s => (s.writeX d (natW (fClass fmt32 (s.regs.fAt a.toNat).toNat))).orFlags (match s.fv a with
          | .nan b => nvOf b
          | _ => 0))
    ∧ Done (.fmvXf sm d a t) (aSigOf (.fmvXf sm d a t)) (fun s => (s.writeX d ((s.regs.fAt a.toNat).setWidth 64)).orFlags 0)
    ∧ Done (.fmvFx sm d a t) (aSigOf (.fmvFx sm d a t))
        (fun s => (s.setRegs (s.regs.setF d.toNat ((s.regs.xAt a.toNat).setWidth 32))).orFlags 0)

/-- R95, R89: the scalar conversions write rd with the converted value; those that round take FRM and one draw in SR; the encodes
through a code table write the code, and trap ILLEGAL with bit 63 of TVAL set where the value has none. -/
def Obligations.FloatConversions : Prop :=
  ∀ (sm : Bool) (d a : BitVec 5) (t : Bool),
    Done (.fcvtFI sm d a t) (aSigOf (.fcvtFI sm d a t))
        (fun s => s.roundF d (fun m r => fmt32.ofInt m r (s.regs.xAt a.toNat).toInt))
    ∧ Done (.fcvtFU sm d a t) (aSigOf (.fcvtFU sm d a t))
        (fun s => s.roundF d (fun m r => fmt32.ofInt m r ((s.regs.xAt a.toNat).toNat : Nat)))
    ∧ Done (.fcvtIF sm d a t) (aSigOf (.fcvtIF sm d a t))
        (fun s => s.roundX d (fun m r => toIntW m r (smin 64) (smax 64) (s.fv a)))
    ∧ Done (.fcvtUF sm d a t) (aSigOf (.fcvtUF sm d a t))
        (fun s => s.roundX d (fun m r => toIntW m r 0 ((2 ^ 64 : Nat) - 1) (s.fv a)))
    ∧ Done (.fcvtHF sm d a t) (aSigOf (.fcvtHF sm d a t))
        (fun s => s.roundX d (fun m r => (natW (fmt16.put m r (s.fv a)).1, (fmt16.put m r (s.fv a)).2)))
    ∧ Done (.fcvtBF sm d a t) (aSigOf (.fcvtBF sm d a t))
        (fun s => s.roundX d (fun m r => (natW (fmtB16.put m r (s.fv a)).1, (fmtB16.put m r (s.fv a)).2)))
    ∧ Done (.fcvtFH sm d a t) (aSigOf (.fcvtFH sm d a t))
        (fun s => let r := fmt32.put mRNE 0 (fmt16.val ((s.regs.xAt a.toNat).setWidth 16).toNat)
                  (s.writeF d r.1).orFlags r.2)
    ∧ Done (.fcvtFB sm d a t) (aSigOf (.fcvtFB sm d a t))
        (fun s => let r := fmt32.put mRNE 0 (fmtB16.val ((s.regs.xAt a.toNat).setWidth 16).toNat)
                  (s.writeF d r.1).orFlags r.2)
    ∧ (∀ c fl, DoneIf (.fcvtT8F sm d a t) (aSigOf (.fcvtT8F sm d a t))
        (fun s => encodeT 256 s.regs.ct8 (s.fv a) = some (c, fl)) (fun s => (s.writeX d (natW c)).orFlags fl))
    ∧ TrapIf (.fcvtT8F sm d a t) (aSigOf (.fcvtT8F sm d a t)) (fun s => encodeT 256 s.regs.ct8 (s.fv a) = none)
        (fun _ => { cause := cILLEGAL, tval := 0x8000000000000000#64 })
    ∧ (∀ c fl, DoneIf (.fcvtT4F sm d a t) (aSigOf (.fcvtT4F sm d a t))
        (fun s => encodeT 16 s.regs.ct4 (s.fv a) = some (c, fl)) (fun s => (s.writeX d (natW c)).orFlags fl))
    ∧ TrapIf (.fcvtT4F sm d a t) (aSigOf (.fcvtT4F sm d a t)) (fun s => encodeT 16 s.regs.ct4 (s.fv a) = none)
        (fun _ => { cause := cILLEGAL, tval := 0x8000000000000000#64 })
    ∧ Done (.fcvtFT8 sm d a t) (aSigOf (.fcvtFT8 sm d a t))
        (fun s => (s.setRegs (s.regs.setF d.toNat (tabGet 0 s.regs.ct8 ((s.regs.xAt a.toNat).setWidth 8).toNat))).orFlags 0)
    ∧ Done (.fcvtFT4 sm d a t) (aSigOf (.fcvtFT4 sm d a t))
        (fun s => (s.setRegs (s.regs.setF d.toNat (tabGet 0 s.regs.ct4 ((s.regs.xAt a.toNat).setWidth 4).toNat))).orFlags 0)

/-- R138, R139, R129: the integer vector operations write every active lane of V d, of the width of their type, with the operation
on the lanes of their sources, keep every other lane, and raise no flag but the SAT of VADDS and VSUBS; VSH takes a signed
count from the low byte of its second lane, left where it is not negative. -/
def Obligations.VectorIntegerLanes : Prop :=
  ∀ (sm : Bool) (d a b : BitVec 5) (m y : BitVec 3),
    let w := tyW y
    let lt := fun (s : State) (p q : BitVec 5) (k : Nat) =>
      if tySigned y then (s.laneBV p w k).slt (s.laneBV q w k) else (s.laneBV p w k).ult (s.laneBV q w k)
    LanesDone (.vadd sm d a b m y) (aSigOf (.vadd sm d a b m y)) d m w
        (fun s k => (s.laneBV a w k + s.laneBV b w k).toNat) (fun _ => 0)
    ∧ LanesDone (.vsub sm d a b m y) (aSigOf (.vsub sm d a b m y)) d m w
        (fun s k => (s.laneBV a w k - s.laneBV b w k).toNat) (fun _ => 0)
    ∧ LanesDone (.vmul sm d a b m y) (aSigOf (.vmul sm d a b m y)) d m w
        (fun s k => (s.laneBV a w k * s.laneBV b w k).toNat) (fun _ => 0)
    ∧ LanesDone (.vmin sm d a b m y) (aSigOf (.vmin sm d a b m y)) d m w
        (fun s k => if lt s b a k then s.vl b w k else s.vl a w k) (fun _ => 0)
    ∧ LanesDone (.vmax sm d a b m y) (aSigOf (.vmax sm d a b m y)) d m w
        (fun s k => if lt s a b k then s.vl b w k else s.vl a w k) (fun _ => 0)
    ∧ LanesDone (.vsh sm d a b m y) (aSigOf (.vsh sm d a b m y)) d m w
        (fun s k =>
          let c := ((s.laneBV b w k).setWidth 8).toInt
          if 0 ≤ c then (s.laneBV a w k <<< c.toNat).toNat
          else if tySigned y then ((s.laneBV a w k).sshiftRight c.natAbs).toNat else (s.laneBV a w k >>> c.natAbs).toNat)
        (fun _ => 0)
    ∧ LanesDone (.vadds sm d a b m y) (aSigOf (.vadds sm d a b m y)) d m w
        (fun s k => (tyClamp y (tyVal y (s.vl a w k) + tyVal y (s.vl b w k))).1)
        (fun s => s.laneFlags m w (fun k => (tyClamp y (tyVal y (s.vl a w k) + tyVal y (s.vl b w k))).2))
    ∧ LanesDone (.vsubs sm d a b m y) (aSigOf (.vsubs sm d a b m y)) d m w
        (fun s k => (tyClamp y (tyVal y (s.vl a w k) - tyVal y (s.vl b w k))).1)
        (fun s => s.laneFlags m w (fun k => (tyClamp y (tyVal y (s.vl a w k) - tyVal y (s.vl b w k))).2))

/-- R138: the bitwise operations are governed at 32-bit granularity; each active 32-bit lane takes the operation, and no flag is
raised. -/
def Obligations.VectorBitwiseLanes : Prop :=
  ∀ (sm : Bool) (d a b : BitVec 5) (m : BitVec 3),
    LanesDone (.vand sm d a b m) (aSigOf (.vand sm d a b m)) d m 32
        (fun s k => (s.laneBV a 32 k &&& s.laneBV b 32 k).toNat) (fun _ => 0)
    ∧ LanesDone (.vor sm d a b m) (aSigOf (.vor sm d a b m)) d m 32
        (fun s k => (s.laneBV a 32 k ||| s.laneBV b 32 k).toNat) (fun _ => 0)
    ∧ LanesDone (.vxor sm d a b m) (aSigOf (.vxor sm d a b m)) d m 32
        (fun s k => (s.laneBV a 32 k ^^^ s.laneBV b 32 k).toNat) (fun _ => 0)
    ∧ LanesDone (.vandn sm d a b m) (aSigOf (.vandn sm d a b m)) d m 32
        (fun s k => (s.laneBV a 32 k &&& ~~~(s.laneBV b 32 k)).toNat) (fun _ => 0)
    ∧ LanesDone (.vnot sm d a m) (aSigOf (.vnot sm d a m)) d m 32 (fun s k => (~~~(s.laneBV a 32 k)).toNat) (fun _ => 0)
    ∧ LanesDone (.vmov sm d a m) (aSigOf (.vmov sm d a m)) d m 32 (fun s k => s.vl a 32 k) (fun _ => 0)

/-- R140 to R142: the floating-point vector operations round each active lane once in FRM, with one draw for each lane in SR, and
raise the flags of the active lanes; VFMIN, VFMAX, VFABS and VFNEG are exact. R143: the transcendental operations and the
square root round each active lane once, with one draw for each lane in SR. -/
def Obligations.VectorFloatForms : Prop :=
  (∀ (sm : Bool) (d a b : BitVec 5) (m f : BitVec 3),
    let g := fnFmt f
    Done (.vfadd sm d a b m f) (aSigOf (.vfadd sm d a b m f))
        (fun s => s.roundV d m g.bits (fun o r k => g.add o r (s.vf_ a g k) (s.vf_ b g k)))
    ∧ Done (.vfsub sm d a b m f) (aSigOf (.vfsub sm d a b m f))
        (fun s => s.roundV d m g.bits (fun o r k => g.sub o r (s.vf_ a g k) (s.vf_ b g k)))
    ∧ Done (.vfmul sm d a b m f) (aSigOf (.vfmul sm d a b m f))
        (fun s => s.roundV d m g.bits (fun o r k => g.mul o r (s.vf_ a g k) (s.vf_ b g k)))
    ∧ Done (.vfdiv sm d a b m f) (aSigOf (.vfdiv sm d a b m f))
        (fun s => s.roundV d m g.bits (fun o r k => g.div o r (s.vf_ a g k) (s.vf_ b g k)))
    ∧ Done (.vfmadd sm d a b m f) (aSigOf (.vfmadd sm d a b m f))
        (fun s => s.roundV d m g.bits (fun o r k => g.fma o r (s.vf_ a g k) (s.vf_ b g k) (s.vf_ d g k)))
    ∧ Done (.vfmsub sm d a b m f) (aSigOf (.vfmsub sm d a b m f))
        (fun s => s.roundV d m g.bits (fun o r k => g.fma o r (s.vf_ a g k) (s.vf_ b g k) (s.vf_ d g k).neg))
    ∧ Done (.vfnmadd sm d a b m f) (aSigOf (.vfnmadd sm d a b m f))
        (fun s => s.roundV d m g.bits (fun o r k => g.fma o r (s.vf_ a g k).neg (s.vf_ b g k) (s.vf_ d g k).neg))
    ∧ Done (.vfnmsub sm d a b m f) (aSigOf (.vfnmsub sm d a b m f))
        (fun s => s.roundV d m g.bits (fun o r k => g.fma o r (s.vf_ a g k).neg (s.vf_ b g k) (s.vf_ d g k)))
    ∧ Done (.vfdot2 sm d a b m f) (aSigOf (.vfdot2 sm d a b m f))
        (fun s => s.roundV d m 32 (fun o r k => dot2 g o r s d a b k))
    ∧ LanesDone (.vfmin sm d a b m f) (aSigOf (.vfmin sm d a b m f)) d m g.bits
        (fun s k => (g.minmax false (s.vl a g.bits k) (s.vl b g.bits k)).1)
        (fun s => s.laneFlags m g.bits (fun k => (g.minmax false (s.vl a g.bits k) (s.vl b g.bits k)).2))
    ∧ LanesDone (.vfmax sm d a b m f) (aSigOf (.vfmax sm d a b m f)) d m g.bits
        (fun s k => (g.minmax true (s.vl a g.bits k) (s.vl b g.bits k)).1)
        (fun s => s.laneFlags m g.bits (fun k => (g.minmax true (s.vl a g.bits k) (s.vl b g.bits k)).2))
    ∧ LanesDone (.vfabs sm d a m f) (aSigOf (.vfabs sm d a m f)) d m g.bits
        (fun s k => s.vl a g.bits k % 2 ^ (g.bits - 1)) (fun _ => 0)
    ∧ LanesDone (.vfneg sm d a m f) (aSigOf (.vfneg sm d a m f)) d m g.bits
        (fun s k => s.vl a g.bits k ^^^ 2 ^ (g.bits - 1)) (fun _ => 0))
  ∧ (∀ (sm : Bool) (d a : BitVec 5) (m f : BitVec 3),
    let g := fnFmt f
    Done (.vexp2 sm d a m f) (aSigOf (.vexp2 sm d a m f)) (fun s => s.roundV d m g.bits (fun o r k => g.exp2 o r (s.vf_ a g k)))
    ∧ Done (.vlog2 sm d a m f) (aSigOf (.vlog2 sm d a m f)) (fun s => s.roundV d m g.bits (fun o r k => g.log2 o r (s.vf_ a g k)))
    ∧ Done (.vrcp sm d a m f) (aSigOf (.vrcp sm d a m f)) (fun s => s.roundV d m g.bits (fun o r k => g.rcp o r (s.vf_ a g k)))
    ∧ Done (.vrsqrt sm d a m f) (aSigOf (.vrsqrt sm d a m f))
        (fun s => s.roundV d m g.bits (fun o r k => g.rsqrt o r (s.vf_ a g k)))
    ∧ Done (.vsqrt sm d a m f) (aSigOf (.vsqrt sm d a m f)) (fun s => s.roundV d m g.bits (fun o r k => g.sqrt o r (s.vf_ a g k)))
    ∧ Done (.vtanh sm d a m f) (aSigOf (.vtanh sm d a m f)) (fun s => s.roundV d m g.bits (fun o r k => g.tanh o r (s.vf_ a g k)))
    ∧ Done (.vsigm sm d a m f) (aSigOf (.vsigm sm d a m f)) (fun s => s.roundV d m g.bits (fun o r k => g.sigm o r (s.vf_ a g k)))
    ∧ Done (.vgelu sm d a m f) (aSigOf (.vgelu sm d a m f)) (fun s => s.roundV d m g.bits (fun o r k => g.gelu o r (s.vf_ a g k))))

/-- R144, R145: a reduction reads the active lanes of its source and writes element 0 of V d, with the lane number above it for
the arg forms, and zeros elsewhere; VRSUM of F32 rounds the exact sum once, takes one draw in SR, and gives 0 where no lane is
active. -/
def Obligations.VectorReductions : Prop :=
  ∀ (sm : Bool) (d a : BitVec 5) (m y : BitVec 3),
    let red := fun (s : State) (r : Nat × Option Nat × Nat) =>
      (s.setRegs (s.regs.setV d.toNat (redPut y r.1 r.2.1))).orFlags r.2.2
    DoneIf (.vrsum sm d a m y) (aSigOf (.vrsum sm d a m y)) (fun _ => y ≠ 7)
        (fun s => s.setRegs (s.regs.setV d.toNat (redPut y ((s.activeLanes a m y).map (·.2)).sum none)))
    ∧ DoneIf (.vrsum sm d a m y) (aSigOf (.vrsum sm d a m y)) (fun _ => y = 7)
        (fun s =>
          let q := s.draws s.regs.frm 1
          let ts := (s.activeLanes a m y).map (fun c => fmt32.val c.2)
          let r := if s.activeLanes a m y = [] then (0, 0) else fused s.regs.frm (q.1.headD 0) ts (nvOf (ts.any (·.signals)))
          (q.2.setRegs (q.2.regs.setV d.toNat (redPut y r.1 none))).orFlags r.2)
    ∧ Done (.vrmax sm d a m y) (aSigOf (.vrmax sm d a m y)) (fun s => red s (redBest y true false (s.activeLanes a m y)))
    ∧ Done (.vrmin sm d a m y) (aSigOf (.vrmin sm d a m y)) (fun s => red s (redBest y false false (s.activeLanes a m y)))
    ∧ Done (.vrargmax sm d a m y) (aSigOf (.vrargmax sm d a m y)) (fun s => red s (redBest y true true (s.activeLanes a m y)))
    ∧ Done (.vrargmin sm d a m y) (aSigOf (.vrargmin sm d a m y)) (fun s => red s (redBest y false true (s.activeLanes a m y)))
    ∧ Done (.vrband sm d a m y) (aSigOf (.vrband sm d a m y))
        (fun s => red s (((s.activeLanes a m y).map (·.2)).foldl (· &&& ·) (2 ^ tyW y - 1), none, 0))
    ∧ Done (.vrbor sm d a m y) (aSigOf (.vrbor sm d a m y))
        (fun s => red s (((s.activeLanes a m y).map (·.2)).foldl (· ||| ·) 0, none, 0))
    ∧ Done (.vrbxor sm d a m y) (aSigOf (.vrbxor sm d a m y))
        (fun s => red s (((s.activeLanes a m y).map (·.2)).foldl (· ^^^ ·) 0, none, 0))

/-- R146: the permutes. VPERM takes 0 for an index beyond the lanes; VROT rotates by X b; VCOMP packs the active lanes; VEXPD
spreads the source over them; VINSX and VEXTX move one lane, and trap ILLEGAL on a lane number beyond the lanes. -/
def Obligations.VectorPermutes : Prop :=
  ∀ (sm : Bool) (d a b : BitVec 5) (m y : BitVec 3),
    let w := tyW y
    let n := 512 / w
    LanesDone (.vperm sm d a b m y) (aSigOf (.vperm sm d a b m y)) d m w
        (fun s k => if s.vl b w k < n then s.vl a w (s.vl b w k) else 0) (fun _ => 0)
    ∧ LanesDone (.vbcast sm d a m y) (aSigOf (.vbcast sm d a m y)) d m w (fun s _ => s.vl a w 0) (fun _ => 0)
    ∧ LanesDone (.vbcastx sm d a m y) (aSigOf (.vbcastx sm d a m y)) d m w (fun s _ => (s.regs.xAt a.toNat).toNat) (fun _ => 0)
    ∧ LanesDone (.vrot sm d a b m y) (aSigOf (.vrot sm d a b m y)) d m w
        (fun s k => s.vl a w ((k + (s.regs.xAt b.toNat).toNat) % n)) (fun _ => 0)
    ∧ LanesDone (.vexpd sm d a m y) (aSigOf (.vexpd sm d a m y)) d m w
        (fun s k => s.vl a w ((upFrom 0 k).countP (active w (s.regs.mAt m.toNat)))) (fun _ => 0)
    ∧ Done (.vcomp sm d a m y) (aSigOf (.vcomp sm d a m y))
        (fun s => s.writeV d (ofLanes w ((s.activeLanes a m y).map (·.2))))
    ∧ DoneIf (.vinsx sm d a b y) (aSigOf (.vinsx sm d a b y)) (fun s => (s.regs.xAt b.toNat).toNat < n)
        (fun s => s.writeV d (ofLanes w (setNth ((s.regs.xAt a.toNat).toNat % 2 ^ w)
          (lanesOf w n (s.regs.vAt d.toNat).toNat) (s.regs.xAt b.toNat).toNat)))
    ∧ TrapIf (.vinsx sm d a b y) (aSigOf (.vinsx sm d a b y)) (fun s => n ≤ (s.regs.xAt b.toNat).toNat)
        (fun s => { cause := cILLEGAL, tval := s.regs.xAt b.toNat })
    ∧ DoneIf (.vextx sm d a b y) (aSigOf (.vextx sm d a b y)) (fun s => (s.regs.xAt b.toNat).toNat < n)
        (fun s =>
          let v := s.laneBV a w (s.regs.xAt b.toNat).toNat
          s.writeX d (if tySigned y then v.signExtend 64 else v.setWidth 64))
    ∧ TrapIf (.vextx sm d a b y) (aSigOf (.vextx sm d a b y)) (fun s => n ≤ (s.regs.xAt b.toNat).toNat)
        (fun s => { cause := cILLEGAL, tval := s.regs.xAt b.toNat })

/-- R147: a compare writes M d, bit i for a 32-bit lane and bits 2i and 2i + 1 for a 64-bit one, 0 for inactive lanes, and raises
the flags of the active lanes; writes to M0 are discarded. R150: the mask operations write M d, MTOX writes X d; writes to M0
are discarded. -/
def Obligations.VectorMasks : Prop :=
  (∀ (sm : Bool) (d : BitVec 3) (a b : BitVec 5) (m y : BitVec 3),
    let w := tyW y
    let cmp := fun (s : State) (ty : BitVec 3) (fi : Int → Int → Bool) (ff : FV → FV → Bool × Nat) =>
      let r := cmpMask (tyW ty) (s.regs.mAt m.toNat) (fun k =>
        if ty = 7 then ff (s.vf_ a fmt32 k) (s.vf_ b fmt32 k) else (fi (tyVal ty (s.vl a (tyW ty) k)) (tyVal ty (s.vl b (tyW ty) k)), 0))
      (s.writeM d.toNat r.1).orFlags r.2
    Done (.vcmpEq sm d a b m y) (aSigOf (.vcmpEq sm d a b m y)) (fun s => cmp s y (fun p q => decide (p = q)) fEq)
    ∧ Done (.vcmpNe sm d a b m y) (aSigOf (.vcmpNe sm d a b m y)) (fun s => cmp s y (fun p q => decide (p ≠ q)) fNe)
    ∧ Done (.vcmpLt sm d a b m y) (aSigOf (.vcmpLt sm d a b m y)) (fun s => cmp s y (fun p q => decide (p < q)) fLt)
    ∧ Done (.vcmpLe sm d a b m y) (aSigOf (.vcmpLe sm d a b m y)) (fun s => cmp s y (fun p q => decide (p ≤ q)) fLe)
    ∧ Done (.vcmpGt sm d a b m y) (aSigOf (.vcmpGt sm d a b m y)) (fun s => cmp s y (fun p q => decide (q < p)) (fun p q => fLt q p))
    ∧ Done (.vcmpGe sm d a b m y) (aSigOf (.vcmpGe sm d a b m y)) (fun s => cmp s y (fun p q => decide (q ≤ p)) (fun p q => fLe q p))
    ∧ Done (.vcmpUnord sm d a b m) (aSigOf (.vcmpUnord sm d a b m)) (fun s => cmp s 7 (fun _ _ => false) fUnord)
    ∧ (w = 32 ∨ w = 64 → ∀ (mask : BitVec 16) (f : Nat → Bool × Nat) (i : Nat), i < 16 →
        (cmpMask w mask f).1.getLsbD i = (active w mask (i * 32 / w) && (f (i * 32 / w)).1)))
  ∧ (∀ (sm : Bool) (d a b : BitVec 5),
    Done (.mand sm d a b) (aSigOf (.mand sm d a b)) (fun s => s.writeM d.toNat (s.regs.mAt a.toNat &&& s.regs.mAt b.toNat))
    ∧ Done (.mor sm d a b) (aSigOf (.mor sm d a b)) (fun s => s.writeM d.toNat (s.regs.mAt a.toNat ||| s.regs.mAt b.toNat))
    ∧ Done (.mxor sm d a b) (aSigOf (.mxor sm d a b)) (fun s => s.writeM d.toNat (s.regs.mAt a.toNat ^^^ s.regs.mAt b.toNat))
    ∧ Done (.mandn sm d a b) (aSigOf (.mandn sm d a b)) (fun s => s.writeM d.toNat (s.regs.mAt a.toNat &&& ~~~(s.regs.mAt b.toNat)))
    ∧ Done (.mnot sm d a) (aSigOf (.mnot sm d a)) (fun s => s.writeM d.toNat (~~~(s.regs.mAt a.toNat)))
    ∧ Done (.mfirst sm d a) (aSigOf (.mfirst sm d a))
        (fun s => s.writeM d.toNat (s.regs.mAt a.toNat &&& (0 - s.regs.mAt a.toNat)))
    ∧ Done (.mfromx sm d a) (aSigOf (.mfromx sm d a)) (fun s => s.writeM d.toNat ((s.regs.xAt a.toNat).setWidth 16))
    ∧ Done (.mtox sm d a) (aSigOf (.mtox sm d a)) (fun s => s.writeX d ((s.regs.mAt a.toNat).setWidth 64)))

/-- R148, R149: the vector conversions. Those that round round each active lane once; VCVT.WID is exact; the decodes read the code
table; the encodes write the group's lanes and trap ILLEGAL, with bit 63 and the lane in TVAL, on the first lane whose value
has no code. -/
def Obligations.VectorConversions : Prop :=
  ∀ (sm : Bool) (d a b q : BitVec 5) (m y : BitVec 3),
    Done (.vcvtFi sm d a m y) (aSigOf (.vcvtFi sm d a m y)) (fun s => s.roundV d m 32 (fun o r k =>
        (wrapI 32 (toInt o r (tyLo y) (tyHi y) (s.vf_ a fmt32 k)).1, (toInt o r (tyLo y) (tyHi y) (s.vf_ a fmt32 k)).2)))
    ∧ Done (.vcvtIf sm d a m y) (aSigOf (.vcvtIf sm d a m y)) (fun s => s.roundV d m 32 (fun o r k =>
        fmt32.ofInt o r (tyVal y (s.vl a 32 k % 2 ^ tyW y))))
    ∧ Done (.vcvtNar sm d a b m y) (aSigOf (.vcvtNar sm d a b m y)) (fun s => s.roundV d m 16 (fun o r k =>
        (if y = 0 then fmt16 else fmtB16).put o r (if k < 16 then s.vf_ a fmt32 k else s.vf_ b fmt32 (k - 16))))
    ∧ LanesDone (.vcvtWid sm d a q m y) (aSigOf (.vcvtWid sm d a q m y)) d m 32
        (fun s k => (fmt32.put mRNE 0 (s.vf_ a (if y = 0 then fmt16 else fmtB16) (16 * q.toNat + k))).1)
        (fun s => s.laneFlags m 32 (fun k => (fmt32.put mRNE 0 (s.vf_ a (if y = 0 then fmt16 else fmtB16) (16 * q.toNat + k))).2))
    ∧ LanesDone (.vcvtDt8 sm d a q m) (aSigOf (.vcvtDt8 sm d a q m)) d m 32
        (fun s k => (tabGet 0 s.regs.ct8 (s.vl a 8 (16 * q.toNat + k))).toNat) (fun _ => 0)
    ∧ LanesDone (.vcvtDt4 sm d a q m) (aSigOf (.vcvtDt4 sm d a q m)) d m 32
        (fun s k => (tabGet 0 s.regs.ct4 (s.vl a 4 (16 * q.toNat + k))).toNat) (fun _ => 0)
    ∧ DoneIf (.vcvtEt8 sm d a q m) (aSigOf (.vcvtEt8 sm d a q m))
        (fun s => ∀ k, k < 16 → (s.regs.mAt m.toNat).getLsbD ((16 * q.toNat + k) * 8 / 32) = true →
          (encodeT 256 s.regs.ct8 (s.vf_ a fmt32 k)).isSome = true)
        (fun s => s.encodeGroup d a q m 8 s.regs.ct8)
    ∧ DoneIf (.vcvtEt4 sm d a q m) (aSigOf (.vcvtEt4 sm d a q m))
        (fun s => ∀ k, k < 16 → (s.regs.mAt m.toNat).getLsbD ((16 * q.toNat + k) * 4 / 32) = true →
          (encodeT 16 s.regs.ct4 (s.vf_ a fmt32 k)).isSome = true)
        (fun s => s.encodeGroup d a q m 4 s.regs.ct4)
    ∧ (∀ k, k < 16 → TrapIf (.vcvtEt8 sm d a q m) (aSigOf (.vcvtEt8 sm d a q m))
        (fun s => (s.regs.mAt m.toNat).getLsbD ((16 * q.toNat + k) * 8 / 32) = true
          ∧ encodeT 256 s.regs.ct8 (s.vf_ a fmt32 k) = none
          ∧ ∀ j, j < k → (s.regs.mAt m.toNat).getLsbD ((16 * q.toNat + j) * 8 / 32) = true →
            (encodeT 256 s.regs.ct8 (s.vf_ a fmt32 j)).isSome = true)
        (fun _ => { cause := cILLEGAL, tval := natW (2 ^ 63 + k) }))
    ∧ (∀ k, k < 16 → TrapIf (.vcvtEt4 sm d a q m) (aSigOf (.vcvtEt4 sm d a q m))
        (fun s => (s.regs.mAt m.toNat).getLsbD ((16 * q.toNat + k) * 4 / 32) = true
          ∧ encodeT 16 s.regs.ct4 (s.vf_ a fmt32 k) = none
          ∧ ∀ j, j < k → (s.regs.mAt m.toNat).getLsbD ((16 * q.toNat + j) * 4 / 32) = true →
            (encodeT 16 s.regs.ct4 (s.vf_ a fmt32 j)).isSome = true)
        (fun _ => { cause := cILLEGAL, tval := natW (2 ^ 63 + k) }))

/-- R154 to R156: the hypervector operations, component by component and counter by counter; HBUNDLE raises SAT exactly when a
counter was clamped, and the others raise no flag. -/
def Obligations.HyperResults : Prop :=
  ∀ (sm : Bool) (d a b : BitVec 3) (k : BitVec 2) (x : BitVec 5) (t : Bool) (n : BitVec 12),
    let H := fun (s : State) (r : BitVec 3) => s.regs.hAt r.toNat
    let C := fun (s : State) (i : Nat) => sextInt 8 (lane 8 i (s.regs.bAt k.toNat).toNat)
    let one := fun (i : Instr) (f : State → Nat → Bool) => ∀ s, s.ready (aSigOf i) = true → ∃ v : BitVec 4096,
      exec i s = .next (s.retires (aSigOf i) (s.writeH d v)) ∧ ∀ j, j < 4096 → v.getLsbD j = f s j
    one (.hbind sm d a b t) (fun s j => (H s a).getLsbD j ^^ (H s b).getLsbD j)
    ∧ one (.hperm sm d a t n) (fun s j => (H s a).getLsbD ((j + (4096 - n.toNat)) % 4096))
    ∧ one (.hnot sm d a t) (fun s j => !(H s a).getLsbD j)
    ∧ one (.hmov sm d a t) (fun s j => (H s a).getLsbD j)
    ∧ one (.hthr sm d a k t) (fun s j => if C s j = 0 then (H s a).getLsbD j else decide (0 < C s j))
    ∧ (∀ s, s.ready (aSigOf (.hbundle sm a k t)) = true → ∃ (v : BitVec 32768) (sat : Bool),
        exec (.hbundle sm a k t) s
          = .next (s.retires (aSigOf (.hbundle sm a k t)) ((s.setRegs (s.regs.setB k.toNat v)).orFlags (if sat then flSAT else 0)))
        ∧ (∀ j, j < 4096 → sextInt 8 (lane 8 j v.toNat) = clampI (-128) 127 (C s j + if (H s a).getLsbD j then 1 else -1))
        ∧ (sat = true ↔ ∃ j, j < 4096 ∧
            ¬(-128 ≤ C s j + (if (H s a).getLsbD j then 1 else -1) ∧ C s j + (if (H s a).getLsbD j then 1 else -1) ≤ 127)))
    ∧ Done (.hclr sm k) (aSigOf (.hclr sm k)) (fun s => s.setRegs (s.regs.setB k.toNat 0))
    ∧ Done (.hdist sm a b t x) (aSigOf (.hdist sm a b t x)) (fun s => s.writeX x (natW (popcount 4096 (H s a ^^^ H s b).toNat)))
    ∧ Done (.hpop sm a t x) (aSigOf (.hpop sm a t x)) (fun s => s.writeX x (natW (popcount 4096 (H s a).toNat)))

/-- R175, R181: MZERO clears an accumulator; MROWR and MROWW move a row, numbered by X b and under REP by RI as well, and trap
ILLEGAL on a row of 16 or more; MEDGE writes the masks M5, M6 and M7 from the geometry CSRs. -/
def Obligations.MatrixRows : Prop :=
  ∀ (sm : Bool) (d a b : BitVec 5) (t u : Bool),
    let row := fun (s : State) => s.regs.xAt b.toNat + (if s.regs.csrAt csrRC = 0 then 0 else s.regs.csrAt csrRI)
    Done (.mzero sm d) (aSigOf (.mzero sm d)) (fun s => s.setRegs (s.regs.setAcc d.toNat 0))
    ∧ DoneIf (.mrowr sm d a b u) (aSigOf (.mrowr sm d a b u)) (fun s => (row s).toNat < 16)
        (fun s => s.writeV d (lane 512 (row s).toNat (s.regs.accAt a.toNat).toNat))
    ∧ TrapIf (.mrowr sm d a b u) (aSigOf (.mrowr sm d a b u)) (fun s => 16 ≤ (row s).toNat)
        (fun s => { cause := cILLEGAL, tval := row s })
    ∧ (∀ s, s.ready (aSigOf (.mroww sm d a b t u)) = true → (row s).toNat < 16 → ∃ v : BitVec 8192,
        exec (.mroww sm d a b t u) s
          = .next (s.retires (aSigOf (.mroww sm d a b t u)) (s.setRegs (s.regs.setAcc d.toNat v)))
        ∧ ∀ k, k < 16 → lane 512 k v.toNat =
            if k = (row s).toNat then (s.regs.vAt a.toNat).toNat else lane 512 k (s.regs.accAt d.toNat).toNat)
    ∧ TrapIf (.mroww sm d a b t u) (aSigOf (.mroww sm d a b t u)) (fun s => 16 ≤ (row s).toNat)
        (fun s => { cause := cILLEGAL, tval := row s })
    ∧ (∀ s, s.ready (aSigOf (.medge sm a t)) = true → ∃ p q r : BitVec 16,
        exec (.medge sm a t) s = .next (s.retires (aSigOf (.medge sm a t)) (((s.writeM 5 p).writeM 6 q).writeM 7 r))
        ∧ ∀ i, i < 16 →
          p.getLsbD i = decide ((s.regs.csrAt csrMGOM).toNat + i < (s.regs.csrAt csrMGM).toNat)
          ∧ q.getLsbD i = decide ((s.regs.csrAt csrMGON).toNat + i < (s.regs.csrAt csrMGN).toNat)
          ∧ r.getLsbD i = decide ((s.regs.xAt a.toNat).toNat + i < (s.regs.csrAt csrMGK).toNat))

/-- R91 to R94, R169, R176 to R180: an MMA on two slots that its context owns, that are not busy and not poisoned, counts one tile
operation for each metered region (waiting where a ceiling forbids it) and writes every element of ACC c that the masks admit,
keeping the others, unless a handover has frozen such a region: then it traps METER (R429); where that trap stands among the
checks, and that its TVAL is a free value of the region, is the model's choice (log entry 93). MMA_I8 adds the exact sum of
the products, wrapped, or clamped with SAT. A slot of another owner traps SLOT, and a busy one makes the word wait. -/
def Obligations.MatrixProducts : Prop :=
  ∀ (sm : Bool) (c : BitVec 2) (k z : Bool) (a b f : BitVec 5) (r : BitVec 3) (sat : Bool),
    let na := fun (s : State) => fld (s.regs.xAt a.toNat).toNat 0 7
    let nb := fun (s : State) => fld (s.regs.xAt b.toNat).toNat 0 7
    let good := fun (s : State) (n : Nat) => (s.slotAt n).owner = some s.cur ∧ (s.slotAt n).busy = false ∧ (s.slotAt n).poison = false
    let free := fun (s : State) => (s.tagsOf [na s, nb s]).find? s.frozen = none
    let on := fun (s : State) (e : Nat) => !k || ((s.regs.mAt 5).getLsbD (e / 16) && (s.regs.mAt 6).getLsbD (e % 16))
    let floats := fun (i : Instr) (fa fb : Nat) => ∀ s s1, s.ready (aSigOf i) = true → good s (na s) → good s (nb s) → free s →
      s.countTiles (na s) (nb s) = some s1 →
        let mode := if r = 5 then s.regs.frm else r.toNat
        let q := s1.draws mode 256
        let elem := fun e => mmaElem s.regs fa fb (s.slotAt (na s)) (s.slotAt (nb s)) (s.fv f) k z
          (accElt (s.regs.accAt c.toNat) e) mode (nth 0 q.1 e) (e / 16) (e % 16)
        ∃ v : BitVec 8192,
          exec i s = .next (s.retires (aSigOf i) ((q.2.setRegs (q.2.regs.setAcc c.toNat v)).orFlags
            (((upFrom 0 256).map (fun e => if on s e then (elem e).2 else 0)).foldl (· ||| ·) 0)))
          ∧ ∀ e, e < 256 → accElt v e = if on s e then BitVec.ofNat 32 (elem e).1 else accElt (s.regs.accAt c.toNat) e
    let stops := fun (i : Instr) =>
      TrapIf i (aSigOf i) (fun s => (s.slotAt (na s)).owner ≠ some s.cur) (fun s => { cause := cSLOT, tval := natW (na s) })
      ∧ TrapIf i (aSigOf i) (fun s => (s.slotAt (na s)).owner = some s.cur ∧ (s.slotAt (nb s)).owner ≠ some s.cur)
          (fun s => { cause := cSLOT, tval := natW (nb s) })
      ∧ WaitIf i (aSigOf i) (fun s => (s.slotAt (na s)).owner = some s.cur ∧ (s.slotAt (nb s)).owner = some s.cur
          ∧ ((s.slotAt (na s)).busy = true ∨ (s.slotAt (nb s)).busy = true))
      ∧ ∀ n, TrapIf i (aSigOf i) (fun s => good s (na s) ∧ good s (nb s) ∧ (s.tagsOf [na s, nb s]).find? s.frozen = some n)
          (fun _ => { cause := cMETER, tval := Config.frozenValue n })
    floats (.mmaH sm c k z a b f r) 0 0 ∧ stops (.mmaH sm c k z a b f r)
    ∧ floats (.mmaB sm c k z a b f r) 1 1 ∧ stops (.mmaB sm c k z a b f r)
    ∧ floats (.mmaT8 sm c k z a b f r) 2 2 ∧ stops (.mmaT8 sm c k z a b f r)
    ∧ floats (.mmaT84 sm c k z a b f r) 2 3 ∧ stops (.mmaT84 sm c k z a b f r)
    ∧ floats (.mmaT4 sm c k z a b f r) 3 3 ∧ stops (.mmaT4 sm c k z a b f r)
    ∧ stops (.mmaI8 sm c k z a b sat)
    ∧ ∀ s s1, s.ready (aSigOf (.mmaI8 sm c k z a b sat)) = true → good s (na s) → good s (nb s) → free s →
      s.countTiles (na s) (nb s) = some s1 →
        let prod := fun e j => if k && !((s.regs.mAt 7).getLsbD j) then (0 : Int)
          else sextInt 8 (lane 8 (16 * (e / 16) + j) (s.slotAt (na s)).data.toNat)
            * sextInt 8 (lane 8 (16 * (e % 16) + j) (s.slotAt (nb s)).data.toNat)
        let old := fun e => accElt (s.regs.accAt c.toNat) e
        let sum := fun e => (if z then 0 else (old e).toInt) + ((upFrom 0 16).map (prod e)).sum
        let outside := fun e => sat && decide (sum e < -(2 ^ 31 : Int) ∨ (2 ^ 31 : Int) ≤ sum e)
        ∃ v : BitVec 8192,
          exec (.mmaI8 sm c k z a b sat) s = .next (s.retires (aSigOf (.mmaI8 sm c k z a b sat))
            ((s1.setRegs (s1.regs.setAcc c.toNat v)).orFlags (if (upFrom 0 256).any (fun e => on s e && outside e) then flSAT else 0)))
          ∧ ∀ e, e < 256 → accElt v e = if on s e then
              (if sat then BitVec.ofInt 32 (clampI (-(2 ^ 31 : Int)) (2 ^ 31 - 1) (sum e)) else BitVec.ofInt 32 (sum e)) else old e

/-- R107, R108, R110: each conditional branch goes to its own address plus four times its signed offset where its condition holds,
and on in sequence where it does not; no register is written. -/
def Obligations.Branches : Prop :=
  ∀ (sm l : Bool) (a b : BitVec 5) (k : BitVec 3) (o : BitVec 12),
    let two := fun (i : Instr) (p : State → Bool) =>
      JumpIf i (cSig i) (fun s => p s = true) (fun s => s) (fun s => s.pc + o.signExtend 64 * 4)
      ∧ DoneIf i (cSig i) (fun s => p s = false) (fun s => s)
    let A := fun (s : State) => s.regs.xAt a.toNat
    let B := fun (s : State) => s.regs.xAt b.toNat
    let M := fun (s : State) => s.regs.mAt k.toNat
    two (.beq sm l a b o) (fun s => decide (A s = B s)) ∧ two (.bne sm l a b o) (fun s => decide (A s ≠ B s))
    ∧ two (.blt sm l a b o) (fun s => (A s).slt (B s)) ∧ two (.bge sm l a b o) (fun s => (B s).sle (A s))
    ∧ two (.bltu sm l a b o) (fun s => (A s).ult (B s)) ∧ two (.bgeu sm l a b o) (fun s => (B s).ule (A s))
    ∧ two (.bmskAny sm l k o) (fun s => decide (M s ≠ 0)) ∧ two (.bmskNone sm l k o) (fun s => decide (M s = 0))
    ∧ two (.bmskAll sm l k o) (fun s => decide (M s = 0xFFFF)) ∧ two (.bmskNall sm l k o) (fun s => decide (M s ≠ 0xFFFF))

/-- R109, R111, R113: JAL and JALR write the next sequential address and jump; LOOP writes the loop's count, start and end and
goes to its start, or to its end where the count is 0; REP sets RC and clears RI, and passes over the next unit where the
count is 0; LOOP and REP trap ILLEGAL on the operands that the rules name. -/
def Obligations.JumpsAndLoops : Prop :=
  ∀ (sm l n t : Bool) (d a : BitVec 5) (o : BitVec 18) (i : BitVec 12),
    let A := fun (s : State) => s.regs.xAt a.toNat
    let lp := Instr.loop sm l n a t i
    let rp := Instr.rep sm l a t i
    let e := fun (s : State) => (s.pc.toNat : Int) + i.toInt * 4
    let c := fun (s : State) => (A s).toInt + i.toInt
    let set := fun (s : State) =>
      ((s.setCsr (if n then csrLC1 else csrLC0) (A s)).setCsr (if n then csrLS1 else csrLS0) (s.pc + 4)).setCsr
        (if n then csrLE1 else csrLE0) (BitVec.ofInt 64 (e s))
    JumpIf (.jal sm l d o) (cSig (.jal sm l d o)) (fun _ => True) (fun s => s.writeX d (s.pc + 4))
        (fun s => s.pc + o.signExtend 64 * 4)
    ∧ JumpIf (.jalr sm l d a t i) (cSig (.jalr sm l d a t i)) (fun _ => True) (fun s => s.writeX d (s.pc + 4))
        (fun s => (A s + i.signExtend 64) &&& ~~~3#64)
    ∧ TrapIf lp (cSig lp) (fun s => 2 ^ 32 ≤ (A s).toNat) (fun s => { cause := cILLEGAL, tval := A s })
    ∧ TrapIf lp (cSig lp) (fun s => (A s).toNat < 2 ^ 32 ∧ e s ≤ ((s.pc + 4).toNat : Int))
        (fun s => { cause := cILLEGAL, tval := BitVec.ofInt 64 (e s) })
    ∧ JumpIf lp (cSig lp) (fun s => (A s).toNat < 2 ^ 32 ∧ ((s.pc + 4).toNat : Int) < e s) set
        (fun s => if A s = 0 then BitVec.ofInt 64 (e s) else s.pc + 4)
    ∧ TrapIf rp (cSig rp) (fun s => c s < 0 ∨ 65535 < c s) (fun s => { cause := cILLEGAL, tval := BitVec.ofInt 64 (c s) })
    ∧ TrapIf rp (cSig rp) (fun s => 0 ≤ c s ∧ c s ≤ 65535 ∧
          ((s.regs.csrAt csrLC0 ≠ 0 ∧ s.pc + 4 = s.regs.csrAt csrLE0) ∨ (s.regs.csrAt csrLC1 ≠ 0 ∧ s.pc + 4 = s.regs.csrAt csrLE1)))
        (fun s => { cause := cILLEGAL, tval := s.pc + 4 })
    ∧ DoneIf rp (cSig rp) (fun s => 0 < c s ∧ c s ≤ 65535 ∧ s.regs.loopAt (s.pc + 4) = false)
        (fun s => (s.setCsr csrRC (BitVec.ofInt 64 (c s))).setCsr csrRI 0)
    ∧ (∀ q s1, JumpIf rp (cSig rp) (fun s => c s = 0 ∧ s.regs.loopAt (s.pc + 4) = false
          ∧ ((s.setCsr csrRC 0).setCsr csrRI 0).nextOf (s.pc + 4) = .ok (q, s1)) (fun _ => s1) (fun _ => q))
    ∧ (∀ y, TrapIf rp (cSig rp) (fun s => c s = 0 ∧ s.regs.loopAt (s.pc + 4) = false
          ∧ ((s.setCsr csrRC 0).setCsr csrRI 0).nextOf (s.pc + 4) = .error y) (fun _ => y))

/-- R117, R119, R120, R392: NOP only retires; YIELD notes every other context of its core, each of which is owed an issue turn
before its own next; ECALL and EBREAK trap with TVAL 0; HRET puts the loop and repeat state back from the shadows, the mode
from PHM, and goes on at TEPC; every other register, the full/empty bits and the poison marks, the generator and the code
tables stay. -/
def Obligations.SystemForms : Prop :=
  ∀ (sm l : Bool),
    Done (.nop sm l) (cSig (.nop sm l)) (fun s => s)
    ∧ (∀ s, s.ready (cSig (.yield sm l)) = true → ∃ ds : List Nat,
        exec (.yield sm l) s = .next (s.retires (cSig (.yield sm l)) (s.setMe { s.me with owed := ds }))
        ∧ ∀ c, c ∈ ds ↔ coreOf c = coreOf s.cur ∧ c ≠ s.cur)
    ∧ TrapIf (.ecall sm l) (cSig (.ecall sm l)) (fun _ => True) (fun _ => { cause := cECALL, tval := 0 })
    ∧ TrapIf (.ebreak sm l) (cSig (.ebreak sm l)) (fun _ => True) (fun _ => { cause := cBREAK, tval := 0 })
    ∧ (∀ s, s.ready (cSig (.hret sm l)) = true → ∃ r : Regs,
        exec (.hret sm l) s = .next (s.redirects (cSig (.hret sm l)) { s.setRegs r with unit := { s.unit with resume := true } }
          (s.regs.csrAt csrTEPC))
        ∧ { r with csr := [], pc := 0 } = { s.regs with csr := [], pc := 0 }
        ∧ (∀ k, k < 8 → r.csrAt (csrLC0 + k) = s.regs.csrAt (csrTLC0 + k))
        ∧ r.hm = s.regs.phm ∧ r.phm = s.regs.phm ∧ r.stepBit = s.regs.stepBit
        ∧ ∀ k, k ≠ csrTSTAT → ¬(csrLC0 ≤ k ∧ k < csrLC0 + 8) → r.csrAt k = s.regs.csrAt k)

/-- R33, R116: a CSR form that passes the checks writes rd with the value before the unit and, where it has a new value, the CSR;
CSRS and CSRC with register field 0 have none. TSTAT keeps its mode bit and takes PHM and STEP; QB0 to QB7 are written as R27
and R244 say, and wait under an unresolved collective branch. R33, R30: the checks of a CSR access, in their order: a handler
CSR in task mode traps PRIV; a reserved address traps RESERVED; a new value for a CSR writable in handler mode only traps PRIV
in task mode, one for a read-only CSR traps ILLEGAL, and one with a reserved field that is not zero traps RESERVED; anything
else passes. -/
def Obligations.CsrForms : Prop :=
  (∀ (sm l : Bool) (d a : BitVec 5) (c : BitVec 11),
    let k := c.toNat
    let old := fun (s : State) => s.readCsr k
    let form := fun (i : Instr) (new : State → Option Word) =>
      (DoneIf i (cSig i) (fun s => csrTrap s.regs.hm k (new s) = none ∧ new s = none) (fun s => s.writeX d (old s)))
      ∧ (k ≠ csrTSTAT → ¬(csrQB0 ≤ k ∧ k < csrQB0 + 8) → ∀ v, DoneIf i (cSig i)
          (fun s => csrTrap s.regs.hm k (new s) = none ∧ new s = some v) (fun s => (s.writeX d (old s)).setCsr k v))
      ∧ (k = csrTSTAT → ∀ v, DoneIf i (cSig i) (fun s => csrTrap s.regs.hm k (new s) = none ∧ new s = some v)
          (fun s => (s.writeX d (old s)).setCsr csrTSTAT
            (bit1 64 s.regs.hm + 2 * bit1 64 (v.getLsbD 1) + 4 * bit1 64 (v.getLsbD 2))))
      ∧ (csrQB0 ≤ k → k < csrQB0 + 8 →
          let put := fun (s : State) (v : Word) =>
            (s.writeX d (old s)).writeQb (k - csrQB0) v (natW ((cSig i).word)) (natW (v.toNat % 2 ^ 32))
          let open_ := fun (s : State) (v : Word) => csrTrap s.regs.hm k (new s) = none ∧ new s = some v
          (∀ v s1, DoneIf i (cSig i) (fun s => open_ s v ∧ s.me.spec = none ∧ put s v = .ok s1) (fun _ => s1))
          ∧ (∀ v y, TrapIf i (cSig i) (fun s => open_ s v ∧ s.me.spec = none ∧ put s v = .error y) (fun _ => y))
          ∧ ∀ v s, s.ready (cSig i) = true → open_ s v → s.me.spec ≠ none → exec i s = .next (s.waitsOn (some .cbr)))
      ∧ ∀ q, TrapIf i (cSig i) (fun s => csrTrap s.regs.hm k (new s) = some q)
          (fun _ => { cause := q, tval := natW ((cSig i).word) })
    form (.csrr sm l d c) (fun _ => none)
    ∧ form (.csrw sm l d a c) (fun s => some (s.regs.xAt a.toNat))
    ∧ form (.csrs sm l d a c) (fun s => if a = 0 then none else some (old s ||| s.regs.xAt a.toNat))
    ∧ form (.csrc sm l d a c) (fun s => if a = 0 then none else some (old s &&& ~~~(s.regs.xAt a.toNat))))
  ∧ (∀ (hm : Bool) (a : Nat) (v : Word), a < 2048 →
    (hm = false → 0x100 ≤ a → a < 0x200 → csrTrap hm a none = some cPRIV ∧ csrTrap hm a (some v) = some cPRIV)
    ∧ ((hm = true ∨ a < 0x100 ∨ 0x200 ≤ a) →
      (csrUse a = none → csrTrap hm a none = some cRESERVED ∧ csrTrap hm a (some v) = some cRESERVED)
      ∧ (csrUse a ≠ none → csrTrap hm a none = none)
      ∧ (csrUse a = some .rwHandler → hm = false → csrTrap hm a (some v) = some cPRIV)
      ∧ (csrUse a = some .ro ∨ csrUse a = some .handlerRo → csrTrap hm a (some v) = some cILLEGAL)
      ∧ (csrUse a = some .rw ∨ csrUse a = some .handler ∨ (csrUse a = some .rwHandler ∧ hm = true) →
          csrTrap hm a (some v) = if csrReserved a v.toNat then some cRESERVED else none)))

/-- R121 to R125, R279, R349: the scalar loads of each space, of 1, 2, 4 or 8 bytes, sign-extended or zero-extended. -/
def Obligations.ScalarLoads : Prop :=
  ∀ (sm l : Bool) (d a : BitVec 5) (o : BitVec 8) (z w : BitVec 2) (e : Bool),
    let m := 2 ^ z.toNat
    LoadForms (.ldg sm l d a o z w e) 0 (fun s => s.offsetAddr a o m) m w 0 d.toNat (!e)
    ∧ LoadForms (.lds sm l d a o z w e) 1 (fun s => s.offsetAddr a o m) m w 0 d.toNat (!e)
    ∧ LoadForms (.ldw sm l d a o z w e) 2 (fun s => s.offsetAddr a o m) m w 0 d.toNat (!e)

/-- R121 to R125, R350: the scalar stores of each space write the low bytes of X d, the lowest byte at the lowest address. -/
def Obligations.ScalarStores : Prop :=
  ∀ (sm l : Bool) (d a : BitVec 5) (o : BitVec 8) (z w : BitVec 2) (t : Bool),
    let m := 2 ^ z.toNat
    let bs := fun (s : State) => bytesOf m (s.regs.xAt d.toNat).toNat
    StoreForms (.stg sm l d a o z w t) 0 (fun s => s.offsetAddr a o m) bs m w 1
    ∧ StoreForms (.sts sm l d a o z w t) 1 (fun s => s.offsetAddr a o m) bs m w 1
    ∧ StoreForms (.stw sm l d a o z w t) 2 (fun s => s.offsetAddr a o m) bs m w 1

/-- R133, R158: the vector and hypervector loads and stores move 64, 32, 16 or 8 bytes of a V register and all 512 bytes of an H
register, without a mask; a hypervector under REP steps by 512 bytes and has no W field. -/
def Obligations.WideMemory : Prop :=
  ∀ (sm l : Bool) (d a : BitVec 5) (o : BitVec 8) (z w : BitVec 2) (t u : Bool) (h : BitVec 3),
    let m := 64 / 2 ^ z.toNat
    let vb := fun (s : State) => bytesOf m (s.regs.vAt d.toNat).toNat
    let hb := fun (s : State) => bytesOf 512 (s.regs.hAt h.toNat).toNat
    let ha := fun (s : State) => s.regs.xAt a.toNat + (if s.regs.csrAt csrRC = 0 then 0 else s.regs.csrAt csrRI * 512)
    LoadForms (.vldg sm l d a o z w) 0 (fun s => s.offsetAddr a o m) m w 2 d.toNat false
    ∧ LoadForms (.vlds sm l d a o z w) 1 (fun s => s.offsetAddr a o m) m w 2 d.toNat false
    ∧ StoreForms (.vstg sm l d a o z w t) 0 (fun s => s.offsetAddr a o m) vb m w ((m + 7) / 8)
    ∧ StoreForms (.vsts sm l d a o z w t) 1 (fun s => s.offsetAddr a o m) vb m w ((m + 7) / 8)
    ∧ LoadForms (.hldG sm l h a t) 0 ha 512 0 3 h.toNat false
    ∧ LoadForms (.hldS sm l h a t) 1 ha 512 0 3 h.toNat false
    ∧ StoreForms (.hstG sm l a h t u) 0 ha hb 512 0 64
    ∧ StoreForms (.hstS sm l a h t u) 1 ha hb 512 0 64

/-- R123, R264: the space checks, on the address alone. A scratchpad address must lie in the own scratchpad or, through the grove
window, in one scratchpad of the grove, below the stash; a store of a DUAL task must lie in the own one; a global address must
lie below 2^52 and below the device region, or, for a read, in the launch window; a window address must name a row of the
batch and a page of its stream. An aligned access that passes lies in one scratchpad. -/
def Obligations.SpaceChecks : Prop :=
  ∀ (s : State) (a : Word) (acc : Acc),
    let prot : Why := { cause := cPROT, tval := a, acc := accCode acc }
    let strm : Why := { cause := cSTREAM, tval := a, acc := accCode acc }
    let top := fun (k : Nat) => 0x40000 - 1024 * s.stashOf k
    let in_ := fun (k o : Nat) => k < 24 ∧ o < 0x40000 ∧ a.toNat = 0x800000 + 0x40000 * k + o
    (2 ^ 52 ≤ a.toNat → s.checkSpace 0 a acc = some prot)
    ∧ (a.toNat < 0xFFFFFFFF00000 → s.checkSpace 0 a acc = none)
    ∧ (0xFFFFFFFF00000 ≤ a.toNat → (acc.writes = true ∨ a.toNat < 0xFFFFFFFFFFF00) → s.checkSpace 0 a acc = some prot)
    ∧ (0xFFFFFFFFFFF00 ≤ a.toNat → a.toNat < 2 ^ 52 → acc.writes = false → s.checkSpace 0 a acc = none)
    ∧ (a.toNat < top (coreOf s.cur) → s.checkSpace 1 a acc = none)
    ∧ (top (coreOf s.cur) ≤ a.toNat → a.toNat < 0x800000 → s.checkSpace 1 a acc = some prot)
    ∧ (∀ k o, in_ k o → o < top (groveOf s.cur * 24 + k) →
        s.checkSpace 1 a acc
          = if acc.writes = true ∧ s.inDual = true ∧ groveOf s.cur * 24 + k ≠ coreOf s.cur then some prot else none)
    ∧ (∀ k o, in_ k o → top (groveOf s.cur * 24 + k) ≤ o → s.checkSpace 1 a acc = some prot)
    ∧ (0xE00000 ≤ a.toNat → s.checkSpace 1 a acc = some prot)
    ∧ (∀ n, 0 < n → a.toNat + n ≤ top (coreOf s.cur) → s.scrLoc s.cur a.toNat n = some (.scr (coreOf s.cur) a.toNat))
    ∧ (∀ n k o, 0 < n → in_ k o → o + n ≤ top (groveOf s.cur * 24 + k) →
        s.scrLoc s.cur a.toNat n = some (.scr (groveOf s.cur * 24 + k) o))
    ∧ (2 ^ 24 ≤ a.toNat → s.checkSpace 2 a acc = some prot)
    ∧ (a.toNat < 2 ^ 24 → (s.regs.csrAt csrSBN).toNat ≤ fld a.toNat 20 4 → s.checkSpace 2 a acc = some strm)
    ∧ (a.toNat < 2 ^ 24 → fld a.toNat 20 4 < (s.regs.csrAt csrSBN).toNat →
        s.checkSpace 2 a acc
          = if (s.rowStream s.cur (fld a.toNat 20 4)).2.2.npg ≤ fld a.toNat 14 6 then some strm else none)

/-- R136, R137: a gather reads and a scatter writes the active 32-bit elements at the scalar base plus each lane's signed offset,
in ascending lane order; every active element is checked first, and the first that fails traps with its own address and
nothing is read or written. -/
def Obligations.GatherScatter : Prop :=
  ∀ (sm l : Bool) (d a b : BitVec 5) (t u : Bool) (p : BitVec 2) (m : BitVec 3),
    let lanes := fun (s : State) => ((upFrom 0 16).filter (fun i => (s.regs.mAt m.toNat).getLsbD i)).map (fun i =>
      (i, s.regs.xAt a.toNat + (BitVec.ofNat 32 (lane 32 i (s.regs.vAt b.toNat).toNat)).signExtend 64))
    let ga := Instr.vgath sm l d a b t u p m
    let sc := Instr.vscat sm l d a b t u p m
    (∀ q g s1, DoneIf ga (cSig ga) (fun s => s.lanesOk p.toNat false (lanes s) = .ok q ∧ s.acquiring = false
          ∧ (p = 0 → ∀ x ∈ lanes s, s.ringOverlap x.2.toNat 4 = false)
          ∧ s.gather p.toNat { base := (s.regs.vAt d.toNat).toNat } (lanes s) = .ok g s1)
        (fun _ => s1.addProd 2 d.toNat false (.gather 4 g.base g.parts)))
    ∧ (∀ y, TrapIf ga (cSig ga) (fun s => s.lanesOk p.toNat false (lanes s) = .stop (.trap y)) (fun _ => y))
    ∧ (∀ q s1, DoneIf sc (cSig sc) (fun s => s.lanesOk p.toNat true (lanes s) = .ok q ∧ s.acquiring = false
          ∧ q.scatter p.toNat (s.regs.vAt d.toNat).toNat (lanes s) = .ok s1) (fun _ => s1))
    ∧ (∀ y, TrapIf sc (cSig sc) (fun s => s.lanesOk p.toNat true (lanes s) = .stop (.trap y)) (fun _ => y))
    ∧ (p = 1 → ∀ i x y, TrapIf sc (cSig sc) (fun s => (i, x) ∈ lanes s ∧ s.checkSpace 1 x .store = some y
          ∧ ∀ j z, (j, z) ∈ lanes s → j < i → s.checkSpace 1 z .store = none ∧ z.toNat % 4 = 0
            ∧ (s.scrLoc s.cur z.toNat 4).isSome = true) (fun _ => y))

/-- R159 to R164: a Pod form traps POD without a window or on an index beyond it; PODW and PODR wait for a place in the queue of
32, send their request and complete when the Pod has served it; PODS only waits for a place, and its result comes to X d
later; a poisoned entry of its window that no queued write is to rewrite traps MCE with its index. -/
def Obligations.PodForms : Prop :=
  ∀ (sm l : Bool) (a d : BitVec 5) (h : BitVec 3) (t u : Bool),
    let ix := fun (s : State) => s.regs.xAt a.toNat + (if s.regs.csrAt csrRC = 0 then 0 else s.regs.csrAt csrRI)
    let pod := fun (s : State) => s.grove (groveOf s.cur)
    let room := fun (s : State) => (pod s).podQ.length < 32 ∧ s.acquiring = false
    let queued := fun (s : State) => s.setGrove (groveOf s.cur) { pod s with podQ := (pod s).podQ ++ [(s.cur, s.me.nseq)] }
    let none_ := fun (i : Instr) => TrapIf i (cSig i) (fun s => s.podWindow = none)
      (fun s => { cause := cPOD, tval := s.regs.csrAt csrHWIN })
    let far := fun (i : Instr) => ∀ f n, TrapIf i (cSig i) (fun s => s.podWindow = some (f, n) ∧ n ≤ (ix s).toNat)
      (fun s => { cause := cPOD, tval := ix s })
    let w := Instr.podw sm l a h t u
    let r := Instr.podr sm l h a t
    let q := Instr.pods sm l d h u
    none_ w ∧ none_ r ∧ none_ q ∧ far w ∧ far r
    ∧ (∀ f n, SendIf w (cSig w) (fun s => s.podWindow = some (f, n) ∧ (ix s).toNat < n ∧ room s) queued
        (fun s => .podw (f + (ix s).toNat) (s.regs.hAt h.toNat)))
    ∧ AnswerDone w (cSig w) (fun s _ _ _ _ => s)
    ∧ (∀ f n, SendIf r (cSig r) (fun s => s.podWindow = some (f, n) ∧ (ix s).toNat < n
          ∧ room s) queued (fun s => .podr (f + (ix s).toNat) (ix s).toNat))
    ∧ (∀ s v jv js fl, s.answered v jv js fl = true →
        exec r s = .next (s.retires (cSig r) (s.unpend.writeH h ((s.me.pend.map (·.entry)).getD 0))))
    ∧ (∀ f n, DoneIf q (cSig q) (fun s => s.podWindow = some (f, n) ∧ (∀ j, j < n → s.podBad (f + j) = false) ∧ room s)
        (fun s => (queued s).addProd 0 d.toNat false
          (.search f n (fld (s.regs.csrAt csrHWIN).toNat 48 13) (s.regs.hAt h.toNat))))
    ∧ (∀ f n, WaitIf q (cSig q) (fun s => s.podWindow = some (f, n) ∧ (∀ j, j < n → s.podBad (f + j) = false) ∧ ¬room s))
    ∧ (∀ f n j, TrapIf q (cSig q) (fun s => s.podWindow = some (f, n) ∧ j < n ∧ s.podBad (f + j) = true
          ∧ ∀ k, k < j → s.podBad (f + k) = false) (fun _ => { cause := cMCE, tval := natW j, unit := 6 }))

/-- R169 to R172: MCLAIM of -1 claims the lowest FREE slot and writes its number, or -1 where there is none; of a number it claims
that slot, repeats it to its owner, writes -1 where another context owns it, and traps ILLEGAL above 127. MREL frees a slot of
its context once it is not busy, and traps SLOT on any other. MLD marks an owned slot busy with a fill of one read for each
8-byte granule, of the data and, where SC is set, of the 32 bytes of sideband. -/
def Obligations.SlotForms : Prop :=
  ∀ (sm l : Bool) (d a b : BitVec 5) (t u c : Bool) (p : BitVec 2),
    let A := fun (s : State) => s.regs.xAt a.toNat
    let slot := fun (s : State) (n : Nat) => tabGet {} (s.core (coreOf s.cur)).slots n
    let cl := Instr.mclaim sm l d a t
    let rl := Instr.mrel sm l a t
    let ld := Instr.mld sm l d a b t u c p
    let claimed := fun (s : State) (n : Nat) => (s.setSlot n { owner := some s.cur, busy := true }).writeX d (natW n)
    let ri := fun (s : State) => if s.regs.csrAt csrRC = 0 then 0 else (s.regs.csrAt csrRI).toNat
    let n := fun (s : State) => fld (s.regs.xAt d.toNat).toNat 0 7 + ri s
    let adr := fun (s : State) => A s + natW (ri s * 512)
    let sad := fun (s : State) => s.regs.xAt b.toNat + natW (ri s * 32)
    let calm := fun (s : State) => s.acquiring = false
    let owned := fun (s : State) => n s ≤ 127 ∧ (slot s (n s)).owner = some s.cur ∧ (slot s (n s)).busy = false ∧ calm s
    let tag := fun (s : State) => if p.toNat = 0 then (s.regionAt s.me.vf (adr s).toNat).map (·.1) else none
    let reads := fun (lc : Loc) (va : Word) (uc : Option Nat) =>
      (upFrom 0 64).map (fun k => ({ ix := k, loc := lc.add (8 * k), va := va, uc := uc } : Piece))
    (∀ k, DoneIf cl (cSig cl) (fun s => calm s ∧ A s = -1 ∧ k < 128 ∧ (slot s k).owner = none ∧ ∀ j, j < k → (slot s j).owner ≠ none)
        (fun s => claimed s k))
    ∧ DoneIf cl (cSig cl) (fun s => calm s ∧ A s = -1 ∧ ∀ j, j < 128 → (slot s j).owner ≠ none) (fun s => s.writeX d (-1))
    ∧ TrapIf cl (cSig cl) (fun s => calm s ∧ A s ≠ -1 ∧ 127 < (A s).toNat) (fun s => { cause := cILLEGAL, tval := A s })
    ∧ DoneIf cl (cSig cl) (fun s => calm s ∧ (A s).toNat < 128 ∧ (slot s (A s).toNat).owner = some s.cur) (fun s => s.writeX d (A s))
    ∧ (∀ j, DoneIf cl (cSig cl) (fun s => calm s ∧ (A s).toNat < 128 ∧ (slot s (A s).toNat).owner = some j ∧ j ≠ s.cur)
        (fun s => s.writeX d (-1)))
    ∧ DoneIf cl (cSig cl) (fun s => calm s ∧ (A s).toNat < 128 ∧ (slot s (A s).toNat).owner = none) (fun s => claimed s (A s).toNat)
    ∧ TrapIf rl (cSig rl) (fun s => 127 < (A s).toNat ∨ (slot s (A s).toNat).owner ≠ some s.cur) (fun s => { cause := cSLOT, tval := A s })
    ∧ WaitIf rl (cSig rl) (fun s => (A s).toNat < 128 ∧ (slot s (A s).toNat).owner = some s.cur ∧ (slot s (A s).toNat).busy = true)
    ∧ DoneIf rl (cSig rl) (fun s => (A s).toNat < 128 ∧ (slot s (A s).toNat).owner = some s.cur ∧ (slot s (A s).toNat).busy = false)
        (fun s => s.setSlot (A s).toNat { slot s (A s).toNat with owner := none, tag := none })
    ∧ TrapIf ld (cSig ld) (fun s => 127 < n s ∨ (slot s (n s)).owner ≠ some s.cur) (fun s => { cause := cSLOT, tval := natW (n s) })
    ∧ (p = 1 → c = false → ∀ lc, DoneIf ld (cSig ld) (fun s => owned s ∧ s.checkSpace 1 (adr s) .load = none
          ∧ (adr s).toNat % 512 = 0 ∧ s.scrLoc s.cur (adr s).toNat 512 = some lc ∧ s.ownWaits lc = false)
        (fun s => s.setSlot (n s) { slot s (n s) with
          busy := true, fill := some ({ n := s.me.nseq, parts := reads lc (adr s) none, since := s.tick }, none) }))
    ∧ (p = 0 → c = false → ∀ lc leaf s1 s2, DoneIf ld (cSig ld) (fun s => owned s ∧ s.checkSpace 0 (adr s) .load = none
          ∧ (adr s).toNat % 512 = 0 ∧ s.ringOverlap (adr s).toNat 512 = false ∧ s.reach (adr s) .load true = .at_ lc leaf s1
          ∧ s1.countBytes s.me.vf (adr s).toNat 512 = some s2)
        (fun s => s2.setSlot (n s) { slot s2 (n s) with
          busy := true
          fill := some ({ n := s.me.nseq, parts := reads lc (adr s) (lc.uc leaf), since := s.tick },
            (s.regionAt s.me.vf (adr s).toNat).map (·.1)) }))
    ∧ (c = false → ∀ d1 s1 s2, DoneIf ld (cSig ld) (fun s => owned s ∧ s.checkSpace p.toNat (adr s) .load = none
          ∧ (adr s).toNat % 512 = 0 ∧ s.tileAt p.toNat (adr s) 512 = d1 ∧ d1.state = .ok s1
          ∧ s1.countTile p.toNat (adr s) none = some s2)
        (fun s => s2.setSlot (n s) { slot s2 (n s) with busy := true, fill := some ({ fillOf s.me.nseq (adr s) d1 none with since := s.tick }, tag s) }))
    ∧ (c = true → ∀ d1 d2 s1 s2 s3, DoneIf ld (cSig ld) (fun s => owned s ∧ s.checkSpace p.toNat (adr s) .load = none
          ∧ (adr s).toNat % 512 = 0 ∧ s.checkSpace p.toNat (sad s) .load = none ∧ (sad s).toNat % 32 = 0
          ∧ s.tileAt p.toNat (adr s) 512 = d1 ∧ d1.state = .ok s1 ∧ s1.tileAt p.toNat (sad s) 32 = d2 ∧ d2.state = .ok s2
          ∧ s2.countTile p.toNat (adr s) (some (sad s)) = some s3)
        (fun s => s3.setSlot (n s) { slot s3 (n s) with
          busy := true, fill := some ({ fillOf s.me.nseq (adr s) d1 (some (sad s, d2)) with since := s.tick }, tag s) }))

/-- R182 to R184: MST stores the elements of an accumulator that the masks let through, element (i, j) at the base plus i times
the stride plus j times its size, in ascending order, rounding to FP16 or BF16 where the format says so; every element is
checked before any is stored. -/
def Obligations.MatrixStores : Prop :=
  ∀ (sm l : Bool) (n : BitVec 2) (a b : BitVec 5) (t u m : Bool) (p : BitVec 2),
    let form := fun (i : Instr) (fmt : Nat) =>
      let z := if fmt = 0 then 4 else 2
      let es := fun (s : State) => (upFrom 0 256).filter (fun e =>
        !m || ((s.regs.mAt 5).getLsbD (e / 16) && (s.regs.mAt 6).getLsbD (e % 16)))
      let q := fun (s : State) => if fmt = 0 then ([], s) else s.draws s.regs.frm 256
      let ws := fun (s : State) => (es s).map (mstElt s fmt n a b (q s).1)
      (∀ ps s2 s3, DoneIf i (cSig i) (fun s => (q s).2.mstPlace p.toNat z ((ws s).map (·.1)) = .ok ps s2 ∧ s.acquiring = false
            ∧ s2.mstWrite p.toNat ((upFrom 0 16).map (fun k => ps.filter (fun w => w.1.row == k))) = .ok s3)
          (fun s => s3.orFlags (((ws s).map (·.2)).foldl (· ||| ·) 0)))
      ∧ (∀ y, TrapIf i (cSig i) (fun s => (q s).2.mstPlace p.toNat z ((ws s).map (·.1)) = .stop (.trap y)) (fun _ => y))
      ∧ DoneIf i (cSig i) (fun s => es s = [] ∧ s.acquiring = false) (fun s => (q s).2.orFlags 0)
    form (.mstF32 sm l n a b t u m p) 0 ∧ form (.mstH sm l n a b t u m p) 1 ∧ form (.mstB sm l n a b t u m p) 2

/-- R96, R284: CTLD sends for a code table of 16 or 256 words of 32 bits, 64-byte aligned, granule by granule, and traps as the
first of its blocks that cannot be read says; once the table has been read, each 64-bit word of it gives two entries, the
lower half first; it traps RESERVED with the first code that is not valid, and nothing of the table then changes; otherwise
the table is loaded. R83, R97, R372 to R378: RSEED seeds the generator of the context from JOBSEED and X a; RBITS takes one
draw; NOISE adds a Gumbel draw of Oolong to each active lane and gives the other lanes -infinity; CHASH hashes the window of W
tokens and traps ILLEGAL unless 1 to 64; CHASH_LD and CHASH_ST move a stream's context hash and trap STREAM beyond the batch;
HRAND writes 64 words of Oolong. -/
def Obligations.TableForms : Prop :=
  (∀ (sm l : Bool) (a : BitVec 5) (t p n : Bool),
    let i := Instr.ctld sm l a t p n
    let A := fun (s : State) => s.regs.xAt a.toNat
    let k := if n then 16 else 256
    let sp := if p then 1 else 0
    let table := fun (t : Tab Word) =>
      (upFrom 0 k).map (fun c => BitVec.ofNat 32 ((tabGet 0 t (c / 2)).toNat / 2 ^ (32 * (c % 2))))
    TrapIf i (cSig i) (fun s => (A s).toNat % 64 ≠ 0) (fun s => { cause := cMISALIGN, tval := A s })
    ∧ (∀ ps s1, SendIf i (cSig i) (fun s => (A s).toNat % 64 = 0 ∧ s.acquiring = false ∧ s.readTable sp (k / 16) 0 (A s) = .ok ps s1)
        (fun _ => s1) (fun _ => .read 0 ps))
    ∧ (∀ y, TrapIf i (cSig i) (fun s => (A s).toNat % 64 = 0 ∧ s.acquiring = false ∧ s.readTable sp (k / 16) 0 (A s) = .stop (.trap y))
        (fun _ => y))
    ∧ WaitIf i (cSig i) (fun s => (A s).toNat % 64 = 0 ∧ s.acquiring = true)
    ∧ ReadDoneIf i (cSig i) (fun _ t => invalidCode k (table t) = none)
        (fun s t => s.setRegs (if n then { s.regs with ct4 := (upFrom 0 k).zip (table t) }
          else { s.regs with ct8 := (upFrom 0 k).zip (table t) }))
    ∧ (∀ c, ReadTrapIf i (cSig i) (fun _ t => invalidCode k (table t) = some c) (fun _ _ => { cause := cRESERVED, tval := natW c })))
  ∧ (∀ (sm : Bool) (d a b : BitVec 5) (m h : BitVec 3),
    let A := fun (s : State) => s.regs.xAt a.toNat
    let B := fun (s : State) => s.regs.xAt b.toNat
    let js := fun (s : State) => s.regs.csrAt csrJOBSEED
    let sg := fun (i : Instr) => aSigOf i
    let row := fun (s : State) => s.rowStream s.cur (B s).toNat
    let hi := fun (s : State) => (s.regs.vAt a.toNat).toNat
    let noise := fun (s : State) (k : Nat) => gumbelAdd
      (fld (oolong s.k0 s.k1 (natW (fld (hi s) 0 64)) (natW (fld (hi s) 64 64)) (natW (fld (B s).toNat 32 32))
        (natW ((fld (B s).toNat 0 32 + k) % 2 ^ 32))).toNat 40 24) (s.vf_ d fmt32 k)
    Done (.rseed sm a) (sg (.rseed sm a))
        (fun s => s.setRegs { s.regs with rhi := (seedOf (js s) (A s)).1, rlo := (seedOf (js s) (A s)).2 })
    ∧ Done (.rbits sm d) (sg (.rbits sm d)) (fun s => (s.setRegs s.regs.step.2).writeX d s.regs.step.1)
    ∧ (∀ s, s.ready (sg (.noise sm d a b m)) = true → ∃ v : BitVec 512,
        exec (.noise sm d a b m) s = .next (s.retires (sg (.noise sm d a b m))
          ((s.setRegs (s.regs.setV d.toNat v)).orFlags (s.laneFlags m 32 (fun k => (noise s k).2))))
        ∧ ∀ k, k < 16 → lane 32 k v.toNat = if (s.regs.mAt m.toNat).getLsbD k then (noise s k).1 % 2 ^ 32 else 0xFF800000)
    ∧ TrapIf (.chash sm d a b) (sg (.chash sm d a b)) (fun s => (B s).toNat = 0 ∨ 64 < (B s).toNat)
        (fun s => { cause := cILLEGAL, tval := B s })
    ∧ DoneIf (.chash sm d a b) (sg (.chash sm d a b)) (fun s => 1 ≤ (B s).toNat ∧ (B s).toNat ≤ 64
          ∧ ∀ v, a.toNat ≤ v → v < a.toNat + ((B s).toNat + 15) / 16 → s.regs.emptyAt 2 v = false ∧ s.regs.poisonAt 2 v = false)
        (fun s =>
          let toks := (upFrom 0 (B s).toNat).map (fun j => lane 32 (j % 16) (s.regs.vAt (a.toNat + j / 16)).toNat)
          let c := cHash s.k0 s.k1 toks
          s.writeV d (c.1.toNat + 2 ^ 64 * c.2.toNat))
    ∧ DoneIf (.chashLd sm d b) (sg (.chashLd sm d b)) (fun s => (B s).toNat < (s.regs.csrAt csrSBN).toNat)
        (fun s => s.writeV d (row s).2.2.hash.toNat)
    ∧ TrapIf (.chashLd sm d b) (sg (.chashLd sm d b)) (fun s => (s.regs.csrAt csrSBN).toNat ≤ (B s).toNat)
        (fun s => { cause := cSTREAM, tval := B s })
    ∧ DoneIf (.chashSt sm a b) (sg (.chashSt sm a b)) (fun s => (B s).toNat < (s.regs.csrAt csrSBN).toNat)
        (fun s => s.setStream (row s).1 (row s).2.1 { (row s).2.2 with hash := (s.regs.vAt a.toNat).setWidth 128 })
    ∧ TrapIf (.chashSt sm a b) (sg (.chashSt sm a b)) (fun s => (s.regs.csrAt csrSBN).toNat ≤ (B s).toNat)
        (fun s => { cause := cSTREAM, tval := B s })
    ∧ (∀ s, s.ready (sg (.hrand sm h a)) = true → ∃ v : BitVec 4096,
        exec (.hrand sm h a) s = .next (s.retires (sg (.hrand sm h a)) (s.writeH h v))
        ∧ ∀ k, k < 64 → lane 64 k v.toNat = (oolong (js s) (A s) 0 0 (natW k) 0).toNat))

/-- R303, R304, R307, R308, R310: an atomic names its space in bits 63..62 of its address; it traps PROT on a tag above 1, and
with the address as written on what the space or the alignment forbids, and HOSTATOM where the host tier has no such atomic;
it waits as its order code says, is sent, and writes X d and its flags once it has been performed. -/
def Obligations.AtomicForms : Prop :=
  (∀ (s : State) (a : Word) (n : Nat) (acc : Acc),
      (2 ≤ tagOf a → s.tagged a n acc = .trap { cause := cPROT, tval := a, acc := accCode acc })
      ∧ (∀ y, tagOf a < 2 → s.checkSpace (tagOf a) (untag a) acc = some y → s.tagged a n acc = .trap { y with tval := a })
      ∧ (tagOf a < 2 → s.checkSpace (tagOf a) (untag a) acc = none → (untag a).toNat % n ≠ 0 →
          s.tagged a n acc = .trap { cause := cMISALIGN, tval := a, acc := accCode acc })
      ∧ (∀ l, tagOf a = 1 → s.checkSpace 1 (untag a) acc = none → (untag a).toNat % n = 0 →
          s.scrLoc s.cur (untag a).toNat n = some l → s.tagged a n acc = .at_ l 0 s))
  ∧ ∀ (sm l : Bool) (d a b : BitVec 5) (z : Bool) (o c : BitVec 2),
    let amo := fun (i : Instr) (op : AtomOp) (m : Nat) =>
      let g := cSig i
      let adr := fun (s : State) => s.regs.xAt a.toNat + (if s.regs.rc = 0 then 0 else natW (s.regs.ri * m))
      let low := fun (v : Word) => natW (v.toNat % 2 ^ (8 * m))
      (∀ y, TrapIf i g (fun s => s.tagged (adr s) m .atomic = .trap y) (fun _ => y))
      ∧ (∀ p lf s1, TrapIf i g (fun s => s.tagged (adr s) m .atomic = .at_ p lf s1 ∧ s.hostAtom op p m = true)
          (fun s => { cause := cHOSTATOM, tval := adr s, acc := 2 }))
      ∧ (∀ p lf s1, WaitIf i g (fun s => s.tagged (adr s) m .atomic = .at_ p lf s1 ∧ s.hostAtom op p m = false
          ∧ (s.orderOk o = false ∨ s.tagOverlap (adr s) m = true ∨ s.ownWaits p = true)))
      ∧ (∀ p lf s1, SendIf i g (fun s => s.tagged (adr s) m .atomic = .at_ p lf s1 ∧ s.hostAtom op p m = false
            ∧ s.orderOk o = true ∧ s.tagOverlap (adr s) m = false ∧ s.ownWaits p = false)
          (fun _ => s1)
          (fun s => .atom op p m (low (s.regs.xAt b.toNat)) (low (s.regs.xAt d.toNat)) (adr s) (p.uc lf)))
      ∧ AnswerDone i g (fun s v _ _ fl => (s.writeX d v).orFlags fl)
    let w := if z then 8 else 4
    amo (.amoSwap sm l d a b z o c) .swap w ∧ amo (.amoAdd sm l d a b z o c) .add w ∧ amo (.amoAnd sm l d a b z o c) .and w
    ∧ amo (.amoOr sm l d a b z o c) .or w ∧ amo (.amoXor sm l d a b z o c) .xor w ∧ amo (.amoMax sm l d a b z o c) .max w
    ∧ amo (.amoMin sm l d a b z o c) .min w ∧ amo (.amoMaxu sm l d a b z o c) .maxu w
    ∧ amo (.amoxMinu sm l d a b z o c) .minu w ∧ amo (.amoxCas sm l d a b z o c) .cas w
    ∧ amo (.amoxFadd sm l d a b o c) .fadd 4 ∧ amo (.amoxFmin sm l d a b o c) .fmin 4 ∧ amo (.amoxFmax sm l d a b o c) .fmax 4

/-- R306, R311 to R313: LDO and STO obey their order code; FENCE and WAITC only wait for what their fields name, but that a
release form of FENCE, LDO or STO also waits for the earlier loads is the model's reading (log entry 32); WAITA returns the
value at once where it differs from X b, and otherwise sleeps until the place is written. -/
def Obligations.OrderedForms : Prop :=
  ∀ (sm l : Bool) (d a b : BitVec 5) (t u : Bool) (z : BitVec 2) (e : Bool) (o c : BitVec 2),
    let m := 2 ^ z.toNat
    let adr := fun (s : State) => s.regs.xAt a.toNat + (if s.regs.rc = 0 then 0 else natW (s.regs.ri * m))
    let A := fun (s : State) => s.regs.xAt a.toNat
    let ld := Instr.ldo sm l d a z e o c
    let st := Instr.sto sm l a b z o c
    let fe := Instr.fence sm l o c
    let wc := Instr.waitc sm l c
    let wa := Instr.waita sm l d a b t u e c
    let k := if e then 8 else 4
    let low := fun (s : State) => (s.regs.xAt b.toNat).toNat % 2 ^ (8 * k)
    let free := fun (s : State) (p : Loc) => s.orderOk o = true ∧ s.tagOverlap (adr s) m = false ∧ s.ownWaits p = false
    let copied := fun (s : State) (p : Loc) (s1 : State) =>
      if tagOf (adr s) = 0 then (s1.sign (adr s) (bytesOf m (s.regs.xAt b.toNat).toNat)).signOld (adr s) p m else s1
    let fence := fun (s : State) => s.acquiring = false ∧ (o.getLsbD 0 = true → s.loadsDone = true)
      ∧ (o.getLsbD 1 = true → s.storesDone = true ∧ s.loadsDone = true)
    let reads := fun (s : State) (p : Loc) (lf : Nat) (s1 : State) => s.tagged (A s) k .load = .at_ p lf s1 ∧ p.uc lf = none
      ∧ (∀ pa, p = .mem pa → pa / 2 ^ 41 % 4 ≠ 2) ∧ s.acquiring = false ∧ s.ringOf s.cur = []
      ∧ s.ownWaits p = false ∧ s.readBlocked s.cur s.me.nseq p k = false ∧ s.poisonedLoc p k = none
    let val := fun (s : State) (p : Loc) => ofBytes (s.readFor s.cur s.me.nseq p k)
    (∀ y, TrapIf ld (cSig ld) (fun s => s.tagged (adr s) m .load = .trap y) (fun _ => y))
    ∧ (∀ p lf s1, WaitIf ld (cSig ld) (fun s => s.tagged (adr s) m .load = .at_ p lf s1
          ∧ (s.orderOk o = false ∨ s.tagOverlap (adr s) m = true ∨ s.ownWaits p = true)))
    ∧ (∀ q, DoneIf ld (cSig ld) (fun s => tagOf (adr s) = 1 ∧ s.tagged (adr s) m .load = .at_ (.scr (coreOf s.cur) q) 0 s
          ∧ free s (.scr (coreOf s.cur) q) ∧ s.poisonedLoc (.scr (coreOf s.cur) q) m = none)
        (fun s => s.addProd 0 d.toNat (o == 1)
          (.value (loadBits m (!e) (s.readFor s.cur s.me.nseq (.scr (coreOf s.cur) q) m)))))
    ∧ (∀ p lf s1 s2, DoneIf ld (cSig ld) (fun s => s.tagged (adr s) m .load = .at_ p lf s1
          ∧ (p.ownOf s.cur = false ∨ s.poisonedLoc p m ≠ none) ∧ free s p
          ∧ (if tagOf (adr s) = 0 then s1.countBytes s.me.vf (adr s).toNat m else some s1) = some s2)
        (fun s => s2.addProd 0 d.toNat (o == 1) (.load p m (!e) (adr s)) (p.uc lf)))
    ∧ (∀ y, TrapIf st (cSig st) (fun s => s.tagged (adr s) m .store = .trap y) (fun _ => y))
    ∧ (∀ p lf s1, WaitIf st (cSig st) (fun s => s.tagged (adr s) m .store = .at_ p lf s1
          ∧ (s.orderOk o = false ∨ s.tagOverlap (adr s) m = true ∨ s.ownWaits p = true)))
    ∧ (∀ p lf s1, SendIf st (cSig st) (fun s => s.tagged (adr s) m .store = .at_ p lf s1 ∧ free s p
            ∧ ¬(s.inShadow = true ∧ tagOf (adr s) = 0))
        (fun s => copied s p s1)
        (fun s => .atom .store p m (natW ((s.regs.xAt b.toNat).toNat % 2 ^ (8 * m))) 0 (adr s) (p.uc lf)))
    ∧ (∀ p lf s1, DoneIf st (cSig st) (fun s => s.tagged (adr s) m .store = .at_ p lf s1 ∧ free s p ∧ s.inShadow = true
          ∧ tagOf (adr s) = 0) (fun s => copied s p s1))
    ∧ AnswerDone st (cSig st) (fun s _ _ _ _ => s)
    ∧ DoneIf fe (cSig fe) fence (fun s => s)
    ∧ WaitIf fe (cSig fe) (fun s => ¬fence s)
    ∧ DoneIf wc (cSig wc) (fun s => s.ringOf s.cur = [] ∧ (c.getLsbD 0 = true → s.me.pca = 0) ∧ (c.getLsbD 1 = true → s.me.pcb = 0))
        (fun s => s)
    ∧ WaitIf wc (cSig wc) (fun s => s.ringOf s.cur ≠ [] ∨ (c.getLsbD 0 = true ∧ s.me.pca ≠ 0) ∨ (c.getLsbD 1 = true ∧ s.me.pcb ≠ 0))
    ∧ (∀ y, TrapIf wa (cSig wa) (fun s => s.tagged (A s) k .load = .trap y) (fun _ => y))
    ∧ (∀ p lf s1, DoneIf wa (cSig wa) (fun s => reads s p lf s1 ∧ val s p ≠ low s) (fun s => s1.writeX d (natW (val s p))))
    ∧ (∀ p lf s1, SendIf wa (cSig wa) (fun s => reads s p lf s1 ∧ val s p = low s) (fun s => s) (fun s => .sleep p k (low s)))
    ∧ (∀ s v jv js fl p lf s1, s.answered v jv js fl = true → (cSig wa).dsts.all s.regs.writable = true → reads s.unpend p lf s1 →
        val s.unpend p ≠ low s.unpend →
        exec wa s = .next (s.retires (cSig wa) (s1.writeX d (natW (val s.unpend p)))))

/-- R257, R258, R479: a collective branch traps COLLNEST in handler mode; outside a group it branches on its own X a; in a group
it sends its contribution, advances CSEQ, and goes on as its hint predicts with a checkpoint, or, under STEP, waits for the
round's result. The packed TVAL of COLLABORT is the model's reading (log entry 18), and how a group spans packages too (log
entry 81). R254, R255, R452: COLX.JOIN joins the gang group, an existing group of the same size, or a new one, and answers the
number of earlier joins (in a gang group the level-0 place), or -1; the traps are in the rule's order. A group of another
package is asked for at its home, or at the package that keeps the directory (the model's reading, log entry 81), and the form
completes with the answer. COLX.LEAVE leaves the group and clears CMEMB and CSEQ. -/
def Obligations.CollectiveForms : Prop :=
  (∀ (sm l : Bool) (a : BitVec 5) (h : BitVec 2) (o : BitVec 12),
    let form := fun (i : Instr) (op : BitVec 2) =>
      let g := cSig i
      let own := fun (s : State) => s.regs.xAt a.toNat != 0
      let goal := fun (s : State) => s.pc + o.signExtend 64 * 4
      let cm := fun (s : State) => s.regs.csrAt csrCMEMB
      let seq := fun (s : State) => (s.regs.csrAt csrCSEQ).toNat
      let contribution := fun (s : State) (x : Group) => ({ group := x.id, vf := s.me.vf, member := s.caddr s.cur
                                                            round := BitVec.ofNat 32 (seq s), op := op, pred := own s
                                                            site := BitVec.ofNat 52 (s.sourceOf s.cur s.pc).1.toNat } : Contribution)
      let sends := fun (s : State) (x : Group) =>
        (s.sendPacket x.home (.contrib (contribution s x))).setCsr csrCSEQ (natW ((seq s + 1) % 2 ^ 32))
      let guess := fun (s : State) => if h = 0 then own s else h == 1
      let spec := fun (s : State) (x : Group) =>
        ({ cp := s.regs, pred := guess s, own := own s, op := op, site := (contribution s x).site, epc := s.pc, next := s.pc + 4
           target := goal s, group := x.id, round := BitVec.ofNat 32 (seq s) } : Spec)
      let speculates := fun (s : State) (x : Group) => (sends s x).setMe { (sends s x).me with spec := some (spec s x) }
      let member := fun (s : State) (x : Group) =>
        s.regs.hm = false ∧ cm s ≠ 0 ∧ s.groupOf s.cur = some x ∧ x.id = (cm s).toNat
      TrapIf i g (fun s => s.regs.hm = true) (fun s => { cause := cCOLLNEST, tval := cm s })
      ∧ JumpIf i g (fun s => s.regs.hm = false ∧ cm s = 0 ∧ own s = true) (fun s => s) goal
      ∧ DoneIf i g (fun s => s.regs.hm = false ∧ cm s = 0 ∧ own s = false) (fun s => s)
      ∧ TrapIf i g (fun s => s.regs.hm = false ∧ cm s ≠ 0 ∧ s.groupOf s.cur = none) (fun s => { cause := cPROT, tval := cm s })
      ∧ (∀ x, TrapIf i g (fun s => member s x ∧ x.aborted = true) (fun s =>
          { cause := cCOLLABORT, tval := natW (2 ^ 32 * (if x.home = s.self then x.round.toNat else seq s % 2 ^ 32) + 6) }))
      ∧ (∀ x, JumpIf i g (fun s => member s x ∧ x.aborted = false ∧ s.regs.stepBit = false ∧ guess s = true)
          (fun s => speculates s x) goal)
      ∧ (∀ x, DoneIf i g (fun s => member s x ∧ x.aborted = false ∧ s.regs.stepBit = false ∧ guess s = false)
          (fun s => speculates s x))
      ∧ (∀ x, SendIf i g (fun s => member s x ∧ x.aborted = false ∧ s.regs.stepBit = true) (fun s => sends s x) (fun _ => .cbr))
      ∧ (∀ s v jv js fl, s.answered v jv js fl = true → v ≠ 0 → exec i s = .next (s.redirects g s.unpend (goal s)))
      ∧ (∀ s jv js fl, s.answered 0 jv js fl = true → exec i s = .next (s.retires g s.unpend))
    form (.cbrAny sm l a h o) 0 ∧ form (.cbrAll sm l a h o) 1 ∧ form (.cbrMaj sm l a h o) 2)
  ∧ (∀ (sm l : Bool) (d a b : BitVec 5) (t u : Bool),
    let i := Instr.colxJoin sm l d a b t u
    let g := cSig i
    let A := fun (s : State) => s.regs.xAt a.toNat
    let N := fun (s : State) => s.regs.xAt b.toNat
    let joined := fun (s : State) (x : Group) (v : Word) =>
      let s1 : State := { s with groups := setGroup { x with joins := x.joins + 1, members := x.members ++ [s.caddr s.cur] } s.groups }
      (((s1.setMe { s1.me with joinedGang := s1.me.joinedGang || x.gang.isSome }).writeX d v).setCsr csrCMEMB (natW x.id)).setCsr
        csrCSEQ (natW x.round.toNat)
    let out := fun (s : State) => s.groupOf s.cur = none
    let named := fun (s : State) => out s ∧ A s ≠ 0 ∧ (A s).toNat ≤ 0x7FFF
    let here := fun (s : State) (x : Group) => named s ∧ s.groupById s.me.vf (A s).toNat = some x ∧ x.home = s.self
    let away := fun (s : State) => named s ∧ ∀ x, s.groupById s.me.vf (A s).toNat = some x → x.home ≠ s.self
    let known := fun (s : State) => s.groupDir.find? (fun e => e.1 == s.me.vf && e.2.1 == (A s).toNat)
    let none_ := fun (s : State) => away s ∧ s.dirPkg s.me.vf = s.self ∧ known s = none
    let asks := fun (pkg : Nat) (s : State) => s.sendPacket pkg (.groupAsk (s.caddr s.cur) s.me.vf (A s).toNat (N s).toNat)
    let fresh := fun (s : State) =>
      ({ id := (A s).toNat, vf := s.me.vf, home := s.self, exp := (N s).toNat, created := (N s).toNat } : Group)
    TrapIf i g (fun s => s.groupOf s.cur ≠ none) (fun s => { cause := cILLEGAL, tval := s.regs.csrAt csrCMEMB })
    ∧ TrapIf i g (fun s => out s ∧ A s = 0 ∧ s.gangOf s.cur = none) (fun _ => { cause := cILLEGAL, tval := 0 })
    ∧ (∀ x k q, TrapIf i g (fun s => out s ∧ A s = 0 ∧ s.gangOf s.cur = some (k, q)
          ∧ s.groups.find? (fun y => y.launch == some k && y.gang == some q) = some x ∧ x.aborted = true)
        (fun _ => { cause := cCOLLABORT, tval := natW (2 ^ 32 * x.round.toNat + 6) }))
    ∧ (∀ x k q tk ln, DoneIf i g (fun s => out s ∧ A s = 0 ∧ s.gangOf s.cur = some (k, q) ∧ s.me.task = some tk
          ∧ s.launchOf s.cur = some ln ∧ s.groups.find? (fun y => y.launch == some k && y.gang == some q) = some x ∧ x.aborted = false)
        (fun s => joined s x (natW (tk.ord % ln.e0))))
    ∧ TrapIf i g (fun s => out s ∧ 0x7FFF < (A s).toNat) (fun s => { cause := cPROT, tval := A s })
    ∧ TrapIf i g (fun s => none_ s ∧ (N s = 0 ∨ 65535 < (N s).toNat)) (fun s => { cause := cILLEGAL, tval := N s })
    ∧ DoneIf i g (fun s => none_ s ∧ N s ≠ 0 ∧ (N s).toNat ≤ 65535)
        (fun s => joined { s with groups := s.groups ++ [fresh s] } (fresh s) 0)
    ∧ SendIf i g (fun s => away s ∧ s.dirPkg s.me.vf ≠ s.self) (fun s => asks (s.dirPkg s.me.vf) s)
        (fun s => .colx (A s).toNat (N s).toNat)
    ∧ (∀ e, SendIf i g (fun s => away s ∧ s.dirPkg s.me.vf = s.self ∧ known s = some e) (asks e.2.2)
        (fun s => .colx (A s).toNat (N s).toNat))
    ∧ (∀ x, DoneIf i g (fun s => here s x ∧ ((N s).toNat ≠ x.created ∨ x.created ≤ x.joins)) (fun s => s.writeX d (-1)))
    ∧ (∀ x, TrapIf i g (fun s => here s x ∧ (N s).toNat = x.created ∧ x.joins < x.created ∧ x.aborted = true)
        (fun _ => { cause := cCOLLABORT, tval := natW (2 ^ 32 * x.round.toNat + 6) }))
    ∧ (∀ x, DoneIf i g (fun s => here s x ∧ (N s).toNat = x.created ∧ x.joins < x.created ∧ x.aborted = false)
        (fun s => joined s x (natW x.joins)))
    ∧ (∀ s v round said fl, s.answered v round said fl = true → g.dsts.all s.regs.writable = true →
        let r := s.unpend.writeX d v
        exec i s = .next (s.retires g (if said = 0 then (r.setCsr csrCMEMB (A s)).setCsr csrCSEQ round else r)))
    ∧ Done (.colxLeave sm l) (cSig (.colxLeave sm l))
        (fun s => ((s.within (s.leaveGroup s.cur)).setCsr csrCMEMB 0).setCsr csrCSEQ 0))

/-- R27, R244, R245, R251, R252: QBIND binds a queue register to a port that the context may use and that no other is bound to;
QUNBIND ends the binding; QNEW takes the lowest free queue of the grove (the model's choice, log entry 10), or answers 0; SEND
reads its payload from the scratchpad space, granule by granule, and sends it once the destination has room; TTRUN reads the
header and then the entries of its timetable, traps RESERVED on a header that is not valid and as the first entry that is not
says, waits while another timetable of its core runs, and arrives at the open exchange of its die's barrier (the model's
reading, log entry 29), or at a new one, which is released 64 cycles after its last participant has arrived. The access codes
of the traps are the model's (log entry 74). A lone word (R25, R26, R317) with a source bound to a queue reads the head entry
that it may take and pops it, and waits where there is none; one with a destination bound to a queue pushes its result, and
waits where there is no room. A port that may not be used so traps PROT with the port's identifier, and under an unresolved
collective branch such a word waits. A result pushed to the Spout is the address of a descriptor: the push takes the traps of
SPT.CPY, reads the descriptor, and submits it. ADDI is the word that the clauses name. -/
def Obligations.QueueForms : Prop :=
  ∀ (sm l : Bool) (d a b : BitVec 5) (t u : Bool) (z c : BitVec 2) (m : BitVec 13),
    let A := fun (s : State) => s.regs.xAt a.toNat
    let qb := Instr.qbind sm l d a t
    let qu := Instr.qunbind sm l d
    let qn := Instr.qnew sm l d c
    let sd := Instr.send sm l a b t u z
    let tr := Instr.ttrun sm l d a t
    let n := d.toNat - 24
    let old := fun (s : State) => s.regs.csrAt (csrQB0 + n)
    let port := fun (s : State) => (A s).toNat % 2 ^ 32
    let may := fun (s : State) => (A s).toNat < 2 ^ 32 ∧ s.mayUse s.cur (portOf s.self (port s)) = true
    let once := fun (s : State) => ∀ m, m < 8 → m ≠ n → s.regs.boundTo (24 + m) ≠ some (port s)
    let left := fun (s : State) (v : Word) =>
      (old s).getLsbD 63 = true ∧ old s ≠ v ∧ s.holdsMine ((old s).toNat % 2 ^ 32) = true
    let scope := fun (s : State) => ((s.launchOf s.cur).map (·.qscope)).getD 3
    let room := fun (s : State) (ix : Nat) => ix < 256 ∧ tabFind (s.grove (groveOf s.cur)).queues ix = none
    let P := fun (s : State) => s.regs.xAt b.toNat
    let k := 8 * 2 ^ z.toNat
    let payload := fun (s : State) (p : Loc) => s.addrOk (A s) = true ∧ s.checkSpace 1 (P s) .load = none ∧ (P s).toNat % k = 0
      ∧ s.scrLoc s.cur (P s).toNat k = some p ∧ s.poisonedLoc p k = none
    let sent := fun (s : State) (t : Tab Word) => (s.sendPacket ((A s).toNat / 2 ^ 32 % 2 ^ 9) (.msg
      { dst := A s, src := s.caddr s.cur, sz := z, stamp := s.tick, colour := (s.core (coreOf s.cur)).colour
        payload := BitVec.ofNat 512 ((upFrom 0 (k / 8)).foldr (fun j v => (tabGet 0 t j).toNat + 2 ^ 64 * v) 0) })).countSent
          (coreOf s.cur)
    let head := fun (t : Tab Word) => (tabGet 0 t 0).toNat
    let sound := fun (t : Tab Word) => tabGet 0 t 1 = 0 ∧ fld (head t) 41 15 = 0 ∧ fld (head t) 16 16 = 0 ∧ 0 < fld (head t) 32 9
      ∧ fld (head t) 32 9 ≤ 288 ∧ 0 < fld (head t) 0 16 ∧ fld (head t) 0 16 ≤ 256
    let reads := fun (s : State) (t : Tab Word) => s.tablePieces (fld (head t) 0 16) 2 ((A s).toNat + 16)
    let whole := fun (s : State) (t : Tab Word) => ∀ q ∈ reads s t, tabFind t q.ix ≠ none
    let table := fun (s : State) (t : Tab Word) => s.tableEntries (coreOf s.cur % 24) t (fld (head t) 0 16) 2 ((A s).toNat + 16)
    let free := fun (s : State) => s.acquiring = false ∧ s.ownBusy = false ∧ s.sptPending = false
    let calm := fun (s : State) (p : Loc) => s.acquiring = false ∧ s.ownWaits p = false ∧ s.readBlocked s.cur s.me.nseq p k = false
    let ai := Instr.addi sm d a t m
    let ends := fun (s r : State) => exec ai s = .next (s.endUnit r (aSigOf ai).loops none)
    let queueNow := fun (s r : State) (g ix : Nat) (q : Queue) => tabFind (r.grove g).queues ix = some q
      ∧ ∀ k j, (k, j) ≠ (g, ix) → tabFind (r.grove k).queues j = tabFind (s.grove k).queues j
    let uses := fun (s : State) (p : Nat) (pops : Bool) =>
      s.mayUse s.cur (portOf s.self p) && (if pops then (portOf s.self p).pops else (portOf s.self p).pushes)
    let sum := fun (s : State) => A s + m.signExtend 64
    (∀ (s : State) (p g ix : Nat) (q : Queue), s.fresh = true → s.me.spec = none → s.acquiring = false →
      portOf s.self p = .queue g ix → s.mayUse s.cur (.queue g ix) = true → tabFind (s.grove g).queues ix = some q →
      (s.regs.boundTo a.toNat = some p → s.regs.writable ⟨0, d.toNat⟩ = true →
        (∀ n w rest, s.openEntries s.cur p = (n, w) :: rest →
          ∃ r, ends s r ∧ r.regs = (s.writeX d (w + m.signExtend 64)).regs
            ∧ queueNow s r g ix { q with items := q.items.filter (fun e => e.n != n) })
        ∧ (s.openEntries s.cur p = [] → t = false → exec ai s = .next (s.waitsOn (some (.pop p)))))
      ∧ (s.regs.boundTo d.toNat = some p → s.regs.plain 0 a.toNat = true →
        (s.roomFor [p] p = true → ∃ r, ends s r ∧ r.regs = s.regs
          ∧ queueNow s r g ix { q with items := q.items ++ [{ n := q.seq, ctx := s.cur, gen := s.me.gen, w := sum s }], seq := q.seq + 1 })
        ∧ (s.roomFor [p] p = false → exec ai s = .next (s.waitsOn (some (.push p))))))
    ∧ (∀ (s : State) (p : Nat), s.fresh = true →
      (s.regs.boundTo a.toNat = some p ∨ s.regs.boundTo d.toNat = some p → s.me.spec ≠ none → exec ai s = .next (s.waitsOn (some .cbr)))
      ∧ (s.me.spec = none →
        (s.regs.boundTo a.toNat = some p → uses s p true = false → t = false ∨ s.openEntries s.cur p ≠ [] →
          exec ai s = .next (s.traps { cause := cPROT, tval := natW p } false))
        ∧ (s.regs.boundTo d.toNat = some p → s.regs.plain 0 a.toNat = true → uses s p false = false →
          exec ai s = .next (s.traps { cause := cPROT, tval := natW p } false))))
    ∧ (∀ s : State, s.regs.boundTo d.toNat = some 0x01000000 → s.unit = {} →
      let s1 := s.setMe { s.me with nseq := s.me.nseq + 1 }
      (s.me.pend = none → s.me.spec = none → s.acquiring = false → s.roomFor [0x01000000] 0x01000000 = true → s.regs.plain 0 a.toNat = true →
        (∀ w, s1.descAt (sum s) = .error w → exec ai s = .next (s.traps w false))
        ∧ ∀ x, s1.descAt (sum s) = .ok x →
          exec ai s = .next (if s1.descClear x then s.readsDesc {} (pushPlace false) x (sum s) else s.waits))
      ∧ ∀ (k : Pend) acc x v s2, s.me.pend = some k → k.op = .read acc [] → k.result = none → k.latched = [] → k.pops = [] →
        tabFind k.got (pushPlace false) ≠ none → s1.descAt (sum s) = .ok x →
        s1.submit (sum s) (wordsFrom k.got (pushPlace false) 8) = .ok v s2 →
        ∃ r, ends s r ∧ { r with unit := {} } = s2.setMe { s2.me with pend := none })
    ∧ (24 ≤ d.toNat →
      TrapIf qb (cSig qb) (fun s => 2 ^ 32 ≤ (A s).toNat ∨ s.mayUse s.cur (portOf s.self (port s)) = false)
          (fun s => { cause := cPROT, tval := A s })
      ∧ TrapIf qb (cSig qb) (fun s => may s ∧ ¬once s) (fun s => { cause := cILLEGAL, tval := A s })
      ∧ TrapIf qb (cSig qb) (fun s => may s ∧ once s ∧ left s (natW (2 ^ 63 + (A s).toNat)))
          (fun _ => { cause := cILLEGAL, tval := wordTval (cSig qb) false })
      ∧ DoneIf qb (cSig qb) (fun s => may s ∧ once s ∧ ¬left s (natW (2 ^ 63 + (A s).toNat)))
          (fun s => s.setCsr (csrQB0 + n) (natW (2 ^ 63 + (A s).toNat)))
      ∧ TrapIf qu (cSig qu) (fun s => left s 0) (fun _ => { cause := cILLEGAL, tval := wordTval (cSig qu) false })
      ∧ DoneIf qu (cSig qu) (fun s => ¬left s 0) (fun s => s.setCsr (csrQB0 + n) 0))
    ∧ TrapIf qn (cSig qn) (fun s => scope s < c.toNat) (fun _ => { cause := cPROT, tval := natW c.toNat })
    ∧ DoneIf qn (cSig qn) (fun s => c.toNat ≤ scope s ∧ ∀ ix, ¬room s ix) (fun s => s.writeX d 0)
    ∧ (∀ ix, DoneIf qn (cSig qn) (fun s => c.toNat ≤ scope s ∧ room s ix ∧ ∀ j, j < ix → ¬room s j)
        (fun s =>
          let g := s.grove (groveOf s.cur)
          let q : Queue := { launch := (s.me.task.map (·.launch)).getD 0, vf := s.me.vf, scope := c, by_ := s.caddr s.cur }
          (s.setGrove (groveOf s.cur) { g with queues := tabSet ix q g.queues }).writeX d
            (queueId s.self (groveOf s.cur) ix)))
    ∧ TrapIf sd (cSig sd) (fun s => s.addrOk (A s) = false) (fun s => { cause := cPROT, tval := A s })
    ∧ (∀ y, TrapIf sd (cSig sd) (fun s => s.addrOk (A s) = true ∧ s.checkSpace 1 (P s) .load = some y) (fun _ => y))
    ∧ TrapIf sd (cSig sd) (fun s => s.addrOk (A s) = true ∧ s.checkSpace 1 (P s) .load = none ∧ (P s).toNat % k ≠ 0)
        (fun s => { cause := cMISALIGN, tval := P s, acc := 0 })
    ∧ (∀ p u, TrapIf sd (cSig sd) (fun s => s.addrOk (A s) = true ∧ s.checkSpace 1 (P s) .load = none ∧ (P s).toNat % k = 0
          ∧ s.scrLoc s.cur (P s).toNat k = some p ∧ s.poisonedLoc p k = some u)
        (fun s => { cause := cMCE, tval := P s, unit := u, acc := 0 }))
    ∧ (∀ p, SendIf sd (cSig sd) (fun s => payload s p ∧ calm s p) (fun s => s) (fun s => .read 0 (granulesOf 0 p k (P s) none)))
    ∧ ReadWaitIf sd (cSig sd) (fun s _ => s.addrOk (A s) = true ∧ s.accepts (A s) (1 + 2 ^ z.toNat) = false) (fun s => some (.send (A s)))
    ∧ ReadDoneIf sd (cSig sd) (fun s _ => s.addrOk (A s) = true ∧ s.accepts (A s) (1 + 2 ^ z.toNat) = true) sent
    ∧ (∀ p, WaitIf sd (cSig sd) (fun s => payload s p ∧ ¬calm s p))
    ∧ TrapIf tr (cSig tr) (fun s => s.ownRange (A s).toNat 1 = none) (fun s => { cause := cPROT, tval := A s, acc := 0 })
    ∧ (∀ q, TrapIf tr (cSig tr) (fun s => s.ownRange (A s).toNat 1 = some q ∧ (A s).toNat % 16 ≠ 0)
        (fun s => { cause := cMISALIGN, tval := A s, acc := 0 }))
    ∧ (∀ q, SendIf tr (cSig tr) (fun s => s.ownRange (A s).toNat 1 = some q ∧ (A s).toNat % 16 = 0 ∧ free s
          ∧ s.poisonedLoc (.scr (coreOf s.cur) q) 16 = none)
        (fun s => s) (fun s => .read 0 (granulesOf 0 (.scr (coreOf s.cur) q) 16 (A s) none)))
    ∧ (∀ q u, TrapIf tr (cSig tr) (fun s => s.ownRange (A s).toNat 1 = some q ∧ (A s).toNat % 16 = 0 ∧ free s
          ∧ s.poisonedLoc (.scr (coreOf s.cur) q) 16 = some u) (fun s => { cause := cMCE, tval := A s, unit := u, acc := 0 }))
    ∧ (∀ q, WaitIf tr (cSig tr) (fun s => s.ownRange (A s).toNat 1 = some q ∧ (A s).toNat % 16 = 0 ∧ ¬free s))
    ∧ ReadTrapIf tr (cSig tr) (fun _ t => ¬sound t) (fun s _ => { cause := cRESERVED, tval := A s })
    ∧ ReadSendIf tr (cSig tr) (fun s t => sound t ∧ ¬whole s t) (fun s _ => s) (fun s t => .read 0 (reads s t)) true
    ∧ (∀ y, ReadTrapIf tr (cSig tr) (fun s t => sound t ∧ whole s t ∧ table s t = .error y) (fun _ _ => y))
    ∧ (∀ es, ReadWaitIf tr (cSig tr) (fun s t => sound t ∧ whole s t ∧ table s t = .ok es ∧ s.tableBusy = true) (fun _ => none))
    ∧ (∀ es, ReadSendIf tr (cSig tr) (fun s t => sound t ∧ whole s t ∧ table s t = .ok es ∧ s.tableBusy = false)
        (fun s t =>
          let dd := s.die (dieOf s.cur)
          let bar := arriveBar s.tick { ctx := s.cur, need := fld (head t) 32 9, es := es } (tabGet [] dd.bars (fld (head t) 56 8))
          s.setDie (dieOf s.cur) { dd with bars := tabSet (fld (head t) 56 8) bar dd.bars })
        (fun _ _ => .ttrun) false)
    ∧ (∀ (now : Nat) (x : Arrived) (done : List ExBar), (∀ e ∈ done, e.t0 ≠ none) →
        (arriveBar now x done = done ++ [{ arrived := [x], t0 := if 1 < x.need then none else some (now + 64) }])
        ∧ ∀ bs, arriveBar now x (done ++ [{ arrived := bs, t0 := none }])
            = done ++ [{ arrived := bs ++ [x], t0 := if bs.length + 1 < x.need then none else some (now + 64) }])
    ∧ AnswerDone tr (cSig tr) (fun s v _ _ _ => s.writeX d v)

/-- R284, R319 to R321: SPT.CPY reads its descriptor of 64 bytes granule by granule, once every earlier access that it must follow
has been performed, submits the copy and answers its handle, or waits while the Spout is full; SPT.POLL answers the status of
a copy of its context, or 0; SPT.CAN ends a queued copy at once with status 4, asks for the end of one under way, and
otherwise answers as SPT.POLL does. R324 to R326: BAR.INIT writes an object that expects n arrivals; BAR.EXP adds to its
expected bytes and BAR.ARV one arrival, each settling the object: when both counts have come, the phase turns and the counts
begin again; BAR.ARV answers the phase before; BAR.WT waits while the phase equals bit 0 of X b and traps SPOUT on an object
marked as failed. An object with a non-zero reserved field traps SPOUT in all but BAR.INIT (the model's choice, log entry 76). -/
def Obligations.CopyForms : Prop :=
  (∀ (sm l : Bool) (d a : BitVec 5) (t : Bool),
    let A := fun (s : State) => s.regs.xAt a.toNat
    let cp := Instr.sptCpy sm l d a t
    let ca := Instr.sptCan sm l d a t
    let po := Instr.sptPoll sm l d a t
    let clear := fun (s : State) (p : Loc) => s.acquiring = false ∧ s.ownBusy = false ∧ s.sptPending = false
      ∧ s.readBlocked s.cur s.me.nseq p 64 = false
    let desc := fun (t : Tab Word) => (upFrom 0 8).map (tabGet 0 t)
    let status := fun (k : Copy) =>
      natW (if k.status = 5 then 2 ^ 12 * (k.fva.toNat % 2 ^ 52) + 2 ^ 8 * k.funit + 2 ^ 4 * k.fkind + 5 else k.status)
    (∀ y, TrapIf cp (cSig cp) (fun s => s.descAt (A s) = .error y) (fun _ => y))
    ∧ (∀ p, SendIf cp (cSig cp) (fun s => s.descAt (A s) = .ok p ∧ clear s p) (fun s => s)
        (fun s => .read 4 (granulesOf 0 p 64 (A s) none)))
    ∧ (∀ p, WaitIf cp (cSig cp) (fun s => s.descAt (A s) = .ok p ∧ ¬clear s p))
    ∧ (∀ h s1, ReadDoneIf cp (cSig cp) (fun s t => s.submit (A s) (desc t) = .ok h s1) (fun s _ => (s.within s1).writeX d h))
    ∧ (∀ y, ReadTrapIf cp (cSig cp) (fun s t => s.submit (A s) (desc t) = .trap y) (fun _ _ => y))
    ∧ ReadWaitIf cp (cSig cp) (fun s t => s.submit (A s) (desc t) = .wait) (fun _ => none)
    ∧ DoneIf po (cSig po) (fun s => s.copyOf (A s) = none) (fun s => s.writeX d 0)
    ∧ (∀ c n k, DoneIf po (cSig po) (fun s => s.copyOf (A s) = some (c, n, k)) (fun s => s.writeX d (status k)))
    ∧ DoneIf ca (cSig ca) (fun s => s.copyOf (A s) = none) (fun s => s.writeX d 0)
    ∧ (∀ c n k, DoneIf ca (cSig ca) (fun s => s.copyOf (A s) = some (c, n, k) ∧ k.status = 1)
        (fun s => (s.finishCopy c n { k with status := 4 }).writeX d 4))
    ∧ (∀ c n k, SendIf ca (cSig ca) (fun s => s.copyOf (A s) = some (c, n, k) ∧ k.status = 2)
        (fun s => s.setCopy c n { k with cancel := true }) (fun s => .cancel c (A s)))
    ∧ (∀ c n k, DoneIf ca (cSig ca) (fun s => s.copyOf (A s) = some (c, n, k) ∧ k.status ≠ 1 ∧ k.status ≠ 2)
        (fun s => s.writeX d (status k)))
    ∧ AnswerDone ca (cSig ca) (fun s v _ _ _ => s.writeX d v))
  ∧ (∀ (sm l : Bool) (d a b : BitVec 5) (t u : Bool),
    let A := fun (s : State) => s.regs.xAt a.toNat
    let N := fun (s : State) => s.regs.xAt b.toNat
    let bi := Instr.barInit sm l a b t u
    let be := Instr.barExp sm l a b t u
    let bv := Instr.barArv sm l d a t
    let bw := Instr.barWt sm l d a b t u
    let stops := fun (i : Instr) => ∀ y, TrapIf i (cSig i) (fun s => s.barAt (A s) = .error y) (fun _ => y)
    let odd := fun (s : State) (p : Loc) => (s.barWords p).1 / 2 ^ 56 % 2 ^ 5 ≠ 0 ∨ (s.barWords p).2 / 2 ^ 56 % 2 ^ 8 ≠ 0
    let spoilt := fun (i : Instr) => ∀ p, TrapIf i (cSig i) (fun s => s.barAt (A s) = .ok p ∧ odd s p)
      (fun s => { cause := cSPOUT, tval := A s, acc := 4 })
    let fine := fun (s : State) (p : Loc) => s.barAt (A s) = .ok p ∧ ¬odd s p
    let at_ := fun (s : State) (p : Loc) => fine s p ∧ s.barClear p = true
    let sum := fun (s : State) (p : Loc) => ((s.barWords p).1 % 2 ^ 40 : Nat) + (N s).toInt
    let drained := fun (s : State) => s.storesDone = true ∧ s.loadsDone = true
    let phase := fun (s : State) (p : Loc) => (s.barWords p).1 / 2 ^ 63 % 2
    stops bi ∧ stops be ∧ stops bv ∧ stops bw ∧ spoilt be ∧ spoilt bv ∧ spoilt bw
    ∧ (∀ p, TrapIf bi (cSig bi) (fun s => s.barAt (A s) = .ok p ∧ (N s = 0 ∨ 65535 < (N s).toNat))
        (fun s => { cause := cILLEGAL, tval := N s }))
    ∧ (∀ p, DoneIf bi (cSig bi) (fun s => s.barAt (A s) = .ok p ∧ s.barClear p = true ∧ N s ≠ 0 ∧ (N s).toNat ≤ 65535)
        (fun s => (s.writeLoc p (bytesOf 8 (2 ^ 40 * (N s).toNat) ++ bytesOf 8 0)).markLive p))
    ∧ (∀ p, TrapIf be (cSig be) (fun s => at_ s p ∧ (sum s p < 0 ∨ 2 ^ 40 ≤ sum s p)) (fun s => { cause := cILLEGAL, tval := N s }))
    ∧ (∀ p, DoneIf be (cSig be) (fun s => at_ s p ∧ 0 ≤ sum s p ∧ sum s p < 2 ^ 40)
        (fun s => s.setBar p (settleBar ((s.barWords p).1 / 2 ^ 40 * 2 ^ 40 + (sum s p).toNat) (s.barWords p).2)))
    ∧ (∀ p, DoneIf bv (cSig bv) (fun s => at_ s p ∧ drained s)
        (fun s =>
          let w := s.barWords p
          let n := (w.2 / 2 ^ 40 % 2 ^ 16 + 1) % 2 ^ 16
          (s.setBar p (settleBar w.1 (w.2 - 2 ^ 40 * (w.2 / 2 ^ 40 % 2 ^ 16) + 2 ^ 40 * n))).writeX d (natW (phase s p))))
    ∧ (∀ p, WaitIf bv (cSig bv) (fun s => fine s p ∧ (s.barClear p = false ∨ ¬drained s)))
    ∧ (∀ p, WaitIf bw (cSig bw) (fun s => fine s p ∧ (N s).toNat % 2 = phase s p))
    ∧ (∀ p, TrapIf bw (cSig bw) (fun s => at_ s p ∧ s.ringOf s.cur = [] ∧ (N s).toNat % 2 ≠ phase s p ∧ (s.barWords p).1 / 2 ^ 61 % 2 = 1)
        (fun s => { cause := cSPOUT, tval := A s, acc := 4 }))
    ∧ (∀ p, DoneIf bw (cSig bw) (fun s => at_ s p ∧ s.ringOf s.cur = [] ∧ (N s).toNat % 2 ≠ phase s p ∧ (s.barWords p).1 / 2 ^ 61 % 2 = 0)
        (fun s => s.writeX d (natW (phase s p))))
    ∧ (∀ w0 w1 : Nat, w0 < 2 ^ 64 → w1 < 2 ^ 64 →
        let n0 := w0 / 2 ^ 40 % 2 ^ 16
        let n1 := w1 / 2 ^ 40 % 2 ^ 16
        let full := w0 % 2 ^ 40 ≤ w1 % 2 ^ 40 ∧ n0 ≤ n1
        (¬full → settleBar w0 w1 = (w0, w1))
        ∧ (full → (settleBar w0 w1).1 / 2 ^ 63 = 1 - w0 / 2 ^ 63 ∧ (settleBar w0 w1).1 % 2 ^ 40 = 0
            ∧ (settleBar w0 w1).1 / 2 ^ 40 % 2 ^ 16 = n0 ∧ (settleBar w0 w1).2 % 2 ^ 56 = 0
            ∧ ((settleBar w0 w1).1 / 2 ^ 62 % 2 = 1 ↔ w0 / 2 ^ 62 % 2 = 1 ∨ w0 % 2 ^ 40 < w1 % 2 ^ 40 ∨ n0 < n1))))

/-- R185, R327 to R329, R451: WOPEN opens the lowest free slot of its die and answers the reduction's identifier, or 0; a
contribution of the identifier's own kind is posted toward its owner die, after the window has room; MDRAIN contributes the
rows of an accumulator that X b names, in order; each is counted in class B and, where the window is full, is kept back. A
package that is absent, or outside the partition, traps PROT. -/
def Obligations.WhiskForms : Prop :=
  ∀ (sm l : Bool) (d a b : BitVec 5) (n : BitVec 2) (t u : Bool),
    let A := fun (s : State) => s.regs.xAt a.toNat
    let wo := Instr.wopen sm l d a t
    let md := Instr.mdrain sm l n a b t u
    let kind := fun (s : State) => (A s).toNat / 2 ^ 16 % 8
    let good := fun (s : State) => (A s).toNat % 2 ^ 16 ≠ 0 ∧ kind s ≠ 7 ∧ (kind s = 1 ∨ (A s).toNat / 2 ^ 20 % 2 ^ 8 = 0)
      ∧ (A s).toNat / 2 ^ 19 % 2 = 0 ∧ (A s).toNat < 2 ^ 28
    let slot := fun (s : State) (k : Nat) => tabGet {} (s.die (dieOf s.cur)).wslots k
    let shut := fun (s : State) => (A s).toNat / 2 ^ 41 ≠ 0 ∨ (A s).toNat / 2 ^ 29 % 2 = 1 ∨ (A s).toNat % 2 ^ 8 = 0
      ∨ s.present ((A s).toNat / 2 ^ 32 % 2 ^ 9) = false ∨ s.spansFor s.me.vf ((A s).toNat / 2 ^ 32 % 2 ^ 9) = false
    let of_ := fun (s : State) => (A s).toNat / 2 ^ 26 % 8
    let rows := fun (s : State) => (upFrom 0 16).filter (fun r => (s.regs.xAt b.toNat).getLsbD r)
    let one := fun (i : Instr) (k : Nat) =>
      TrapIf i (cSig i) shut (fun s => { cause := cPROT, tval := A s })
      ∧ TrapIf i (cSig i) (fun s => ¬shut s ∧ of_ s ≠ k) (fun s => { cause := cILLEGAL, tval := A s })
      ∧ WaitIf i (cSig i) (fun s => ¬shut s ∧ of_ s = k ∧ s.whiskWaits (A s) 1 = true)
      ∧ DoneIf i (cSig i) (fun s => ¬shut s ∧ of_ s = k ∧ s.whiskWaits (A s) 1 = false)
          (fun s => s.contribute (A s) (s.regs.vAt b.toNat).toNat 0)
    TrapIf wo (cSig wo) (fun s => ¬good s) (fun s => { cause := cILLEGAL, tval := A s })
    ∧ DoneIf wo (cSig wo) (fun s => good s ∧ ∀ k, k < 1024 → (slot s k).opened = true) (fun s => s.writeX d 0)
    ∧ (∀ k, DoneIf wo (cSig wo) (fun s => good s ∧ k < 1024 ∧ (slot s k).opened = false ∧ ∀ j, j < k → (slot s j).opened = true)
        (fun s =>
          let ser := if (slot s k).ser = 255 then 1 else (slot s k).ser + 1
          let fsc := BitVec.ofNat 8 ((A s).toNat / 2 ^ 20)
          let dd := s.die (dieOf s.cur)
          let w : WSlot := { ser := ser, opened := true, owner := s.caddr s.cur, vf := s.me.vf, kind := kind s
                             fsc := fsc, n := (A s).toNat % 2 ^ 16 }
          (s.setDie (dieOf s.cur) { dd with wslots := tabSet k w dd.wslots }).writeX d
            (natW (2 ^ 32 * s.self + 2 ^ 30 * dieOf s.cur + 2 ^ 26 * kind s + 2 ^ 18 * fsc.toNat + 2 ^ 8 * k + ser.toNat))))
    ∧ one (.wsumI sm l a b t u) 0 ∧ one (.wsumF sm l a b t u) 1 ∧ one (.wmaxvI sm l a b t u) 2 ∧ one (.wmaxvF sm l a b t u) 3
    ∧ one (.wminvI sm l a b t u) 4 ∧ one (.wminvF sm l a b t u) 5 ∧ one (.wmax sm l a b t u) 6
    ∧ TrapIf md (cSig md) shut (fun s => { cause := cPROT, tval := A s })
    ∧ TrapIf md (cSig md) (fun s => ¬shut s ∧ 6 ≤ of_ s) (fun s => { cause := cILLEGAL, tval := A s })
    ∧ WaitIf md (cSig md) (fun s => ¬shut s ∧ of_ s < 6 ∧ s.whiskWaits (A s) (rows s).length = true)
    ∧ DoneIf md (cSig md) (fun s => ¬shut s ∧ of_ s < 6 ∧ s.whiskWaits (A s) (rows s).length = false)
        (fun s => (rows s).foldl (fun q r => q.contribute (A s) (lane 512 r (s.regs.accAt n.toNat).toNat) r) s)
    ∧ (∀ (s : State) (id : Word) (v row : Nat), ∃ p : Posted, (s.contribute id v row).me.posted = s.me.posted ++ [p]
        ∧ (s.contribute id v row).me.pcb = s.me.pcb + 1 ∧ (s.contribute id v row).me.pca = s.me.pca
        ∧ p.clsB = true ∧ p.events = [] ∧ p.row = row ∧ p.tree = some (id.toNat / 2 ^ 30 % 2 ^ 11)
        ∧ (p.unsent = none ↔ (s.me.posted.filter (fun q => q.tree == p.tree && q.unsent.isNone)).length ≤ fld s.mgmt.domain.toNat 18 6)
        ∧ ∀ m, p.unsent = some m → m.id = id ∧ m.n = s.me.nseq ∧ m.row = row
            ∧ m.elts = (whiskElts (id.toNat / 2 ^ 26 % 8) (id.toNat / 2 ^ 18 % 2 ^ 8) v).1)

/-- R118, R210, R211, R284: LNCH, once every store of the context has been performed, reads its 256-byte header granule by
granule, from memory or from the launch window, and sends it; the Kettle queues the child launch and answers its handle, or 0
where the child queue is full or where the context runs no task (the model's choice, log entry 95); a header in the device
region outside the launch window traps PROT. LNCH.POLL answers the status of a child, and LNCH.WAIT waits for a final one;
HALT ends its task once everything that it waits for is done: the unit is first sent, and completes at HALT_COMPLETE. -/
def Obligations.TaskForms : Prop :=
  ∀ (sm l : Bool) (d a : BitVec 5) (t : Bool),
    let H := fun (s : State) => s.regs.xAt a.toNat
    let ln := Instr.lnch sm l d a t
    let po := Instr.lnchPoll sm l d a t
    let wt := Instr.lnchWait sm l d a t
    let ha := Instr.halt sm l
    let quiet := fun (s : State) => s.me.pca = 0 ∧ s.me.pcb = 0 ∧ s.acquiring = false ∧ s.ringOf s.cur = []
    let aligned := fun (s : State) => (H s).toNat < 2 ^ 52 ∧ (H s).toNat % 256 = 0
    let plain := fun (s : State) => aligned s ∧ (H s).toNat < 0xFFFFFFFF00000 ∧ quiet s
    let own := fun (s : State) => (s.me.task.map (·.launch)).getD 0
    TrapIf ln (cSig ln) (fun s => 2 ^ 52 ≤ (H s).toNat) (fun s => { cause := cPROT, tval := H s, acc := 0 })
    ∧ TrapIf ln (cSig ln) (fun s => (H s).toNat < 2 ^ 52 ∧ (H s).toNat % 256 ≠ 0) (fun s => { cause := cMISALIGN, tval := H s, acc := 0 })
    ∧ WaitIf ln (cSig ln) (fun s => aligned s ∧ ¬quiet s)
    ∧ SendIf ln (cSig ln) (fun s => H s = 0xFFFFFFFFFFF00 ∧ quiet s) (fun s => s)
        (fun s => .read 0 (granulesOf 0 (.hdr (own s) 0) 256 (H s) none))
    ∧ TrapIf ln (cSig ln) (fun s => aligned s ∧ quiet s ∧ 0xFFFFFFFF00000 ≤ (H s).toNat ∧ (H s).toNat ≠ 0xFFFFFFFFFFF00)
        (fun s => { cause := cPROT, tval := H s, acc := 0 })
    ∧ (∀ y, TrapIf ln (cSig ln) (fun s => plain s ∧ s.reach (H s) .load false = .trap y) (fun _ => y))
    ∧ (∀ k, TrapIf ln (cSig ln) (fun s => plain s ∧ s.reach (H s) .load false = .fault k) (fun s => pageTrap (H s) .load k))
    ∧ (∀ p lf s1 u, TrapIf ln (cSig ln) (fun s => plain s ∧ s.reach (H s) .load false = .at_ p lf s1 ∧ s1.poisonedLoc p 256 = some u)
        (fun s => { cause := cMCE, tval := H s, unit := u, acc := 0 }))
    ∧ (∀ p lf s1, SendIf ln (cSig ln) (fun s => plain s ∧ s.reach (H s) .load false = .at_ p lf s1 ∧ s1.poisonedLoc p 256 = none)
        (fun _ => s1) (fun s => .read 0 (granulesOf 0 p 256 (H s) (p.uc lf))))
    ∧ ReadSendIf ln (cSig ln) (fun _ _ => True) (fun s _ => s) (fun s _ => .lnch (H s)) true
    ∧ AnswerDone ln (cSig ln) (fun s v _ _ _ => s.writeX d v)
    ∧ (∀ s c p h, (s.ctx c).pend = some p → p.op = .lnch h → p.result = none →
        let give := fun (q : State) (v : Word) => q.setCtx c { q.ctx c with pend := some { p with result := some (.ok v 0 0 0) } }
        let vf := (s.ctx c).vf
        ((s.ctx c).task = none → exec (.homeSlicePerform c) s = .next (give s 0))
        ∧ ∀ k, (s.ctx c).task = some k →
            (256 ≤ (s.vf vf).childQ.length → exec (.homeSlicePerform c) s = .next (give s 0))
            ∧ ((s.vf vf).childQ.length < 256 →
              let child : Launch := { vf := vf, hdr := bytesOf 256 (ofWords ((upFrom 0 32).map (tabGet 0 p.got))), parent := some k.launch
                                      child := true, queued := s.tick, lastCtx := s.tick }
              let s1 : State := { s with launches := tabSet s.nextNum child s.launches, nextNum := s.nextNum + 1 }
              exec (.homeSlicePerform c) s = .next (give (s1.setVf vf { s.vf vf with childQ := (s.vf vf).childQ ++ [s.nextNum] })
                (lidOf vf s.nextNum))))
    ∧ Done po (cSig po) (fun s => s.writeX d (natW (s.launchStatus (H s))))
    ∧ DoneIf wt (cSig wt) (fun s => isFinal (s.launchStatus (H s)) = true) (fun s => s.writeX d (natW (s.launchStatus (H s))))
    ∧ WaitIf wt (cSig wt) (fun s => isFinal (s.launchStatus (H s)) = false)
    ∧ SendIf ha (cSig ha) (fun _ => True) (fun s => s) (fun _ => .halt true)
    ∧ (∀ s c p, (s.ctx c).pend = some p → p.op = .halt true → p.result = none → s.haltReady c = true →
        exec (.haltComplete c) s = .next (s.haltDone c))
    ∧ (∀ s p r, s.unit = {} → s.me.pend = some p → p.op = .halt true → p.result = some r → p.latched = [] → p.pops = [] →
        exec ha s = .next { s.haltDone s.cur with unit := {} })

/-- R353 to R357: a STRM form traps PROT on a handle that its context may not use; on a stream of the own grove it has its effect
at once and writes what the Samovar answers, elsewhere it is sent and completes with the answer. R284, R343, R344: SSPAWN
reads its descriptor of 64 bytes from the scratchpad space, granule by granule, and traps ILLEGAL on one that breaks the rule
and QUOTA without a quota of pages; it answers 0 where the grove has no free stream context; otherwise its pages start as
zeros, or it reads them from its source, and it answers the handle of a new root stream with the fields of its descriptor,
WAITING, which alone names its map. R339, R354 to R357: what each STRM form answers on a handle of this package and writes
into its stream. The checks come in the order of R354. SSTAT answers the status word; SNEXT writes the cursor and counts the
horizon down; SRET adds to RET in RNE and reports again where the stream is DONE; SINFEAS sets INF, and a WAITING stream
becomes DONE and reports; SRETIRE frees a WAITING or DONE stream and leaves a READY or RUNNING one RETIRED until its task
halts; SAPUSH and SAPOP work the queue of 16 actions; SPIN and SUNPIN set and clear PIN, a spilled page being reloaded first;
SFORK takes the next ordinal, or answers 0, and a free context, or answers 0, and gives the child the parent's fields, the
family's version and one more reference to the map; SMIG traps ILLEGAL on a destination that is no other grove, answers 0
where nothing can be reserved, and otherwise notes the new handle and departs, at once or at the task's end. -/
def Obligations.StreamForms : Prop :=
  (∀ (sm l : Bool) (d a b : BitVec 5) (t u : Bool),
    let A := fun (s : State) => s.regs.xAt a.toNat
    let form := fun (i : Instr) (f : StrmForm) (put : State → Word → State) (x : State → Word) =>
      let g := cSig i
      let may := fun (s : State) => s.handleProt (A s) (some (groveOf s.cur)) = false ∧ s.acquiring = false
      let own := fun (s : State) => handlePkg (A s).toNat = s.self ∧ handleGrove (A s).toNat = groveOf s.cur
      let op := fun (s : State) => s.strmOp (some s.cur) s.me.vf f (A s) (x s)
      TrapIf i g (fun s => s.handleProt (A s) (some (groveOf s.cur)) = true) (fun s => { cause := cPROT, tval := A s })
      ∧ WaitIf i g (fun s => s.handleProt (A s) (some (groveOf s.cur)) = false ∧ s.acquiring = true)
      ∧ (∀ v fl s1, DoneIf i g (fun s => may s ∧ own s ∧ op s = .ok v fl s1) (fun s => (put (s.within s1) v).orFlags fl.toNat))
      ∧ (∀ y, TrapIf i g (fun s => may s ∧ own s ∧ op s = .trap y) (fun _ => y))
      ∧ WaitIf i g (fun s => may s ∧ own s ∧ op s = .wait)
      ∧ SendIf i g (fun s => may s ∧ ¬own s)
          (fun s => s.sendPacket (handlePkg (A s).toNat)
            (.strmReq (s.caddr s.cur) s.tick s.me.vf f (A s) (x s)))
          (fun s => .strm (A s))
      ∧ AnswerDone i g (fun s v _ _ fl => (put s v).orFlags fl)
      ∧ (∀ h p s, s.ready g = true → may s → own s → op s = .stall h p → exec i s = .next ((s.startReload h p).waits))
      ∧ (∀ pkg q, SendIf i g (fun s => may s ∧ own s ∧ op s = .ask pkg q) (fun s => s.sendPacket pkg (q (s.caddr s.cur) s.tick))
          (fun s => .strm (A s)))
    let X := fun (s : State) (v : Word) => s.writeX d v
    let no := fun (s : State) (_ : Word) => s
    let zero := fun (_ : State) => (0 : Word)
    let B := fun (s : State) => s.regs.xAt b.toNat
    form (.sfork sm l d a t) .fork X zero ∧ form (.snext sm l a b t u) .next no B ∧ form (.sret sm l a b t u) .ret no B
    ∧ form (.sretire sm l a t) .retire no zero ∧ form (.sretireSub sm l a t) .retireSub no zero
    ∧ form (.smig sm l d a b t u) .mig X B ∧ form (.sinfeas sm l a t) .infeas no zero ∧ form (.sapush sm l d a b t u) .apush X B
    ∧ form (.sapop sm l d a t) .apop X zero ∧ form (.sstat sm l d a t) .stat X zero ∧ form (.spin sm l a b t u) .pin no B
    ∧ form (.sunpin sm l a b t u) .unpin no B)
  ∧ (∀ (sm l : Bool) (d a : BitVec 5) (t : Bool),
    let i := Instr.sspawn sm l d a t
    let A := fun (s : State) => s.regs.xAt a.toNat
    let g := fun (s : State) => groveOf s.cur
    let at_ := fun (s : State) (p : Loc) => s.checkSpace 1 (A s) .load = none ∧ (A s).toNat % 64 = 0 ∧ s.scrLoc s.cur (A s).toNat 64 = some p
    let calm := fun (s : State) (p : Loc) => s.acquiring = false ∧ s.ownWaits p = false ∧ s.readBlocked s.cur s.me.nseq p 64 = false
    let desc := fun (w : Tab Word) => spawnDesc ((upFrom 0 8).map (tabGet 0 w))
    let task := fun (s : State) (w : Tab Word) (y : SpawnDesc) (k : TaskOf) (ln : Launch) => s.me.task = some k ∧ s.launchOf s.cur = some ln
      ∧ ln.quota ≠ 0 ∧ desc w = some y
    let layer := fun (s : State) (y : SpawnDesc) => s.layerFor (g s) s.me.vf y.hdr y.b y.win y.loga y.logn
    let found := fun (s : State) (w : Tab Word) (y : SpawnDesc) (k : TaskOf) (ln : Launch) (kid : Nat) (s1 : State) (c : Nat) =>
      task s w y k ln ∧ layer s y = .entry kid s1 ∧ s1.freeStreamCtx (g s) true = some c
    let blank := fun (y : SpawnDesc) => (upFrom 0 y.npg).map (fun _ => (([], []) : List Host.Cell × List Nat))
    let fresh := fun (y : SpawnDesc) => y.zf = true ∨ y.npg = 0
    (∀ y, TrapIf i (cSig i) (fun s => s.checkSpace 1 (A s) .load = some y) (fun _ => y))
    ∧ TrapIf i (cSig i) (fun s => s.checkSpace 1 (A s) .load = none ∧ (A s).toNat % 64 ≠ 0)
        (fun s => { cause := cMISALIGN, tval := A s, acc := 0 })
    ∧ (∀ p u, TrapIf i (cSig i) (fun s => at_ s p ∧ s.poisonedLoc p 64 = some u) (fun s => { cause := cMCE, tval := A s, unit := u, acc := 0 }))
    ∧ (∀ p, WaitIf i (cSig i) (fun s => at_ s p ∧ s.poisonedLoc p 64 = none ∧ ¬calm s p))
    ∧ (∀ p, SendIf i (cSig i) (fun s => at_ s p ∧ s.poisonedLoc p 64 = none ∧ calm s p) (fun s => s)
        (fun s => .read 0 (granulesOf 0 p 64 (A s) none)))
    ∧ ReadTrapIf i (cSig i) (fun _ w => desc w = none) (fun s _ => { cause := cILLEGAL, tval := A s })
    ∧ (∀ y k ln, ReadTrapIf i (cSig i) (fun s w => desc w = some y ∧ s.me.task = some k ∧ s.launchOf s.cur = some ln ∧ ln.quota = 0)
        (fun s _ => { cause := cQUOTA, tval := A s }))
    ∧ (∀ y k ln, ReadTrapIf i (cSig i) (fun s w => task s w y k ln ∧ layer s y = .bad) (fun s _ => { cause := cILLEGAL, tval := A s }))
    ∧ (∀ y k ln, ReadDoneIf i (cSig i) (fun s w => task s w y k ln ∧ layer s y = .full) (fun s _ => s.writeX d 0))
    ∧ (∀ y k ln kid s1, ReadDoneIf i (cSig i) (fun s w => task s w y k ln ∧ layer s y = .entry kid s1 ∧ s1.freeStreamCtx (g s) true = none)
        (fun s _ => s.writeX d 0))
    ∧ (∀ y k ln kid s1 c, ReadTrapIf i (cSig i) (fun s w => found s w y k ln kid s1 c ∧ (fresh y ∨ tabFind w 8 = none)
          ∧ s1.newPages (g s) s.me.vf k.launch (blank y) = none)
        (fun s _ => { cause := cQUOTA, tval := A s }))
    ∧ (∀ y k ln kid s1 c ps s2 v s3, ReadDoneIf i (cSig i) (fun s w => found s w y k ln kid s1 c ∧ fresh y
          ∧ s1.newPages (g s) s.me.vf k.launch (blank y) = some (ps, s2) ∧ s2.spawn (g s) c k.launch kid y ps = (v, s3))
        (fun s _ => (s.within s3).writeX d v))
    ∧ (∀ y k ln kid s1 c qs s2 ps s3, ReadSendIf i (cSig i) (fun s w => found s w y k ln kid s1 c ∧ ¬fresh y ∧ tabFind w 8 = none
          ∧ s1.newPages (g s) s.me.vf k.launch (blank y) = some (qs, s2) ∧ s.readTagged (256 * y.npg) 8 y.src = .reads ps s3)
        (fun _ _ => s3) (fun _ _ => .read 0 ps) true)
    ∧ (∀ y k ln kid s1 c ps s2 v s3, ReadDoneIf i (cSig i) (fun s w => found s w y k ln kid s1 c ∧ ¬fresh y ∧ tabFind w 8 ≠ none
          ∧ s1.newPages (g s) s.me.vf k.launch (pagesOf w y.npg 8) = some (ps, s2) ∧ s2.spawn (g s) c k.launch kid y ps = (v, s3))
        (fun s _ => (s.within s3).writeX d v))
    ∧ ∀ (s : State) (g c own kid : Nat) (y : SpawnDesc) (ps : List Nat) (m : Nat), s.freeMap g = some m → y.hor ≠ 0 →
        let r := s.spawn g c own kid y ps
        let x := r.2.stream g c
        r.1 = natW (s.handle g c).toNat ∧ x.st = 1 ∧ x.parked = true ∧ x.gen = (s.stream g c).gen ∧ x.vf = s.me.vf ∧ x.own = own ∧ x.map = m
        ∧ x.npg = y.npg ∧ x.hor = y.hor ∧ x.kid = kid ∧ x.layer = y.layer ∧ x.hash = y.hash ∧ x.ver = y.ver ∧ x.fam = s.handle g c
        ∧ x.ford = 0 ∧ x.aq = [] ∧ x.ret = 0 ∧ x.inf = false ∧ r.2.smap g m = { mref := 1, pages := ps })
  ∧ (∀ (s : State) (iss : Option Nat) (vf : Nat) (v x : Word),
    let h : BitVec 32 := BitVec.ofNat 32 v.toNat
    let g := handleGrove h.toNat
    let c := handleCtx h.toNat
    let t := s.stream g c
    let op := fun (f : StrmForm) => s.strmOp iss vf f v x
    let trap := fun (k : BitVec 6) (n : Nat) => StrmAns.trap { cause := k, tval := natW n }
    let code := fun (k : Nat) => trap cSTREAM (k * 2 ^ 32 + v.toNat % 2 ^ 32)
    let named := s.handleProt v (iss.map groveOf) = false
    let live := named ∧ s.stale h vf = false ∧ t.st ≠ 5 ∧ t.st ≠ 6
    let row := ∃ k, iss = some k ∧ s.isRow k h = true
    let works := t.st = 1 ∨ t.st = 2 ∨ t.st = 3 ∨ t.st = 4
    let put := fun (y : Stream) => s.setStream g c y
    let page := nth 0 (s.smap g t.map).pages x.toNat
    (¬named → ∀ f, op f = trap cPROT v.toNat)
    ∧ (named → s.stale h vf = true → op .stat = .ok 0 0 s ∧ ∀ f, f ≠ .stat → op f = code 1)
    ∧ (named → s.stale h vf = false → t.st = 5 ∨ t.st = 6 → ∀ f, f ≠ .stat → op f = trap cMOVED t.newh.toNat)
    ∧ (named → s.stale h vf = false → op .stat = .ok (natW ((if t.st = 6 then 2 ^ 32 * t.newh.toNat
          else 2 ^ 48 * t.hor.toNat + 2 ^ 32 * t.layer.toNat)
        + 2 ^ 26 * t.kid + 2 ^ 19 * t.npg + 2 ^ 14 * t.aq.length + 2 ^ 13 * (if t.inf then 1 else 0) + t.st)) 0 s)
    ∧ (live → ¬row → op .next = code 6)
    ∧ (live → row → t.st ≠ 3 → op .next = code 3)
    ∧ (live → t.st = 7 → op .fork = (if t.resolved then code 1 else code 3) ∧ op .apush = code 3 ∧ op .apop = code 3)
    ∧ (live → ¬works → op .ret = code 3 ∧ op .retire = code 3 ∧ op .retireSub = code 3 ∧ op .mig = code 3)
    ∧ (live → t.st ≠ 1 → t.st ≠ 2 → t.st ≠ 3 → op .infeas = code 3)
    ∧ (live → row → t.st = 3 →
        let kid := x.toNat / 2 ^ 16 % 2 ^ 6
        let bad := x.toNat / 2 ^ 22 % 2 ^ 41 ≠ 0 ∨ (∀ l, tabFind (s.grove g).layers kid = some l → l.vf ≠ vf)
          ∨ (x.getLsbD 63 = true ∧ t.hor = 0)
        (bad → op .next = trap cILLEGAL x.toNat)
        ∧ (¬bad → op .next = .ok 0 0 ((put { t with
              layer := BitVec.ofNat 16 x.toNat, kid := kid, hor := if x.getLsbD 63 then t.hor - 1 else t.hor }).layerCheck g t.kid)))
    ∧ (live → works →
        let r := fmt32.add mRNE 0 (fmt32.val t.ret.toNat) (fmt32.val (x.toNat % 2 ^ 32))
        let s1 := put { t with ret := BitVec.ofNat 32 r.1 }
        op .ret = .ok 0 (BitVec.ofNat 6 r.2) (if t.st = 4 then s1.report g c else s1))
    ∧ (live → t.st = 1 → op .infeas = .ok 0 0 ((put { t with inf := true, st := 4, parked := false }).report g c))
    ∧ (live → t.st = 2 ∨ t.st = 3 → op .infeas = .ok 0 0 (put { t with inf := true }))
    ∧ (live → s.arrivingAt h = none → t.st = 1 ∨ t.st = 4 → op .retire = .ok 0 0 ((s.freeStream g c).tellGone t h)
        ∧ (s.freeStream g c).stream g c = { gen := nextGen t.gen })
    ∧ (live → s.arrivingAt h = none → t.st = 2 ∨ t.st = 3 →
        op .retire = .ok 0 0 ((put { t with st := 7, resolved := false }).tellGone t h))
    ∧ (live → t.st ≠ 7 → op .apush = if t.aq.length < 16 then .ok 1 0 (put { t with aq := t.aq ++ [x] }) else .ok 0 0 s)
    ∧ (live → t.st ≠ 7 → op .apop = match t.aq with
        | [] => code 4
        | w :: r => .ok w 0 (put { t with aq := r }))
    ∧ (live → t.npg ≤ x.toNat → op .pin = code 5 ∧ op .unpin = code 5)
    ∧ (live → x.toNat < t.npg →
        op .unpin = .ok 0 0 (s.setPage g page { s.page g page with pin := false })
        ∧ ((s.page g page).spl = false → op .pin = .ok 0 0 (s.setPage g page { s.page g page with pin := true }))
        ∧ ((s.page g page).spl = true → s.reachPage g page = .noFrame → op .pin = trap cQUOTA v.toNat)
        ∧ ((s.page g page).spl = true → s.reachPage g page ≠ .noFrame → op .pin = .stall g page))
    ∧ (live → works → s.mapHeld g t.map = false → handlePkg t.fam.toNat = s.self →
        let s0 := s.due t.fam
        let own := s0.ordered t.fam t.ford = false ∧ s0.orderLeft t.fam (s.handle g c) = false
        (¬own → op .fork = trap cSTREAM (2 ^ 32 + (s.handle g c).toNat))
        ∧ (own → s0.takeOrdinal t.fam = none → op .fork = .ok 0 0 s0)
        ∧ ∀ o ver s1, own → s0.takeOrdinal t.fam = some (o, ver, s1) →
            (s1.freeStreamCtx g false = none → op .fork = .ok 0 0 s1)
            ∧ ∀ k, s1.freeStreamCtx g false = some k → ∃ s2 : State,
                let p := s1.stream g c
                let y := s2.stream g k
                op .fork = .ok (natW (s1.handle g k).toNat) 0 s2
                ∧ y.map = p.map ∧ y.npg = p.npg ∧ y.aq = p.aq ∧ y.hor = p.hor ∧ y.kid = p.kid ∧ y.layer = p.layer ∧ y.ret = p.ret
                ∧ y.hash = p.hash ∧ y.own = p.own ∧ y.fam = p.fam ∧ y.inf = p.inf ∧ y.ver = ver ∧ y.ford = o ∧ y.par = s1.handle g c
                ∧ y.st = (if p.st ≠ 2 ∧ p.st ≠ 3 ∧ (p.hor = 0 ∨ p.inf = true) then 4 else 1)
                ∧ (s2.smap g p.map).mref = (s1.smap g p.map).mref + 1)
    ∧ (live → works →
        let bad := x.toNat % 2 ^ 17 ≠ 0 ∨ (handlePkg x.toNat = s.self ∧ x.toNat < 2 ^ 32 ∧ x.toNat / 2 ^ 17 % 2 ^ 4 < 12 ∧ handleGrove x.toNat = g)
        let fine := ¬bad ∧ s.handleProt x (iss.map groveOf) = false
        (bad → op .mig = trap cILLEGAL x.toNat)
        ∧ (¬bad → s.handleProt x (iss.map groveOf) = true → op .mig = trap cPROT x.toNat)
        ∧ (fine → tabFind (s.grove g).layers t.kid = none → op .mig = .ok 0 0 s)
        ∧ ∀ l, fine → tabFind (s.grove g).layers t.kid = some l → handlePkg x.toNat = s.self →
            let room := s.reserveMove (handleGrove x.toNat) t.vf t.own t.npg (s.handle g c) l.hdrA l.b l.win l.loga l.logn
            (room = none → op .mig = .ok 0 0 s)
            ∧ ∀ nh s1, room = some (nh, s1) → (s1.stream g c).migp = false →
                let s2 := s1.setStream g c { s1.stream g c with newh := nh, migp := true }
                op .mig = .ok (natW nh.toNat) 0 (if (s1.stream g c).st = 1 ∨ (s1.stream g c).st = 4 then s2.depart g c else s2)))

/-- R368, R369: a JOIN form traps PROT on a handle that its context may not use; on a family of the own grove it has its effect at
once, elsewhere it is sent; JPOLL and JWAIT write X d, JVAL and JSTAT. R363 to R366, R369: what each JOIN form answers at the
record of a family of this package and writes there, after a deadline that has passed has been performed as an event of its
own. JOPEN writes OP, K, CURV, DL and OPEN, and resolves at once where no member is pending or the deadline has come; a
resolution counts the candidates, the pending and the stale members, keeps the first of the winners, which no other candidate
ranks before, and takes every other candidate and every pending, stale and infeasible member out of the family; JPOLL and
JWAIT deliver the handle, JVAL and JSTAT; a JWAIT before the resolution is noted at the record; JCLOSE ends the join, with
trap code 6 for each that waits. -/
def Obligations.JoinForms : Prop :=
  (∀ (sm l : Bool) (d a b : BitVec 5) (t u : Bool),
    let A := fun (s : State) => s.regs.xAt a.toNat
    let form := fun (i : Instr) (f : JoinForm) (put : State → Word → Word → Word → State) (x dl : State → Word) =>
      let g := cSig i
      let may := fun (s : State) => s.handleProt (A s) (some (groveOf s.cur)) = false ∧ s.acquiring = false
      let own := fun (s : State) => handlePkg (A s).toNat = s.self ∧ handleGrove (A s).toNat = groveOf s.cur
      let op := fun (s : State) => s.joinOp (some (groveOf s.cur)) (s.caddr s.cur) s.tick s.me.vf f (A s) (x s) (dl s)
      TrapIf i g (fun s => s.handleProt (A s) (some (groveOf s.cur)) = true) (fun s => { cause := cPROT, tval := A s })
      ∧ WaitIf i g (fun s => s.handleProt (A s) (some (groveOf s.cur)) = false ∧ s.acquiring = true)
      ∧ (∀ v jv js s1, DoneIf i g (fun s => may s ∧ own s ∧ op s = .ok v jv js s1) (fun s => put (s.within s1) v jv js))
      ∧ (∀ y, TrapIf i g (fun s => may s ∧ own s ∧ op s = .trap y) (fun _ => y))
      ∧ (∀ s1, SendIf i g (fun s => may s ∧ own s ∧ op s = .waits s1) (fun s => s.within s1) (fun s => .join (A s) true))
      ∧ SendIf i g (fun s => may s ∧ ¬own s)
          (fun s => s.sendPacket (handlePkg (A s).toNat) (.joinReq (s.caddr s.cur) s.tick s.me.vf f (A s) (x s) (dl s)))
          (fun s => .join (A s) (f == .jwait))
      ∧ AnswerDone i g (fun s v jv js _ => put s v jv js)
    let X := fun (s : State) (v jv js : Word) => ((s.writeX d v).setCsr csrJVAL jv).setCsr csrJSTAT js
    let no := fun (s : State) (_ _ _ : Word) => s
    let zero := fun (_ : State) => (0 : Word)
    let B := fun (s : State) => s.regs.xAt b.toNat
    form (.jopen sm l d a b t u) .jopen no B (fun s => s.regs.xAt d.toNat) ∧ form (.jwait sm l d a t) .jwait X zero zero
    ∧ form (.jpoll sm l d a b t u) .jpoll X B zero ∧ form (.jclose sm l a b t u) .jclose no B zero)
  ∧ ((∀ (s0 : State) (user : Option Nat) (src : Word) (sent vf : Nat) (v x dl : Word),
    let fam : BitVec 32 := BitVec.ofNat 32 v.toNat
    let s := s0.due fam
    let op := fun (f : JoinForm) => s0.joinOp user src sent vf f v x dl
    let trap := fun (k : BitVec 6) (n : Nat) => JoinAns.trap { cause := k, tval := natW n }
    let code := fun (k : Nat) => trap cJOIN (k * 2 ^ 32 + v.toNat % 2 ^ 32)
    let named := s.handleProt v user = false
    (¬named → ∀ f, op f = trap cPROT v.toNat)
    ∧ (named → (∀ r, s.family fam = some r → r.2.2.vf ≠ vf) → ∀ f, op f = code 1)
    ∧ ∀ g c f, named → s.family fam = some (g, c, f) → f.vf = vf →
        let o := x.toNat % 2 ^ 2
        let k := x.toNat / 2 ^ 2 % 2 ^ 3
        let bad := x.toNat / 2 ^ 5 % 2 ^ 27 ≠ 0 ∨ (o ≠ 3 ∧ k ≠ 0) ∨ (o = 3 ∧ (k = 0 ∨ 4 < k))
        let old := x.toNat / 2 ^ 32 < f.curv.toNat
        let other := f.jst = 1 ∧ (f.op.toNat ≠ o ∨ f.k ≠ k)
        let gives := fun (r : Nat) (s1 : State) =>
          let w := if f.resSt = 2 then nth (0, 0, 0) f.resW r else (f.kept, f.kval, f.kord)
          JoinAns.ok (natW w.1.toNat) (natW (2 ^ 32 * w.2.2.toNat + (if w.1 = 0 then 0 else w.2.1.toNat)))
            (natW (f.resSt + 2 ^ 8 * (f.resCand % 2 ^ 16) + 2 ^ 24 * (f.resCut % 2 ^ 16) + 2 ^ 40 * (f.resStale % 2 ^ 16))) s1
        (bad → op .jopen = trap cILLEGAL x.toNat)
        ∧ (¬bad → old → op .jopen = code 3)
        ∧ (¬bad → ¬old → other → op .jopen = code 4)
        ∧ (¬bad → ¬old → ¬other → op .jopen = .ok 0 0 0 (s.settleFamily g c { f with
              op := BitVec.ofNat 2 o, k := k, curv := BitVec.ofNat 32 (x.toNat / 2 ^ 32), dl := dl, jst := 1 }))
        ∧ (f.jst = 0 → op .jwait = code 2 ∧ op .jpoll = code 2)
        ∧ (f.jst = 2 → op .jwait = gives 0 s)
        ∧ (f.jst = 1 → (∀ w ∈ f.waiters, w.1 ≠ src) →
            op .jwait = .waits (s.setFamily g c { f with waiters := f.waiters ++ [(src, sent)] }))
        ∧ (f.jst ≠ 0 → max f.k 1 ≤ x.toNat → op .jpoll = code 5)
        ∧ (f.jst = 1 → x.toNat < max f.k 1 → op .jpoll = .ok 0 0 1 s)
        ∧ (f.jst = 2 → x.toNat < max f.k 1 → op .jpoll = gives x.toNat s)
        ∧ (2 ≤ x.toNat → op .jclose = trap cILLEGAL x.toNat)
        ∧ (x.toNat = 0 ∨ (x.toNat = 1 ∧ f.kept = 0) → op .jclose = .ok 0 0 0 (f.waiters.foldl
            (fun r w => r.replyTo g w.1 w.2 (.trap cJOIN (natW (6 * 2 ^ 32 + v.toNat % 2 ^ 32))))
            (s.setFamily g c { f with jst := 0, waiters := [] })))
        ∧ (x.toNat = 1 → f.kept ≠ 0 → op .jclose = .ok 0 0 0 (f.waiters.foldl
            (fun r w => r.replyTo g w.1 w.2 (.trap cJOIN (natW (6 * 2 ^ 32 + v.toNat % 2 ^ 32))))
            ((s.setFamily g c { f.without [f.kord] with jst := 0, waiters := [], kept := 0 }).order g f.fam f.kept f.vf false none))))
  ∧ ∀ (s : State) (g c : Nat) (f : Family),
    let pend := f.members.filter (fun m => !(f.keeps m.ford) && !(decide (m.ver.toNat < f.curv.toNat)) && !m.done)
    let cut := f.ofClass 2
    let late := f.ofClass 1
    let bad := f.ofClass 3
    let cand := f.ofClass 4
    let ripe := f.jst = 1 ∧ (pend = [] ∨ (f.dl ≠ 0 ∧ f.dl.toNat ≤ s.tick))
    let r := f.resolve.1
    let goes := fun (m : Member) => m ∈ cut ∨ m ∈ late ∨ m ∈ bad
    cut = pend
    ∧ (¬ripe → s.settleFamily g c f = s.setFamily g c f)
    ∧ (ripe → s.settleFamily g c f = f.resolve.2.foldl (fun q o => q.order g f.fam o f.vf true none)
        (f.waiters.foldl (fun q w => q.replyTo g w.1 w.2 (.ok (r.deliver 0).1 (r.deliver 0).2.1 (r.deliver 0).2.2 0))
          (s.setFamily g c { r with waiters := [] })))
    ∧ r.jst = 2 ∧ r.resCand = cand.length ∧ r.resCut = cut.length ∧ r.resStale = late.length
    ∧ (cand = [] → r.resSt = (if bad = [] then 3 else 4) ∧ r.resW = [] ∧ r.kept = f.kept ∧ r.kval = f.kval ∧ r.kord = f.kord)
    ∧ (cand ≠ [] → (f.op = 3 → f.k ≠ 0) → r.resSt = 2 ∧ ∃ m val ws, f.winners cand = (m, val) :: ws ∧ m ∈ cand
        ∧ (∀ y ∈ cand, ranksFirst f.op.toNat y m = false)
        ∧ ws.length + 1 = min (if f.op = 3 then f.k else 1) cand.length
        ∧ val = (if f.op = 2 then exactTotal (cand.map (·.ret)) else m.ret)
        ∧ r.kept = m.handle ∧ r.kval = val ∧ r.kord = m.ford
        ∧ r.resW = ((m, val) :: ws).map (fun y => (y.1.handle, y.2, y.1.ford)))
    ∧ (∀ m ∈ f.members, goes m → m ∉ r.members)
    ∧ ∀ m ∈ cand, f.winners cand ≠ [] → (∀ w ∈ f.winners cand, w.1.ford ≠ m.ford) → m ∉ r.members)

/-- R284, R405 to R409: REPLAY retries a parked access for the Kettle, one of more than 8 bytes granule by granule, and answers 0,
2 where no entry has the tag, or the fault met again; CFLIP turns the core's colour; TLBINV drops the held translations of a
page or, with bit 63 of X b, of the whole function; MTRD reads the counts of a metered region of its own function. -/
def Obligations.SysxForms : Prop :=
  ∀ (sm l : Bool) (d a b : BitVec 5) (t u : Bool),
    let A := fun (s : State) => s.regs.xAt a.toNat
    let B := fun (s : State) => s.regs.xAt b.toNat
    let rp := Instr.replay sm l d a t
    let ti := Instr.tlbinv sm l a b t u
    let cf := Instr.cflip sm l a t
    let mt := Instr.mtrd sm l d a b t u
    let ring := fun (s : State) => (s.grove (groveOf s.cur)).ring
    let named := fun (s : State) (e : RingEntry) => s.isKettle = true ∧ (A s).toNat < 2 ^ 16
      ∧ (ring s).find? (fun x => x.tag == (A s).toNat) = some e
    let gone := fun (s s1 : State) (e : RingEntry) =>
      let y := s1.grove (groveOf s.cur)
      (s.within (s1.setGrove (groveOf s.cur) { y with ring := y.ring.filter (fun x => x.tag != e.tag) })).writeX d 0
    let region := fun (s : State) => if (A s).toNat < 4096 then tabFind s.sencha.regions (A s).toNat else none
    TrapIf rp (cSig rp) (fun s => s.isKettle = false) (fun s => { cause := cPROT, tval := A s })
    ∧ TrapIf rp (cSig rp) (fun s => s.isKettle = true ∧ 2 ^ 16 ≤ (A s).toNat) (fun s => { cause := cILLEGAL, tval := A s })
    ∧ DoneIf rp (cSig rp) (fun s => s.isKettle = true ∧ (A s).toNat < 2 ^ 16 ∧ ∀ e ∈ ring s, e.tag ≠ (A s).toNat) (fun s => s.writeX d 2)
    ∧ (∀ e k, DoneIf rp (cSig rp) (fun s => named s e ∧ s.replayEntry e = .fault k)
        (fun s => (s.setGrove (groveOf s.cur) { s.grove (groveOf s.cur) with ring := (ring s).map (fun x =>
          if x.tag = e.tag then { x with kind := k, offered := true } else x) }).writeX d (natW (1 + 16 * k))))
    ∧ (∀ e s1, DoneIf rp (cSig rp) (fun s => named s e ∧ s.replayEntry e = .ok s1) (fun s => gone s s1 e))
    ∧ (∀ e s1 op, SendIf rp (cSig rp) (fun s => named s e ∧ s.replayEntry e = .send s1 op) (fun _ => s1) (fun _ => op))
    ∧ (∀ e, ReadDoneIf rp (cSig rp) (fun s _ => named s e)
        (fun s w => gone s (s.replayLoad e ((upFrom 0 (e.size / 8)).foldr (fun j v => (tabGet 0 w j).toNat + 2 ^ 64 * v) 0)
          ((tabFind w poisonMark).map (fun u => BitVec.ofNat 4 u.toNat))) e))
    ∧ (∀ s v jv js fl e, s.answered v jv js fl = true → (cSig rp).dsts.all s.regs.writable = true → named s e →
        exec rp s = .next (s.retires (cSig rp) (gone s.unpend (s.unpend.storeReplayed e) e)))
    ∧ (∀ e, WaitIf rp (cSig rp) (fun s => named s e ∧ s.replayEntry e = .wait))
    ∧ TrapIf ti (cSig ti) (fun s => (B s).toNat / 2 ^ 6 % 2 ^ 57 ≠ 0) (fun s => { cause := cILLEGAL, tval := B s })
    ∧ TrapIf ti (cSig ti) (fun s => (B s).toNat / 2 ^ 6 % 2 ^ 57 = 0 ∧ s.isKettle = false ∧ (B s).toNat % 2 ^ 6 ≠ s.me.vf)
        (fun s => { cause := cPROT, tval := B s })
    ∧ DoneIf ti (cSig ti) (fun s => (B s).toNat / 2 ^ 6 % 2 ^ 57 = 0 ∧ (s.isKettle = true ∨ (B s).toNat % 2 ^ 6 = s.me.vf))
        (fun s => s.dropHeld (fun e => decide (e.vf = (B s).toNat % 2 ^ 6)
          && ((B s).getLsbD 63 || decide (e.page = (A s).toNat / 2 ^ e.bits))))
    ∧ TrapIf cf (cSig cf) (fun s => s.isKettle = false) (fun s => { cause := cPROT, tval := A s })
    ∧ DoneIf cf (cSig cf) (fun s => s.isKettle = true) (fun s =>
        let k := s.core (coreOf s.cur)
        s.setCore (coreOf s.cur) { k with colour := !k.colour, cutid := (A s).setWidth 32 })
    ∧ TrapIf mt (cSig mt) (fun s => region s = none ∨ ∃ x, region s = some x ∧ x.vf ≠ s.me.vf) (fun s => { cause := cPROT, tval := A s })
    ∧ (∀ x, TrapIf mt (cSig mt) (fun s => region s = some x ∧ x.vf = s.me.vf ∧ 1 < (B s).toNat) (fun s => { cause := cILLEGAL, tval := B s }))
    ∧ (∀ x, DoneIf mt (cSig mt) (fun s => region s = some x ∧ x.vf = s.me.vf ∧ (B s).toNat ≤ 1)
        (fun s => s.writeX d (natW (if B s = 0 then x.ops else x.bytes))))

/-- Memory events (R20, R26, R162, R164, R172, R273, R278, R280, R284, R285, R292, R301, R307, R308, R310, R313, R317, R399,
R448): an event of a producer that may be performed brings the last part of its value to the destination, in the context and
in its checkpoint, or marks it poisoned; one bound to the Spout's port reads the descriptor at that address first; a granule
that a unit reads or writes is one event; events of a fill complete a slot; each event of a posted store writes its granule,
and the last one acknowledges it; an atomic takes the old value and writes the new one of R307 at its place; a sleeping WAITA
wakes when its place differs; a Pod search answers the lowest entry of least distance; a page move clears V in every entry
that maps the page and copies when no access is left; and the accesses of hosts, other packages and the Kettle do what they
say. The model's own choices: the words of the FAULT event that a kill of the retry ring posts (log entry 39), and where a
page move ends (log entry 35). -/
def Obligations.MemoryEvents : Prop :=
  (∀ (c i k n v size at_ : Nat) (l : Loc) (p : Prod) (psrc : ProdSrc) (q : Posted) (ev : List Write) (e : Pend) (a x va : Word)
      (y : Word × BitVec 4) (op : AtomOp) (b : Word) (uc tag : Option Nat) (f : Fill) (pc : Piece) (port : Nat) (s2 : State) (src dst : Nat)
      (bs : List Byte) (ptes : List (Nat × Word)) (m : Moving),
    let prod := fun (s : State) => (s.ctx c).prods[i]? = some p ∧ s.prodReady c p k = true
      ∧ (p.event k).any (fun j => j.1.pkg s.self != s.self) = false
    let rest := fun (s : State) => ({ s.ctx c with prods := dropFirst p (s.ctx c).prods } : Ctx)
    let pushed := fun (s : State) => ({ s.setCtx c (rest s) with cur := c } : State).latePush port v p.src
    let posted := fun (s : State) => (s.ctx c).posted[i]? = some q ∧ q.unsent = none ∧ q.events[k]? = some ev
      ∧ s.postedReady c i k q ev = true ∧ ev.any (fun w => w.loc.pkg s.self != s.self) = false
    let unit := fun (s : State) => (s.ctx c).prods[i]? = none ∧ (s.ctx c).pend = some e ∧ e.result = none
    let granule := fun (s : State) (acc : Nat) (ps : List Piece) => unit s ∧ e.op = .read (BitVec.ofNat 4 acc) ps ∧ ps[k]? = some pc
      ∧ pc.loc.pkg s.self = s.self ∧ s.readBlocked c (s.ctx c).nseq pc.loc 8 = false ∧ s.ucBlocked c (s.ctx c).nseq pc.uc = false
    let desc := fun (a : Word) (v : Nat) (ps : List Piece) => ({ p with src := .desc a v ps } : Prod)
    let fill := fun (s : State) => (tabGet {} (s.core k).slots n).owner = some c ∧ (tabGet {} (s.core k).slots n).fill = some (f, tag)
      ∧ f.parts[i]? = some pc ∧ s.readBlocked c f.n pc.loc 8 = false ∧ s.ucBlocked c f.n pc.uc = false
    let read := fun (s : State) => f.read i pc (ofBytes (s.readFor c f.n pc.loc 8)) (s.poisonedFor c pc.loc 8).isSome
    let slot := fun (s : State) (t : Slot) => s.setCore k { s.core k with slots := tabSet n t (s.core k).slots }
    let pend := fun (s : State) (o : PendOp) => (s.ctx c).pend = some e ∧ e.op = o ∧ e.result = none
    let answer := fun (s : State) (r : Reply) => s.setCtx c { s.ctx c with pend := some { e with result := some r } }
    let calm := fun (s : State) => l.pkg s.self = s.self ∧ s.readBlocked c (s.ctx c).nseq l size = false
      ∧ s.ucBlocked c (s.ctx c).nseq uc = false ∧ (s.ctx c).posted.any (fun q => q.writes.any (fun w => w.overlaps l size)) = false
    let old := fun (s : State) => bytesOf size (ofBytes (s.readLoc (.mem at_) size))
    let host := fun (s : State) => fld at_ 43 9 = s.self ∧ fld at_ 41 2 = 2
    Happens (.longLatencyWrite c ⟨i, k⟩) (fun s => prod s ∧ p.push = none ∧ s.brought c p.n k p.src = .value v)
        (fun s => s.setCtx c ((rest s).land p (fun r => r.setBits p.cls.toNat p.reg v)))
    ∧ Happens (.longLatencyWrite c ⟨i, k⟩) (fun s => prod s ∧ p.push = some port ∧ s.brought c p.n k p.src = .value v ∧ pushed s = .ok x s2)
        (fun s => { s2 with cur := s.cur })
    ∧ Happens (.longLatencyWrite c ⟨i, k⟩) (fun s => prod s ∧ p.push = some port ∧ p.src = .value v ∧ pushed s = .wait) (fun s => s)
    ∧ (∀ b ps, Happens (.longLatencyWrite c ⟨i, k⟩)
        (fun s => prod s ∧ p.push = some port ∧ p.src = .desc a b ps ∧ s.brought c p.n k p.src = .value v ∧ pushed s = .wait)
        (fun s => s.setCtx c { s.ctx c with prods := swapFirst p (desc a v []) (s.ctx c).prods }))
    ∧ Happens (.longLatencyWrite c ⟨i, k⟩)
        (fun s => prod s ∧ p.push = some port ∧ s.brought c p.n k p.src = .value v ∧ pushed s = .read l a)
        (fun s => s.setCtx c { s.ctx c with prods := swapFirst p (desc a 0 (piecesFrom 0 l 64 a none)) (s.ctx c).prods })
    ∧ (∀ w, Happens (.longLatencyWrite c ⟨i, k⟩)
        (fun s => prod s ∧ p.push = some port ∧ s.brought c p.n k p.src = .value v ∧ pushed s = .trap w)
        (fun s => { ((s.setCtx c { (rest s) with pend := none }).takeTrap c
            { cause := w.cause, tval := w.tval, epc := (s.ctx c).regs.pc, dfr := true, unit := w.unit, acc := w.acc, kind := w.kind })
          with cur := s.cur }))
    ∧ (∀ acc ps, Happens (.longLatencyWrite c ⟨i, k⟩) (fun s => granule s acc ps ∧ s.poisonedFor c pc.loc 8 = none)
        (fun s => s.setCtx c { s.ctx c with pend := some { e with
          op := .read (BitVec.ofNat 4 acc) (ps.eraseIdx k)
          got := tabSet pc.ix (natW (ofBytes (s.readFor c (s.ctx c).nseq pc.loc 8))) e.got } }))
    ∧ (∀ acc ps u, acc < 15 → Happens (.longLatencyWrite c ⟨i, k⟩) (fun s => granule s acc ps ∧ s.poisonedFor c pc.loc 8 = some u)
        (fun s => answer s (.trap cMCE pc.va u)))
    ∧ (∀ es : List (List Write), Happens (.longLatencyWrite c ⟨i, k⟩) (fun s => unit s ∧ e.op = .write es ∧ es[k]? = some ev
          ∧ ∀ w ∈ ev, w.loc.pkg s.self = s.self ∧ s.resting w.loc = false)
        (fun s => (s.perform ev).setCtx c { s.ctx c with pend := some { e with
          op := .write (es.eraseIdx k), result := if es.eraseIdx k = [] then some (.ok 0 0 0 0) else none } }))
    ∧ Happens (.longLatencyWrite c ⟨i, k⟩) (fun s => prod s ∧ s.brought c p.n k p.src = .more psrc)
        (fun s => s.setCtx c { s.ctx c with prods := swapFirst p { p with src := psrc } (s.ctx c).prods })
    ∧ Happens (.longLatencyWrite c ⟨i, k⟩) (fun s => prod s ∧ p.push = none ∧ s.brought c p.n k p.src = .bad y.1 y.2)
        (fun s => s.setCtx c (((rest s).land p (fun r => r.setPoison p.cls.toNat p.reg)).defer p y))
    ∧ Happens (.longLatencyWrite c ⟨i, k⟩) (fun s => (s.ctx c).prods[i]? = some p ∧ s.prodReady c p k = false) (fun s => s)
    ∧ Happens (.spoutPortPush c a) (fun s => (s.ctx c).prods.find? (fun p => (p.push.map (portOf s.self)) == some .spout
          && (match p.src with
            | .value v => v == a.toNat
            | .desc b _ _ => b == a
            | _ => false)) = some p ∧ s.prodReady c p 0 = true) (fun s => s.landProd c p 0)
    ∧ Happens (.slotFillComplete k ⟨n, i⟩) (fun s => fill s ∧ (read s).parts ≠ [])
        (fun s => slot s { tabGet {} (s.core k).slots n with fill := some (read s, tag) })
    ∧ Happens (.slotFillComplete k ⟨n, i⟩) (fun s => fill s ∧ (read s).parts = [] ∧ (read s).bad = false)
        (fun s => slot s { tabGet {} (s.core k).slots n with
          busy := false, fill := none, data := (read s).data, side := (read s).side, tag := tag, poison := false })
    ∧ Happens (.slotFillComplete k ⟨n, i⟩) (fun s => fill s ∧ (read s).parts = [] ∧ (read s).bad = true)
        (fun s => slot s { tabGet {} (s.core k).slots n with busy := false, fill := none, poison := true })
    ∧ Happens (.postedStoreAck c ⟨i, k⟩) (fun s => posted s ∧ q.events.eraseIdx k = []) (fun s => (s.perform ev).acknowledge c i q)
    ∧ Happens (.postedStoreAck c ⟨i, k⟩) (fun s => posted s ∧ q.events.eraseIdx k ≠ [])
        (fun s => (s.perform ev).setCtx c { (s.perform ev).ctx c with
          posted := setNth { q with events := q.events.eraseIdx k } ((s.perform ev).ctx c).posted i })
    ∧ Happens (.postedStoreAck c ⟨i, k⟩) (fun s => (s.ctx c).posted[i]? = some q ∧ q.unsent = none ∧ q.events[k]? = some ev
          ∧ s.postedReady c i k q ev = false) (fun s => s)
    ∧ (∀ m, Happens (.postedStoreAck c ⟨i, k⟩) (fun s => (s.ctx c).posted[i]? = some q ∧ q.unsent = some m) (fun s => s.sendKept c i q m))
    ∧ Happens (.waitaWake c) (fun s => pend s (.sleep l size v) ∧ ofBytes (s.readFor c (s.ctx c).nseq l size) ≠ v)
        (fun s => answer s (.ok 0 0 0 0))
    ∧ Happens (.waitaWake c) (fun s => pend s (.sleep l size v) ∧ ofBytes (s.readFor c (s.ctx c).nseq l size) = v) (fun s => s)
    ∧ Happens (.homeSlicePerform c) (fun s => pend s (.atom op l size b x va uc) ∧ calm s ∧ (op = .store ∨ s.poisonedFor c l size = none))
        (fun s =>
          let o := ofBytes (s.readLoc l size)
          let r := atomNew op (8 * size) o b.toNat x.toNat
          let s1 := if op = .read ∨ (op = .cas ∧ o ≠ x.toNat) then s else s.writeLoc l (bytesOf size r.1)
          s1.setCtx c { s.ctx c with pend := some { e with result := some (.ok (sextW (8 * size) o) 0 0 (BitVec.ofNat 6 r.2)) } })
    ∧ (∀ u, Happens (.homeSlicePerform c) (fun s => pend s (.atom op l size b x va uc) ∧ calm s ∧ op ≠ .store
          ∧ s.poisonedFor c l size = some u)
        (fun s => answer s (.trap cMCE va u)))
    ∧ Happens (.hostAtomicUr c) (fun s => pend s (.atom op (.mem at_) size b x va uc) ∧ fld at_ 41 2 = 2 ∧ op ≠ .store)
        (fun s => answer s (.trap cHOSTATOM va))
    ∧ Happens (.remoteMemoryRequest (.foreignStore src at_ bs)) (fun s => s.ownFrame at_ = true)
        (fun s => (s.writeLoc (.mem at_) bs).sendPacket src .memAck)
    ∧ Happens (.remoteMemoryRequest (.foreignLoad src at_ size)) (fun s => s.ownFrame at_ = true)
        (fun s => s.sendPacket src (.memData (s.readLoc (.mem at_) size) (s.poisonedLoc (.mem at_) size).isSome))
    ∧ Happens (.remoteMemoryRequest (.foreignAtomic src at_ size op b x)) (fun s => s.ownFrame at_ = true ∧ op ≠ .read ∧ op ≠ .cas ∧ op ≠ .store)
        (fun s => (s.writeLoc (.mem at_) (bytesOf size (atomNew op (8 * size) (ofBytes (s.readLoc (.mem at_) size)) b.toNat x.toNat).1)).sendPacket
          src (.memData (old s) (s.poisonedLoc (.mem at_) size).isSome))
    ∧ Happens (.remoteMemoryRequest (.foreignAtomic src at_ size .store b x)) (fun s => s.ownFrame at_ = true)
        (fun s => (s.writeLoc (.mem at_) (bytesOf size b.toNat)).sendPacket src .memAck)
    ∧ Happens (.remoteMemoryRequest (.foreignStore src at_ bs)) (fun s => s.ownFrame at_ = false) (fun s => s)
    ∧ Happens (.hostAgentAccess (.store at_ bs)) host (fun s => s.writeLoc (.mem at_) bs)
    ∧ Happens (.hostAgentAccess (.load at_ size)) host (fun s => { s with hostOut := s.hostOut ++ [s.readLoc (.mem at_) size] })
    ∧ Happens (.mappingChange n a ptes) (fun s => (s.writePtes ptes).invals.contains n = false)
        (fun s => { s.writePtes ptes with invals := (s.writePtes ptes).invals ++ [n] })
    ∧ Happens (.mappingChange n a ptes) (fun s => (s.writePtes ptes).invals.contains n = true) (fun s => s.writePtes ptes)
    ∧ Happens (.pageMigration c n src dst size ptes) (fun s => s.onFenced dst size = false)
        (fun s => s.beginMove { vf := c, va := n, src := src, dst := dst, bytes := size, ptes := ptes })
    ∧ (∀ s : State, ∃ ps : List (Nat × Nat × Nat), (s.beginMove m).moving = s.moving ++ [{ m with places := ps }]
        ∧ ∀ f ∈ m.vf :: s.vfs.map (·.1), ∀ y ∈ s.mappings m.src m.bytes f, (f, y.va, y.bytes) ∈ ps)
    ∧ (∀ s : State, s.moving[n]? = some m → s.reached m.src m.bytes = true → s.endMove n = s)
    ∧ (∀ s : State, s.moving[n]? = some m → s.reached m.src m.bytes = false →
        let s1 := (s.putBlock (.mem m.dst) m.bytes (s.cells (.mem m.src) m.bytes) (s.poisonOf (.mem m.src) m.bytes)).writePtes m.ptes
        s.endMove n = { s1 with moving := s1.moving.eraseIdx n
                                ctxs := s1.ctxs.map (fun y => (y.1, y.2.woken m.src m.bytes)) })
    ∧ (∀ (y : RingEntry) (o : Ctx) (t : TaskOf), Happens (.retryFaultLaunch k n) (fun s =>
          (s.grove k).ring.find? (fun z => z.tag == n) = some y ∧ s.owner y.ctx y.gen = some o ∧ o.task = some t)
        (fun s => (s.postEvent y.vf 2 [natW (4 + 256 * 6), lidOf y.vf t.launch, y.va, 0, 0, 0,
          tinfoOf { cause := cPAGE, tval := y.va, epc := 0, kind := BitVec.ofNat 4 y.kind, acc := if y.store then 1 else 0 },
          s.caddrGen y.ctx y.gen]).killLaunch t.launch 6))
    ∧ (∀ (h : BitVec 4096) (r : List (Nat × Nat)) (t : TaskOf),
        let queue := fun (s : State) => (s.grove k).podQ = (c, n) :: r ∧ (s.ctx c).task = some t
        let base := fun (s : State) => s.podBase k t.launch
        let gone := fun (s : State) => s.setGrove k { s.grove k with podQ := r }
        let waits := fun (s : State) (o : PendOp) => (s.ctx c).prods = [] ∧ pend s o ∧ n = (s.ctx c).nseq
        Happens (.podRequestServed k) (fun s => queue s ∧ waits s (.podw i h))
            (fun s =>
              let y := (gone s).grove k
              ((gone s).setGrove k { y with pod := tabSet (base s + i) h y.pod, podPoison := y.podPoison.filter (· != base s + i) }).setCtx c
                { s.ctx c with pend := some { e with result := some (.ok 0 0 0 0) } })
        ∧ Happens (.podRequestServed k) (fun s => queue s ∧ waits s (.podr i v) ∧ (s.grove k).podPoison.contains (base s + i) = false)
            (fun s => (gone s).setCtx c
              { s.ctx c with pend := some { e with result := some (.ok 0 0 0 0), entry := tabGet 0 (s.grove k).pod (base s + i) } })
        ∧ Happens (.podRequestServed k) (fun s => queue s ∧ waits s (.podr i v) ∧ (s.grove k).podPoison.contains (base s + i) = true)
            (fun s => (gone s).setCtx c { s.ctx c with pend := some { e with result := some (.trap cMCE (natW v) 6) } })
        ∧ Happens (.podRequestServed k) (fun s => queue s ∧ (s.ctx c).prods = [p] ∧ p.n = n ∧ p.src = .search i size v h
              ∧ ∀ j, j < size → (s.grove k).podPoison.contains (base s + i + j) = false)
            (fun s => (gone s).setCtx c
              { s.ctx c with prods := [{ p with src := .value (podSearch ((gone s).grove k) (base s + i) size v h) }] })))
  ∧ (∀ (s : State) (c i : Nat) (q : Posted),
      let x := s.ctx c
      let s1 := s.setCtx c { x with
        posted := x.posted.eraseIdx i
        pca := if q.own || q.clsB then x.pca else x.pca - 1
        pcb := if q.own || !q.clsB then x.pcb else x.pcb - 1 }
      ((q.own = true ∨ q.counted = true ∨ q.unsent ≠ none) → s.acknowledge c i q = s1)
      ∧ (q.own = false → q.counted = false → q.unsent = none → s.acknowledge c i q = s1.countRecv (coreOf c) q.colour))
  ∧ (∀ (g : Grove) (first len maxd : Nat) (q : BitVec 4096),
      let d := fun j => popcount 4096 ((tabGet 0 g.pod (first + j)) ^^^ q).toNat
      ((∀ j, j < len → maxd < d j) → podSearch g first len maxd q = 2 ^ 64 - 1)
      ∧ ∀ j, j < len → d j ≤ maxd → (∀ i, i < len → d j ≤ d i) → (∀ i, i < j → d j < d i) →
          podSearch g first len maxd q = d j * 2 ^ 16 + j)
  ∧ ∀ w o b e : Nat, o < 2 ^ w → b < 2 ^ w → 0 < w →
      let i := fun v => (BitVec.ofNat w v).toInt
      (atomNew .swap w o b e).1 = b ∧ (atomNew .store w o b e).1 = b ∧ (atomNew .add w o b e).1 = (o + b) % 2 ^ w
      ∧ (atomNew .and w o b e).1 = o &&& b ∧ (atomNew .or w o b e).1 = o ||| b ∧ (atomNew .xor w o b e).1 = o ^^^ b
      ∧ i (atomNew .max w o b e).1 = max (i o) (i b) ∧ i (atomNew .min w o b e).1 = min (i o) (i b)
      ∧ (atomNew .maxu w o b e).1 = max o b ∧ (atomNew .minu w o b e).1 = min o b
      ∧ (atomNew .cas w o b e).1 = if o = e then b else o

/-- Stream events (R339, R345 to R347, R351 to R353, R358, R363, R366, R369, R455): a request of another grove or package is
performed and answered; a reply reaches its context; seed packets and their acknowledgements are taken in order; a forwarding
entry expires; a bucket keeps its streams in the order in which they parked, and when it is full or its oldest has waited WIN
cycles its oldest B become the READY rows of a new batch; a layer task starts a batch on a free context, with BSER in WID and
X9, LAYER in X10, and SCUR, SB0 to SB15 and SBN as laid out, and its rows become RUNNING; a halted task settles each row; a
spill begins where frames are short, and spills and reloads of pages end; reports and retirements reach the family's record in
order. That the first B are batched only once the Caddy cycle in which the last of them parked is over, and that one row
settles in a Caddy cycle, are log entry 89; the place of a packet that cannot be taken yet is log entry 75. -/
def Obligations.StreamEvents : Prop :=
  (∀ (a : Arrival) (g c n m kid sent : Nat) (layer : BitVec 16) (s1 s2 s3 : State) (src dst v : Word) (fl : BitVec 6) (vf num : Nat)
      (f : StrmForm) (j : JoinForm) (h : BitVec 32) (x dl jv js : Word) (w : Why) (p : Packet) (r : Reply) (slot : Option Nat)
      (fam nh o ret ver : BitVec 32) (ford : BitVec 16) (inf : Bool) (l : Launch) (y : Layer) (b : Batch) (t : Family)
      (ask : Word → Nat → Packet) (ack : Option (Word × Nat)) (e : Census) (res : Bool),
    let took := fun (s : State) (q : Packet) => s.takePacket a = some (q, s1)
    let pkg := fld src.toNat 32 9
    let iss := fun (s : State) => if pkg = s.self then some (ctxOfAddr src) else none
    let user := fun (s : State) => if pkg = s.self then some (groveOf (ctxOfAddr src)) else none
    let asked := fun (s : State) (k : StrmAns) => took s (.strmReq src sent vf f dst x) ∧ s1.strmOp (iss s) vf f dst x = k
    let joined := fun (s : State) (k : JoinAns) => took s (.joinReq src sent vf j dst x dl) ∧ s1.joinOp (user s) src sent vf j dst x dl = k
    let draining := fun (s : State) (d : Bool) => s.setGrove g { s.grove g with draining := d }
    let busy := fun (s : State) => ((s.grove g).census.filter (fun p => p.2.spilling == 1)).length
    let oldest := fun (s : State) =>
      oldestPage (((draining s true).residents.filter (fun x => x.1 == g && x.2.2.spilling == 0)).filter (draining s true).spillable)
    let short := fun (s : State) => s.framesFree g < 64 ∧ s.framesFree g + busy s < 128 ∧ oldest s = some (m, n, e)
      ∧ (draining s true).takeSlot g n = some (kid, s2)
    let due := fun (s : State) (y : Layer) => (∃ z, 0 < y.b ∧ (s.bucket g kid layer)[y.b - 1]? = some z ∧ z.2.since / 2 < s.tick / 2)
      ∨ y.win ≠ 0 ∧ ∃ z, (s.bucket g kid layer)[0]? = some z ∧ z.2.since + y.win ≤ s.tick
    let report := fun (s : State) (q : Packet) => s.reportInOrder a = true ∧ took s q
    let order := fun (s : State) => took s (.retire o h vf res ack) ∧ s.orderInOrder a = true
    Happens (.remoteStreamRequest a) (fun s => asked s (.ok v fl s2)) (fun _ => s2.sendPacket pkg (.reply src sent (.ok v 0 0 fl)))
    ∧ Happens (.remoteStreamRequest a) (fun s => asked s (.trap w)) (fun _ => s1.sendPacket pkg (.reply src sent (.trap w.cause w.tval w.unit)))
    ∧ Happens (.remoteStreamRequest a) (fun s => asked s (.ask num ask)) (fun _ => s1.sendPacket num (ask src sent))
    ∧ Happens (.remoteStreamRequest a) (fun s => asked s .wait) (fun s => s.land a)
    ∧ Happens (.remoteStreamRequest a) (fun s => asked s (.stall m kid)) (fun s => (s.startReload m kid).land a)
    ∧ Happens (.remoteStreamRequest a) (fun s => took s p ∧ isStreamRequest p = true ∧ s.takeStreamRequest s1 p = (some s2, s3)) (fun _ => s2)
    ∧ Happens (.remoteJoinRequest a) (fun s => joined s (.ok v jv js s2)) (fun _ => s2.sendPacket pkg (.reply src sent (.ok v jv js 0)))
    ∧ Happens (.remoteJoinRequest a) (fun s => joined s (.trap w)) (fun _ => s1.sendPacket pkg (.reply src sent (.trap w.cause w.tval w.unit)))
    ∧ Happens (.remoteJoinRequest a) (fun s => joined s (.waits s2)) (fun _ => s2)
    ∧ Happens (.remoteReply a) (fun s => took s (.reply dst sent r)) (fun _ => s1.giveReply dst sent r)
    ∧ Happens (.seedPacketArrival a) (fun s => s.seedInOrder a = true ∧ took s p ∧ (seedOfPacket p).isSome = true) (fun _ => (s1.countSeed p).takeSeed p)
    ∧ Happens (.seedPacketArrival a) (fun s => s.seedInOrder a = false) (fun s => s.land a)
    ∧ Happens (.seedAck a) (fun s => took s (.seedAck h slot)) (fun _ => s1.takeAck h slot)
    ∧ Happens (.forwardingExpiry g n) (fun s => (s.stream g n).st = 6 ∧ (s.stream g n).fwd ≤ s.tick) (fun s => s.freeStream g n)
    ∧ Happens (.forwardingExpiry g n) (fun s => (s.stream g n).st ≠ 6 ∨ s.tick < (s.stream g n).fwd) (fun s => s)
    ∧ Happens (.batchWindowExpiry g kid layer.toNat) (fun s => tabFind (s.grove g).layers kid = some y ∧ due s y)
        (fun s => s.formBatch g kid layer)
    ∧ Happens (.batchWindowExpiry g kid layer.toNat) (fun s => tabFind (s.grove g).layers kid = some y ∧ ¬due s y) (fun s => s)
    ∧ Happens (.layerTaskStart c) (fun s => (s.bind c).launch = some num ∧ tabFind s.launches num = some l ∧ l.layerOf = some (groveOf c, kid)
          ∧ s.nextBatch (groveOf c) kid = some b ∧ tabFind (s.grove (groveOf c)).layers kid = some y
          ∧ (s.ctx c).status = .free ∧ s.readyOn l (dieOf c) = true ∧ s.serves c l.vf = true) (fun s => s.startBatch c num l y b)
    ∧ Happens (.backgroundSpill g) (fun s => 64 ≤ s.framesFree g ∧ (s.grove g).draining = false) (fun s => draining s false)
    ∧ Happens (.backgroundSpill g) (fun s => short s ∧ (e.dirty = true ∨ e.slot = none))
        (fun _ => (s2.writeSlot g n kid).setPage g n { (s2.writeSlot g n kid).page g n with spilling := 1 })
    ∧ Happens (.backgroundSpill g) (fun s => short s ∧ e.dirty = false ∧ e.slot ≠ none) (fun _ => s2.spilled g n kid)
    ∧ Happens (.spillComplete g n) (fun s => (s.page g n).slot = some kid ∧ (s.page g n).spilling = 1 ∧ (s.page g n).pin = false
          ∧ s.heldPage g n = false) (fun s => s.spilled g n kid)
    ∧ Happens (.reloadComplete g n) (fun s => (s.page g n).into = some kid)
        (fun s => (s.putBlock (.frame g kid 0) pageSize (s.cells (s.pageLoc g n) pageSize) (s.poisonOf (s.pageLoc g n) pageSize)).setPage g n
          { s.page g n with spl := false, dirty := false, loc := kid, into := none, slot := some (s.page g n).loc, last := s.tick })
    ∧ Happens (.familyReport a) (fun s => report s (.report fam h ford ret inf ver)) (fun _ => s1.takeReport fam h ford ret inf ver)
    ∧ Happens (.familyReport a) (fun s => report s (.gone fam h ford)) (fun _ => s1.takeGone fam ford)
    ∧ Happens (.familyReport a) (fun s => report s (.moved fam h nh ford)) (fun _ => s1.takeMoved fam nh ford)
    ∧ Happens (.familyReport a) (fun s => report s p ∧ s1.takeFamilyReport p = some s2) (fun _ => s2)
    ∧ Happens (.familyReport a) (fun s => s.reportInOrder a = false) (fun s => s.land a)
    ∧ Happens (.joinDeadline g n) (fun s => tabFind (s.grove g).families n = some t) (fun s => s.settleFamily g n t)
    ∧ Happens (.retireOrder a) (fun s => order s ∧ handlePkg h.toNat = s.self) (fun _ => s1.performRetire o h vf res ack)
    ∧ Happens (.retireOrder a) (fun s => order s ∧ handlePkg h.toNat ≠ s.self ∧ s.hasRoute (handlePkg h.toNat) = true)
        (fun _ => s1.sendPacket (handlePkg h.toNat) (.retire o h vf res ack))
    ∧ Happens (.retireOrder a) (fun s => took s (.retire o h vf res ack) ∧ s.orderInOrder a = false) (fun s => s.land a))
  ∧ (∀ (s : State) (g kid : Nat) (layer : BitVec 16),
      let waits := fun (t : Nat × Stream) => t.2.st == 1 && t.2.parked && t.2.kid == kid && t.2.layer == layer
      (s.bucket g kid layer).Perm ((s.grove g).streams.filter waits)
      ∧ (s.bucket g kid layer).Pairwise (fun x y => x.2.since / 2 < y.2.since / 2 ∨ (x.2.since / 2 = y.2.since / 2 ∧ x.1 ≤ y.1))
      ∧ ∀ y : Layer, tabFind (s.grove g).layers kid = some y → (s.bucket g kid layer).take y.b ≠ [] →
          let rows := (s.bucket g kid layer).take y.b
          let r := s.formBatch g kid layer
          (r.grove g).batches = (s.grove g).batches
            ++ [{ kid := kid, layer := layer, rows := rows.map (fun x => s.handle g x.1), bser := y.bser }]
          ∧ tabFind (r.grove g).layers kid = some { y with bser := if y.bser + 1 = 2 ^ 32 then 1 else y.bser + 1 }
          ∧ (∀ x ∈ rows, ∃ t, (x.1, t) ∈ rows ∧ r.stream g x.1 = { t with st := 2, parked := false })
          ∧ ∀ c, (∀ x ∈ rows, x.1 ≠ c) → r.stream g c = s.stream g c)
  ∧ (∀ (s : State) (c num : Nat) (l : Launch) (y : Layer) (b : Batch), y.loga = 0 → b.rows.length ≤ 16 →
      let r := s.startBatch c num l y b
      let q := (r.ctx c).regs
      (r.ctx c).status = .run ∧ q.xAt 9 = natW b.bser ∧ q.csrAt csrWID = natW b.bser ∧ q.xAt 10 = natW b.layer.toNat
      ∧ q.csrAt csrSCUR = natW (2 ^ 32 * b.bser + 2 ^ 16 * b.kid + b.layer.toNat) ∧ q.csrAt csrSBN = natW b.rows.length
      ∧ (∀ k, k < b.rows.length → q.csrAt (csrSB0 + k) = natW (nth 0 b.rows k).toNat)
      ∧ ∀ h ∈ b.rows, let t := s.stream (groveOf c) (handleCtx h.toNat)
          t.st = 2 → t.gen = fld h.toNat 0 7 → r.stream (groveOf c) (handleCtx h.toNat) = { t with st := 3 })
  ∧ ∀ (s : State) (g k : Nat) (h : BitVec 32),
      let c := handleCtx h.toNat
      let t := s.stream g c
      t.gen = fld h.toNat 0 7 →
      (t.st = 7 → s.settleRow g h k = s.freeStream g c)
      ∧ (t.st = 3 → t.migp = true → s.settleRow g h k = s.depart g c)
      ∧ (t.st = 3 → t.migp = false → t.hor = 0 ∨ t.inf = true →
          s.settleRow g h k = (s.setStream g c { t with st := 4, parked := false }).report g c)
      ∧ (t.st = 3 → t.migp = false → t.hor ≠ 0 → t.inf = false →
          s.settleRow g h k = s.setStream g c { t with st := 1, parked := true, since := s.tick + 2 * k })

/-- Events of the engines and of groups (R246 to R250, R252, R257, R259, R261, R321 to R323, R330, R331): a queued copy starts
after the earlier ones of its context and completes, once every byte is written, with status 3, or 5 with its fault; a
cancelled one ends with status 4; a Whisk contribution is acknowledged, and the owner die takes it into its slot, or drops and
counts it: with the last of N it posts the result words, which are the exact sums, the extremes, or the best pairs of all
contributions; a message enters its inbox, waits, or joins the drop buffer that holds an earlier one of its flow; an exchange
sends its beats in the order of their cycles, each read when it leaves, and ends with the number of faults of each core; a
round resolves when every expected contribution has come, to ANY, ALL or the majority, and is aborted after 2^30 cycles; a
correct prediction goes on, and a wrong one goes back to the checkpoint; the scan finds sets of waiting contexts whose edges
do not leave them, and reports one that it found twice. The model's own choices: whether a beat that arrives in the cycle in
which its bytes are sent on is seen (log entry 82), and groups and knots over several packages (log entry 81). -/
def Obligations.EngineEvents : Prop :=
  (∀ (a : Arrival) (g n c e t0 : Nat) (k : Copy) (s1 s2 : State) (m : WhiskMsg) (msg : Msg) (y : Contribution) (b : ExBar) (more : List ExBar)
      (sp : Spec) (p : Pend) (t : Bool) (code : Nat) (ms : List Word) (d : Word) (full : Bool) (pk : Packet) (x : Group) (g1 g2 : List Group),
    let took := fun (s : State) (q : Packet) => s.takePacket a = some (q, s1)
    let copy := fun (s : State) => (s.grove g).copies[n]? = some k
    let earlier := fun (s : State) => earlierCopies (s.grove g).copies n k
    let written := fun (s : State) => copy s ∧ k.status = 2 ∧ k.cancel = false ∧ k.allRead = true ∧ k.out = []
      ∧ ∀ c ∈ earlier s, ¬(c.open_ = true ∧ c.classB = k.classB)
    let flow := fun (s : State) => (s.forwarded msg.src, s.forwarded msg.dst)
    let ended := fun (s : State) => s.finishCopy g n { k with status := 4, out := [], fva := 0, fkind := 0, funit := 0 }
    let bar := fun (s : State) => tabGet [] (s.die g).bars e = b :: more ∧ b.t0 = some t0
    let idle := fun (x : Group) (s : State) => x.id ≠ n ∨ x.got = [] ∨ x.aborted = true ∨ s.tick < x.first + 2 ^ 30
    let won := fun (s : State) => (s.ctx c).result = some (.taken t) ∧ (s.ctx c).spec = some sp ∧ t = sp.pred ∧ sp.held = []
      ∧ (s.ctx c).pca ≤ 1024 ∧ (s.ctx c).pcb ≤ 1024
    let on := fun (s : State) => s.setCtx c { s.ctx c with spec := none, result := none, wait := 0, waitOn := none
                                                           prods := (s.ctx c).prods.map (fun p => { p with spec := false }) }
    Happens (.copyStart g n) (fun s => copy s ∧ k.status = 1 ∧ s.runsFor g k.vf = true ∧ ∀ c ∈ earlier s, c.status ≠ 1)
        (fun s => s.setCopy g n { k with status := 2 })
    ∧ Happens (.copyStart g n) (fun s => copy s ∧ ∃ c ∈ earlier s, c.status = 1) (fun s => s)
    ∧ Happens (.copyComplete g n) (fun s => copy s ∧ ∃ c ∈ earlier s, c.open_ = true ∧ c.classB = k.classB) (fun s => s)
    ∧ Happens (.copyComplete g n) (fun s => copy s ∧ k.out ≠ []) (fun s => s)
    ∧ Happens (.copyComplete g n) (fun s => written s ∧ k.bad = false ∧ s.copyAction k = some s2)
        (fun _ => s2.finishCopy g n { k with status := 3 })
    ∧ Happens (.copyComplete g n) (fun s => written s ∧ k.bad = true ∧ s.copyAction k = some s2)
        (fun _ => s2.finishCopy g n { k with status := 5 })
    ∧ Happens (.copyComplete g n) (fun s => written s ∧ s.copyAction k = none) (fun s => s.finishCopy g n { k with status := 5 })
    ∧ Happens (.cancelAck g n) (fun s => copy s ∧ k.status = 2 ∧ k.cancel = true ∧ ended s = s2
          ∧ (s2.ctx k.ctx).pend = some p ∧ p.op = .cancel g k.handle ∧ (s2.ctx k.ctx).gen = k.gen)
        (fun _ => s2.setCtx k.ctx { s2.ctx k.ctx with pend := some { p with result := some (.ok 4 0 0 0) } })
    ∧ Happens (.whiskContributionArrival a) (fun s => took s (.whisk m)) (fun _ => s1.takeWhisk m)
    ∧ Happens (.whiskContributionArrival a) (fun s => took s (.whiskAck d n c)) (fun _ => s1.ackWhisk d n c)
    ∧ Happens (.messageArrival a) (fun s => s.msgInOrder a = true ∧ took s (.msg msg) ∧ s.inDrop (flow s) = false ∧ s1.takeMsg msg = some s2)
        (fun _ => s2)
    ∧ Happens (.messageArrival a) (fun s => s.msgInOrder a = true ∧ took s (.msg msg) ∧ s.inDrop (flow s) = true)
        (fun s => s1.dropBehind (flow s) msg)
    ∧ Happens (.messageArrival a) (fun s => took s (.msg msg) ∧ (s.msgInOrder a = false ∨ (s.inDrop (flow s) = false ∧ s1.takeMsg msg = none)))
        (fun s => s.land a)
    ∧ Happens (.messageArrival a) (fun s => took s (.room d full))
        (fun _ => { s1 with awayFull := s1.awayFull.filter (· != d) ++ (if full then [d] else []) })
    ∧ Happens (.timetableRelease g e) (fun s => bar s ∧ s.tick < t0) (fun s => s)
    ∧ Happens (.timetableRelease g e) (fun s => bar s ∧ t0 ≤ s.tick ∧ ∀ p ∈ s.parts, p.2.phase = 0)
        (fun s => s.exchange g e b more t0)
    ∧ Happens (.contributionArrival a) (fun s => took s (.contrib y)) (fun _ => s1.takeContribution y)
    ∧ Happens (.contributionArrival a) (fun s => took s (.result ms t code))
        (fun _ => s1.sendResults (ms.map s1.forwarded) (if code = 0 then .taken t else .abort code))
    ∧ Happens (.contributionArrival a) (fun s => took s pk ∧ s1.takeCollective pk = some s2) (fun _ => s2)
    ∧ Happens (.cbrResult c) (fun s => (s.ctx c).result = none) (fun s => s)
    ∧ Happens (.cbrResult c) (fun s => won s ∧ sp.trap = none) on
    ∧ (∀ k : TrapRec, Happens (.cbrResult c) (fun s => won s ∧ sp.trap = some k)
        (fun s => ((on s).setCtx c { (on s).ctx c with pend := none }).takeTrap c { k with hld := true }))
    ∧ Happens (.cbrResult c) (fun s => (s.ctx c).result = some (.taken t) ∧ (s.ctx c).spec = some sp ∧ t ≠ sp.pred)
        (fun s => s.restore c sp (if t then { sp.cp with pc := sp.target } else sp.cp.loopEnd sp.next false false))
    ∧ Happens (.cbrResult c) (fun s => (s.ctx c).result = some (.abort code) ∧ (s.ctx c).spec = some sp)
        (fun s => (s.restore c sp { sp.cp.setCsr csrCSEQ (natW sp.round.toNat) with pc := sp.epc }).takeTrap c
          { cause := cCOLLABORT, tval := natW (2 ^ 32 * sp.round.toNat + code), epc := sp.epc })
    ∧ Happens (.roundTimeout n) (fun s => ∀ x ∈ s.groups, idle x s) (fun s => s)
    ∧ Happens (.roundTimeout n) (fun s => s.groups = g1 ++ x :: g2 ∧ (∀ z ∈ g1 ++ g2, idle z s) ∧ ¬idle x s) (fun s => s.abortGroup x 4)
    ∧ Happens (.deadlockScan) (fun _ => True) (fun s => s.scan))
  ∧ (∀ ps : List Bool, (roundTaken 0 ps = true ↔ ∃ p ∈ ps, p = true) ∧ (roundTaken 1 ps = true ↔ ∀ p ∈ ps, p = true)
      ∧ (roundTaken 2 ps = true ↔ ps.length < 2 * (ps.filter (· == true)).length))
  ∧ ∀ (s : State) (y : Contribution) (x : Group), s.groupById y.vf y.group = some x → x.home = s.self → x.aborted = false →
      (y.round ≠ x.round → s.takeContribution y = s.abortGroup { x with got := x.got ++ [y], first := if x.got = [] then s.tick else x.first } 3)
      ∧ (y.round = x.round → x.got = [] → 2 ≤ x.exp →
          s.takeContribution y = { s with groups := setGroup { x with got := [y], first := s.tick } s.groups })
  ∧ (∀ (s : State) (m : WhiskMsg),
      let d := fld m.id.toNat 30 2
      let k := fld m.id.toNat 8 10
      let s1 := s.ackWhisk m.src m.n m.row
      let w := tabGet {} (s1.die d).wslots k
      let all := w.got ++ [m.elts]
      let good := w.opened = true ∧ m.id = whiskId s1.self d w.kind w.fsc k w.ser.toNat ∧ m.vf = w.vf ∧ w.got.length < w.n
        ∧ (s1.die d).stopped = false
      let put := fun (rs : List Word) => s1.setDie d { s1.die d with wslots := tabSet k { w with got := all, result := rs } (s1.die d).wslots }
      (good → all.length < w.n → s.takeWhisk m = put [])
      ∧ (good → all.length = w.n → ∃ rs : List Word, s.takeWhisk m = put rs ∧ rs.length = (if w.kind = 6 then 8 else 16)
          ∧ ∀ i, i < rs.length → nth 0 rs i = whiskWord w.kind (w.fsc.toInt) (all.map (fun es => nth (.int 0) es i)))
      ∧ (¬good → s.takeWhisk m = s1.setDie d { s1.die d with wdrop := (s1.die d).wdrop + 1 }))
  ∧ (∀ (f : Int) (is : List Int) (vs : List (BitVec 32)) (ps : List (BitVec 32 × BitVec 32)) (es : List WElt),
      let v := fun (b : BitVec 32) => fmt32.val b.toNat
      let low := fun (w : Word) => w.setWidth 32
      let ints := is.map WElt.int
      whiskWord 0 f ints = BitVec.ofInt 64 is.sum
      ∧ (is.sum ≠ 0 → whiskWord 1 f ints = natW (fmt32.round mRNE 0 (decide (is.sum < 0)) is.sum.natAbs f false).1)
      ∧ (is.sum = 0 → whiskWord 1 f ints = 0)
      ∧ (WElt.nan ∈ es ∨ (WElt.posInf ∈ es ∧ WElt.negInf ∈ es) → whiskWord 1 f es = 0x7FC00000)
      ∧ (WElt.nan ∉ es → WElt.posInf ∈ es → WElt.negInf ∉ es → whiskWord 1 f es = 0x7F800000)
      ∧ (WElt.nan ∉ es → WElt.negInf ∈ es → WElt.posInf ∉ es → whiskWord 1 f es = 0xFF800000)
      ∧ (is ≠ [] → (∃ x ∈ is, whiskWord 2 f ints = BitVec.ofInt 64 x ∧ ∀ y ∈ is, y ≤ x)
          ∧ ∃ x ∈ is, whiskWord 4 f ints = BitVec.ofInt 64 x ∧ ∀ y ∈ is, x ≤ y)
      ∧ ((∀ x ∈ vs, (v x).isNan = true) → whiskWord 3 f (vs.map WElt.fp) = 0xFF800000 ∧ whiskWord 5 f (vs.map WElt.fp) = 0x7F800000)
      ∧ ((∃ x ∈ vs, (v x).isNan = false) →
          (∃ x ∈ vs, whiskWord 3 f (vs.map WElt.fp) = natW x.toNat ∧ (v x).isNan = false
            ∧ ∀ y ∈ vs, (v y).isNan = false → (v x).below (v y) = false)
          ∧ ∃ x ∈ vs, whiskWord 5 f (vs.map WElt.fp) = natW x.toNat ∧ (v x).isNan = false
            ∧ ∀ y ∈ vs, (v y).isNan = false → (v y).below (v x) = false)
      ∧ ((∀ p ∈ ps, (v p.1).isNan = true) → whiskWord 6 f (ps.map (fun p => WElt.pair p.1 p.2)) = 0xFFFFFFFFFF800000)
      ∧ ((∃ p ∈ ps, (v p.1).isNan = false) → ∃ p ∈ ps, low (whiskWord 6 f (ps.map (fun p => WElt.pair p.1 p.2))) = p.1
          ∧ (whiskWord 6 f (ps.map (fun p => WElt.pair p.1 p.2))).toNat / 2 ^ 32 = p.2.toNat ∧ (v p.1).isNan = false
          ∧ ∀ q ∈ ps, (v q.1).isNan = false → (v p.1).below (v q.1) = false ∧ ((v q.1).below (v p.1) = false → p.2.toNat ≤ q.2.toNat)))
  ∧ (∀ (s : State) (die e t0 : Nat) (b : ExBar) (more : List ExBar) (x : Beat),
      let n := b.ran.getD 0
      let q := s.freeBit
      let l := q.2.landBeats b.fly (if q.1 then x.cycle else x.cycle - 1)
      (b.good[n]? = some x → s.tick < t0 + x.cycle → s.exchange die e b more t0 = s)
      ∧ (b.good[n]? = some x → t0 + x.cycle ≤ s.tick →
          s.exchange die e b more t0 = l.1.setExBars die e ({ b with
            ran := some (n + 1)
            fly := l.2 ++ (b.recv.filter (fun r => x.meets r)).map (fun r =>
              { cycle := r.cycle, loc := r.loc, bytes := l.1.readLoc x.loc 64 }) } :: more))
      ∧ (b.good[n]? = none → (∀ f ∈ b.fly, t0 + f.cycle ≤ s.tick) → (∀ a ∈ b.arrived, t0 + lastBeat a.es ≤ s.tick) → t0 ≤ s.tick →
          ∀ a ∈ b.arrived, ∀ p, (s.ctx a.ctx).pend = some p → p.op = .ttrun →
            ((s.exchange die e b more t0).ctx a.ctx).pend = some { p with result := some (.ok (natW (b.faults (coreOf a.ctx))) 0 0 0) })
      ∧ b.sent.Pairwise (fun y z => y.cycle ≤ z.cycle)
      ∧ (∀ k, b.faults k = 0 ↔ (∀ y ∈ b.sent, y.peer = k → y.clashes b.sent = false ∧ ∃ r ∈ b.recv, y.meets r = true)
          ∧ ∀ r ∈ b.recv, r.core = k → ∃ y ∈ b.sent, y.clashes b.sent = false ∧ y.meets r = true))
  ∧ (∀ (s : State) (k : List Nat) (vf : Nat) (n : Node),
      let ns := s.nodes
      let lid := (n.ctx.task.map (fun t => lidOf vf t.launch)).getD 0
      (∀ k ∈ findKnots ns, k ≠ [] ∧ ∀ a ∈ k, ∃ x ∈ ns, x.addr = a ∧ ∃ ds, edges ns x = some ds ∧ ∀ d ∈ ds, d ∈ k)
      ∧ ((∀ k ∈ findKnots ns, k ∉ s.knots ∨ k ∈ s.reported) →
          s.scan = { s with scanned := s.tick, knots := findKnots ns, reported := s.reported.filter (fun k => (findKnots ns).contains k) })
      ∧ (findKnots ns = [k] → k ∈ s.knots → k ∉ s.reported → ns.filter (fun x => k.contains x.addr) = [n] → n.ctx.vf = vf →
          s.scan = { (s.postEvent vf 1 ([1, lid, natW k.length] ++ (k.take 5).map natW)) with
            scanned := s.tick, knots := [k], reported := (s.reported ++ [k]).filter (fun y => [k].contains y) }))
  ∧ ∀ (ns : List Node) (n : Node),
      let x := n.ctx
      let port := fun (w : WaitOn) (p : Nat) (q : Port) => x.status = .run ∧ x.pend = none ∧ x.waitOn = some w ∧ portOf n.view.self p = q
      let mate := fun (y : Node) => y ∈ ns ∧ y.addr ≠ n.addr ∧ ∃ t u, x.task = some t ∧ y.ctx.task = some u ∧ u.launch = t.launch
      (x.status ≠ .run → edges ns n = none)
      ∧ (∀ p c i, port (.pop p) p (.queue c i) ∨ port (.push p) p (.queue c i) → ∃ ds, edges ns n = some ds ∧ ∀ a, a ∈ ds ↔
          ∃ y ∈ ns, y.addr = a ∧ y.addr ≠ n.addr ∧ ∃ j, 24 ≤ j ∧ j < 32 ∧ y.ctx.regs.boundTo j = some p)
      ∧ (∀ p, port (.pop p) p .inbox → ∃ ds, edges ns n = some ds ∧ ∀ a, a ∈ ds ↔ ∃ y, mate y ∧ y.addr = a)
      ∧ (∀ d, x.status = .run → x.pend = none → x.waitOn = some (.send d) → edges ns n = some [(n.view.forwarded d).toNat])
      ∧ (∀ p b, x.status = .run → x.pend = some p → p.op = .ttrun → n.view.barOf n.c = some b → ∃ ds, edges ns n = some ds
          ∧ ∀ a, a ∈ ds ↔ ∃ y, mate y ∧ y.addr = a ∧ ∀ r ∈ b.arrived, r.ctx ≠ y.c)
      ∧ (∀ p g, x.status = .run → (x.pend = some p ∧ p.op = .cbr) ∨ (x.pend = none ∧ x.waitOn = some .cbr) →
          n.view.groupAt (n.view.caddr n.c) = some g → g.home = n.view.self → g.gang = none → ∃ ds, edges ns n = some ds
          ∧ ∀ a, a ∈ ds ↔ (∃ m ∈ g.members, m.toNat = a) ∧ ∀ k ∈ g.got, k.member.toNat ≠ a)

/-- Events of the Kettle (R29, R198 to R204, R208, R214 to R223, R229, R394, R395, R399 to R402, R404): a bound free context takes
the next task of its launch, where its die holds the residual, and a handler context starts in handler mode; a scheduling pass
stops no context, and binds one only where it is free, works, and lies in the launch's partition, with a launch slot of its
die, the Pod range of its grove and no mark for another gang; an ordinal comes from the context's own die, or from the end of
the richest one's; an infusion writes at most the words of R221, each with its back-map entry, and removes only marked words
of R216's table whose sources are all known and that raise nothing; a value is made present by the sequences of R219; a page
service resolves a PAGE trap at TEPC or delivers it; the services SETVEC and EVENT answer in X5 and go on after the ECALL; a
lost reply traps TIMEOUT; a lost acknowledgement ends the launch; units are tested and fenced; errors are marked and counted.
The model's own choices: the words of the ERROR events (log entry 39), the unit whose self-test an error starts (log entry
13), and the start of a handler context (log entry 52). -/
def Obligations.KettleEvents : Prop :=
  (∀ (c n num d : Nat) (l : Launch) (t : TrapRec) (ptes : List (Nat × Word)) (u : UnitId) (at_ : PoisonAt) (q : Posted) (ev : List Write)
      (tk : TaskOf) (csr : Tab Word) (e : Pend) (s1 : State) (key : BitVec 128) (plan : List Nat) (hs : HandlerStart) (ws back : List Nat),
    let waits := fun (s : State) (x : BitVec 6) => (s.ctx c).status = .service t ∧ t.cause = x
    let X := fun (s : State) (j : Nat) => (s.ctx c).regs.xAt j
    let next := fun (s : State) (r : Regs) => s.setCtx c { s.ctx c with
      status := .run, wait := 0, waitOn := none, skipBkp := false
      regs := if t.lone then r.loopEnd (t.epc + 4) false false else { r with pc := t.epc + 4 } }
    let lid := fun (s : State) => ((s.ctx c).task.map (fun z => lidOf (s.ctx c).vf z.launch)).getD 0
    let lost := fun (w : List Write) => match w.head?.map (·.loc) with
      | some (.scr _ _) => true
      | _ => false
    let bound := fun (s : State) => (s.bind c).launch = some num ∧ tabFind s.launches num = some l ∧ s.startable c l = true ∧ l.layerOf = none
    let infusing := fun (s : State) => tabFind s.launches num = some l ∧ d ∈ l.infusing ∧ l.plain = false ∧ isFinal l.status = false
      ∧ s.residualKey l = key
    let ready := fun (s : State) => s.setLaunch num { l with
      residual := some key, ready := if l.ready.contains d then l.ready else l.ready ++ [d], infusing := l.infusing.filter (· != d) }
    let gives := fun (s : State) (k : Nat) =>
      (s.setLaunch num { l with plain := true, infusing := [] }).postEvent l.vf 1 [natW (3 + 256 * k), lidOf l.vf num]
    let entry := fun (s : State) => ({ key := key, vf := l.vf, words := ws, back := back, used := s.tick } : Residual)
    Happens (.taskStart ⟨c, none⟩) (fun s => (s.bind c).launch = none) (fun s => s)
    ∧ Happens (.taskStart ⟨c, none⟩) (fun s => bound s ∧ s.readyOn l (dieOf c) = true ∧ l.gang = false ∧ l.split = true
          ∧ s.specialise num (dieOf c) = s1) (fun _ => (s1.nextTask c num ((tabFind s1.launches num).getD l)).trimQueues)
    ∧ Happens (.taskStart ⟨c, none⟩) (fun s => bound s ∧ s.readyOn l (dieOf c) = true ∧ l.gang = true ∧ (s.unstarted num).length = l.e0
          ∧ ∀ j ∈ s.unstarted num, s.startable j l = true) (fun s => s.startGang num l (s.unstarted num))
    ∧ Happens (.taskStart ⟨c, none⟩) (fun s => bound s ∧ s.readyOn l (dieOf c) = false) (fun s => s.specialise num (dieOf c))
    ∧ Happens (.taskStart ⟨c, some hs⟩) (fun s => s.bindable c = true ∧ (s.bind c).launch = none ∧ hs.servicer = false)
        (fun s => (s.claimPlace c).setCtx c { (s.claimPlace c).ctx c with
          status := .run, vf := hs.vf, handler := true, regs := { ({} : Regs).setCsr csrTSTAT (tstatOf true false false) with pc := hs.pc } })
    ∧ Happens (.schedulingPass plan) (fun _ => True) (fun s => s.rehome.schedulingPass plan)
    ∧ Happens (.gangReservation num) (fun s => tabFind s.launches num = some l ∧ s.tick ≤ max l.queued l.lastCtx + 300000) (fun s => s)
    ∧ (∀ r, Happens (.gangReservation num) (fun s => tabFind s.launches num = some l ∧ l.gang = true ∧ l.hasWork = true ∧ l.run = none
          ∧ max l.queued l.lastCtx + 300000 < s.tick ∧ (∃ h ∈ s.heads, h.2 = num) ∧ s.bestRun l.vf l.e0 = some r)
        (fun s => (s.setLaunch num { l with run := some r }).markRun num { l with run := some r }))
    ∧ Happens (.infusionComplete d num) (fun s => infusing s ∧ s.cacheHit d l.vf key = some s1) (fun _ => ready s1)
    ∧ Happens (.infusionComplete d num) (fun s => infusing s ∧ s.cacheHit d l.vf key = none
          ∧ infuse (imageWords l.klen l.image) l.hdr = .error n) (fun s => gives s n)
    ∧ Happens (.infusionComplete d num) (fun s => infusing s ∧ s.cacheHit d l.vf key = none
          ∧ infuse (imageWords l.klen l.image) l.hdr = .ok (ws, back) ∧ s.cachePut d (entry s) = some s1) (fun _ => ready s1)
    ∧ Happens (.infusionComplete d num) (fun s => infusing s ∧ s.cacheHit d l.vf key = none
          ∧ infuse (imageWords l.klen l.image) l.hdr = .ok (ws, back) ∧ s.cachePut d (entry s) = none) (fun s => gives s 4)
    ∧ Happens (.pageService c ptes true) (fun s => waits s cPAGE)
        (fun s => (s.writePtes ptes).setCtx c { s.ctx c with
          status := .run, wait := 0, waitOn := none, skipBkp := true, regs := { (s.ctx c).regs with pc := t.epc } })
    ∧ Happens (.pageService c ptes false) (fun s => waits s cPAGE) (fun s => (s.setCtx c { s.ctx c with status := .run }).deliverTrap c t)
    ∧ Happens (.setvec c) (fun s => waits s cECALL ∧ X s 5 = 1 ∧ (X s 6).toNat % 4 = 0 ∧ (X s 6).toNat < 2 ^ 52)
        (fun s => next s (((s.ctx c).regs.setCsr csrTVEC (X s 6)).setX 5 0))
    ∧ Happens (.setvec c) (fun s => waits s cECALL ∧ X s 5 = 1 ∧ ((X s 6).toNat % 4 ≠ 0 ∨ 2 ^ 52 ≤ (X s 6).toNat))
        (fun s => next s ((s.ctx c).regs.setX 5 (-1)))
    ∧ Happens (.event c) (fun s => waits s cECALL ∧ X s 5 = 2)
        (fun s => (s.postEvent (s.ctx c).vf 1 [6, lid s, X s 6]).endService c t ((s.ctx c).regs.setX 5 0))
    ∧ Happens (.infusionComplete d num) (fun s => tabFind s.launches num = some l ∧ (d ∉ l.infusing ∨ isFinal l.status = true
          ∨ (l.plain = true ∧ l.awaitsResidual = false))) (fun s => s)
    ∧ (∀ h, Happens (.replyTimeout c) (fun s => (s.ctx c).pend = some e ∧ e.result = none ∧ e.since + 2 ^ 32 ≤ s.tick ∧ e.op = .strm h)
        (fun s => s.setCtx c { s.ctx c with pend := some { e with result := some (.trap cTIMEOUT h) } }))
    ∧ Happens (.replyTimeout c) (fun s => (s.ctx c).pend = none ∧ (s.ctx c).prods = []) (fun s => s)
    ∧ Happens (.ackLost c n) (fun s => (s.ctx c).posted[n]? = some q ∧ q.events = [ev] ∧ (s.ctx c).task = some tk ∧ lost ev = true
          ∧ s.freeBit = (false, s1))
        (fun s => (((s1.setCtx c { s1.ctx c with posted := (s.ctx c).posted.eraseIdx n }).received c q).postEvent (s.ctx c).vf 1
          [5, lidOf (s.ctx c).vf tk.launch, 4, 1, 0]).killLaunch tk.launch 7)
    ∧ Happens (.ackLost c n) (fun s => (s.ctx c).posted[n]? = some q ∧ q.events = [ev] ∧ (s.ctx c).task = some tk ∧ lost ev = true
          ∧ s.freeBit = (true, s1))
        (fun s => ((((s1.perform ev).setCtx c { (s1.perform ev).ctx c with posted := (s.ctx c).posted.eraseIdx n }).received c q).postEvent
          (s.ctx c).vf 1 [5, lidOf (s.ctx c).vf tk.launch, 4, 1, 0]).killLaunch tk.launch 7)
    ∧ Happens (.selfTestComplete u true) (fun s => u ∈ s.mgmt.testing ∧ s.mgmt.upsets = [])
        (fun s => { s.setTesting u false with mgmt := { (s.setTesting u false).mgmt with upsets := [(u, s.tick)] } })
    ∧ Happens (.selfTestComplete u false) (fun s => u ∈ s.mgmt.testing ∧ s.mgmt.upsets = [])
        (fun s => ({ s.setTesting u false with mgmt := { (s.setTesting u false).mgmt with upsets := [(u, s.tick)] } } : State).fenceUnit u)
    ∧ Happens (.selfTestComplete u true) (fun s => u ∉ s.mgmt.testing) (fun s => s)
    ∧ Happens (.uncorrectableError at_) (fun s => s.ownerAt at_ = none ∧ s.unitAt at_ = some u) (fun s => (s.poisonPlace at_).setTesting u true)
    ∧ (∀ vf, Happens (.uncorrectableError at_) (fun s => s.ownerAt at_ = some (vf, num) ∧ s.unitAt at_ = none)
        (fun s => (s.poisonPlace at_).postEvent vf 1 [5, lidOf vf num, natW (errorCode at_), 1, 0]))
    ∧ (∀ vf, Happens (.uncorrectableError at_) (fun s => s.ownerAt at_ = some (vf, num) ∧ s.unitAt at_ = some u)
        (fun s => ((s.poisonPlace at_).postEvent vf 1 [5, lidOf vf num, natW (errorCode at_), 1, 0]).setTesting u true))
    ∧ Happens (.correctedError u) (fun s => s.mgmt.corrected.length < 1000)
        (fun s => { s with mgmt := { s.mgmt with
          corrected := (s.mgmt.corrected.filter (fun x => decide (s.tick < x.2 + 3600 * 3000000000))) ++ [(u, s.tick)] } })
    ∧ Happens (.debuggerResume c) (fun s => (s.ctx c).status = .debug t csr)
        (fun s => s.setCtx c { s.ctx c with
          status := .run, wait := 0, waitOn := none, skipBkp := true, regs := { (s.ctx c).regs with csr := csr, pc := t.epc } })
    ∧ Happens (.debuggerResume c) (fun s => (s.ctx c).status = .run) (fun s => s.setCtx c (s.ctx c)))
  ∧ (∀ (s : State) (plan : List Nat) (c num : Nat),
      let t := s.schedulingPass plan
      t.ctxs = s.ctxs
      ∧ ((t.bind c).launch = some num → (s.bind c).launch ≠ some num →
          (s.ctx c).status = .free ∧ (s.grove (groveOf c)).fenced = false ∧ (s.grove (groveOf c)).testing = false
          ∧ (s.core (coreOf c)).fenced = false ∧ (s.core (coreOf c)).testing = false ∧ (s.die (dieOf c)).stopped = false
          ∧ ∀ w ∈ (s.place c).wrapped, w + 128 ≤ s.tick))
  ∧ (∀ (s : State) (num prio : Nat) (l : Launch) (c : Nat) (plan : List Nat),
      (s.suits num l c = true → s.bindable c = true ∧ (s.partOf (groveOf c)).isSome = true ∧ s.serves c l.vf = true
        ∧ (s.bind c).rsv = none ∧ s.tableSlot num (dieOf c) ≠ none ∧ s.grantPod num l (groveOf c) ≠ none)
      ∧ (tabFind s.launches num = some l → l.admitted = true → l.gang = false → plan.find? (s.suits num l) = some c →
          ∃ s2, s.grantPod num l (groveOf c) = some s2
            ∧ s.visit num prio plan = ⟨s2.bindTo c num prio, true, plan.filter (· != c)⟩)
      ∧ (tabFind s.launches num = some l → (∀ c ∈ plan, s.suits num l c = false) → s.visit num prio plan = ⟨s, false, plan⟩)
      ∧ (∃ k, (s.bindTo c num prio).bind c = { launch := some num, lslot := k, rsv := none, prio := prio })
      ∧ (∀ h, h ∈ s.ring (fun _ => prio) prio ↔ h ∈ s.heads)
      ∧ (l.prio = 7 → s.effPrio l = 7)
      ∧ (l.prio ≠ 7 → s.effPrio l = min 6 (l.prio + (s.tick - max l.queued l.lastCtx) / 3000000)))
  ∧ (∀ (l : Launch) (d lo hi : Nat), tabGet (0, 0) l.tickets d = (lo, hi) →
      (lo < hi → l.take d = some (lo, { l with tickets := tabSet d (lo + 1, hi) l.tickets }))
      ∧ (hi ≤ lo → ∀ e a b, richest l.tickets = some e → tabGet (0, 0) l.tickets e = (a, b) →
          l.take d = some (b - 1, { l with tickets := tabSet e (a, b - 1) l.tickets })))
  ∧ (∀ (n : Nat) (cs : List Nat), cs ≠ [] → (∀ c ∈ cs, dieOf c < 4) →
      let r := fun d => tabGet (0, 0) (splitOrdinals n cs) d
      let share := fun d => n * (cs.filter (fun c => dieOf c == d)).length / cs.length
      (r 0).1 = 0 ∧ (r 0).2 = (r 1).1 ∧ (r 1).2 = (r 2).1 ∧ (r 2).2 = (r 3).1 ∧ (r 3).2 = n
      ∧ ∀ d, d < 4 → ((r d).2 - (r d).1 = share d ∨ (r d).2 - (r d).1 = share d + 1)
          ∧ ((∀ c ∈ cs, dieOf c ≠ d) → (r d).1 = (r d).2))
  ∧ (∀ (img : List Nat) (hdr : List Byte) (ws back : List Nat), infuse img hdr = .ok (ws, back) →
      ws.length = back.length ∧ ws.length ≤ 16384 ∧ ws.length ≤ 4 * img.length)
  ∧ ((infuse [0xC1280005, 0xC1314001, 0x20000002] []).toOption = some ([0x20000002], [2 ^ 20])
      ∧ (infuse [0xC1280005, 0x81314001, 0x20000002] []).toOption
          = some ([0x81280005, 0x81314001, 0x20000002], [2 ^ 19 + 2 ^ 18, 2 ^ 19, 2 ^ 20]))
  ∧ (∀ (im : Image) (k : Known) (w mode : Nat),
      ((im.effect k mode w).1 = false → mode = 0 ∧ isStatic w = true ∧ (im.eval k w).isSome = true
        ∧ (foldsToX w = true ∨ (shapeOf w).writesM = true ∨ geomWritten w ≠ []))
      ∧ ((im.eval k w).isSome = true → (∀ n ∈ (shapeOf w).xReads, (im.xv k n).isSome = true)
          ∧ (∀ n ∈ (foldReads w).1, (k.mv n).isSome = true) ∧ ∀ a ∈ (foldReads w).2, (k.gv a).isSome = true)
      ∧ ((im.effect k 0 w).1 = false → (shapeOf w).writesM = false → geomWritten w = [] →
          ∃ r, im.eval k w = some r ∧ (im.effect k 0 w).2 = (shapeOf w).xDests.map (fun n => .x n (some (r.xAt n, false))))
      ∧ ∀ hdr : List Byte, ∀ n, n ∈ (Image.of im.img hdr).inv ↔ 1 ≤ n ∧ n ≤ 8 ∧ ∀ y ∈ im.img, n ∉ (shapeOf y).xDests)
  ∧ ∀ (im : Image) (r i : Nat) (v : Word) (d : Int), r < 32 → i < 32 →
      let near := -4096 ≤ v.toInt ∧ v.toInt ≤ 4095
      let off := (v - im.arg i).toInt
      let rel := ∃ t, im.inv = i :: t ∧ -4096 ≤ off ∧ off ≤ 4095
      (near → im.makeWords r v = [addiWord r 0 v.toInt])
      ∧ (¬near → ∀ t, im.inv = i :: t → -4096 ≤ off → off ≤ 4095 → im.makeWords r v = [addiWord r i off])
      ∧ (¬near → im.inv = [] ∨ (im.inv.head? = some i ∧ ¬rel) → ∃ n, 1 ≤ n ∧ n ≤ 4 ∧ (im.makeWords r v).length = n
          ∧ (v.setWidth (16 * n)).signExtend 64 = v ∧ (∀ m, 1 ≤ m → m < n → (v.setWidth (16 * m)).signExtend 64 ≠ v)
          ∧ ∀ j, j < n → nth 0 (im.makeWords r v) j = luiWord (j != 0) r (v.toNat / 2 ^ (16 * (n - 1 - j)) % 2 ^ 16))
      ∧ (-4096 ≤ d → d ≤ 4095 → decodeWord (addiWord r i d) = .ok (.addi false (BitVec.ofNat 5 r) (BitVec.ofNat 5 i) false (BitVec.ofInt 13 d)))
      ∧ ∀ k, k < 2 ^ 16 → decodeWord (luiWord false r k) = .ok (.lui false true (BitVec.ofNat 5 r) (BitVec.ofNat 16 k))
          ∧ decodeWord (luiWord true r k) = .ok (.luiSh false true (BitVec.ofNat 5 r) (BitVec.ofNat 16 k))

/-- Events of gang switches and cuts (R413, R416, R418): a switch is posted at least 20 microseconds ahead; it stops its partition
at its time, where the packets of the partition leave the mesh for the drop buffers and a cut flips the colour of its cores;
it saves the partition once it has drained, and resumes it; a cut closes when the counts of all packages sum to zero, and is
then kept. What the counts take in is log entry 47, and what the cleansing does where the spill area is exhausted log entry
57. -/
def Obligations.PartitionEvents : Prop :=
  ∀ (p t next k : Nat) (cut : Option (BitVec 32)) (id : BitVec 32) (q : Part) (place : List (Nat × Nat)) (others : Int),
    let part := fun (s : State) => tabFind s.parts p = some q
    let set := fun (s : State) (r : Part) => ({ s with parts := tabSet p r s.parts } : State)
    Happens (.gangSwitchPost p t cut) (fun s => part s ∧ q.phase = 0 ∧ s.tick + 60000 ≤ t)
        (fun s => set s { q with phase := 1, time := t, cut := cut, closed := false })
    ∧ Happens (.gangSwitchPost p t cut) (fun s => part s ∧ (q.phase ≠ 0 ∨ t < s.tick + 60000)) (fun s => s)
    ∧ Happens (.gangSwitchStop p) (fun s => part s ∧ q.phase = 1 ∧ q.time ≤ s.tick) (fun s => s.stopPart p q)
    ∧ Happens (.gangSwitchStop p) (fun s => part s ∧ q.phase = 1 ∧ s.tick < q.time) (fun s => s)
    ∧ (∀ s : State, q.cut = none →
        let r := (s.countEarly q).dropAll q s.net
        s.stopPart p q = { r.2 with net := r.2.net.filter (fun x => !(s.drops q x))
                                    parts := tabSet p { q with phase := 2, drop := q.drop ++ r.1 } r.2.parts })
    ∧ (∀ s : State, q.cut = some id → q.groves.Nodup → k ∈ q.cores →
        ((s.stopPart p q).core k).colour = !(s.core k).colour ∧ ((s.stopPart p q).core k).cutid = id)
    ∧ Happens (.partitionSave p next) (fun s => part s ∧ q.phase = 2 ∧ s.drained q = true) (fun s => s.savePart p next q)
    ∧ Happens (.partitionSave p next) (fun s => part s ∧ q.phase = 2 ∧ s.drained q = false) (fun s => s)
    ∧ (∀ s : State, next = q.vf → q.cut = none →
        s.savePart p next q = set (s.clearPart q (s.saveSet q)) { q with
          phase := 3, last := q.vf, drop := [], saved := q.saved.filter (fun x => x.vf != q.vf) ++ [s.saveSet q] })
    ∧ (∀ s : State, next ≠ q.vf → q.cut = none →
        let r := s.clearPart q (s.saveSet q)
        s.savePart p next q = ((set r { q with phase := 3, vf := next, last := q.vf, drop := []
                                               saved := q.saved.filter (fun x => x.vf != q.vf) ++ [s.saveSet q] }).cleanse q).checkpoint p)
    ∧ Happens (.partitionResume p place) (fun s => part s ∧ q.phase = 3 ∧ q.cut = none ∧ s.placesRest q = true)
        (fun s => s.resumePart p place)
    ∧ Happens (.partitionResume p place) (fun s => part s ∧ q.phase = 3 ∧ (q.cut ≠ none ∨ s.placesRest q = false))
        (fun s => s)
    ∧ (∀ (s : State) (v : SavedSet), part s →
        let s1 := set s { q with phase := 0, time := 0, cut := none, closed := false, drop := [], saved := q.saved.filter (fun x => x.vf != q.vf) }
        (q.saved.find? (fun x => x.vf == q.vf) = none → s.resumePart p place = s1)
        ∧ (q.saved.find? (fun x => x.vf == q.vf) = some v →
            let s2 := (place.foldl (fun r m => r.placeOn q m) (s1.putSet v).dropEnded).rehome
            (s.resumePart p place).net = v.drop ++ s2.net ∧ (s.resumePart p place).ctxs = s2.ctxs
            ∧ (s.resumePart p place).cores = s2.cores ∧ (s.resumePart p place).groves = s2.groves))
    ∧ Happens (.cutEvaluation p others) (fun s => part s ∧ 2 ≤ q.phase ∧ q.cut ≠ none ∧ q.closed = false ∧ s.cutSum q + others = 0)
        (fun s => (set s { q with closed := true }).checkpoint p)
    ∧ Happens (.cutEvaluation p others) (fun s => part s ∧ s.cutSum q + others ≠ 0) (fun s => s)

/-- Events of lost packages and links (R366, R446, R455, R458 to R460): this package's heartbeat goes to each neighbour; a package
whose neighbours that can report have all missed three heartbeats of it is lost, and no other; recovery fences the failed
package unless a standby takes its place, and every partition that spans it and has kept a cut goes back to it and resumes; a
link that fails ends the migrations toward packages to which no route is left. That all the neighbours must agree is the
model's reading of R458 (log entry 98), and the standby's side is log entry 12. -/
def Obligations.PackageLoss : Prop :=
  ∀ (p n : Nat) (qs : List Nat) (x : Part) (k : Ckpt) (standby : Option Nat) (s1 : State),
    let counts := fun (s : State) => (s.neighbours p).foldl
      (fun (t : Tab Nat) q => if qs.contains q then tabSet (512 * p + q) (tabGet 0 s.mgmt.hbMissed (512 * p + q) + 1) t else t) []
    let beat := fun (s : State) (lost : List Nat) =>
      ({ s with mgmt := { s.mgmt with hbMissed := counts s, failed := s.mgmt.failed ++ lost } } : State)
    let tell := fun (s : State) => (s.neighbours s.self).foldl (fun (r : State) q => r.sendPacket q (.heartbeat r.self)) s
    let voters := fun (s : State) => (s.neighbours p).filter (fun q => s.present q && !(s.mgmt.failed.contains q))
    let able := fun (s : State) => p ≠ s.self ∧ p ∉ s.mgmt.failed ∧ voters s ≠ []
    let hit := fun (s : State) => s.parts.filter (fun q => s.spans q.1 n)
    let lose := fun (s : State) => ({ s with mgmt := { s.mgmt with
      domain := if standby = some s.self then natW (s.mgmt.domain.toNat - 512 * s.self + 512 * n) else s.mgmt.domain
      fencedPkgs := s.mgmt.fencedPkgs.filter (· != n) ++ (if standby.isSome then [] else [n])
      failed := s.mgmt.failed.filter (· != n)
      hbMissed := s.mgmt.hbMissed.filter (fun k => k.1 / 512 != n) } } : State).losePackage n
    let down := fun (s : State) => ({ s with mgmt := { s.mgmt with portsDown := markIn true n s.mgmt.portsDown } } : State)
    Happens (.heartbeat [(p, qs)]) (fun s => able s ∧ ∀ q ∈ voters s, 3 ≤ tabGet 0 (counts s) (512 * p + q))
        (fun s => tell ((beat s [p]).losePackage p))
    ∧ Happens (.heartbeat [(p, qs)]) (fun s => ¬able s ∨ ∃ q ∈ voters s, tabGet 0 (counts s) (512 * p + q) < 3)
        (fun s => tell (beat s []))
    ∧ Happens (.heartbeat []) (fun _ => True) (fun s => tell { s with mgmt := { s.mgmt with hbMissed := [], failed := s.mgmt.failed ++ [] } })
    ∧ Happens (.domainRecovery n standby) (fun s => lose s = s1 ∧ ∀ q ∈ hit s, (tabGet {} s1.parts q.1).ckpt = none) (fun _ => s1)
    ∧ (∀ y, Happens (.domainRecovery n standby) (fun s => lose s = s1 ∧ hit s = [(p, y)] ∧ tabGet {} s1.parts p = x ∧ x.ckpt = some k)
        (fun _ => (s1.rollBack p x k).resumePart p []))
    ∧ (∀ s : State, k.wslots = [] → k.launches = [] →
        let r := s.rollBack p x k
        tabFind r.parts p = some { x with phase := 3, vf := k.vf, cut := none, closed := false, time := 0, saved := k.sets, drop := k.drop }
        ∧ r.mem = k.near.foldl (fun m c => memPut c.1 c.2 m) (s.mem.filter (fun c => !(k.pages.contains (c.1 / 2 ^ 21)))))
    ∧ Happens (.linkFailure n) (fun _ => True) (fun s => (down s).abortMoves (fun q => !((down s).hasRoute q)))
    ∧ (∀ s : State, (∀ g ∈ s.groves, ∀ t ∈ g.2.streams,
          (s.stream g.1 t.1).st ≠ 5 ∧ (s.stream g.1 t.1).migp = false ∧ (s.stream g.1 t.1).arriving = false ∨ handlePkg (s.stream g.1 t.1).newh.toNat = s.self
          ∨ s.hasRoute (handlePkg (s.stream g.1 t.1).newh.toNat) = true) → s.abortMoves (fun q => !(s.hasRoute q)) = s)
    ∧ (∀ (s : State) (q : Nat), (s.present q = false → s.hasRoute q = false) ∧ (q = s.self → s.present q = true → s.hasRoute q = true)
        ∧ (∀ j b, s.present q = true → s.firstHop q = some (j, b) →
            (s.hasRoute q = true ↔ s.portUp (4 * j + 2 * b2n b) = true ∨ s.portUp (4 * j + 2 * b2n b + 1) = true ∨ s.detour j = true)))

/-- The host's events (R196, R372, R420 to R429, R472): of a function that is not enabled they have no effect; of an enabled one
they read and write its register page, its memory and its regions. The model's own choices: the words of the ERROR event of a
BAR2 access (log entry 39), the layout of a mailbox answer (log entry 15), and what a BAR2 access whose translation faults and
unaligned values of EVBASE and MAILBOX do (log entry 56). -/
def Obligations.HostEvents : Prop :=
  ∀ (vf off n idx kib size : Nat) (addr v : Word) (bs : List Byte) (nonce key : BitVec 128) (r : RegionReq) (g : BitVec 10240)
      (x : Region) (s1 : State) (w : BitVec 256) (h : HandoverReport) (isB : Bool),
    let on := fun (s : State) => (s.vf vf).enabled = true
    let dead := fun (e : Instr) => Happens e (fun s => (s.vf vf).enabled = false) (fun s => s)
    let reg := fun (s : State) => tabFind s.sencha.regions n = some x
    let live := fun (s : State) => reg s ∧ (s.vf x.vf).enabled = true
    dead (.submit vf addr) ∧ dead (.statusq vf v) ∧ dead (.evtail vf v) ∧ dead (.vfRegisterWrite ⟨vf, off, some v⟩) ∧ dead (.bar2Read vf v size)
    ∧ dead (.bar2Write vf v bs) ∧ dead (.mailboxAttest vf nonce) ∧ dead (.okeySet vf key) ∧ dead (.homeDescriptorSet vf idx v)
    ∧ (x.vf = vf → Happens (.regionDeregister n nonce g) (fun s => reg s ∧ (s.vf vf).enabled = false) (fun s => s)
      ∧ Happens (.handover (.sign n w nonce)) (fun s => reg s ∧ (s.vf vf).enabled = false) (fun s => s)
      ∧ Happens (.handover (.accept n h)) (fun s => reg s ∧ (s.vf vf).enabled = false) (fun s => s))
    ∧ dead (.stashSizeSet vf n kib) ∧ dead (.meterReportRequest vf n nonce) ∧ dead (.regionRegister { r with vf := vf })
    ∧ Happens (.submit vf addr) (fun s => on s ∧ Config.submitCapacity ≤ (s.vf vf).submitQ.length)
        (fun s => s.setVf vf { s.vf vf with submitRes := 0 })
    ∧ (∀ hdr s2 k, Happens (.submit vf addr) (fun s => on s ∧ (s.vf vf).submitQ.length < Config.submitCapacity ∧ addr.toNat % 256 = 0
          ∧ s.readVirt vf 2 addr.toNat 256 = some (hdr, s1) ∧ s1.enqueue vf hdr none = (k, s2))
        (fun _ => s2.setVf vf { s2.vf vf with submitRes := lidOf vf k }))
    ∧ Happens (.statusq vf v) on (fun s => (s.setVf vf { s.vf vf with statusSel := v }).tellHost (bytesOf 8 (s.hostStatus vf v)))
    ∧ Happens (.evtail vf v) on (fun s => (s.setVf vf { s.vf vf with evtail := natW (v.toNat % 4096) }).drainEvents vf)
    ∧ Happens (.vfRegisterWrite ⟨vf, 0x010, some v⟩) on (fun s => s.setVf vf { s.vf vf with evbase := natW (v.toNat / 4096 * 4096) })
    ∧ Happens (.vfRegisterWrite ⟨vf, 0x038, some v⟩) on (fun s => s.setVf vf { s.vf vf with mailbox := natW (v.toNat / 4096 * 4096) })
    ∧ (off ∉ [0x000, 0x008, 0x010, 0x020, 0x038] → Happens (.vfRegisterWrite ⟨vf, off, some v⟩) on (fun s => s))
    ∧ (off ∉ [0x000, 0x008, 0x010, 0x018, 0x020, 0x028, 0x030, 0x038] → Happens (.vfRegisterWrite ⟨vf, off, none⟩) on
        (fun s => s.tellHost (List.replicate 8 0)))
    ∧ Happens (.vfRegisterWrite ⟨vf, 0x000, none⟩) on (fun s => s.tellHost (bytesOf 8 (s.vf vf).submitRes.toNat))
    ∧ Happens (.vfRegisterWrite ⟨vf, 0x018, none⟩) on (fun s => s.tellHost (bytesOf 8 (s.vf vf).evhead.toNat))
    ∧ Happens (.vfRegisterWrite ⟨vf, 0x028, none⟩) on (fun s => s.tellHost (bytesOf 8 (s.vf vf).evlost.toNat))
    ∧ Happens (.vfRegisterWrite ⟨vf, 0x030, none⟩) on (fun s => s.tellHost (bytesOf 8 (s.vf vf).dualcnt.toNat))
    ∧ Happens (.bar2Read vf v size) (fun s => on s ∧ s.hostRegion vf v.toNat size = true)
        (fun s => (s.postEvent vf 1 [5, 0, 0, 0, 0]).tellHost [])
    ∧ Happens (.bar2Read vf v size) (fun s => on s ∧ s.hostRegion vf v.toNat size = false
          ∧ s.readVirt vf (size / 4096 + 2) v.toNat size = some (bs, s1)) (fun _ => s1.tellHost bs)
    ∧ Happens (.bar2Write vf v bs) (fun s => on s ∧ s.hostRegion vf v.toNat bs.length = true) (fun s => s.postEvent vf 1 [5, 0, 0, 0, 0])
    ∧ Happens (.bar2Write vf v bs) (fun s => on s ∧ s.hostRegion vf v.toNat bs.length = false)
        (fun s => s.writeVirt vf (bs.length / 4096 + 2) v.toNat bs)
    ∧ (∀ k, Happens (.regionRegister { r with vf := vf }) (fun s => on s ∧ s.addRegion { r with vf := vf } = some (k, s1))
        (fun _ => s1.mailAnswer vf 0 (bytesOf 8 k)))
    ∧ Happens (.regionRegister { r with vf := vf }) (fun s => on s ∧ s.addRegion { r with vf := vf } = none) (fun s => s.mailAnswer vf 1 [])
    ∧ Happens (.regionDeregister n nonce g) (fun s => live s ∧ Config.verify x.owner (deregBytes n nonce) g = false)
        (fun s => s.mailAnswer x.vf 1 [])
    ∧ Happens (.regionDeregister n nonce g) (fun s => live s ∧ Config.verify x.owner (deregBytes n nonce) g = true
          ∧ s.meterReport 3 n x 0 nonce = (bs, s1))
        (fun _ => ({ s1 with sencha := { s1.sencha with regions := tabDel n s1.sencha.regions, used := s1.sencha.used ++ [(n, x.epoch)] } }
          : State).mailReport x.vf bs)
    ∧ Happens (.meterReportRequest vf n nonce) (fun s => on s ∧ reg s ∧ x.vf = vf ∧ s.meterReport 1 n x 0 nonce = (bs, s1))
        (fun _ => s1.mailReport vf bs)
    ∧ Happens (.meterReportRequest vf n nonce) (fun s => on s ∧ reg s ∧ x.vf ≠ vf) (fun s => s.mailAnswer vf 1 [])
    ∧ Happens (.handover (.sign n w nonce)) (fun s => live s ∧ s.meterReport 2 n x w nonce = (bs, s1))
        (fun _ => (s1.setRegion n { x with frozen := true }).mailReport x.vf bs)
    ∧ Happens (.handover (.accept n h)) (fun s => live s ∧ s.handoverOk n x h = true) (fun s => (s.acceptHandover n x h).mailAnswer x.vf 0 [])
    ∧ Happens (.handover (.accept n h)) (fun s => live s ∧ s.handoverOk n x h = false) (fun s => s.mailAnswer x.vf 1 [])
    ∧ Happens (.mailboxAttest vf nonce) (fun s => on s ∧ s.attest nonce = (bs, s1)) (fun _ => s1.mailAnswer vf 0 bs)
    ∧ Happens (.okeySet vf key) on (fun s => s.setVf vf { s.vf vf with okey := key })
    ∧ Happens (.homeDescriptorSet vf idx v) (fun s => on s ∧ idx < 64 ∧ fld v.toNat 32 4 < 12
          ∧ s.ownsGrove vf (fld v.toNat 36 2 * 12 + fld v.toNat 32 4) = true)
        (fun s => s.setVf vf { s.vf vf with hd := tabSet idx v (s.vf vf).hd })
    ∧ Happens (.stashSizeSet vf n kib) (fun s => on s ∧ n < 1152 ∧ s.ownsGrove vf (n / 24) = true ∧ kib ∈ [0, 32, 64, 128])
        (fun s => s.setVf vf { s.vf vf with stash := tabSet n kib (s.vf vf).stash })
    ∧ Happens (.ceilingPersist n isB) reg (fun s => s.setRegion n (x.renew isB))

/-- Events of start, management, power and heat (R427, R443, R456, R457, R468 to R476): a management request is served one at a
time, with a status byte and its answer, and one that comes meanwhile is answered 2; stages end in their order and time; a
rail fault stops the device; a die that is too hot stops until it has cooled. The model's own choices: the bytes of requests
and responses, and that the first DEPLOY needs no signature (log entry 51); what a device reset keeps (log entry 16); the free
choice of stage 0's outcome (log entry 4); the words of the FAULT event of a die that overheats (log entry 54); and what an
expander holds (log entry 67). -/
def Obligations.ManagementEvents : Prop :=
  ∀ (nonce : BitVec 128) (n watts vf d : Nat) (inf : Bool) (sig : BitVec 10240) (f : Firmware) (us : List UnitId) (x : Region),
    let idle := fun (s : State) => s.mgmt.stage ≠ none ∧ s.mgmt.busy ≤ s.tick
    let say := fun (s : State) (bs : List Byte) => ({ s with mgmt := { s.mgmt with reports := s.mgmt.reports ++ [bs] } } : State)
    let served := fun (s : State) (b : List Byte) =>
      let t := say s b
      ({ t with mgmt := { t.mgmt with served := t.mgmt.served + 1, busy := t.tick + Config.serviceTime t.mgmt.served } } : State)
    let req := fun (e : Instr) (q : State → List Byte × State) (p : State → Prop) =>
      Happens e (fun s => s.mgmt.stage = none) (fun s => s)
      ∧ Happens e (fun s => s.mgmt.stage ≠ none ∧ s.tick < s.mgmt.busy) (fun s => say s [2])
      ∧ Happens e (fun s => idle s ∧ p s) (fun s => served (q s).2 (q s).1)
    let any := fun (_ : State) => True
    let cool := fun (s : State) => ∀ e, e < 4 → s.temp e < 115
    let hot := fun (s : State) => ({ s with mgmt := { s.mgmt with temps := tabSet d (max 115 (s.temp d)) s.mgmt.temps } } : State)
    let done := fun (s : State) (m : Mgmt) => (([0] : List Byte), ({ s with mgmt := m } : State))
    req .sensors (fun s => (0 :: (((upFrom 0 4).map (fun k => intBytes (s.temp k))).flatten ++ bytesOf 8 s.mgmt.watts
        ++ intBytes (s.temp 4) ++ intBytes (s.temp 5) ++ bytesOf 8 s.mgmt.cap), s)) any
    ∧ req .fences (fun s => (0 :: (s.mgmt.fencedUnits.map unitBytes).flatten, s)) any
    ∧ req (.attest nonce) (fun s => (0 :: (s.attest nonce).1, (s.attest nonce).2)) any
    ∧ req (.meter n nonce) (fun s => (0 :: (s.meterReport 1 n x 0 nonce).1, (s.meterReport 1 n x 0 nonce).2))
        (fun s => tabFind s.sencha.regions n = some x)
    ∧ req (.meter n nonce) (fun s => ([1], s)) (fun s => tabFind s.sencha.regions n = none)
    ∧ req (.powercap (.watts watts)) (fun s => done s { s.mgmt with cap := watts }) (fun _ => 1600 ≤ watts ∧ watts ≤ 2400)
    ∧ (∀ b, req (.powercap (.unknown b)) (fun s => ([3], s)) (fun _ => b < 1 ∨ 9 < b))
    ∧ req (.powercap (.watts watts)) (fun s => ([1], s)) (fun _ => watts < 1600 ∨ 2400 < watts)
    ∧ req (.debugAttach vf inf) (fun s => ([0], s.setVf vf { s.vf vf with debugAsk := some inf })) (fun _ => vf < 64)
    ∧ req (.debugDetach vf)
        (fun s => ([0], (s.setVf vf { s.vf vf with debug := false, debugInfuse := false, debugAsk := none }).undebugAll vf)) (fun _ => vf < 64)
    ∧ req (.deploy nonce sig) (fun s => ([0], { s with sencha := { s.sencha with deploy := nonce, deploySet := true } }))
        (fun s => s.sencha.deploySet = false ∨ Config.verify Config.operatorKey (wideBytes nonce) sig = true)
    ∧ req (.deploy nonce sig) (fun s => ([1], s))
        (fun s => s.sencha.deploySet = true ∧ Config.verify Config.operatorKey (wideBytes nonce) sig = false)
    ∧ req .reset (fun s => ([0], s.stage0 true)) any
    ∧ Happens (.firmwareStage f) (fun s => s.mgmt.stage ≠ none ∧ s.firmwareOk f = true)
        (fun s => { s with sencha := { s.sencha with staged := tabSet f.which f s.sencha.staged } })
    ∧ Happens (.firmwareStage f) (fun s => s.mgmt.stage = none ∨ s.firmwareOk f = false) (fun s => s)
    ∧ Happens .powerGood any (fun s => s.stage0 (!s.mgmt.powered))
    ∧ (∀ (s : State) (o : Bool), let t := s.stage0 o
        t.tick = 0 ∧ t.mem = s.mem ∧ t.mgmt.powered = true ∧ (t.mgmt.stage = some 0 ∨ t.mgmt.stage = none)
        ∧ (s.deviceReset.imagesOk = false → t.mgmt.stage = none))
    ∧ Happens (.stage1 []) (fun s => s.mgmt.stage = some 0 ∧ s.mgmt.stuck = false ∧ s.tick ≤ 9000000000)
        (fun s => { s with mgmt := { s.mgmt.decoders with stage := some 1 } })
    ∧ Happens (.stage1 us) (fun s => s.mgmt.stage ≠ some 0 ∨ s.mgmt.stuck = true ∨ 9000000000 < s.tick) (fun s => s)
    ∧ Happens (.stage2 []) (fun s => s.mgmt.stage = some 1 ∧ s.mgmt.stuck = false ∧ s.tick ≤ 24000000000)
        (fun s => { s with mgmt := { s.mgmt with stage := some 2 }
                           vfs := (upFrom 0 64).foldl (fun t v => tabSet v { tabGet {} t v with enabled := true } t) s.vfs })
    ∧ Happens (.stage2 us) (fun s => s.mgmt.stage ≠ some 1 ∨ s.mgmt.stuck = true ∨ 24000000000 < s.tick) (fun s => s)
    ∧ Happens .stageTimeout (fun s => s.mgmt.stage = none ∧ s.mgmt.powered = true ∧ s.mgmt.stuck = false ∧ 300000000 < s.tick)
        (fun s => say { s with mgmt := { s.mgmt with stuck := true } } [0x83, 0])
    ∧ Happens .stageTimeout (fun s => s.mgmt.stage = some 0 ∧ s.mgmt.powered = true ∧ s.mgmt.stuck = false ∧ 9000000000 < s.tick)
        (fun s => say { s with mgmt := { s.mgmt with stuck := true } } [0x83, 1])
    ∧ Happens .stageTimeout (fun s => s.mgmt.stage = some 1 ∧ s.mgmt.powered = true ∧ s.mgmt.stuck = false ∧ 24000000000 < s.tick)
        (fun s => say { s with mgmt := { s.mgmt with stuck := true } } [0x83, 2])
    ∧ Happens .stageTimeout (fun s => s.mgmt.stage = some 2 ∨ s.mgmt.powered = false ∨ s.mgmt.stuck = true) (fun s => s)
    ∧ Happens (.railFault n) any (fun s => { s with mgmt := { s.mgmt with stopped := true, rails := s.mgmt.rails ++ [n] } })
    ∧ Happens (.thermalThrottle [] watts) (fun s => s.mgmt.cap < watts ∧ cool s)
        (fun s => { s with mgmt := { s.mgmt with watts := watts, clock := max 50 (s.mgmt.clock - 5) } })
    ∧ Happens (.thermalThrottle [] watts) (fun s => watts ≤ s.mgmt.cap ∧ cool s) (fun s => { s with mgmt := { s.mgmt with watts := watts } })
    ∧ Happens (.thermalThrottle [] watts) (fun s => watts ≤ s.mgmt.cap ∧ d < 4 ∧ 115 ≤ s.temp d ∧ ∀ e, e < 4 → e ≠ d → s.temp e < 115)
        (fun s => ({ s with mgmt := { s.mgmt with watts := watts } } : State).overheat d)
    ∧ Happens (.dieOvertemp d) (fun _ => d < 4) (fun s => (hot s).overheat d)
    ∧ (∀ s : State, (s.die d).stopped = false → s.launchesOn d = [] →
        s.overheat d = say (s.setDie d { s.die d with stopped := true }) [0x82, BitVec.ofNat 8 d])
    ∧ (∀ s : State, (s.die d).stopped = true → s.overheat d = s)
    ∧ Happens (.dieCooled d []) (fun s => d < 4 ∧ (s.die d).stopped = true ∧ s.temp d < 90)
        (fun s => s.setDie d { s.die d with stopped := false })
    ∧ Happens (.dieCooled d us) (fun s => 90 ≤ s.temp d ∨ (s.die d).stopped = false) (fun s => s)
    ∧ Happens (.expanderLinkDown n) (fun s => n ∉ s.mgmt.farDown)
        (fun s => { s with mgmt := { s.mgmt with farDown := s.mgmt.farDown ++ [n] } })
    ∧ Happens .orderlyShutdown any (fun s => s.deviceReset)

/-- R230, R390, R393: a trap of a context that has a handler, in task mode and with no unresolved collective branch: the trap CSRs
take their values, the loop and repeat state goes to the shadows and is cleared, the mode becomes handler mode and the PC
TVEC; every other register, CSR, context and memory is as before, but for the self-test that a machine check starts
(`TrapOutcomes`). PAGE traps, which the Kettle serves first, are left to `TrapOutcomes`. -/
def Obligations.TrapEntry : Prop :=
  ∀ (s : State) (c : Nat) (t : TrapRec),
    let s1 := s.checkReported c t
    let x := s1.ctx c
    let r := x.regs
    let b := fun (k : Nat) (v : Bool) => if v then k else 0
    (s.ctx c).spec = none → r.hm = false → r.csrAt csrTVEC ≠ 0 → t.cause ≠ cPAGE →
    ∃ q : Regs,
      s.takeTrap c t = s1.setCtx c { x with regs := q, status := .run, wait := 0, waitOn := none, skipBkp := false }
      ∧ q = { r with csr := q.csr, pc := r.csrAt csrTVEC }
      ∧ q.hm = true ∧ q.phm = false ∧ q.stepBit = r.stepBit
      ∧ q.csrAt csrTCAUSE = BitVec.ofNat 64 (t.cause.toNat + b 64 t.aw + b 128 t.hld + b 256 t.dfr)
      ∧ q.csrAt csrTVAL = t.tval ∧ q.csrAt csrTEPC = t.epc
      ∧ q.csrAt csrTSRC = (s1.sourceOf c t.epc).1 ∧ q.csrAt csrTITER = (s1.sourceOf c t.epc).2.1
      ∧ (t.epc.toNat < residualBase ∨ residualBase + 0x10000 ≤ t.epc.toNat → q.csrAt csrTSRC = t.epc ∧ q.csrAt csrTITER = 0)
      ∧ (∀ l k e, s1.launchOf c = some l → l.residual = some k → residualBase ≤ t.epc.toNat → t.epc.toNat < residualBase + 0x10000 →
          (s1.die (dieOf c)).cache.find? (fun e => e.key == k && e.vf == l.vf) = some e →
          let m := nth 0 e.back ((t.epc.toNat - residualBase) / 4)
          q.csrAt csrTSRC = BitVec.ofNat 64 (l.kaddr + 4 * (m / 2 ^ 19 % 2 ^ 13))
          ∧ q.csrAt csrTITER = BitVec.ofNat 64 (m / 2 ^ 4 % 2 ^ 15))
      ∧ q.csrAt csrTINFO = BitVec.ofNat 64 (t.kind.toNat + 16 * t.acc.toNat + 256 * t.unit.toNat)
      ∧ (∀ k, k < 8 → q.csrAt (csrTLC0 + k) = r.csrAt (csrLC0 + k))
      ∧ (∀ k, k = csrLC0 ∨ k = csrLC1 ∨ k = csrRC ∨ k = csrRI → q.csrAt k = 0)
      ∧ ∀ k, k ∉ [csrTSTAT, csrTCAUSE, csrTVAL, csrTEPC, csrTSRC, csrTITER, csrTINFO, csrLC0, csrLC1, csrRC, csrRI] →
          (k < csrTLC0 ∨ csrTLC0 + 8 ≤ k) → q.csrAt k = r.csrAt k

/-- R391, R394 to R396: the other outcomes of a trap: held under an unresolved collective branch; a PAGE trap offered to the
Kettle; an ECALL with no handler or in handler mode served; a double trap, a debugger's stop, and the default actions FAULT
and ABORT with the trap CSRs recorded, which give an unfinished launch its final status. A machine check starts the self-test
of its unit first (R399, R401); which unit that is, and that each one starts it, is the model's reading (log entry 13). A gang
that ends gives up its reserved run (R208). -/
def Obligations.TrapOutcomes : Prop :=
  (∀ (s : State) (c : Nat) (t : TrapRec),
    let x := s.ctx c
    let r := x.regs
    let s1 := s.checkReported c t
    let src := s1.sourceOf c t.epc
    let y := s1.ctx c
    let recorded := s1.setCtx c { y with regs := y.regs.recordTrap t src.1 src.2.1 }
    y.regs = r ∧
    (∀ sp, x.spec = some sp →
      s.takeTrap c t = s.setCtx c { x with spec := some { sp with trap := some (sp.trap.getD t) }, wait := 2, waitOn := some .cbr })
    ∧ (x.spec = none →
      (t.cause = cPAGE → s.takeTrap c t = s.setCtx c { x with status := .service t })
      ∧ (t.cause = cECALL → r.hm = true ∨ r.csrAt csrTVEC = 0 →
          (r.xAt 5 = 1 ∨ r.xAt 5 = 2 → s.takeTrap c t = s.setCtx c { x with status := .service t })
          ∧ (r.xAt 5 ≠ 1 → r.xAt 5 ≠ 2 → t.lone = false ∨ (r.csrAt csrLC0 = 0 ∧ r.csrAt csrLC1 = 0) →
              s.takeTrap c t = s.setCtx c { x with regs := { r.setX 5 (-1) with pc := t.epc + 4 }, status := .run, wait := 0, skipBkp := false }))
      ∧ (t.cause ≠ cPAGE → t.cause ≠ cECALL →
          (r.hm = true → s.takeTrap c t = recorded.defaultAction c 6)
          ∧ (r.hm = false → r.csrAt csrTVEC = 0 →
              (t.cause = cBREAK ∨ t.cause = cSTEP → (s.vf x.vf).debug = true →
                s.takeTrap c t = recorded.setCtx c { recorded.ctx c with status := .debug t r.csr })
              ∧ ((t.cause ≠ cBREAK ∧ t.cause ≠ cSTEP) ∨ (s.vf x.vf).debug = false →
                s.takeTrap c t = recorded.defaultAction c (if t.cause = cQUOTA ∨ t.cause = cCOLLABORT then 7 else 6))))))
  ∧ (∀ (s : State) (c : Nat) (t : TrapRec),
      (t.cause ≠ cMCE → s.checkReported c t = s)
      ∧ (t.cause = cMCE → t.unit = 1 ∨ t.unit = 2 ∨ t.unit = 5 → s.checkReported c t = s.setTesting (.core (coreOf c)) true)
      ∧ (t.cause = cMCE → t.unit = 3 → s.checkReported c t = s.setTesting (.grove (groveOf c)) true)
      ∧ (t.cause = cMCE → t.unit = 4 → ∀ k q, s.scrLoc c t.tval.toNat 1 = some (.scr k q) → s.checkReported c t = s.setTesting (.core k) true)
      ∧ (t.cause = cMCE → t.unit = 10 → s.checkReported c t = s))
  ∧ ∀ (s : State) (l st : Nat) (x : Launch), tabFind s.launches l = some x → x.status = 1 ∨ x.status = 2 →
      ∃ y, tabFind (s.endLaunch l st).launches l = some y ∧ y.status = st
        ∧ y = { x with status := st, finished := y.finished, run := none }

/-- R112 to R114, R397: how a unit that retires goes on. With RC = 0 before the unit, the loop ends are compared with the next
sequential address, loop 1 first, but not those of a loop whose state the unit wrote. With RC not 0 the unit is repeated: RC
falls and RI rises by one, the PC stays until RC is 0, and then RI is 0 and the loop ends are compared. A redirect changes the
PC alone. With STEP set in task mode, outside inserted words, a STEP trap at that next PC follows. -/
def Obligations.UnitEnd : Prop :=
  ∀ (s s1 : State) (g : Sig), s1.unit = {} → s1.cur = s.cur →
    let r := s1.regs
    let t := r.pc + 4
    let steps := s.regs.stepBit = true ∧ s.regs.hm = false ∧ (s.sourceOf s.cur s.pc).2.2 = false
    let end1 := r.csrAt csrLC1 ≠ 0 ∧ t = r.csrAt csrLE1 ∧ g.loops.2 = false
    let end0 := r.csrAt csrLC0 ≠ 0 ∧ t = r.csrAt csrLE0 ∧ g.loops.1 = false
    let loops := fun (q : Regs) =>
      (end1 → r.csrAt csrLC1 ≠ 1 → q.pc = r.csrAt csrLS1 ∧ q.csrAt csrLC1 = r.csrAt csrLC1 - 1 ∧ q.csrAt csrLC0 = r.csrAt csrLC0)
      ∧ (end1 → r.csrAt csrLC1 = 1 → q.csrAt csrLC1 = 0)
      ∧ (¬end1 → q.csrAt csrLC1 = r.csrAt csrLC1)
      ∧ (¬(end1 ∧ r.csrAt csrLC1 ≠ 1) →
          (end0 → r.csrAt csrLC0 ≠ 1 → q.pc = r.csrAt csrLS0 ∧ q.csrAt csrLC0 = r.csrAt csrLC0 - 1)
          ∧ (end0 → r.csrAt csrLC0 = 1 → q.pc = t ∧ q.csrAt csrLC0 = 0)
          ∧ (¬end0 → q.pc = t ∧ q.csrAt csrLC0 = r.csrAt csrLC0))
      ∧ ∀ k, k ≠ csrLC0 → k ≠ csrLC1 → k ≠ csrRC → k ≠ csrRI → q.csrAt k = r.csrAt k
    let next := fun (q : Regs) =>
      q = { r with csr := q.csr, pc := q.pc }
      ∧ (s.regs.csrAt csrRC = 0 → loops q ∧ q.csrAt csrRC = r.csrAt csrRC ∧ q.csrAt csrRI = r.csrAt csrRI)
      ∧ (s.regs.csrAt csrRC ≠ 0 →
          (r.csrAt csrRC ≠ 1 → q.pc = r.pc ∧ q.csrAt csrRC = r.csrAt csrRC - 1 ∧ q.csrAt csrRI = r.csrAt csrRI + 1
            ∧ ∀ k, k ≠ csrRC → k ≠ csrRI → q.csrAt k = r.csrAt k)
          ∧ (r.csrAt csrRC = 1 → q.csrAt csrRC = 0 ∧ q.csrAt csrRI = 0 ∧ loops q))
    let jumped := fun (p : Word) (q : Regs) => q = { r with pc := p }
    let ended := fun (u : State) (p : Regs → Prop) => ∃ v : State, p v.regs ∧ v.cur = s.cur
      ∧ (¬steps → u = v)
      ∧ (steps → u = { (v.takeTrap s.cur { cause := cSTEP, tval := 0, epc := v.pc }) with unit := {} })
    ended (s.retires g s1) next ∧ ∀ p, ended (s.redirects g s1 p) (jumped p)

/-- R21, R22, R45: a unit with an empty source whose T bit is 1 traps EMPTY and has no effect. TVAL gives the first such source in
the order C word, A word, rs1, rs2, rs3 and store data: its number, its class, and whether its word is of the A class. -/
def Obligations.EmptyTraps : Prop :=
  let bad := fun (s : State) (x : Src) => x.t = true ∧ s.srcEmpty x.cls x.n = true
  let first := fun (s : State) (xs : List Src) (x : Src) => ∃ p q, xs = p ++ x :: q ∧ bad s x ∧ ∀ y ∈ p, ¬bad s y
  let value := fun (x : Src) (a : Bool) => BitVec.ofNat 64 (x.n + 32 * x.cls + (if a then 128 else 0))
  (∀ (g : Sig) (s : State) (f : State → Res) (x : Src), s.fresh = true → s.me.spec = none →
    (g.handlerOnly = true → s.regs.hm = true) → first s g.srcs x →
    issue g s f = .next (s.traps { cause := cEMPTY, tval := value x g.a } false))
  ∧ (∀ (c a : Instr) (s : State) (x : Src), s.me.pend = none → s.me.spec = none →
    (Instr.handlerOnly c = true → s.regs.hm = true) →
    let s1 : State := { s with unit := { mode := 1 } }
    (first s (Instr.sources c) x → runPair s c a = .next (s1.traps { cause := cEMPTY, tval := value x false } false))
    ∧ ((∀ y ∈ Instr.sources c, ¬bad s y) → first s (Instr.sources a) x →
        runPair s c a = .next (s1.traps { cause := cEMPTY, tval := value x true } true)))
  ∧ ∀ i : Instr, (Instr.sources i).Pairwise (fun x y => x.pos < y.pos)

/-- R21, R23, R25, R29, R45, R99, R115, R205, R399: the other checks before a lone word executes, in their order: PRIV, the wait
of a word that an unresolved collective branch holds, (EMPTY,) ILLEGAL for a word that may not be repeated or run in a DUAL
task, MCE for a poisoned source, the wait for empty sources, and the wait for empty destinations. In none of them does the
word have an effect. -/
def Obligations.GateStops : Prop :=
  ∀ (g : Sig) (s : State) (f : State → Res), s.fresh = true →
    let unbound := (∀ x ∈ g.srcs, portNamed s.regs x.cls x.n = none) ∧ ∀ d ∈ g.dsts, portNamed s.regs d.cls d.n = none
    let priv := g.handlerOnly = true ∧ s.regs.hm = false
    let stalls := s.me.spec ≠ none ∧ g.stalls = true
    let empty := ∃ x ∈ g.srcs, x.t = true ∧ s.regs.emptyAt x.cls x.n = true
    let barred := (s.regs.csrAt csrRC ≠ 0 ∧ g.notRepeated = true) ∨ (s.inDual = true ∧ g.notInDual = true)
    let value := fun (x : Src) => BitVec.ofNat 64 (x.n + 32 * x.cls + (if g.a then 128 else 0))
    let poison := fun (x : Src) => s.regs.poisonAt x.cls x.n = true
    (priv → issue g s f = .next (s.traps { cause := cPRIV, tval := natW g.word } false))
    ∧ (¬priv → stalls → issue g s f = .next (s.waitsOn (some .cbr)))
    ∧ (unbound → ¬priv → ¬stalls → ¬empty →
      (barred → issue g s f = .next (s.traps { cause := cILLEGAL, tval := natW g.word } false))
      ∧ (¬barred →
        (∀ p x q, g.srcs = p ++ x :: q → poison x → (∀ y ∈ p, ¬poison y) →
          issue g s f = .next (s.traps { cause := cMCE, unit := 1, tval := value x } false))
        ∧ ((∀ y ∈ g.srcs, ¬poison y) → (∃ x ∈ g.srcs, s.regs.emptyAt x.cls x.n = true) → issue g s f = .next s.waits)
        ∧ ((∀ y ∈ g.srcs, ¬poison y) → (∃ d ∈ g.dsts, d.cls ≤ 3 ∧ s.regs.emptyAt d.cls d.n = true) → issue g s f = .next s.waits)))

/-- R25, R26, R41, R42, R44, R45: the two words of a pair read every source as it stood before the pair, both retire or neither
has an effect, and the pair leaves each register as the word that wrote it left it; the flags that either raised are raised.
The entries that the words pushed to queue registers are pushed C word first, and those that they popped are popped at the
end. A C word whose operation must complete first sends it only where the A word and its pushes would retire; what its pushes
do once it has been performed is the model's choice (log entry 94). -/
def Obligations.PairReadsOld : Prop :=
  ∀ (s s2 s3 r s4 s5 : State) (c a : Instr) (u v : Word),
    ({ s with unit := { mode := 1 } } : State).gate [(cSig c, false), (aSigOf a, true)] = .go s2 →
    let before := s2.forA r
    let m := s2.regs.mergePair r.regs s4.regs
    let pick := fun {α : Type} (old cw aw : α) (v : α) => (cw ≠ old → v = cw) ∧ (cw = old → v = aw)
    let first := fun (e : WordEnd) => exec c s2 = .next s3 ∧ s3.unit.ended = e ∧ ((s.performed = true ∧ r = s3)
      ∨ (s.performed = false ∧ s3.doPushes s.me.pend (pushPlace false) s3.unit.pushes = .ok u r))
    let both := fun (e : WordEnd) => first e ∧ r.unit.late = none ∧ exec a before = .next s4 ∧ s4.unit.ended = .done
    let retired := fun (j : Option Word) =>
      (s.performed = false → (s4.setRegs m).doPushes s.me.pend (pushPlace true) s4.unit.pushes = .ok v s5 →
        runPair s c a = .next (s.endUnit (if s.me.pend.isSome then s5.setMe { s5.me with pend := none } else s5).doPops (cSig c).loops j))
      ∧ (s.performed = true → runPair s c a = .next (s.makePushes (s4.setRegs m) true (fun t => s.endUnit t.doPops (cSig c).loops j)))
    let sends := exec c s2 = .next s3 ∧ s3.unit.ended = .hold
    let unsent := { s3 with unit := { s3.unit with pushes := [] } }
    s2.regs = s.regs
    ∧ (before.regs = { s.regs with rhi := r.regs.rhi, rlo := r.regs.rlo, csr := before.regs.csr }
        ∧ ∀ k, k ≠ csrFFLAGS → before.regs.csrAt k = s.regs.csrAt k)
    ∧ (∀ t, exec c s2 = .next s3 → s3.unit.ended = .trap t → runPair s c a = .next (s.pairTrap t))
    ∧ (∀ w, first .done → r.unit.late = some w → runPair s c a = .next (s.traps w true))
    ∧ (∀ t, first .done → r.unit.late = none → exec a before = .next s4 → s4.unit.ended = .trap t → runPair s c a = .next (s.pairTrap t))
    ∧ (both .done → retired none)
    ∧ (∀ t, both (.jump t) → retired (some t))
    ∧ (sends → s3.unit.late = none → exec a (s2.forA unsent) = .next s4 →
        (∀ t, s4.unit.ended = .trap t → runPair s c a = .next (s.pairTrap t))
        ∧ (s4.unit.ended = .done →
          (∀ y, s4.doPushes s.me.pend (pushPlace true) s4.unit.pushes = .trap y → runPair s c a = .next (s.traps y true))
          ∧ (s4.doPushes s.me.pend (pushPlace true) s4.unit.pushes = .ok v s5 → runPair s c a = .next (s3.holdsAfter s))))
    ∧ (∀ w, sends → s3.unit.late = some w → runPair s c a = .next (s.traps w true))
    ∧ (∀ n, pick (s.regs.xAt n) (r.regs.xAt n) (s4.regs.xAt n) (m.xAt n)
        ∧ pick (s.regs.fAt n) (r.regs.fAt n) (s4.regs.fAt n) (m.fAt n) ∧ pick (s.regs.vAt n) (r.regs.vAt n) (s4.regs.vAt n) (m.vAt n)
        ∧ pick (s.regs.mAt n) (r.regs.mAt n) (s4.regs.mAt n) (m.mAt n) ∧ pick (s.regs.hAt n) (r.regs.hAt n) (s4.regs.hAt n) (m.hAt n)
        ∧ pick (s.regs.bAt n) (r.regs.bAt n) (s4.regs.bAt n) (m.bAt n)
        ∧ pick (s.regs.accAt n) (r.regs.accAt n) (s4.regs.accAt n) (m.accAt n)
        ∧ (n ≠ csrFFLAGS → pick (s.regs.csrAt n) (r.regs.csrAt n) (s4.regs.csrAt n) (m.csrAt n)))
    ∧ m.csrAt csrFFLAGS = r.regs.csrAt csrFFLAGS ||| s4.regs.csrAt csrFFLAGS

/-- R79, R98, R129: a lone A-class word that is ready either traps, or waits, or retires; where it retires, nothing has changed
but its destination registers, FFLAGS, in which no bit has been cleared, and, from major 0x08 on, the generator of R81. It
leaves every byte of memory as it was. -/
def Obligations.RegisterFrame : Prop :=
  ∀ (i : Instr) (s : State), isA (encode i) = true → s.ready (aSigOf i) = true →
    (∃ y, exec i s = .next (s.traps y false)) ∨ exec i s = .next s.waits
    ∨ ∃ s1, exec i s = .next (s.retires (aSigOf i) s1)
        ∧ s.keepsRegs s1 { dsts := Instr.dests i, csrs := [csrFFLAGS], rooibos := decide (8 ≤ encode i / 2 ^ 24 % 64) }
        ∧ s.regs.csrAt csrFFLAGS &&& s1.regs.csrAt csrFFLAGS = s.regs.csrAt csrFFLAGS
        ∧ (∀ k, endCsrs.contains k = true → s1.regs.csrAt k = s.regs.csrAt k)
        ∧ s1.pc = s.pc ∧ s.keepsMemory s1

/-- R122, R124, R133, R158, R284, R324: the frame of the loads and stores of the scratchpad space. A store of up to 8 bytes to the
own scratchpad writes the low bytes of its source at the address that the meaning computes, and leaves every other byte of
memory; in a live barrier object the bytes that it writes are not specified. A wider one leaves memory as it is and appends
its granules, each to be written so by an event of its own. No register changes. A load leaves all of memory, and of the
registers changes only its destination, which it marks empty and whose value it keeps until the producer writes it. -/
def Obligations.MemoryFrame : Prop :=
  (∀ (sm l : Bool) (d a : BitVec 5) (o : BitVec 8) (z w : BitVec 2) (e t u : Bool) (h : BitVec 3),
    let m := 2 ^ z.toNat
    let vm := 64 / 2 ^ z.toNat
    let ha := fun (s : State) => s.regs.xAt a.toNat + (if s.regs.csrAt csrRC = 0 then 0 else s.regs.csrAt csrRI * 512)
    let store := fun (i : Instr) (adr : State → Word) (n : Nat) (w : BitVec 2) (v : State → Nat) =>
      ∀ s q, s.ready (cSig i) = true → s.regs.stepBit = false → s.me.spec = none → s.accessOk 1 (adr s) n w .store →
        s.scrLoc s.cur (adr s).toNat n = some (.scr (coreOf s.cur) q) → s.ownWaits (.scr (coreOf s.cur) q) = false →
        ∃ t, exec i s = .next t ∧ s.keepsRegs t {}
          ∧ (n ≤ 8 → s.keepsMemoryBut t (.scr (coreOf s.cur) q) n ∧ ((s.core (coreOf s.cur)).live.contains (q / 16) = false →
              ∀ j, j < n → t.byteAt (.scr (coreOf s.cur) (q + j)) = BitVec.ofNat 8 (v s / 2 ^ (8 * j))))
          ∧ (16 ≤ n → s.keepsMemory t ∧ ∃ p : Posted, t.me.posted = s.me.posted ++ [p] ∧ p.n = s.me.nseq ∧ p.own = true
              ∧ p.events = (upFrom 0 (n / 8)).map (fun k =>
                [{ loc := .scr (coreOf s.cur) (q + 8 * k), bytes := bytesOf 8 (v s / 2 ^ (64 * k)) }]))
    let load := fun (i : Instr) (adr : State → Word) (n : Nat) (w : BitVec 2) (cls reg : Nat) =>
      ∀ s q, s.ready (cSig i) = true → s.regs.stepBit = false → s.accessOk 1 (adr s) n w .load →
        s.scrLoc s.cur (adr s).toNat n = some q →
        s.ownWaits q = false → (∀ k, q = .scr (coreOf s.cur) k → n ≤ 8 → s.poisonedLoc q n = none) →
        ∃ t, exec i s = .next t ∧ s.keepsRegs t {} ∧ s.keepsMemory t ∧ (cls = 0 → reg = 0 ∨ t.regs.emptyAt cls reg = true)
          ∧ (cls ≠ 0 → t.regs.emptyAt cls reg = true)
          ∧ ∀ k n, (k, n) ≠ (cls, reg) → t.regs.emptyAt k n = s.regs.emptyAt k n
    store (.sts sm l d a o z w t) (fun s => s.offsetAddr a o m) m w (fun s => (s.regs.xAt d.toNat).toNat)
    ∧ store (.vsts sm l d a o z w t) (fun s => s.offsetAddr a o vm) vm w (fun s => (s.regs.vAt d.toNat).toNat)
    ∧ store (.hstS sm l a h t u) ha 512 0 (fun s => (s.regs.hAt h.toNat).toNat)
    ∧ load (.lds sm l d a o z w e) (fun s => s.offsetAddr a o m) m w 0 d.toNat
    ∧ load (.vlds sm l d a o z w) (fun s => s.offsetAddr a o vm) vm w 2 d.toNat
    ∧ load (.hldS sm l h a t) ha 512 0 3 h.toNat)
  ∧ ∀ (s : State) (k q : Nat) (bs : List Byte), bs.length ≤ 8 → q % 8 + bs.length ≤ 8 →
      let t := s.perform [{ loc := .scr k q, bytes := bs }]
      s.keepsMemoryBut t (.scr k q) bs.length
      ∧ ((s.core k).live.contains (q / 16) = false → ∀ j, j < bs.length → t.byteAt (.scr k (q + j)) = nth 0 bs j)

/-- R37, R40, R209, R263, R398, R399: a step in which nothing else may happen runs the unit that stands at the PC of the context
whose turn it is. A word at the PC that is of the A class or LONE runs alone; a C word that is not, at an address divisible by
8, runs with the A word after it. The bytes are those at the translated address, the lowest first. What comes after the word's
own meaning is `afterTurn`; that one context's turn is the only choice is a premise (log entry 6). -/
def Obligations.StepRunsDecoded : Prop :=
  ∀ (s : State) (c : Nat),
    let turned := { s.later.core (coreOf c) with turn := c % 4 }
    let s0 : State := { (s.later.tookTurn c).setCore (coreOf c) turned with cur := c, unit := {} }
    let after := fun (words : List Instr) (t : State) =>
      s0.afterTurn (if (t.ctx c).pend.isSome ∧ (t.ctx c).status = .run then t.setCtx c ((t.ctx c).noteWords words) else t) c
    s.dueEvent = none → s.mgmt.stopped = false → s.resolving = none → s.choices = [.turn c] →
    s0.me.mce = [] → s0.me.pend = none → s0.breakpoint c = none →
    (∀ i w s1, s0.fetch s0.pc = .word w s1 → (isA w || isLone w) = true → reservedMajor w = false → decodeWord w = .ok i →
      step s = match exec i s1 with
        | .next t => .next (after [i] t)
        | r => r)
    ∧ (∀ i j v w s1 s2, s0.pc.toNat % 8 = 0 → s0.fetch s0.pc = .word w s1 → s1.fetch (s0.pc + 4) = .word v s2 →
      (isA w || isLone w) = false → isA v = true → reservedMajor w = false → reservedMajor v = false →
      decodeWord w = .ok i → decodeWord v = .ok j → sameDest (Instr.dests i) (Instr.dests j) = false →
      step s = match runPair s2 i j with
        | .next t => .next (after [i, j] t)
        | r => r)
    ∧ ∀ a pa leaf ea s1, a.toNat < deviceBase →
        s0.meterTrap s0.me.vf a .fetch false = false → s0.translate (unitsOf c) s0.me.vf a.toNat .fetch = .ok pa leaf ea s1 →
        s1.poisonedLoc (.mem pa) 4 = none →
        s0.fetch a = .word ((s1.byteAt (.mem pa)).toNat + 2 ^ 8 * (s1.byteAt (.mem (pa + 1))).toNat
          + 2 ^ 16 * (s1.byteAt (.mem (pa + 2))).toNat + 2 ^ 24 * (s1.byteAt (.mem (pa + 3))).toNat) s1

/-- R37, R51, R53, with words that the rules of each family give as examples: words written out from the encodings decode to the
instructions that they stand for; a reserved field gives RESERVED and an operation without an instruction ILLEGAL. -/
def Obligations.DecodeWords : Prop :=
  decodeWord 0x80324000 = .ok (.add false 6 9 0 false false false)
  ∧ decodeWord 0x81294001 = .ok (.addi false 5 5 false 1)
  ∧ decodeWord 0x85298843 = .ok (.srli false 5 6 false true 3)
  ∧ decodeWord 0x12147E00 = .ok (.lui false false 5 0x7E00)
  ∧ decodeWord 0x89204430 = .ok (.fmadd false 4 1 2 3 false false false)
  ∧ decodeWord 0x8E4A003B = .ok (.vrargmax false 9 8 0 7)
  ∧ decodeWord 0x947A5420 = .ok (.mmaH false 1 true true 20 21 1 0)
  ∧ decodeWord 0x9B442001 = .ok (.hperm false 2 1 false 1)
  ∧ decodeWord 0x9E408A40 = .ok (.noise false 8 2 5 1)
  ∧ decodeWord 0x21041FFE = .ok (.bne false true 1 0 0xFFE)
  ∧ decodeWord 0x25A0201C = .ok (.stg false true 8 1 0 3 2 false)
  ∧ decodeWord 0x2BA14925 = .ok (.amoxCas false true 8 10 9 false 1 1)
  ∧ decodeWord 0x2C80C70B = .ok (.send false true 6 7 false false 3)
  ∧ decodeWord 0x2F8CC001 = .ok (.hldS false true 3 6 false)
  ∧ decodeWord 0x3020C906 = .ok (.smig false true 8 6 9 false false)
  ∧ decodeWord 0x31028307 = .ok (.wmax false true 20 3 false false)
  ∧ decodeWord 0 = .illegal ∧ decodeWord 0x852988C3 = .reserved

/-- R15, R35, R468: right after reset every context is free with every register 0 and full, the masks all ones, every CSR 0 and
GEN 0; every slot is free and zero; TSTAMP is 0 and no unit is under way. That memory reads 0 is the model's own choice (log
entry 2). -/
def Obligations.ResetState : Prop :=
  let s := State.reset
  s.Whole ∧ s.tick = 0
  ∧ (∀ c, (s.ctx c).status = .free ∧ (s.ctx c).gen = 0 ∧ (s.ctx c).regs.pc = 0
      ∧ (∀ n, (s.ctx c).regs.xAt n = 0 ∧ (s.ctx c).regs.fAt n = 0 ∧ (s.ctx c).regs.vAt n = 0 ∧ (s.ctx c).regs.hAt n = 0
        ∧ (s.ctx c).regs.mAt n = 0xFFFF ∧ (s.ctx c).regs.bAt n = 0 ∧ (s.ctx c).regs.accAt n = 0 ∧ (s.ctx c).regs.csrAt n = 0)
      ∧ ∀ k n, (s.ctx c).regs.emptyAt k n = false)
  ∧ (∀ k n, tabGet {} (s.core k).slots n = { owner := none, busy := false, data := 0, side := 0 })
  ∧ ∀ l, s.byteAt l = 0

/-- R38, R46 to R54: decoding the word of a well-formed instruction gives it back, with every operand at every value that the
encoding admits. -/
def Obligations.RoundTrip : Prop := ∀ i : Instr, i.wf = true → decodeWord (encode i) = .ok i

/-- R44: a step leaves no unit partly executed: a unit has all of its effects or none. -/
def Obligations.StepKeepsWhole : Prop := ∀ s t : State, s.Whole → step s = .next t → t.Whole
end

