-- ==== Sys2Proof/Laws/Exec.lean ====
section
/-! SUPPORT. What `exec` calls for each constructor: the meaning by its name. Proofs rewrite with these and never unfold
`exec`. -/

namespace Sys2Proof.Machine

theorem exec_nop sm l s : exec (.nop sm l) s = execNop sm l s := rfl
theorem exec_halt sm l s : exec (.halt sm l) s = execHalt sm l s := rfl
theorem exec_ecall sm l s : exec (.ecall sm l) s = execEcall sm l s := rfl
theorem exec_ebreak sm l s : exec (.ebreak sm l) s = execEbreak sm l s := rfl
theorem exec_hret sm l s : exec (.hret sm l) s = execHret sm l s := rfl
theorem exec_yield sm l s : exec (.yield sm l) s = execYield sm l s := rfl
theorem exec_csrr sm l d c s : exec (.csrr sm l d c) s = execCsrr sm l d c s := rfl
theorem exec_csrw sm l d a c s : exec (.csrw sm l d a c) s = execCsrw sm l d a c s := rfl
theorem exec_csrs sm l d a c s : exec (.csrs sm l d a c) s = execCsrs sm l d a c s := rfl
theorem exec_csrc sm l d a c s : exec (.csrc sm l d a c) s = execCsrc sm l d a c s := rfl
theorem exec_beq sm l a b o s : exec (.beq sm l a b o) s = execBeq sm l a b o s := rfl
theorem exec_bne sm l a b o s : exec (.bne sm l a b o) s = execBne sm l a b o s := rfl
theorem exec_blt sm l a b o s : exec (.blt sm l a b o) s = execBlt sm l a b o s := rfl
theorem exec_bge sm l a b o s : exec (.bge sm l a b o) s = execBge sm l a b o s := rfl
theorem exec_bltu sm l a b o s : exec (.bltu sm l a b o) s = execBltu sm l a b o s := rfl
theorem exec_bgeu sm l a b o s : exec (.bgeu sm l a b o) s = execBgeu sm l a b o s := rfl
theorem exec_bmskAny sm l k o s : exec (.bmskAny sm l k o) s = execBmskAny sm l k o s := rfl
theorem exec_bmskNone sm l k o s : exec (.bmskNone sm l k o) s = execBmskNone sm l k o s := rfl
theorem exec_bmskAll sm l k o s : exec (.bmskAll sm l k o) s = execBmskAll sm l k o s := rfl
theorem exec_bmskNall sm l k o s : exec (.bmskNall sm l k o) s = execBmskNall sm l k o s := rfl
theorem exec_jal sm l d o s : exec (.jal sm l d o) s = execJal sm l d o s := rfl
theorem exec_jalr sm l d a t im s : exec (.jalr sm l d a t im) s = execJalr sm l d a t im s := rfl
theorem exec_loop sm l n a t im s : exec (.loop sm l n a t im) s = execLoop sm l n a t im s := rfl
theorem exec_rep sm l a t im s : exec (.rep sm l a t im) s = execRep sm l a t im s := rfl
theorem exec_ldg sm l d a o z w e s : exec (.ldg sm l d a o z w e) s = execLdg sm l d a o z w e s := rfl
theorem exec_stg sm l d a o z w t s : exec (.stg sm l d a o z w t) s = execStg sm l d a o z w t s := rfl
theorem exec_lds sm l d a o z w e s : exec (.lds sm l d a o z w e) s = execLds sm l d a o z w e s := rfl
theorem exec_sts sm l d a o z w t s : exec (.sts sm l d a o z w t) s = execSts sm l d a o z w t s := rfl
theorem exec_ldw sm l d a o z w e s : exec (.ldw sm l d a o z w e) s = execLdw sm l d a o z w e s := rfl
theorem exec_stw sm l d a o z w t s : exec (.stw sm l d a o z w t) s = execStw sm l d a o z w t s := rfl
theorem exec_vldg sm l d a o z w s : exec (.vldg sm l d a o z w) s = execVldg sm l d a o z w s := rfl
theorem exec_vstg sm l d a o z w t s : exec (.vstg sm l d a o z w t) s = execVstg sm l d a o z w t s := rfl
theorem exec_vlds sm l d a o z w s : exec (.vlds sm l d a o z w) s = execVlds sm l d a o z w s := rfl
theorem exec_vsts sm l d a o z w t s : exec (.vsts sm l d a o z w t) s = execVsts sm l d a o z w t s := rfl
theorem exec_vgath sm l d a b t u p m s : exec (.vgath sm l d a b t u p m) s = execVgath sm l d a b t u p m s := rfl
theorem exec_vscat sm l d a b t u p m s : exec (.vscat sm l d a b t u p m) s = execVscat sm l d a b t u p m s := rfl
theorem exec_ldo sm l d a z e o c s : exec (.ldo sm l d a z e o c) s = execLdo sm l d a z e o c s := rfl
theorem exec_sto sm l a b z o c s : exec (.sto sm l a b z o c) s = execSto sm l a b z o c s := rfl
theorem exec_amoSwap sm l d a b z o c s : exec (.amoSwap sm l d a b z o c) s = execAmoSwap sm l d a b z o c s := rfl
theorem exec_amoAdd sm l d a b z o c s : exec (.amoAdd sm l d a b z o c) s = execAmoAdd sm l d a b z o c s := rfl
theorem exec_amoAnd sm l d a b z o c s : exec (.amoAnd sm l d a b z o c) s = execAmoAnd sm l d a b z o c s := rfl
theorem exec_amoOr sm l d a b z o c s : exec (.amoOr sm l d a b z o c) s = execAmoOr sm l d a b z o c s := rfl
theorem exec_amoXor sm l d a b z o c s : exec (.amoXor sm l d a b z o c) s = execAmoXor sm l d a b z o c s := rfl
theorem exec_amoMax sm l d a b z o c s : exec (.amoMax sm l d a b z o c) s = execAmoMax sm l d a b z o c s := rfl
theorem exec_amoMin sm l d a b z o c s : exec (.amoMin sm l d a b z o c) s = execAmoMin sm l d a b z o c s := rfl
theorem exec_amoMaxu sm l d a b z o c s : exec (.amoMaxu sm l d a b z o c) s = execAmoMaxu sm l d a b z o c s := rfl
theorem exec_amoxMinu sm l d a b z o c s : exec (.amoxMinu sm l d a b z o c) s = execAmoxMinu sm l d a b z o c s := rfl
theorem exec_amoxCas sm l d a b z o c s : exec (.amoxCas sm l d a b z o c) s = execAmoxCas sm l d a b z o c s := rfl
theorem exec_amoxFadd sm l d a b o c s : exec (.amoxFadd sm l d a b o c) s = execAmoxFadd sm l d a b o c s := rfl
theorem exec_amoxFmin sm l d a b o c s : exec (.amoxFmin sm l d a b o c) s = execAmoxFmin sm l d a b o c s := rfl
theorem exec_amoxFmax sm l d a b o c s : exec (.amoxFmax sm l d a b o c) s = execAmoxFmax sm l d a b o c s := rfl
theorem exec_fence sm l o c s : exec (.fence sm l o c) s = execFence sm l o c s := rfl
theorem exec_waitc sm l c s : exec (.waitc sm l c) s = execWaitc sm l c s := rfl
theorem exec_waita sm l d a b t u z c s : exec (.waita sm l d a b t u z c) s = execWaita sm l d a b t u z c s := rfl
theorem exec_qbind sm l d a t s : exec (.qbind sm l d a t) s = execQbind sm l d a t s := rfl
theorem exec_qunbind sm l d s : exec (.qunbind sm l d) s = execQunbind sm l d s := rfl
theorem exec_ttrun sm l d a t s : exec (.ttrun sm l d a t) s = execTtrun sm l d a t s := rfl
theorem exec_send sm l a b t u z s : exec (.send sm l a b t u z) s = execSend sm l a b t u z s := rfl
theorem exec_qnew sm l d c s : exec (.qnew sm l d c) s = execQnew sm l d c s := rfl
theorem exec_cbrAny sm l a h o s : exec (.cbrAny sm l a h o) s = execCbrAny sm l a h o s := rfl
theorem exec_cbrAll sm l a h o s : exec (.cbrAll sm l a h o) s = execCbrAll sm l a h o s := rfl
theorem exec_cbrMaj sm l a h o s : exec (.cbrMaj sm l a h o) s = execCbrMaj sm l a h o s := rfl
theorem exec_colxJoin sm l d a b t u s : exec (.colxJoin sm l d a b t u) s = execColxJoin sm l d a b t u s := rfl
theorem exec_colxLeave sm l s : exec (.colxLeave sm l) s = execColxLeave sm l s := rfl
theorem exec_sptCpy sm l d a t s : exec (.sptCpy sm l d a t) s = execSptCpy sm l d a t s := rfl
theorem exec_sptCan sm l d a t s : exec (.sptCan sm l d a t) s = execSptCan sm l d a t s := rfl
theorem exec_sptPoll sm l d a t s : exec (.sptPoll sm l d a t) s = execSptPoll sm l d a t s := rfl
theorem exec_barInit sm l a b t u s : exec (.barInit sm l a b t u) s = execBarInit sm l a b t u s := rfl
theorem exec_barExp sm l a b t u s : exec (.barExp sm l a b t u) s = execBarExp sm l a b t u s := rfl
theorem exec_barArv sm l d a t s : exec (.barArv sm l d a t) s = execBarArv sm l d a t s := rfl
theorem exec_barWt sm l d a b t u s : exec (.barWt sm l d a b t u) s = execBarWt sm l d a b t u s := rfl
theorem exec_mclaim sm l d a t s : exec (.mclaim sm l d a t) s = execMclaim sm l d a t s := rfl
theorem exec_mrel sm l a t s : exec (.mrel sm l a t) s = execMrel sm l a t s := rfl
theorem exec_mld sm l d a b t u c p s : exec (.mld sm l d a b t u c p) s = execMld sm l d a b t u c p s := rfl
theorem exec_mstF32 sm l n a b t u m p s : exec (.mstF32 sm l n a b t u m p) s = execMstF32 sm l n a b t u m p s := rfl
theorem exec_mstH sm l n a b t u m p s : exec (.mstH sm l n a b t u m p) s = execMstH sm l n a b t u m p s := rfl
theorem exec_mstB sm l n a b t u m p s : exec (.mstB sm l n a b t u m p) s = execMstB sm l n a b t u m p s := rfl
theorem exec_mdrain sm l n a b t u s : exec (.mdrain sm l n a b t u) s = execMdrain sm l n a b t u s := rfl
theorem exec_ctld sm l a t p n s : exec (.ctld sm l a t p n) s = execCtld sm l a t p n s := rfl
theorem exec_hldG sm l h a t s : exec (.hldG sm l h a t) s = execHldG sm l h a t s := rfl
theorem exec_hldS sm l h a t s : exec (.hldS sm l h a t) s = execHldS sm l h a t s := rfl
theorem exec_hstG sm l a h t u s : exec (.hstG sm l a h t u) s = execHstG sm l a h t u s := rfl
theorem exec_hstS sm l a h t u s : exec (.hstS sm l a h t u) s = execHstS sm l a h t u s := rfl
theorem exec_podw sm l a h t u s : exec (.podw sm l a h t u) s = execPodw sm l a h t u s := rfl
theorem exec_pods sm l d h u s : exec (.pods sm l d h u) s = execPods sm l d h u s := rfl
theorem exec_podr sm l h a t s : exec (.podr sm l h a t) s = execPodr sm l h a t s := rfl
theorem exec_sspawn sm l d a t s : exec (.sspawn sm l d a t) s = execSspawn sm l d a t s := rfl
theorem exec_sfork sm l d a t s : exec (.sfork sm l d a t) s = execSfork sm l d a t s := rfl
theorem exec_snext sm l a b t u s : exec (.snext sm l a b t u) s = execSnext sm l a b t u s := rfl
theorem exec_sret sm l a b t u s : exec (.sret sm l a b t u) s = execSret sm l a b t u s := rfl
theorem exec_sretire sm l a t s : exec (.sretire sm l a t) s = execSretire sm l a t s := rfl
theorem exec_sretireSub sm l a t s : exec (.sretireSub sm l a t) s = execSretireSub sm l a t s := rfl
theorem exec_smig sm l d a b t u s : exec (.smig sm l d a b t u) s = execSmig sm l d a b t u s := rfl
theorem exec_sinfeas sm l a t s : exec (.sinfeas sm l a t) s = execSinfeas sm l a t s := rfl
theorem exec_sapush sm l d a b t u s : exec (.sapush sm l d a b t u) s = execSapush sm l d a b t u s := rfl
theorem exec_sapop sm l d a t s : exec (.sapop sm l d a t) s = execSapop sm l d a t s := rfl
theorem exec_sstat sm l d a t s : exec (.sstat sm l d a t) s = execSstat sm l d a t s := rfl
theorem exec_spin sm l a b t u s : exec (.spin sm l a b t u) s = execSpin sm l a b t u s := rfl
theorem exec_sunpin sm l a b t u s : exec (.sunpin sm l a b t u) s = execSunpin sm l a b t u s := rfl
theorem exec_jopen sm l d a b t u s : exec (.jopen sm l d a b t u) s = execJopen sm l d a b t u s := rfl
theorem exec_jwait sm l d a t s : exec (.jwait sm l d a t) s = execJwait sm l d a t s := rfl
theorem exec_jpoll sm l d a b t u s : exec (.jpoll sm l d a b t u) s = execJpoll sm l d a b t u s := rfl
theorem exec_jclose sm l a b t u s : exec (.jclose sm l a b t u) s = execJclose sm l a b t u s := rfl
theorem exec_wopen sm l d a t s : exec (.wopen sm l d a t) s = execWopen sm l d a t s := rfl
theorem exec_wsumI sm l a b t u s : exec (.wsumI sm l a b t u) s = execWsumI sm l a b t u s := rfl
theorem exec_wsumF sm l a b t u s : exec (.wsumF sm l a b t u) s = execWsumF sm l a b t u s := rfl
theorem exec_wmaxvI sm l a b t u s : exec (.wmaxvI sm l a b t u) s = execWmaxvI sm l a b t u s := rfl
theorem exec_wmaxvF sm l a b t u s : exec (.wmaxvF sm l a b t u) s = execWmaxvF sm l a b t u s := rfl
theorem exec_wminvI sm l a b t u s : exec (.wminvI sm l a b t u) s = execWminvI sm l a b t u s := rfl
theorem exec_wminvF sm l a b t u s : exec (.wminvF sm l a b t u) s = execWminvF sm l a b t u s := rfl
theorem exec_wmax sm l a b t u s : exec (.wmax sm l a b t u) s = execWmax sm l a b t u s := rfl
theorem exec_replay sm l d a t s : exec (.replay sm l d a t) s = execReplay sm l d a t s := rfl
theorem exec_tlbinv sm l a b t u s : exec (.tlbinv sm l a b t u) s = execTlbinv sm l a b t u s := rfl
theorem exec_cflip sm l a t s : exec (.cflip sm l a t) s = execCflip sm l a t s := rfl
theorem exec_mtrd sm l d a b t u s : exec (.mtrd sm l d a b t u) s = execMtrd sm l d a b t u s := rfl
theorem exec_lui sm l d k s : exec (.lui sm l d k) s = execLui sm l d k s := rfl
theorem exec_luiSh sm l d k s : exec (.luiSh sm l d k) s = execLuiSh sm l d k s := rfl
theorem exec_lnch sm l d a t s : exec (.lnch sm l d a t) s = execLnch sm l d a t s := rfl
theorem exec_lnchPoll sm l d a t s : exec (.lnchPoll sm l d a t) s = execLnchPoll sm l d a t s := rfl
theorem exec_lnchWait sm l d a t s : exec (.lnchWait sm l d a t) s = execLnchWait sm l d a t s := rfl
theorem exec_add sm d a b t u x s : exec (.add sm d a b t u x) s = execAdd sm d a b t u x s := rfl
theorem exec_sub sm d a b t u x s : exec (.sub sm d a b t u x) s = execSub sm d a b t u x s := rfl
theorem exec_and sm d a b t u x s : exec (.and sm d a b t u x) s = execAnd sm d a b t u x s := rfl
theorem exec_or sm d a b t u x s : exec (.or sm d a b t u x) s = execOr sm d a b t u x s := rfl
theorem exec_xor sm d a b t u x s : exec (.xor sm d a b t u x) s = execXor sm d a b t u x s := rfl
theorem exec_andn sm d a b t u x s : exec (.andn sm d a b t u x) s = execAndn sm d a b t u x s := rfl
theorem exec_sll sm d a b t u x s : exec (.sll sm d a b t u x) s = execSll sm d a b t u x s := rfl
theorem exec_srl sm d a b t u x s : exec (.srl sm d a b t u x) s = execSrl sm d a b t u x s := rfl
theorem exec_sra sm d a b t u x s : exec (.sra sm d a b t u x) s = execSra sm d a b t u x s := rfl
theorem exec_ror sm d a b t u x s : exec (.ror sm d a b t u x) s = execRor sm d a b t u x s := rfl
theorem exec_slt sm d a b t u x s : exec (.slt sm d a b t u x) s = execSlt sm d a b t u x s := rfl
theorem exec_sltu sm d a b t u x s : exec (.sltu sm d a b t u x) s = execSltu sm d a b t u x s := rfl
theorem exec_min sm d a b t u x s : exec (.min sm d a b t u x) s = execMin sm d a b t u x s := rfl
theorem exec_max sm d a b t u x s : exec (.max sm d a b t u x) s = execMax sm d a b t u x s := rfl
theorem exec_minu sm d a b t u x s : exec (.minu sm d a b t u x) s = execMinu sm d a b t u x s := rfl
theorem exec_maxu sm d a b t u x s : exec (.maxu sm d a b t u x) s = execMaxu sm d a b t u x s := rfl
theorem exec_mul sm d a b t u x s : exec (.mul sm d a b t u x) s = execMul sm d a b t u x s := rfl
theorem exec_mulh sm d a b t u s : exec (.mulh sm d a b t u) s = execMulh sm d a b t u s := rfl
theorem exec_mulhu sm d a b t u s : exec (.mulhu sm d a b t u) s = execMulhu sm d a b t u s := rfl
theorem exec_div sm d a b t u x s : exec (.div sm d a b t u x) s = execDiv sm d a b t u x s := rfl
theorem exec_divu sm d a b t u x s : exec (.divu sm d a b t u x) s = execDivu sm d a b t u x s := rfl
theorem exec_rem sm d a b t u x s : exec (.rem sm d a b t u x) s = execRem sm d a b t u x s := rfl
theorem exec_remu sm d a b t u x s : exec (.remu sm d a b t u x) s = execRemu sm d a b t u x s := rfl
theorem exec_adds sm d a b t u x s : exec (.adds sm d a b t u x) s = execAdds sm d a b t u x s := rfl
theorem exec_subs sm d a b t u x s : exec (.subs sm d a b t u x) s = execSubs sm d a b t u x s := rfl
theorem exec_clz sm d a t x s : exec (.clz sm d a t x) s = execClz sm d a t x s := rfl
theorem exec_ctz sm d a t x s : exec (.ctz sm d a t x) s = execCtz sm d a t x s := rfl
theorem exec_popc sm d a t x s : exec (.popc sm d a t x) s = execPopc sm d a t x s := rfl
theorem exec_wfld sm d a b t u s : exec (.wfld sm d a b t u) s = execWfld sm d a b t u s := rfl
theorem exec_chkb sm d a b t u s : exec (.chkb sm d a b t u) s = execChkb sm d a b t u s := rfl
theorem exec_addi sm d a t im s : exec (.addi sm d a t im) s = execAddi sm d a t im s := rfl
theorem exec_andi sm d a t im s : exec (.andi sm d a t im) s = execAndi sm d a t im s := rfl
theorem exec_ori sm d a t im s : exec (.ori sm d a t im) s = execOri sm d a t im s := rfl
theorem exec_xori sm d a t im s : exec (.xori sm d a t im) s = execXori sm d a t im s := rfl
theorem exec_slti sm d a t im s : exec (.slti sm d a t im) s = execSlti sm d a t im s := rfl
theorem exec_slli sm d a t w c s : exec (.slli sm d a t w c) s = execSlli sm d a t w c s := rfl
theorem exec_srli sm d a t w c s : exec (.srli sm d a t w c) s = execSrli sm d a t w c s := rfl
theorem exec_srai sm d a t w c s : exec (.srai sm d a t w c) s = execSrai sm d a t w c s := rfl
theorem exec_rori sm d a t w c s : exec (.rori sm d a t w c) s = execRori sm d a t w c s := rfl
theorem exec_sel sm d a b c t u v s : exec (.sel sm d a b c t u v) s = execSel sm d a b c t u v s := rfl
theorem exec_selN sm d a b c t u v s : exec (.selN sm d a b c t u v) s = execSelN sm d a b c t u v s := rfl
theorem exec_fadd sm d a b t u s : exec (.fadd sm d a b t u) s = execFadd sm d a b t u s := rfl
theorem exec_fsub sm d a b t u s : exec (.fsub sm d a b t u) s = execFsub sm d a b t u s := rfl
theorem exec_fmul sm d a b t u s : exec (.fmul sm d a b t u) s = execFmul sm d a b t u s := rfl
theorem exec_fdiv sm d a b t u s : exec (.fdiv sm d a b t u) s = execFdiv sm d a b t u s := rfl
theorem exec_fmin sm d a b t u s : exec (.fmin sm d a b t u) s = execFmin sm d a b t u s := rfl
theorem exec_fmax sm d a b t u s : exec (.fmax sm d a b t u) s = execFmax sm d a b t u s := rfl
theorem exec_fsqrt sm d a t s : exec (.fsqrt sm d a t) s = execFsqrt sm d a t s := rfl
theorem exec_fabs sm d a t s : exec (.fabs sm d a t) s = execFabs sm d a t s := rfl
theorem exec_fneg sm d a t s : exec (.fneg sm d a t) s = execFneg sm d a t s := rfl
theorem exec_fsgnj sm d a b t u s : exec (.fsgnj sm d a b t u) s = execFsgnj sm d a b t u s := rfl
theorem exec_feq sm d a b t u s : exec (.feq sm d a b t u) s = execFeq sm d a b t u s := rfl
theorem exec_flt sm d a b t u s : exec (.flt sm d a b t u) s = execFlt sm d a b t u s := rfl
theorem exec_fle sm d a b t u s : exec (.fle sm d a b t u) s = execFle sm d a b t u s := rfl
theorem exec_fclass sm d a t s : exec (.fclass sm d a t) s = execFclass sm d a t s := rfl
theorem exec_fmvXf sm d a t s : exec (.fmvXf sm d a t) s = execFmvXf sm d a t s := rfl
theorem exec_fmvFx sm d a t s : exec (.fmvFx sm d a t) s = execFmvFx sm d a t s := rfl
theorem exec_fmadd sm d a b c t u v s : exec (.fmadd sm d a b c t u v) s = execFmadd sm d a b c t u v s := rfl
theorem exec_fmsub sm d a b c t u v s : exec (.fmsub sm d a b c t u v) s = execFmsub sm d a b c t u v s := rfl
theorem exec_fcvtFI sm d a t s : exec (.fcvtFI sm d a t) s = execFcvtFI sm d a t s := rfl
theorem exec_fcvtFU sm d a t s : exec (.fcvtFU sm d a t) s = execFcvtFU sm d a t s := rfl
theorem exec_fcvtIF sm d a t s : exec (.fcvtIF sm d a t) s = execFcvtIF sm d a t s := rfl
theorem exec_fcvtUF sm d a t s : exec (.fcvtUF sm d a t) s = execFcvtUF sm d a t s := rfl
theorem exec_fcvtHF sm d a t s : exec (.fcvtHF sm d a t) s = execFcvtHF sm d a t s := rfl
theorem exec_fcvtFH sm d a t s : exec (.fcvtFH sm d a t) s = execFcvtFH sm d a t s := rfl
theorem exec_fcvtBF sm d a t s : exec (.fcvtBF sm d a t) s = execFcvtBF sm d a t s := rfl
theorem exec_fcvtFB sm d a t s : exec (.fcvtFB sm d a t) s = execFcvtFB sm d a t s := rfl
theorem exec_fcvtT8F sm d a t s : exec (.fcvtT8F sm d a t) s = execFcvtT8F sm d a t s := rfl
theorem exec_fcvtFT8 sm d a t s : exec (.fcvtFT8 sm d a t) s = execFcvtFT8 sm d a t s := rfl
theorem exec_fcvtT4F sm d a t s : exec (.fcvtT4F sm d a t) s = execFcvtT4F sm d a t s := rfl
theorem exec_fcvtFT4 sm d a t s : exec (.fcvtFT4 sm d a t) s = execFcvtFT4 sm d a t s := rfl
theorem exec_vadd sm d a b m y s : exec (.vadd sm d a b m y) s = execVadd sm d a b m y s := rfl
theorem exec_vsub sm d a b m y s : exec (.vsub sm d a b m y) s = execVsub sm d a b m y s := rfl
theorem exec_vadds sm d a b m y s : exec (.vadds sm d a b m y) s = execVadds sm d a b m y s := rfl
theorem exec_vsubs sm d a b m y s : exec (.vsubs sm d a b m y) s = execVsubs sm d a b m y s := rfl
theorem exec_vmul sm d a b m y s : exec (.vmul sm d a b m y) s = execVmul sm d a b m y s := rfl
theorem exec_vmin sm d a b m y s : exec (.vmin sm d a b m y) s = execVmin sm d a b m y s := rfl
theorem exec_vmax sm d a b m y s : exec (.vmax sm d a b m y) s = execVmax sm d a b m y s := rfl
theorem exec_vsh sm d a b m y s : exec (.vsh sm d a b m y) s = execVsh sm d a b m y s := rfl
theorem exec_vand sm d a b m s : exec (.vand sm d a b m) s = execVand sm d a b m s := rfl
theorem exec_vor sm d a b m s : exec (.vor sm d a b m) s = execVor sm d a b m s := rfl
theorem exec_vxor sm d a b m s : exec (.vxor sm d a b m) s = execVxor sm d a b m s := rfl
theorem exec_vandn sm d a b m s : exec (.vandn sm d a b m) s = execVandn sm d a b m s := rfl
theorem exec_vnot sm d a m s : exec (.vnot sm d a m) s = execVnot sm d a m s := rfl
theorem exec_vmov sm d a m s : exec (.vmov sm d a m) s = execVmov sm d a m s := rfl
theorem exec_vfadd sm d a b m f s : exec (.vfadd sm d a b m f) s = execVfadd sm d a b m f s := rfl
theorem exec_vfsub sm d a b m f s : exec (.vfsub sm d a b m f) s = execVfsub sm d a b m f s := rfl
theorem exec_vfmul sm d a b m f s : exec (.vfmul sm d a b m f) s = execVfmul sm d a b m f s := rfl
theorem exec_vfdiv sm d a b m f s : exec (.vfdiv sm d a b m f) s = execVfdiv sm d a b m f s := rfl
theorem exec_vfmin sm d a b m f s : exec (.vfmin sm d a b m f) s = execVfmin sm d a b m f s := rfl
theorem exec_vfmax sm d a b m f s : exec (.vfmax sm d a b m f) s = execVfmax sm d a b m f s := rfl
theorem exec_vfabs sm d a m f s : exec (.vfabs sm d a m f) s = execVfabs sm d a m f s := rfl
theorem exec_vfneg sm d a m f s : exec (.vfneg sm d a m f) s = execVfneg sm d a m f s := rfl
theorem exec_vfmadd sm d a b m f s : exec (.vfmadd sm d a b m f) s = execVfmadd sm d a b m f s := rfl
theorem exec_vfmsub sm d a b m f s : exec (.vfmsub sm d a b m f) s = execVfmsub sm d a b m f s := rfl
theorem exec_vfnmadd sm d a b m f s : exec (.vfnmadd sm d a b m f) s = execVfnmadd sm d a b m f s := rfl
theorem exec_vfnmsub sm d a b m f s : exec (.vfnmsub sm d a b m f) s = execVfnmsub sm d a b m f s := rfl
theorem exec_vfdot2 sm d a b m f s : exec (.vfdot2 sm d a b m f) s = execVfdot2 sm d a b m f s := rfl
theorem exec_vrsum sm d a m y s : exec (.vrsum sm d a m y) s = execVrsum sm d a m y s := rfl
theorem exec_vrmax sm d a m y s : exec (.vrmax sm d a m y) s = execVrmax sm d a m y s := rfl
theorem exec_vrmin sm d a m y s : exec (.vrmin sm d a m y) s = execVrmin sm d a m y s := rfl
theorem exec_vrargmax sm d a m y s : exec (.vrargmax sm d a m y) s = execVrargmax sm d a m y s := rfl
theorem exec_vrargmin sm d a m y s : exec (.vrargmin sm d a m y) s = execVrargmin sm d a m y s := rfl
theorem exec_vrband sm d a m y s : exec (.vrband sm d a m y) s = execVrband sm d a m y s := rfl
theorem exec_vrbor sm d a m y s : exec (.vrbor sm d a m y) s = execVrbor sm d a m y s := rfl
theorem exec_vrbxor sm d a m y s : exec (.vrbxor sm d a m y) s = execVrbxor sm d a m y s := rfl
theorem exec_vperm sm d a b m y s : exec (.vperm sm d a b m y) s = execVperm sm d a b m y s := rfl
theorem exec_vbcast sm d a m y s : exec (.vbcast sm d a m y) s = execVbcast sm d a m y s := rfl
theorem exec_vbcastx sm d a m y s : exec (.vbcastx sm d a m y) s = execVbcastx sm d a m y s := rfl
theorem exec_vrot sm d a b m y s : exec (.vrot sm d a b m y) s = execVrot sm d a b m y s := rfl
theorem exec_vcomp sm d a m y s : exec (.vcomp sm d a m y) s = execVcomp sm d a m y s := rfl
theorem exec_vexpd sm d a m y s : exec (.vexpd sm d a m y) s = execVexpd sm d a m y s := rfl
theorem exec_vinsx sm d a b y s : exec (.vinsx sm d a b y) s = execVinsx sm d a b y s := rfl
theorem exec_vextx sm d a b y s : exec (.vextx sm d a b y) s = execVextx sm d a b y s := rfl
theorem exec_vcmpEq sm d a b m y s : exec (.vcmpEq sm d a b m y) s = execVcmpEq sm d a b m y s := rfl
theorem exec_vcmpNe sm d a b m y s : exec (.vcmpNe sm d a b m y) s = execVcmpNe sm d a b m y s := rfl
theorem exec_vcmpLt sm d a b m y s : exec (.vcmpLt sm d a b m y) s = execVcmpLt sm d a b m y s := rfl
theorem exec_vcmpLe sm d a b m y s : exec (.vcmpLe sm d a b m y) s = execVcmpLe sm d a b m y s := rfl
theorem exec_vcmpGt sm d a b m y s : exec (.vcmpGt sm d a b m y) s = execVcmpGt sm d a b m y s := rfl
theorem exec_vcmpGe sm d a b m y s : exec (.vcmpGe sm d a b m y) s = execVcmpGe sm d a b m y s := rfl
theorem exec_vcmpUnord sm d a b m s : exec (.vcmpUnord sm d a b m) s = execVcmpUnord sm d a b m s := rfl
theorem exec_vcvtFi sm d a m y s : exec (.vcvtFi sm d a m y) s = execVcvtFi sm d a m y s := rfl
theorem exec_vcvtIf sm d a m y s : exec (.vcvtIf sm d a m y) s = execVcvtIf sm d a m y s := rfl
theorem exec_vcvtNar sm d a b m y s : exec (.vcvtNar sm d a b m y) s = execVcvtNar sm d a b m y s := rfl
theorem exec_vcvtWid sm d a q m y s : exec (.vcvtWid sm d a q m y) s = execVcvtWid sm d a q m y s := rfl
theorem exec_vcvtEt8 sm d a q m s : exec (.vcvtEt8 sm d a q m) s = execVcvtEt8 sm d a q m s := rfl
theorem exec_vcvtDt8 sm d a q m s : exec (.vcvtDt8 sm d a q m) s = execVcvtDt8 sm d a q m s := rfl
theorem exec_vcvtEt4 sm d a q m s : exec (.vcvtEt4 sm d a q m) s = execVcvtEt4 sm d a q m s := rfl
theorem exec_vcvtDt4 sm d a q m s : exec (.vcvtDt4 sm d a q m) s = execVcvtDt4 sm d a q m s := rfl
theorem exec_vexp2 sm d a m f s : exec (.vexp2 sm d a m f) s = execVexp2 sm d a m f s := rfl
theorem exec_vlog2 sm d a m f s : exec (.vlog2 sm d a m f) s = execVlog2 sm d a m f s := rfl
theorem exec_vrcp sm d a m f s : exec (.vrcp sm d a m f) s = execVrcp sm d a m f s := rfl
theorem exec_vrsqrt sm d a m f s : exec (.vrsqrt sm d a m f) s = execVrsqrt sm d a m f s := rfl
theorem exec_vsqrt sm d a m f s : exec (.vsqrt sm d a m f) s = execVsqrt sm d a m f s := rfl
theorem exec_vtanh sm d a m f s : exec (.vtanh sm d a m f) s = execVtanh sm d a m f s := rfl
theorem exec_vsigm sm d a m f s : exec (.vsigm sm d a m f) s = execVsigm sm d a m f s := rfl
theorem exec_vgelu sm d a m f s : exec (.vgelu sm d a m f) s = execVgelu sm d a m f s := rfl
theorem exec_mand sm d a b s : exec (.mand sm d a b) s = execMand sm d a b s := rfl
theorem exec_mor sm d a b s : exec (.mor sm d a b) s = execMor sm d a b s := rfl
theorem exec_mxor sm d a b s : exec (.mxor sm d a b) s = execMxor sm d a b s := rfl
theorem exec_mandn sm d a b s : exec (.mandn sm d a b) s = execMandn sm d a b s := rfl
theorem exec_mnot sm d a s : exec (.mnot sm d a) s = execMnot sm d a s := rfl
theorem exec_mfirst sm d a s : exec (.mfirst sm d a) s = execMfirst sm d a s := rfl
theorem exec_mfromx sm d a s : exec (.mfromx sm d a) s = execMfromx sm d a s := rfl
theorem exec_mtox sm d a s : exec (.mtox sm d a) s = execMtox sm d a s := rfl
theorem exec_mmaH sm c k z a b f r s : exec (.mmaH sm c k z a b f r) s = execMmaH sm c k z a b f r s := rfl
theorem exec_mmaB sm c k z a b f r s : exec (.mmaB sm c k z a b f r) s = execMmaB sm c k z a b f r s := rfl
theorem exec_mmaT8 sm c k z a b f r s : exec (.mmaT8 sm c k z a b f r) s = execMmaT8 sm c k z a b f r s := rfl
theorem exec_mmaT84 sm c k z a b f r s : exec (.mmaT84 sm c k z a b f r) s = execMmaT84 sm c k z a b f r s := rfl
theorem exec_mmaT4 sm c k z a b f r s : exec (.mmaT4 sm c k z a b f r) s = execMmaT4 sm c k z a b f r s := rfl
theorem exec_mmaI8 sm c k z a b t s : exec (.mmaI8 sm c k z a b t) s = execMmaI8 sm c k z a b t s := rfl
theorem exec_mzero sm d s : exec (.mzero sm d) s = execMzero sm d s := rfl
theorem exec_medge sm a t s : exec (.medge sm a t) s = execMedge sm a t s := rfl
theorem exec_mrowr sm d a b u s : exec (.mrowr sm d a b u) s = execMrowr sm d a b u s := rfl
theorem exec_mroww sm d a b t u s : exec (.mroww sm d a b t u) s = execMroww sm d a b t u s := rfl
theorem exec_hbind sm d a b t s : exec (.hbind sm d a b t) s = execHbind sm d a b t s := rfl
theorem exec_hperm sm d a t im s : exec (.hperm sm d a t im) s = execHperm sm d a t im s := rfl
theorem exec_hnot sm d a t s : exec (.hnot sm d a t) s = execHnot sm d a t s := rfl
theorem exec_hmov sm d a t s : exec (.hmov sm d a t) s = execHmov sm d a t s := rfl
theorem exec_hbundle sm a b t s : exec (.hbundle sm a b t) s = execHbundle sm a b t s := rfl
theorem exec_hclr sm b s : exec (.hclr sm b) s = execHclr sm b s := rfl
theorem exec_hthr sm d a b t s : exec (.hthr sm d a b t) s = execHthr sm d a b t s := rfl
theorem exec_hdist sm a b t d s : exec (.hdist sm a b t d) s = execHdist sm a b t d s := rfl
theorem exec_hpop sm a t d s : exec (.hpop sm a t d) s = execHpop sm a t d s := rfl
theorem exec_noise sm d a b m s : exec (.noise sm d a b m) s = execNoise sm d a b m s := rfl
theorem exec_chash sm d a b s : exec (.chash sm d a b) s = execChash sm d a b s := rfl
theorem exec_chashLd sm d b s : exec (.chashLd sm d b) s = execChashLd sm d b s := rfl
theorem exec_chashSt sm a b s : exec (.chashSt sm a b) s = execChashSt sm a b s := rfl
theorem exec_hrand sm d a s : exec (.hrand sm d a) s = execHrand sm d a s := rfl
theorem exec_rseed sm a s : exec (.rseed sm a) s = execRseed sm a s := rfl
theorem exec_rbits sm d s : exec (.rbits sm d) s = execRbits sm d s := rfl
theorem exec_spoutPortPush c a s : exec (.spoutPortPush c a) s = execSpoutPortPush c a s := rfl
theorem exec_longLatencyWrite c n s : exec (.longLatencyWrite c n) s = execLongLatencyWrite c n s := rfl
theorem exec_slotFillComplete core slot s : exec (.slotFillComplete core slot) s = execSlotFillComplete core slot s := rfl
theorem exec_postedStoreAck c n s : exec (.postedStoreAck c n) s = execPostedStoreAck c n s := rfl
theorem exec_waitaWake c s : exec (.waitaWake c) s = execWaitaWake c s := rfl
theorem exec_haltComplete c s : exec (.haltComplete c) s = execHaltComplete c s := rfl
theorem exec_batchWindowExpiry g kid layer s : exec (.batchWindowExpiry g kid layer) s = execBatchWindowExpiry g kid layer s := rfl
theorem exec_layerTaskStart c s : exec (.layerTaskStart c) s = execLayerTaskStart c s := rfl
theorem exec_backgroundSpill g s : exec (.backgroundSpill g) s = execBackgroundSpill g s := rfl
theorem exec_spillComplete g entry s : exec (.spillComplete g entry) s = execSpillComplete g entry s := rfl
theorem exec_reloadComplete g entry s : exec (.reloadComplete g entry) s = execReloadComplete g entry s := rfl
theorem exec_seedPacketArrival a s : exec (.seedPacketArrival a) s = execSeedPacketArrival a s := rfl
theorem exec_seedAck a s : exec (.seedAck a) s = execSeedAck a s := rfl
theorem exec_forwardingExpiry g n s : exec (.forwardingExpiry g n) s = execForwardingExpiry g n s := rfl
theorem exec_remoteStreamRequest a s : exec (.remoteStreamRequest a) s = execRemoteStreamRequest a s := rfl
theorem exec_remoteReply a s : exec (.remoteReply a) s = execRemoteReply a s := rfl
theorem exec_familyReport a s : exec (.familyReport a) s = execFamilyReport a s := rfl
theorem exec_joinDeadline g n s : exec (.joinDeadline g n) s = execJoinDeadline g n s := rfl
theorem exec_retireOrder a s : exec (.retireOrder a) s = execRetireOrder a s := rfl
theorem exec_remoteJoinRequest a s : exec (.remoteJoinRequest a) s = execRemoteJoinRequest a s := rfl
theorem exec_messageArrival a s : exec (.messageArrival a) s = execMessageArrival a s := rfl
theorem exec_timetableRelease die e s : exec (.timetableRelease die e) s = execTimetableRelease die e s := rfl
theorem exec_contributionArrival a s : exec (.contributionArrival a) s = execContributionArrival a s := rfl
theorem exec_cbrResult c s : exec (.cbrResult c) s = execCbrResult c s := rfl
theorem exec_roundTimeout group s : exec (.roundTimeout group) s = execRoundTimeout group s := rfl
theorem exec_copyStart g n s : exec (.copyStart g n) s = execCopyStart g n s := rfl
theorem exec_copyComplete g n s : exec (.copyComplete g n) s = execCopyComplete g n s := rfl
theorem exec_cancelAck g n s : exec (.cancelAck g n) s = execCancelAck g n s := rfl
theorem exec_whiskContributionArrival a s : exec (.whiskContributionArrival a) s = execWhiskContributionArrival a s := rfl
theorem exec_remoteMemoryRequest r s : exec (.remoteMemoryRequest r) s = execRemoteMemoryRequest r s := rfl
theorem exec_hostAtomicUr c s : exec (.hostAtomicUr c) s = execHostAtomicUr c s := rfl
theorem exec_pageMigration vf va src dst bytes ptes s : exec (.pageMigration vf va src dst bytes ptes) s = execPageMigration vf va src dst bytes ptes s := rfl
theorem exec_retryFaultLaunch g tag s : exec (.retryFaultLaunch g tag) s = execRetryFaultLaunch g tag s := rfl
theorem exec_pageService c ptes resolved s : exec (.pageService c ptes resolved) s = execPageService c ptes resolved s := rfl
theorem exec_setvec c s : exec (.setvec c) s = execSetvec c s := rfl
theorem exec_event c s : exec (.event c) s = execEvent c s := rfl
theorem exec_replyTimeout c s : exec (.replyTimeout c) s = execReplyTimeout c s := rfl
theorem exec_ackLost c n s : exec (.ackLost c n) s = execAckLost c n s := rfl
theorem exec_selfTestComplete u pass s : exec (.selfTestComplete u pass) s = execSelfTestComplete u pass s := rfl
theorem exec_deadlockScan s : exec .deadlockScan s = execDeadlockScan s := rfl
theorem exec_schedulingPass plan s : exec (.schedulingPass plan) s = execSchedulingPass plan s := rfl
theorem exec_gangReservation launch s : exec (.gangReservation launch) s = execGangReservation launch s := rfl
theorem exec_infusionComplete die launch s : exec (.infusionComplete die launch) s = execInfusionComplete die launch s := rfl
theorem exec_taskStart c s : exec (.taskStart c) s = execTaskStart c s := rfl
theorem exec_gangSwitchPost p t cut s : exec (.gangSwitchPost p t cut) s = execGangSwitchPost p t cut s := rfl
theorem exec_gangSwitchStop p s : exec (.gangSwitchStop p) s = execGangSwitchStop p s := rfl
theorem exec_partitionSave p next s : exec (.partitionSave p next) s = execPartitionSave p next s := rfl
theorem exec_partitionResume p place s : exec (.partitionResume p place) s = execPartitionResume p place s := rfl
theorem exec_cutEvaluation p others s : exec (.cutEvaluation p others) s = execCutEvaluation p others s := rfl
theorem exec_heartbeat missed s : exec (.heartbeat missed) s = execHeartbeat missed s := rfl
theorem exec_domainRecovery failed standby s : exec (.domainRecovery failed standby) s = execDomainRecovery failed standby s := rfl
theorem exec_linkFailure port s : exec (.linkFailure port) s = execLinkFailure port s := rfl
theorem exec_submit vf addr s : exec (.submit vf addr) s = execSubmit vf addr s := rfl
theorem exec_statusq vf lid s : exec (.statusq vf lid) s = execStatusq vf lid s := rfl
theorem exec_evtail vf val s : exec (.evtail vf val) s = execEvtail vf val s := rfl
theorem exec_vfRegisterWrite w s : exec (.vfRegisterWrite w) s = execVfRegisterWrite w s := rfl
theorem exec_bar2Read vf va size s : exec (.bar2Read vf va size) s = execBar2Read vf va size s := rfl
theorem exec_bar2Write vf va bytes s : exec (.bar2Write vf va bytes) s = execBar2Write vf va bytes s := rfl
theorem exec_regionRegister r s : exec (.regionRegister r) s = execRegionRegister r s := rfl
theorem exec_regionDeregister region nonce sig s : exec (.regionDeregister region nonce sig) s = execRegionDeregister region nonce sig s := rfl
theorem exec_meterReportRequest vf region nonce s : exec (.meterReportRequest vf region nonce) s = execMeterReportRequest vf region nonce s := rfl
theorem exec_handover r s : exec (.handover r) s = execHandover r s := rfl
theorem exec_mailboxAttest vf nonce s : exec (.mailboxAttest vf nonce) s = execMailboxAttest vf nonce s := rfl
theorem exec_okeySet vf key s : exec (.okeySet vf key) s = execOkeySet vf key s := rfl
theorem exec_homeDescriptorSet vf idx val s : exec (.homeDescriptorSet vf idx val) s = execHomeDescriptorSet vf idx val s := rfl
theorem exec_stashSizeSet vf core kib s : exec (.stashSizeSet vf core kib) s = execStashSizeSet vf core kib s := rfl
theorem exec_ceilingPersist region isBytes s : exec (.ceilingPersist region isBytes) s = execCeilingPersist region isBytes s := rfl
theorem exec_sensors s : exec .sensors s = execSensors s := rfl
theorem exec_fences s : exec .fences s = execFences s := rfl
theorem exec_attest nonce s : exec (.attest nonce) s = execAttest nonce s := rfl
theorem exec_meter region nonce s : exec (.meter region nonce) s = execMeter region nonce s := rfl
theorem exec_powercap watts s : exec (.powercap watts) s = execPowercap watts s := rfl
theorem exec_debugAttach vf infuse s : exec (.debugAttach vf infuse) s = execDebugAttach vf infuse s := rfl
theorem exec_debugDetach vf s : exec (.debugDetach vf) s = execDebugDetach vf s := rfl
theorem exec_deploy val sig s : exec (.deploy val sig) s = execDeploy val sig s := rfl
theorem exec_reset s : exec .reset s = execReset s := rfl
theorem exec_firmwareStage f s : exec (.firmwareStage f) s = execFirmwareStage f s := rfl
theorem exec_powerGood s : exec .powerGood s = execPowerGood s := rfl
theorem exec_stage1 failed s : exec (.stage1 failed) s = execStage1 failed s := rfl
theorem exec_stage2 failed s : exec (.stage2 failed) s = execStage2 failed s := rfl
theorem exec_stageTimeout s : exec .stageTimeout s = execStageTimeout s := rfl
theorem exec_railFault rail s : exec (.railFault rail) s = execRailFault rail s := rfl
theorem exec_thermalThrottle temps watts s : exec (.thermalThrottle temps watts) s = execThermalThrottle temps watts s := rfl
theorem exec_dieOvertemp die s : exec (.dieOvertemp die) s = execDieOvertemp die s := rfl
theorem exec_dieCooled die failed s : exec (.dieCooled die failed) s = execDieCooled die failed s := rfl
theorem exec_homeSlicePerform c s : exec (.homeSlicePerform c) s = execHomeSlicePerform c s := rfl
theorem exec_podRequestServed g s : exec (.podRequestServed g) s = execPodRequestServed g s := rfl
theorem exec_uncorrectableError at_ s : exec (.uncorrectableError at_) s = execUncorrectableError at_ s := rfl
theorem exec_correctedError u s : exec (.correctedError u) s = execCorrectedError u s := rfl
theorem exec_hostAgentAccess a s : exec (.hostAgentAccess a) s = execHostAgentAccess a s := rfl
theorem exec_expanderLinkDown port s : exec (.expanderLinkDown port) s = execExpanderLinkDown port s := rfl
theorem exec_orderlyShutdown s : exec .orderlyShutdown s = execOrderlyShutdown s := rfl
theorem exec_mappingChange vf va ptes s : exec (.mappingChange vf va ptes) s = execMappingChange vf va ptes s := rfl
theorem exec_debuggerResume c s : exec (.debuggerResume c) s = execDebuggerResume c s := rfl

end Sys2Proof.Machine
end

