-- ==== Sys2Proof/Laws/State.lean ====
section
/-! SUPPORT. One lemma for each field of State under each named update, and the reading of a table after a write. -/

namespace Sys2Proof

theorem tabGet_tabSet_same {α : Type} (d : α) (k : Nat) (v : α) (t : Tab α) : tabGet d (tabSet k v t) k = v := by
  induction t with
  | nil => simp [tabSet, tabGet]
  | cons p t ih =>
    obtain ⟨j, u⟩ := p
    simp only [tabSet]
    split
    · simp [tabGet]
    · split
      · simp [tabGet]
      · rename_i h _
        simp [tabGet, Ne.symm h, ih]

theorem tabGet_tabSet_ne {α : Type} (d : α) {k j : Nat} (h : j ≠ k) (v : α) (t : Tab α) :
    tabGet d (tabSet k v t) j = tabGet d t j := by
  induction t with
  | nil => simp [tabSet, tabGet, Ne.symm h]
  | cons p t ih =>
    obtain ⟨i, u⟩ := p
    simp only [tabSet]
    split
    · rename_i e
      subst e
      simp [tabGet, Ne.symm h]
    · split
      · simp [tabGet, Ne.symm h]
      · simp only [tabGet]
        rw [ih]

theorem tabFind_tabSet_same {α : Type} (k : Nat) (v : α) (t : Tab α) : tabFind (tabSet k v t) k = some v := by
  induction t with
  | nil => simp [tabSet, tabFind]
  | cons p t ih =>
    obtain ⟨j, u⟩ := p
    simp only [tabSet]
    split
    · simp [tabFind]
    · split
      · simp [tabFind]
      · rename_i h _
        simp [tabFind, Ne.symm h, ih]

theorem tabSet_tabSet {α : Type} (k : Nat) (u v : α) (t : Tab α) : tabSet k v (tabSet k u t) = tabSet k v t := by
  induction t with
  | nil => simp [tabSet]
  | cons p t ih =>
    obtain ⟨j, w⟩ := p
    simp only [tabSet]
    split
    · simp [tabSet]
    · split
      · simp [tabSet]
      · rename_i h1 h2
        simp [tabSet, h1, h2, ih]

namespace Machine

/-! setCtx -/

@[simp] theorem State.setCtx_cur (s : State) (c : Nat) (x : Ctx) : (s.setCtx c x).cur = s.cur := rfl
@[simp] theorem State.setCtx_unit (s : State) (c : Nat) (x : Ctx) : (s.setCtx c x).unit = s.unit := rfl
@[simp] theorem State.setCtx_tick (s : State) (c : Nat) (x : Ctx) : (s.setCtx c x).tick = s.tick := rfl
@[simp] theorem State.setCtx_freeIx (s : State) (c : Nat) (x : Ctx) : (s.setCtx c x).freeIx = s.freeIx := rfl
@[simp] theorem State.setCtx_agenda (s : State) (c : Nat) (x : Ctx) : (s.setCtx c x).agenda = s.agenda := rfl
@[simp] theorem State.setCtx_mem (s : State) (c : Nat) (x : Ctx) : (s.setCtx c x).mem = s.mem := rfl
@[simp] theorem State.setCtx_memPoison (s : State) (c : Nat) (x : Ctx) : (s.setCtx c x).memPoison = s.memPoison := rfl
@[simp] theorem State.setCtx_cachePoison (s : State) (c : Nat) (x : Ctx) : (s.setCtx c x).cachePoison = s.cachePoison := rfl
@[simp] theorem State.setCtx_invals (s : State) (c : Nat) (x : Ctx) : (s.setCtx c x).invals = s.invals := rfl
@[simp] theorem State.setCtx_moving (s : State) (c : Nat) (x : Ctx) : (s.setCtx c x).moving = s.moving := rfl
@[simp] theorem State.setCtx_ctxs (s : State) (c : Nat) (x : Ctx) : (s.setCtx c x).ctxs = tabSet c x s.ctxs := rfl
@[simp] theorem State.setCtx_places (s : State) (c : Nat) (x : Ctx) : (s.setCtx c x).places = s.places := rfl
@[simp] theorem State.setCtx_binds (s : State) (c : Nat) (x : Ctx) : (s.setCtx c x).binds = s.binds := rfl
@[simp] theorem State.setCtx_cores (s : State) (c : Nat) (x : Ctx) : (s.setCtx c x).cores = s.cores := rfl
@[simp] theorem State.setCtx_groves (s : State) (c : Nat) (x : Ctx) : (s.setCtx c x).groves = s.groves := rfl
@[simp] theorem State.setCtx_dies (s : State) (c : Nat) (x : Ctx) : (s.setCtx c x).dies = s.dies := rfl
@[simp] theorem State.setCtx_launches (s : State) (c : Nat) (x : Ctx) : (s.setCtx c x).launches = s.launches := rfl
@[simp] theorem State.setCtx_nextNum (s : State) (c : Nat) (x : Ctx) : (s.setCtx c x).nextNum = s.nextNum := rfl
@[simp] theorem State.setCtx_vfs (s : State) (c : Nat) (x : Ctx) : (s.setCtx c x).vfs = s.vfs := rfl
@[simp] theorem State.setCtx_rr (s : State) (c : Nat) (x : Ctx) : (s.setCtx c x).rr = s.rr := rfl
@[simp] theorem State.setCtx_groups (s : State) (c : Nat) (x : Ctx) : (s.setCtx c x).groups = s.groups := rfl
@[simp] theorem State.setCtx_nextGang (s : State) (c : Nat) (x : Ctx) : (s.setCtx c x).nextGang = s.nextGang := rfl
@[simp] theorem State.setCtx_groupDir (s : State) (c : Nat) (x : Ctx) : (s.setCtx c x).groupDir = s.groupDir := rfl
@[simp] theorem State.setCtx_awayFull (s : State) (c : Nat) (x : Ctx) : (s.setCtx c x).awayFull = s.awayFull := rfl
@[simp] theorem State.setCtx_quotas (s : State) (c : Nat) (x : Ctx) : (s.setCtx c x).quotas = s.quotas := rfl
@[simp] theorem State.setCtx_parts (s : State) (c : Nat) (x : Ctx) : (s.setCtx c x).parts = s.parts := rfl
@[simp] theorem State.setCtx_forwards (s : State) (c : Nat) (x : Ctx) : (s.setCtx c x).forwards = s.forwards := rfl
@[simp] theorem State.setCtx_scanned (s : State) (c : Nat) (x : Ctx) : (s.setCtx c x).scanned = s.scanned := rfl
@[simp] theorem State.setCtx_knots (s : State) (c : Nat) (x : Ctx) : (s.setCtx c x).knots = s.knots := rfl
@[simp] theorem State.setCtx_reported (s : State) (c : Nat) (x : Ctx) : (s.setCtx c x).reported = s.reported := rfl
@[simp] theorem State.setCtx_net (s : State) (c : Nat) (x : Ctx) : (s.setCtx c x).net = s.net := rfl
@[simp] theorem State.setCtx_flows (s : State) (c : Nat) (x : Ctx) : (s.setCtx c x).flows = s.flows := rfl
@[simp] theorem State.setCtx_early (s : State) (c : Nat) (x : Ctx) : (s.setCtx c x).early = s.early := rfl
@[simp] theorem State.setCtx_leafOut (s : State) (c : Nat) (x : Ctx) : (s.setCtx c x).leafOut = s.leafOut := rfl
@[simp] theorem State.setCtx_hostOut (s : State) (c : Nat) (x : Ctx) : (s.setCtx c x).hostOut = s.hostOut := rfl
@[simp] theorem State.setCtx_sencha (s : State) (c : Nat) (x : Ctx) : (s.setCtx c x).sencha = s.sencha := rfl
@[simp] theorem State.setCtx_mgmt (s : State) (c : Nat) (x : Ctx) : (s.setCtx c x).mgmt = s.mgmt := rfl

/-! setPlace -/

@[simp] theorem State.setPlace_cur (s : State) (c : Nat) (x : Place) : (s.setPlace c x).cur = s.cur := rfl
@[simp] theorem State.setPlace_unit (s : State) (c : Nat) (x : Place) : (s.setPlace c x).unit = s.unit := rfl
@[simp] theorem State.setPlace_tick (s : State) (c : Nat) (x : Place) : (s.setPlace c x).tick = s.tick := rfl
@[simp] theorem State.setPlace_freeIx (s : State) (c : Nat) (x : Place) : (s.setPlace c x).freeIx = s.freeIx := rfl
@[simp] theorem State.setPlace_agenda (s : State) (c : Nat) (x : Place) : (s.setPlace c x).agenda = s.agenda := rfl
@[simp] theorem State.setPlace_mem (s : State) (c : Nat) (x : Place) : (s.setPlace c x).mem = s.mem := rfl
@[simp] theorem State.setPlace_memPoison (s : State) (c : Nat) (x : Place) : (s.setPlace c x).memPoison = s.memPoison := rfl
@[simp] theorem State.setPlace_cachePoison (s : State) (c : Nat) (x : Place) : (s.setPlace c x).cachePoison = s.cachePoison := rfl
@[simp] theorem State.setPlace_invals (s : State) (c : Nat) (x : Place) : (s.setPlace c x).invals = s.invals := rfl
@[simp] theorem State.setPlace_moving (s : State) (c : Nat) (x : Place) : (s.setPlace c x).moving = s.moving := rfl
@[simp] theorem State.setPlace_ctxs (s : State) (c : Nat) (x : Place) : (s.setPlace c x).ctxs = s.ctxs := rfl
@[simp] theorem State.setPlace_places (s : State) (c : Nat) (x : Place) : (s.setPlace c x).places = tabSet c x s.places := rfl
@[simp] theorem State.setPlace_binds (s : State) (c : Nat) (x : Place) : (s.setPlace c x).binds = s.binds := rfl
@[simp] theorem State.setPlace_cores (s : State) (c : Nat) (x : Place) : (s.setPlace c x).cores = s.cores := rfl
@[simp] theorem State.setPlace_groves (s : State) (c : Nat) (x : Place) : (s.setPlace c x).groves = s.groves := rfl
@[simp] theorem State.setPlace_dies (s : State) (c : Nat) (x : Place) : (s.setPlace c x).dies = s.dies := rfl
@[simp] theorem State.setPlace_launches (s : State) (c : Nat) (x : Place) : (s.setPlace c x).launches = s.launches := rfl
@[simp] theorem State.setPlace_nextNum (s : State) (c : Nat) (x : Place) : (s.setPlace c x).nextNum = s.nextNum := rfl
@[simp] theorem State.setPlace_vfs (s : State) (c : Nat) (x : Place) : (s.setPlace c x).vfs = s.vfs := rfl
@[simp] theorem State.setPlace_rr (s : State) (c : Nat) (x : Place) : (s.setPlace c x).rr = s.rr := rfl
@[simp] theorem State.setPlace_groups (s : State) (c : Nat) (x : Place) : (s.setPlace c x).groups = s.groups := rfl
@[simp] theorem State.setPlace_nextGang (s : State) (c : Nat) (x : Place) : (s.setPlace c x).nextGang = s.nextGang := rfl
@[simp] theorem State.setPlace_groupDir (s : State) (c : Nat) (x : Place) : (s.setPlace c x).groupDir = s.groupDir := rfl
@[simp] theorem State.setPlace_awayFull (s : State) (c : Nat) (x : Place) : (s.setPlace c x).awayFull = s.awayFull := rfl
@[simp] theorem State.setPlace_quotas (s : State) (c : Nat) (x : Place) : (s.setPlace c x).quotas = s.quotas := rfl
@[simp] theorem State.setPlace_parts (s : State) (c : Nat) (x : Place) : (s.setPlace c x).parts = s.parts := rfl
@[simp] theorem State.setPlace_forwards (s : State) (c : Nat) (x : Place) : (s.setPlace c x).forwards = s.forwards := rfl
@[simp] theorem State.setPlace_scanned (s : State) (c : Nat) (x : Place) : (s.setPlace c x).scanned = s.scanned := rfl
@[simp] theorem State.setPlace_knots (s : State) (c : Nat) (x : Place) : (s.setPlace c x).knots = s.knots := rfl
@[simp] theorem State.setPlace_reported (s : State) (c : Nat) (x : Place) : (s.setPlace c x).reported = s.reported := rfl
@[simp] theorem State.setPlace_net (s : State) (c : Nat) (x : Place) : (s.setPlace c x).net = s.net := rfl
@[simp] theorem State.setPlace_flows (s : State) (c : Nat) (x : Place) : (s.setPlace c x).flows = s.flows := rfl
@[simp] theorem State.setPlace_early (s : State) (c : Nat) (x : Place) : (s.setPlace c x).early = s.early := rfl
@[simp] theorem State.setPlace_leafOut (s : State) (c : Nat) (x : Place) : (s.setPlace c x).leafOut = s.leafOut := rfl
@[simp] theorem State.setPlace_hostOut (s : State) (c : Nat) (x : Place) : (s.setPlace c x).hostOut = s.hostOut := rfl
@[simp] theorem State.setPlace_sencha (s : State) (c : Nat) (x : Place) : (s.setPlace c x).sencha = s.sencha := rfl
@[simp] theorem State.setPlace_mgmt (s : State) (c : Nat) (x : Place) : (s.setPlace c x).mgmt = s.mgmt := rfl

/-! setCore -/

@[simp] theorem State.setCore_cur (s : State) (k : Nat) (x : Core) : (s.setCore k x).cur = s.cur := rfl
@[simp] theorem State.setCore_unit (s : State) (k : Nat) (x : Core) : (s.setCore k x).unit = s.unit := rfl
@[simp] theorem State.setCore_tick (s : State) (k : Nat) (x : Core) : (s.setCore k x).tick = s.tick := rfl
@[simp] theorem State.setCore_freeIx (s : State) (k : Nat) (x : Core) : (s.setCore k x).freeIx = s.freeIx := rfl
@[simp] theorem State.setCore_agenda (s : State) (k : Nat) (x : Core) : (s.setCore k x).agenda = s.agenda := rfl
@[simp] theorem State.setCore_mem (s : State) (k : Nat) (x : Core) : (s.setCore k x).mem = s.mem := rfl
@[simp] theorem State.setCore_memPoison (s : State) (k : Nat) (x : Core) : (s.setCore k x).memPoison = s.memPoison := rfl
@[simp] theorem State.setCore_cachePoison (s : State) (k : Nat) (x : Core) : (s.setCore k x).cachePoison = s.cachePoison := rfl
@[simp] theorem State.setCore_invals (s : State) (k : Nat) (x : Core) : (s.setCore k x).invals = s.invals := rfl
@[simp] theorem State.setCore_moving (s : State) (k : Nat) (x : Core) : (s.setCore k x).moving = s.moving := rfl
@[simp] theorem State.setCore_ctxs (s : State) (k : Nat) (x : Core) : (s.setCore k x).ctxs = s.ctxs := rfl
@[simp] theorem State.setCore_places (s : State) (k : Nat) (x : Core) : (s.setCore k x).places = s.places := rfl
@[simp] theorem State.setCore_binds (s : State) (k : Nat) (x : Core) : (s.setCore k x).binds = s.binds := rfl
@[simp] theorem State.setCore_cores (s : State) (k : Nat) (x : Core) : (s.setCore k x).cores = tabSet k x s.cores := rfl
@[simp] theorem State.setCore_groves (s : State) (k : Nat) (x : Core) : (s.setCore k x).groves = s.groves := rfl
@[simp] theorem State.setCore_dies (s : State) (k : Nat) (x : Core) : (s.setCore k x).dies = s.dies := rfl
@[simp] theorem State.setCore_launches (s : State) (k : Nat) (x : Core) : (s.setCore k x).launches = s.launches := rfl
@[simp] theorem State.setCore_nextNum (s : State) (k : Nat) (x : Core) : (s.setCore k x).nextNum = s.nextNum := rfl
@[simp] theorem State.setCore_vfs (s : State) (k : Nat) (x : Core) : (s.setCore k x).vfs = s.vfs := rfl
@[simp] theorem State.setCore_rr (s : State) (k : Nat) (x : Core) : (s.setCore k x).rr = s.rr := rfl
@[simp] theorem State.setCore_groups (s : State) (k : Nat) (x : Core) : (s.setCore k x).groups = s.groups := rfl
@[simp] theorem State.setCore_nextGang (s : State) (k : Nat) (x : Core) : (s.setCore k x).nextGang = s.nextGang := rfl
@[simp] theorem State.setCore_groupDir (s : State) (k : Nat) (x : Core) : (s.setCore k x).groupDir = s.groupDir := rfl
@[simp] theorem State.setCore_awayFull (s : State) (k : Nat) (x : Core) : (s.setCore k x).awayFull = s.awayFull := rfl
@[simp] theorem State.setCore_quotas (s : State) (k : Nat) (x : Core) : (s.setCore k x).quotas = s.quotas := rfl
@[simp] theorem State.setCore_parts (s : State) (k : Nat) (x : Core) : (s.setCore k x).parts = s.parts := rfl
@[simp] theorem State.setCore_forwards (s : State) (k : Nat) (x : Core) : (s.setCore k x).forwards = s.forwards := rfl
@[simp] theorem State.setCore_scanned (s : State) (k : Nat) (x : Core) : (s.setCore k x).scanned = s.scanned := rfl
@[simp] theorem State.setCore_knots (s : State) (k : Nat) (x : Core) : (s.setCore k x).knots = s.knots := rfl
@[simp] theorem State.setCore_reported (s : State) (k : Nat) (x : Core) : (s.setCore k x).reported = s.reported := rfl
@[simp] theorem State.setCore_net (s : State) (k : Nat) (x : Core) : (s.setCore k x).net = s.net := rfl
@[simp] theorem State.setCore_flows (s : State) (k : Nat) (x : Core) : (s.setCore k x).flows = s.flows := rfl
@[simp] theorem State.setCore_early (s : State) (k : Nat) (x : Core) : (s.setCore k x).early = s.early := rfl
@[simp] theorem State.setCore_leafOut (s : State) (k : Nat) (x : Core) : (s.setCore k x).leafOut = s.leafOut := rfl
@[simp] theorem State.setCore_hostOut (s : State) (k : Nat) (x : Core) : (s.setCore k x).hostOut = s.hostOut := rfl
@[simp] theorem State.setCore_sencha (s : State) (k : Nat) (x : Core) : (s.setCore k x).sencha = s.sencha := rfl
@[simp] theorem State.setCore_mgmt (s : State) (k : Nat) (x : Core) : (s.setCore k x).mgmt = s.mgmt := rfl

/-! setGrove -/

@[simp] theorem State.setGrove_cur (s : State) (g : Nat) (x : Grove) : (s.setGrove g x).cur = s.cur := rfl
@[simp] theorem State.setGrove_unit (s : State) (g : Nat) (x : Grove) : (s.setGrove g x).unit = s.unit := rfl
@[simp] theorem State.setGrove_tick (s : State) (g : Nat) (x : Grove) : (s.setGrove g x).tick = s.tick := rfl
@[simp] theorem State.setGrove_freeIx (s : State) (g : Nat) (x : Grove) : (s.setGrove g x).freeIx = s.freeIx := rfl
@[simp] theorem State.setGrove_agenda (s : State) (g : Nat) (x : Grove) : (s.setGrove g x).agenda = s.agenda := rfl
@[simp] theorem State.setGrove_mem (s : State) (g : Nat) (x : Grove) : (s.setGrove g x).mem = s.mem := rfl
@[simp] theorem State.setGrove_memPoison (s : State) (g : Nat) (x : Grove) : (s.setGrove g x).memPoison = s.memPoison := rfl
@[simp] theorem State.setGrove_cachePoison (s : State) (g : Nat) (x : Grove) : (s.setGrove g x).cachePoison = s.cachePoison := rfl
@[simp] theorem State.setGrove_invals (s : State) (g : Nat) (x : Grove) : (s.setGrove g x).invals = s.invals := rfl
@[simp] theorem State.setGrove_moving (s : State) (g : Nat) (x : Grove) : (s.setGrove g x).moving = s.moving := rfl
@[simp] theorem State.setGrove_ctxs (s : State) (g : Nat) (x : Grove) : (s.setGrove g x).ctxs = s.ctxs := rfl
@[simp] theorem State.setGrove_places (s : State) (g : Nat) (x : Grove) : (s.setGrove g x).places = s.places := rfl
@[simp] theorem State.setGrove_binds (s : State) (g : Nat) (x : Grove) : (s.setGrove g x).binds = s.binds := rfl
@[simp] theorem State.setGrove_cores (s : State) (g : Nat) (x : Grove) : (s.setGrove g x).cores = s.cores := rfl
@[simp] theorem State.setGrove_groves (s : State) (g : Nat) (x : Grove) : (s.setGrove g x).groves = tabSet g x s.groves := rfl
@[simp] theorem State.setGrove_dies (s : State) (g : Nat) (x : Grove) : (s.setGrove g x).dies = s.dies := rfl
@[simp] theorem State.setGrove_launches (s : State) (g : Nat) (x : Grove) : (s.setGrove g x).launches = s.launches := rfl
@[simp] theorem State.setGrove_nextNum (s : State) (g : Nat) (x : Grove) : (s.setGrove g x).nextNum = s.nextNum := rfl
@[simp] theorem State.setGrove_vfs (s : State) (g : Nat) (x : Grove) : (s.setGrove g x).vfs = s.vfs := rfl
@[simp] theorem State.setGrove_rr (s : State) (g : Nat) (x : Grove) : (s.setGrove g x).rr = s.rr := rfl
@[simp] theorem State.setGrove_groups (s : State) (g : Nat) (x : Grove) : (s.setGrove g x).groups = s.groups := rfl
@[simp] theorem State.setGrove_nextGang (s : State) (g : Nat) (x : Grove) : (s.setGrove g x).nextGang = s.nextGang := rfl
@[simp] theorem State.setGrove_groupDir (s : State) (g : Nat) (x : Grove) : (s.setGrove g x).groupDir = s.groupDir := rfl
@[simp] theorem State.setGrove_awayFull (s : State) (g : Nat) (x : Grove) : (s.setGrove g x).awayFull = s.awayFull := rfl
@[simp] theorem State.setGrove_quotas (s : State) (g : Nat) (x : Grove) : (s.setGrove g x).quotas = s.quotas := rfl
@[simp] theorem State.setGrove_parts (s : State) (g : Nat) (x : Grove) : (s.setGrove g x).parts = s.parts := rfl
@[simp] theorem State.setGrove_forwards (s : State) (g : Nat) (x : Grove) : (s.setGrove g x).forwards = s.forwards := rfl
@[simp] theorem State.setGrove_scanned (s : State) (g : Nat) (x : Grove) : (s.setGrove g x).scanned = s.scanned := rfl
@[simp] theorem State.setGrove_knots (s : State) (g : Nat) (x : Grove) : (s.setGrove g x).knots = s.knots := rfl
@[simp] theorem State.setGrove_reported (s : State) (g : Nat) (x : Grove) : (s.setGrove g x).reported = s.reported := rfl
@[simp] theorem State.setGrove_net (s : State) (g : Nat) (x : Grove) : (s.setGrove g x).net = s.net := rfl
@[simp] theorem State.setGrove_flows (s : State) (g : Nat) (x : Grove) : (s.setGrove g x).flows = s.flows := rfl
@[simp] theorem State.setGrove_early (s : State) (g : Nat) (x : Grove) : (s.setGrove g x).early = s.early := rfl
@[simp] theorem State.setGrove_leafOut (s : State) (g : Nat) (x : Grove) : (s.setGrove g x).leafOut = s.leafOut := rfl
@[simp] theorem State.setGrove_hostOut (s : State) (g : Nat) (x : Grove) : (s.setGrove g x).hostOut = s.hostOut := rfl
@[simp] theorem State.setGrove_sencha (s : State) (g : Nat) (x : Grove) : (s.setGrove g x).sencha = s.sencha := rfl
@[simp] theorem State.setGrove_mgmt (s : State) (g : Nat) (x : Grove) : (s.setGrove g x).mgmt = s.mgmt := rfl

/-! setDie -/

@[simp] theorem State.setDie_cur (s : State) (d : Nat) (x : Die) : (s.setDie d x).cur = s.cur := rfl
@[simp] theorem State.setDie_unit (s : State) (d : Nat) (x : Die) : (s.setDie d x).unit = s.unit := rfl
@[simp] theorem State.setDie_tick (s : State) (d : Nat) (x : Die) : (s.setDie d x).tick = s.tick := rfl
@[simp] theorem State.setDie_freeIx (s : State) (d : Nat) (x : Die) : (s.setDie d x).freeIx = s.freeIx := rfl
@[simp] theorem State.setDie_agenda (s : State) (d : Nat) (x : Die) : (s.setDie d x).agenda = s.agenda := rfl
@[simp] theorem State.setDie_mem (s : State) (d : Nat) (x : Die) : (s.setDie d x).mem = s.mem := rfl
@[simp] theorem State.setDie_memPoison (s : State) (d : Nat) (x : Die) : (s.setDie d x).memPoison = s.memPoison := rfl
@[simp] theorem State.setDie_cachePoison (s : State) (d : Nat) (x : Die) : (s.setDie d x).cachePoison = s.cachePoison := rfl
@[simp] theorem State.setDie_invals (s : State) (d : Nat) (x : Die) : (s.setDie d x).invals = s.invals := rfl
@[simp] theorem State.setDie_moving (s : State) (d : Nat) (x : Die) : (s.setDie d x).moving = s.moving := rfl
@[simp] theorem State.setDie_ctxs (s : State) (d : Nat) (x : Die) : (s.setDie d x).ctxs = s.ctxs := rfl
@[simp] theorem State.setDie_places (s : State) (d : Nat) (x : Die) : (s.setDie d x).places = s.places := rfl
@[simp] theorem State.setDie_binds (s : State) (d : Nat) (x : Die) : (s.setDie d x).binds = s.binds := rfl
@[simp] theorem State.setDie_cores (s : State) (d : Nat) (x : Die) : (s.setDie d x).cores = s.cores := rfl
@[simp] theorem State.setDie_groves (s : State) (d : Nat) (x : Die) : (s.setDie d x).groves = s.groves := rfl
@[simp] theorem State.setDie_dies (s : State) (d : Nat) (x : Die) : (s.setDie d x).dies = tabSet d x s.dies := rfl
@[simp] theorem State.setDie_launches (s : State) (d : Nat) (x : Die) : (s.setDie d x).launches = s.launches := rfl
@[simp] theorem State.setDie_nextNum (s : State) (d : Nat) (x : Die) : (s.setDie d x).nextNum = s.nextNum := rfl
@[simp] theorem State.setDie_vfs (s : State) (d : Nat) (x : Die) : (s.setDie d x).vfs = s.vfs := rfl
@[simp] theorem State.setDie_rr (s : State) (d : Nat) (x : Die) : (s.setDie d x).rr = s.rr := rfl
@[simp] theorem State.setDie_groups (s : State) (d : Nat) (x : Die) : (s.setDie d x).groups = s.groups := rfl
@[simp] theorem State.setDie_nextGang (s : State) (d : Nat) (x : Die) : (s.setDie d x).nextGang = s.nextGang := rfl
@[simp] theorem State.setDie_groupDir (s : State) (d : Nat) (x : Die) : (s.setDie d x).groupDir = s.groupDir := rfl
@[simp] theorem State.setDie_awayFull (s : State) (d : Nat) (x : Die) : (s.setDie d x).awayFull = s.awayFull := rfl
@[simp] theorem State.setDie_quotas (s : State) (d : Nat) (x : Die) : (s.setDie d x).quotas = s.quotas := rfl
@[simp] theorem State.setDie_parts (s : State) (d : Nat) (x : Die) : (s.setDie d x).parts = s.parts := rfl
@[simp] theorem State.setDie_forwards (s : State) (d : Nat) (x : Die) : (s.setDie d x).forwards = s.forwards := rfl
@[simp] theorem State.setDie_scanned (s : State) (d : Nat) (x : Die) : (s.setDie d x).scanned = s.scanned := rfl
@[simp] theorem State.setDie_knots (s : State) (d : Nat) (x : Die) : (s.setDie d x).knots = s.knots := rfl
@[simp] theorem State.setDie_reported (s : State) (d : Nat) (x : Die) : (s.setDie d x).reported = s.reported := rfl
@[simp] theorem State.setDie_net (s : State) (d : Nat) (x : Die) : (s.setDie d x).net = s.net := rfl
@[simp] theorem State.setDie_flows (s : State) (d : Nat) (x : Die) : (s.setDie d x).flows = s.flows := rfl
@[simp] theorem State.setDie_early (s : State) (d : Nat) (x : Die) : (s.setDie d x).early = s.early := rfl
@[simp] theorem State.setDie_leafOut (s : State) (d : Nat) (x : Die) : (s.setDie d x).leafOut = s.leafOut := rfl
@[simp] theorem State.setDie_hostOut (s : State) (d : Nat) (x : Die) : (s.setDie d x).hostOut = s.hostOut := rfl
@[simp] theorem State.setDie_sencha (s : State) (d : Nat) (x : Die) : (s.setDie d x).sencha = s.sencha := rfl
@[simp] theorem State.setDie_mgmt (s : State) (d : Nat) (x : Die) : (s.setDie d x).mgmt = s.mgmt := rfl

/-! setVf -/

@[simp] theorem State.setVf_cur (s : State) (v : Nat) (x : Vf) : (s.setVf v x).cur = s.cur := rfl
@[simp] theorem State.setVf_unit (s : State) (v : Nat) (x : Vf) : (s.setVf v x).unit = s.unit := rfl
@[simp] theorem State.setVf_tick (s : State) (v : Nat) (x : Vf) : (s.setVf v x).tick = s.tick := rfl
@[simp] theorem State.setVf_freeIx (s : State) (v : Nat) (x : Vf) : (s.setVf v x).freeIx = s.freeIx := rfl
@[simp] theorem State.setVf_agenda (s : State) (v : Nat) (x : Vf) : (s.setVf v x).agenda = s.agenda := rfl
@[simp] theorem State.setVf_mem (s : State) (v : Nat) (x : Vf) : (s.setVf v x).mem = s.mem := rfl
@[simp] theorem State.setVf_memPoison (s : State) (v : Nat) (x : Vf) : (s.setVf v x).memPoison = s.memPoison := rfl
@[simp] theorem State.setVf_cachePoison (s : State) (v : Nat) (x : Vf) : (s.setVf v x).cachePoison = s.cachePoison := rfl
@[simp] theorem State.setVf_invals (s : State) (v : Nat) (x : Vf) : (s.setVf v x).invals = s.invals := rfl
@[simp] theorem State.setVf_moving (s : State) (v : Nat) (x : Vf) : (s.setVf v x).moving = s.moving := rfl
@[simp] theorem State.setVf_ctxs (s : State) (v : Nat) (x : Vf) : (s.setVf v x).ctxs = s.ctxs := rfl
@[simp] theorem State.setVf_places (s : State) (v : Nat) (x : Vf) : (s.setVf v x).places = s.places := rfl
@[simp] theorem State.setVf_binds (s : State) (v : Nat) (x : Vf) : (s.setVf v x).binds = s.binds := rfl
@[simp] theorem State.setVf_cores (s : State) (v : Nat) (x : Vf) : (s.setVf v x).cores = s.cores := rfl
@[simp] theorem State.setVf_groves (s : State) (v : Nat) (x : Vf) : (s.setVf v x).groves = s.groves := rfl
@[simp] theorem State.setVf_dies (s : State) (v : Nat) (x : Vf) : (s.setVf v x).dies = s.dies := rfl
@[simp] theorem State.setVf_launches (s : State) (v : Nat) (x : Vf) : (s.setVf v x).launches = s.launches := rfl
@[simp] theorem State.setVf_nextNum (s : State) (v : Nat) (x : Vf) : (s.setVf v x).nextNum = s.nextNum := rfl
@[simp] theorem State.setVf_vfs (s : State) (v : Nat) (x : Vf) : (s.setVf v x).vfs = tabSet v x s.vfs := rfl
@[simp] theorem State.setVf_rr (s : State) (v : Nat) (x : Vf) : (s.setVf v x).rr = s.rr := rfl
@[simp] theorem State.setVf_groups (s : State) (v : Nat) (x : Vf) : (s.setVf v x).groups = s.groups := rfl
@[simp] theorem State.setVf_nextGang (s : State) (v : Nat) (x : Vf) : (s.setVf v x).nextGang = s.nextGang := rfl
@[simp] theorem State.setVf_groupDir (s : State) (v : Nat) (x : Vf) : (s.setVf v x).groupDir = s.groupDir := rfl
@[simp] theorem State.setVf_awayFull (s : State) (v : Nat) (x : Vf) : (s.setVf v x).awayFull = s.awayFull := rfl
@[simp] theorem State.setVf_quotas (s : State) (v : Nat) (x : Vf) : (s.setVf v x).quotas = s.quotas := rfl
@[simp] theorem State.setVf_parts (s : State) (v : Nat) (x : Vf) : (s.setVf v x).parts = s.parts := rfl
@[simp] theorem State.setVf_forwards (s : State) (v : Nat) (x : Vf) : (s.setVf v x).forwards = s.forwards := rfl
@[simp] theorem State.setVf_scanned (s : State) (v : Nat) (x : Vf) : (s.setVf v x).scanned = s.scanned := rfl
@[simp] theorem State.setVf_knots (s : State) (v : Nat) (x : Vf) : (s.setVf v x).knots = s.knots := rfl
@[simp] theorem State.setVf_reported (s : State) (v : Nat) (x : Vf) : (s.setVf v x).reported = s.reported := rfl
@[simp] theorem State.setVf_net (s : State) (v : Nat) (x : Vf) : (s.setVf v x).net = s.net := rfl
@[simp] theorem State.setVf_flows (s : State) (v : Nat) (x : Vf) : (s.setVf v x).flows = s.flows := rfl
@[simp] theorem State.setVf_early (s : State) (v : Nat) (x : Vf) : (s.setVf v x).early = s.early := rfl
@[simp] theorem State.setVf_leafOut (s : State) (v : Nat) (x : Vf) : (s.setVf v x).leafOut = s.leafOut := rfl
@[simp] theorem State.setVf_hostOut (s : State) (v : Nat) (x : Vf) : (s.setVf v x).hostOut = s.hostOut := rfl
@[simp] theorem State.setVf_sencha (s : State) (v : Nat) (x : Vf) : (s.setVf v x).sencha = s.sencha := rfl
@[simp] theorem State.setVf_mgmt (s : State) (v : Nat) (x : Vf) : (s.setVf v x).mgmt = s.mgmt := rfl

/-! setLaunch -/

@[simp] theorem State.setLaunch_cur (s : State) (l : Nat) (x : Launch) : (s.setLaunch l x).cur = s.cur := rfl
@[simp] theorem State.setLaunch_unit (s : State) (l : Nat) (x : Launch) : (s.setLaunch l x).unit = s.unit := rfl
@[simp] theorem State.setLaunch_tick (s : State) (l : Nat) (x : Launch) : (s.setLaunch l x).tick = s.tick := rfl
@[simp] theorem State.setLaunch_freeIx (s : State) (l : Nat) (x : Launch) : (s.setLaunch l x).freeIx = s.freeIx := rfl
@[simp] theorem State.setLaunch_agenda (s : State) (l : Nat) (x : Launch) : (s.setLaunch l x).agenda = s.agenda := rfl
@[simp] theorem State.setLaunch_mem (s : State) (l : Nat) (x : Launch) : (s.setLaunch l x).mem = s.mem := rfl
@[simp] theorem State.setLaunch_memPoison (s : State) (l : Nat) (x : Launch) : (s.setLaunch l x).memPoison = s.memPoison := rfl
@[simp] theorem State.setLaunch_cachePoison (s : State) (l : Nat) (x : Launch) : (s.setLaunch l x).cachePoison = s.cachePoison := rfl
@[simp] theorem State.setLaunch_invals (s : State) (l : Nat) (x : Launch) : (s.setLaunch l x).invals = s.invals := rfl
@[simp] theorem State.setLaunch_moving (s : State) (l : Nat) (x : Launch) : (s.setLaunch l x).moving = s.moving := rfl
@[simp] theorem State.setLaunch_ctxs (s : State) (l : Nat) (x : Launch) : (s.setLaunch l x).ctxs = s.ctxs := rfl
@[simp] theorem State.setLaunch_places (s : State) (l : Nat) (x : Launch) : (s.setLaunch l x).places = s.places := rfl
@[simp] theorem State.setLaunch_binds (s : State) (l : Nat) (x : Launch) : (s.setLaunch l x).binds = s.binds := rfl
@[simp] theorem State.setLaunch_cores (s : State) (l : Nat) (x : Launch) : (s.setLaunch l x).cores = s.cores := rfl
@[simp] theorem State.setLaunch_groves (s : State) (l : Nat) (x : Launch) : (s.setLaunch l x).groves = s.groves := rfl
@[simp] theorem State.setLaunch_dies (s : State) (l : Nat) (x : Launch) : (s.setLaunch l x).dies = s.dies := rfl
@[simp] theorem State.setLaunch_launches (s : State) (l : Nat) (x : Launch) : (s.setLaunch l x).launches = tabSet l x s.launches := rfl
@[simp] theorem State.setLaunch_nextNum (s : State) (l : Nat) (x : Launch) : (s.setLaunch l x).nextNum = s.nextNum := rfl
@[simp] theorem State.setLaunch_vfs (s : State) (l : Nat) (x : Launch) : (s.setLaunch l x).vfs = s.vfs := rfl
@[simp] theorem State.setLaunch_rr (s : State) (l : Nat) (x : Launch) : (s.setLaunch l x).rr = s.rr := rfl
@[simp] theorem State.setLaunch_groups (s : State) (l : Nat) (x : Launch) : (s.setLaunch l x).groups = s.groups := rfl
@[simp] theorem State.setLaunch_nextGang (s : State) (l : Nat) (x : Launch) : (s.setLaunch l x).nextGang = s.nextGang := rfl
@[simp] theorem State.setLaunch_groupDir (s : State) (l : Nat) (x : Launch) : (s.setLaunch l x).groupDir = s.groupDir := rfl
@[simp] theorem State.setLaunch_awayFull (s : State) (l : Nat) (x : Launch) : (s.setLaunch l x).awayFull = s.awayFull := rfl
@[simp] theorem State.setLaunch_quotas (s : State) (l : Nat) (x : Launch) : (s.setLaunch l x).quotas = s.quotas := rfl
@[simp] theorem State.setLaunch_parts (s : State) (l : Nat) (x : Launch) : (s.setLaunch l x).parts = s.parts := rfl
@[simp] theorem State.setLaunch_forwards (s : State) (l : Nat) (x : Launch) : (s.setLaunch l x).forwards = s.forwards := rfl
@[simp] theorem State.setLaunch_scanned (s : State) (l : Nat) (x : Launch) : (s.setLaunch l x).scanned = s.scanned := rfl
@[simp] theorem State.setLaunch_knots (s : State) (l : Nat) (x : Launch) : (s.setLaunch l x).knots = s.knots := rfl
@[simp] theorem State.setLaunch_reported (s : State) (l : Nat) (x : Launch) : (s.setLaunch l x).reported = s.reported := rfl
@[simp] theorem State.setLaunch_net (s : State) (l : Nat) (x : Launch) : (s.setLaunch l x).net = s.net := rfl
@[simp] theorem State.setLaunch_flows (s : State) (l : Nat) (x : Launch) : (s.setLaunch l x).flows = s.flows := rfl
@[simp] theorem State.setLaunch_early (s : State) (l : Nat) (x : Launch) : (s.setLaunch l x).early = s.early := rfl
@[simp] theorem State.setLaunch_leafOut (s : State) (l : Nat) (x : Launch) : (s.setLaunch l x).leafOut = s.leafOut := rfl
@[simp] theorem State.setLaunch_hostOut (s : State) (l : Nat) (x : Launch) : (s.setLaunch l x).hostOut = s.hostOut := rfl
@[simp] theorem State.setLaunch_sencha (s : State) (l : Nat) (x : Launch) : (s.setLaunch l x).sencha = s.sencha := rfl
@[simp] theorem State.setLaunch_mgmt (s : State) (l : Nat) (x : Launch) : (s.setLaunch l x).mgmt = s.mgmt := rfl

/-! setBind -/

@[simp] theorem State.setBind_cur (s : State) (c : Nat) (x : Bind) : (s.setBind c x).cur = s.cur := rfl
@[simp] theorem State.setBind_unit (s : State) (c : Nat) (x : Bind) : (s.setBind c x).unit = s.unit := rfl
@[simp] theorem State.setBind_tick (s : State) (c : Nat) (x : Bind) : (s.setBind c x).tick = s.tick := rfl
@[simp] theorem State.setBind_freeIx (s : State) (c : Nat) (x : Bind) : (s.setBind c x).freeIx = s.freeIx := rfl
@[simp] theorem State.setBind_agenda (s : State) (c : Nat) (x : Bind) : (s.setBind c x).agenda = s.agenda := rfl
@[simp] theorem State.setBind_mem (s : State) (c : Nat) (x : Bind) : (s.setBind c x).mem = s.mem := rfl
@[simp] theorem State.setBind_memPoison (s : State) (c : Nat) (x : Bind) : (s.setBind c x).memPoison = s.memPoison := rfl
@[simp] theorem State.setBind_cachePoison (s : State) (c : Nat) (x : Bind) : (s.setBind c x).cachePoison = s.cachePoison := rfl
@[simp] theorem State.setBind_invals (s : State) (c : Nat) (x : Bind) : (s.setBind c x).invals = s.invals := rfl
@[simp] theorem State.setBind_moving (s : State) (c : Nat) (x : Bind) : (s.setBind c x).moving = s.moving := rfl
@[simp] theorem State.setBind_ctxs (s : State) (c : Nat) (x : Bind) : (s.setBind c x).ctxs = s.ctxs := rfl
@[simp] theorem State.setBind_places (s : State) (c : Nat) (x : Bind) : (s.setBind c x).places = s.places := rfl
@[simp] theorem State.setBind_binds (s : State) (c : Nat) (x : Bind) : (s.setBind c x).binds = tabSet c x s.binds := rfl
@[simp] theorem State.setBind_cores (s : State) (c : Nat) (x : Bind) : (s.setBind c x).cores = s.cores := rfl
@[simp] theorem State.setBind_groves (s : State) (c : Nat) (x : Bind) : (s.setBind c x).groves = s.groves := rfl
@[simp] theorem State.setBind_dies (s : State) (c : Nat) (x : Bind) : (s.setBind c x).dies = s.dies := rfl
@[simp] theorem State.setBind_launches (s : State) (c : Nat) (x : Bind) : (s.setBind c x).launches = s.launches := rfl
@[simp] theorem State.setBind_nextNum (s : State) (c : Nat) (x : Bind) : (s.setBind c x).nextNum = s.nextNum := rfl
@[simp] theorem State.setBind_vfs (s : State) (c : Nat) (x : Bind) : (s.setBind c x).vfs = s.vfs := rfl
@[simp] theorem State.setBind_rr (s : State) (c : Nat) (x : Bind) : (s.setBind c x).rr = s.rr := rfl
@[simp] theorem State.setBind_groups (s : State) (c : Nat) (x : Bind) : (s.setBind c x).groups = s.groups := rfl
@[simp] theorem State.setBind_nextGang (s : State) (c : Nat) (x : Bind) : (s.setBind c x).nextGang = s.nextGang := rfl
@[simp] theorem State.setBind_groupDir (s : State) (c : Nat) (x : Bind) : (s.setBind c x).groupDir = s.groupDir := rfl
@[simp] theorem State.setBind_awayFull (s : State) (c : Nat) (x : Bind) : (s.setBind c x).awayFull = s.awayFull := rfl
@[simp] theorem State.setBind_quotas (s : State) (c : Nat) (x : Bind) : (s.setBind c x).quotas = s.quotas := rfl
@[simp] theorem State.setBind_parts (s : State) (c : Nat) (x : Bind) : (s.setBind c x).parts = s.parts := rfl
@[simp] theorem State.setBind_forwards (s : State) (c : Nat) (x : Bind) : (s.setBind c x).forwards = s.forwards := rfl
@[simp] theorem State.setBind_scanned (s : State) (c : Nat) (x : Bind) : (s.setBind c x).scanned = s.scanned := rfl
@[simp] theorem State.setBind_knots (s : State) (c : Nat) (x : Bind) : (s.setBind c x).knots = s.knots := rfl
@[simp] theorem State.setBind_reported (s : State) (c : Nat) (x : Bind) : (s.setBind c x).reported = s.reported := rfl
@[simp] theorem State.setBind_net (s : State) (c : Nat) (x : Bind) : (s.setBind c x).net = s.net := rfl
@[simp] theorem State.setBind_flows (s : State) (c : Nat) (x : Bind) : (s.setBind c x).flows = s.flows := rfl
@[simp] theorem State.setBind_early (s : State) (c : Nat) (x : Bind) : (s.setBind c x).early = s.early := rfl
@[simp] theorem State.setBind_leafOut (s : State) (c : Nat) (x : Bind) : (s.setBind c x).leafOut = s.leafOut := rfl
@[simp] theorem State.setBind_hostOut (s : State) (c : Nat) (x : Bind) : (s.setBind c x).hostOut = s.hostOut := rfl
@[simp] theorem State.setBind_sencha (s : State) (c : Nat) (x : Bind) : (s.setBind c x).sencha = s.sencha := rfl
@[simp] theorem State.setBind_mgmt (s : State) (c : Nat) (x : Bind) : (s.setBind c x).mgmt = s.mgmt := rfl

/-! setMe -/

@[simp] theorem State.setMe_cur (s : State) (x : Ctx) : (s.setMe x).cur = s.cur := rfl
@[simp] theorem State.setMe_unit (s : State) (x : Ctx) : (s.setMe x).unit = s.unit := rfl
@[simp] theorem State.setMe_tick (s : State) (x : Ctx) : (s.setMe x).tick = s.tick := rfl
@[simp] theorem State.setMe_freeIx (s : State) (x : Ctx) : (s.setMe x).freeIx = s.freeIx := rfl
@[simp] theorem State.setMe_agenda (s : State) (x : Ctx) : (s.setMe x).agenda = s.agenda := rfl
@[simp] theorem State.setMe_mem (s : State) (x : Ctx) : (s.setMe x).mem = s.mem := rfl
@[simp] theorem State.setMe_memPoison (s : State) (x : Ctx) : (s.setMe x).memPoison = s.memPoison := rfl
@[simp] theorem State.setMe_cachePoison (s : State) (x : Ctx) : (s.setMe x).cachePoison = s.cachePoison := rfl
@[simp] theorem State.setMe_invals (s : State) (x : Ctx) : (s.setMe x).invals = s.invals := rfl
@[simp] theorem State.setMe_moving (s : State) (x : Ctx) : (s.setMe x).moving = s.moving := rfl
@[simp] theorem State.setMe_ctxs (s : State) (x : Ctx) : (s.setMe x).ctxs = tabSet s.cur x s.ctxs := rfl
@[simp] theorem State.setMe_places (s : State) (x : Ctx) : (s.setMe x).places = s.places := rfl
@[simp] theorem State.setMe_binds (s : State) (x : Ctx) : (s.setMe x).binds = s.binds := rfl
@[simp] theorem State.setMe_cores (s : State) (x : Ctx) : (s.setMe x).cores = s.cores := rfl
@[simp] theorem State.setMe_groves (s : State) (x : Ctx) : (s.setMe x).groves = s.groves := rfl
@[simp] theorem State.setMe_dies (s : State) (x : Ctx) : (s.setMe x).dies = s.dies := rfl
@[simp] theorem State.setMe_launches (s : State) (x : Ctx) : (s.setMe x).launches = s.launches := rfl
@[simp] theorem State.setMe_nextNum (s : State) (x : Ctx) : (s.setMe x).nextNum = s.nextNum := rfl
@[simp] theorem State.setMe_vfs (s : State) (x : Ctx) : (s.setMe x).vfs = s.vfs := rfl
@[simp] theorem State.setMe_rr (s : State) (x : Ctx) : (s.setMe x).rr = s.rr := rfl
@[simp] theorem State.setMe_groups (s : State) (x : Ctx) : (s.setMe x).groups = s.groups := rfl
@[simp] theorem State.setMe_nextGang (s : State) (x : Ctx) : (s.setMe x).nextGang = s.nextGang := rfl
@[simp] theorem State.setMe_groupDir (s : State) (x : Ctx) : (s.setMe x).groupDir = s.groupDir := rfl
@[simp] theorem State.setMe_awayFull (s : State) (x : Ctx) : (s.setMe x).awayFull = s.awayFull := rfl
@[simp] theorem State.setMe_quotas (s : State) (x : Ctx) : (s.setMe x).quotas = s.quotas := rfl
@[simp] theorem State.setMe_parts (s : State) (x : Ctx) : (s.setMe x).parts = s.parts := rfl
@[simp] theorem State.setMe_forwards (s : State) (x : Ctx) : (s.setMe x).forwards = s.forwards := rfl
@[simp] theorem State.setMe_scanned (s : State) (x : Ctx) : (s.setMe x).scanned = s.scanned := rfl
@[simp] theorem State.setMe_knots (s : State) (x : Ctx) : (s.setMe x).knots = s.knots := rfl
@[simp] theorem State.setMe_reported (s : State) (x : Ctx) : (s.setMe x).reported = s.reported := rfl
@[simp] theorem State.setMe_net (s : State) (x : Ctx) : (s.setMe x).net = s.net := rfl
@[simp] theorem State.setMe_flows (s : State) (x : Ctx) : (s.setMe x).flows = s.flows := rfl
@[simp] theorem State.setMe_early (s : State) (x : Ctx) : (s.setMe x).early = s.early := rfl
@[simp] theorem State.setMe_leafOut (s : State) (x : Ctx) : (s.setMe x).leafOut = s.leafOut := rfl
@[simp] theorem State.setMe_hostOut (s : State) (x : Ctx) : (s.setMe x).hostOut = s.hostOut := rfl
@[simp] theorem State.setMe_sencha (s : State) (x : Ctx) : (s.setMe x).sencha = s.sencha := rfl
@[simp] theorem State.setMe_mgmt (s : State) (x : Ctx) : (s.setMe x).mgmt = s.mgmt := rfl

/-! setRegs -/

@[simp] theorem State.setRegs_cur (s : State) (r : Regs) : (s.setRegs r).cur = s.cur := rfl
@[simp] theorem State.setRegs_unit (s : State) (r : Regs) : (s.setRegs r).unit = s.unit := rfl
@[simp] theorem State.setRegs_tick (s : State) (r : Regs) : (s.setRegs r).tick = s.tick := rfl
@[simp] theorem State.setRegs_freeIx (s : State) (r : Regs) : (s.setRegs r).freeIx = s.freeIx := rfl
@[simp] theorem State.setRegs_agenda (s : State) (r : Regs) : (s.setRegs r).agenda = s.agenda := rfl
@[simp] theorem State.setRegs_mem (s : State) (r : Regs) : (s.setRegs r).mem = s.mem := rfl
@[simp] theorem State.setRegs_memPoison (s : State) (r : Regs) : (s.setRegs r).memPoison = s.memPoison := rfl
@[simp] theorem State.setRegs_cachePoison (s : State) (r : Regs) : (s.setRegs r).cachePoison = s.cachePoison := rfl
@[simp] theorem State.setRegs_invals (s : State) (r : Regs) : (s.setRegs r).invals = s.invals := rfl
@[simp] theorem State.setRegs_moving (s : State) (r : Regs) : (s.setRegs r).moving = s.moving := rfl
@[simp] theorem State.setRegs_ctxs (s : State) (r : Regs) : (s.setRegs r).ctxs = tabSet s.cur { s.me with regs := r } s.ctxs := rfl
@[simp] theorem State.setRegs_places (s : State) (r : Regs) : (s.setRegs r).places = s.places := rfl
@[simp] theorem State.setRegs_binds (s : State) (r : Regs) : (s.setRegs r).binds = s.binds := rfl
@[simp] theorem State.setRegs_cores (s : State) (r : Regs) : (s.setRegs r).cores = s.cores := rfl
@[simp] theorem State.setRegs_groves (s : State) (r : Regs) : (s.setRegs r).groves = s.groves := rfl
@[simp] theorem State.setRegs_dies (s : State) (r : Regs) : (s.setRegs r).dies = s.dies := rfl
@[simp] theorem State.setRegs_launches (s : State) (r : Regs) : (s.setRegs r).launches = s.launches := rfl
@[simp] theorem State.setRegs_nextNum (s : State) (r : Regs) : (s.setRegs r).nextNum = s.nextNum := rfl
@[simp] theorem State.setRegs_vfs (s : State) (r : Regs) : (s.setRegs r).vfs = s.vfs := rfl
@[simp] theorem State.setRegs_rr (s : State) (r : Regs) : (s.setRegs r).rr = s.rr := rfl
@[simp] theorem State.setRegs_groups (s : State) (r : Regs) : (s.setRegs r).groups = s.groups := rfl
@[simp] theorem State.setRegs_nextGang (s : State) (r : Regs) : (s.setRegs r).nextGang = s.nextGang := rfl
@[simp] theorem State.setRegs_groupDir (s : State) (r : Regs) : (s.setRegs r).groupDir = s.groupDir := rfl
@[simp] theorem State.setRegs_awayFull (s : State) (r : Regs) : (s.setRegs r).awayFull = s.awayFull := rfl
@[simp] theorem State.setRegs_quotas (s : State) (r : Regs) : (s.setRegs r).quotas = s.quotas := rfl
@[simp] theorem State.setRegs_parts (s : State) (r : Regs) : (s.setRegs r).parts = s.parts := rfl
@[simp] theorem State.setRegs_forwards (s : State) (r : Regs) : (s.setRegs r).forwards = s.forwards := rfl
@[simp] theorem State.setRegs_scanned (s : State) (r : Regs) : (s.setRegs r).scanned = s.scanned := rfl
@[simp] theorem State.setRegs_knots (s : State) (r : Regs) : (s.setRegs r).knots = s.knots := rfl
@[simp] theorem State.setRegs_reported (s : State) (r : Regs) : (s.setRegs r).reported = s.reported := rfl
@[simp] theorem State.setRegs_net (s : State) (r : Regs) : (s.setRegs r).net = s.net := rfl
@[simp] theorem State.setRegs_flows (s : State) (r : Regs) : (s.setRegs r).flows = s.flows := rfl
@[simp] theorem State.setRegs_early (s : State) (r : Regs) : (s.setRegs r).early = s.early := rfl
@[simp] theorem State.setRegs_leafOut (s : State) (r : Regs) : (s.setRegs r).leafOut = s.leafOut := rfl
@[simp] theorem State.setRegs_hostOut (s : State) (r : Regs) : (s.setRegs r).hostOut = s.hostOut := rfl
@[simp] theorem State.setRegs_sencha (s : State) (r : Regs) : (s.setRegs r).sencha = s.sencha := rfl
@[simp] theorem State.setRegs_mgmt (s : State) (r : Regs) : (s.setRegs r).mgmt = s.mgmt := rfl

/-! Parts read after their own update -/

@[simp] theorem State.ctx_setCtx (s : State) (c : Nat) (x : Ctx) : (s.setCtx c x).ctx c = x := tabGet_tabSet_same _ _ _ _
@[simp] theorem State.core_setCore (s : State) (k : Nat) (x : Core) : (s.setCore k x).core k = x := tabGet_tabSet_same _ _ _ _
@[simp] theorem State.grove_setGrove (s : State) (g : Nat) (x : Grove) : (s.setGrove g x).grove g = x := tabGet_tabSet_same _ _ _ _
@[simp] theorem State.place_setPlace (s : State) (c : Nat) (x : Place) : (s.setPlace c x).place c = x := tabGet_tabSet_same _ _ _ _
@[simp] theorem State.die_setDie (s : State) (d : Nat) (x : Die) : (s.setDie d x).die d = x := tabGet_tabSet_same _ _ _ _
@[simp] theorem State.vf_setVf (s : State) (v : Nat) (x : Vf) : (s.setVf v x).vf v = x := tabGet_tabSet_same _ _ _ _
@[simp] theorem State.bind_setBind (s : State) (c : Nat) (x : Bind) : (s.setBind c x).bind c = x := tabGet_tabSet_same _ _ _ _
@[simp] theorem State.me_setMe (s : State) (x : Ctx) : (s.setMe x).me = x := tabGet_tabSet_same _ _ _ _
@[simp] theorem State.regs_setMe (s : State) (x : Ctx) : (s.setMe x).regs = x.regs := by simp [State.regs]
@[simp] theorem State.me_setRegs (s : State) (r : Regs) : (s.setRegs r).me = { s.me with regs := r } := by simp [State.setRegs]
@[simp] theorem State.regs_setRegs (s : State) (r : Regs) : (s.setRegs r).regs = r := by simp [State.regs]

/-- Of two updates of one part, the later stays. -/
@[simp] theorem State.setCtx_setCtx (s : State) (c : Nat) (x y : Ctx) : (s.setCtx c x).setCtx c y = s.setCtx c y := by
  simp [State.setCtx, tabSet_tabSet]
@[simp] theorem State.setMe_setMe (s : State) (x y : Ctx) : (s.setMe x).setMe y = s.setMe y := State.setCtx_setCtx s s.cur x y
@[simp] theorem State.setRegs_setRegs (s : State) (r q : Regs) : (s.setRegs r).setRegs q = s.setRegs q := by
  simp [State.setRegs]

theorem State.ctx_setCtx_ne (s : State) {c d : Nat} (h : d ≠ c) (x : Ctx) : (s.setCtx c x).ctx d = s.ctx d := tabGet_tabSet_ne _ h _ _
theorem State.core_setCore_ne (s : State) {k j : Nat} (h : j ≠ k) (x : Core) : (s.setCore k x).core j = s.core j := tabGet_tabSet_ne _ h _ _
theorem State.grove_setGrove_ne (s : State) {g j : Nat} (h : j ≠ g) (x : Grove) : (s.setGrove g x).grove j = s.grove j := tabGet_tabSet_ne _ h _ _

/-! Other parts read after an update of a context -/

@[simp] theorem State.core_setCtx (s : State) (c k : Nat) (x : Ctx) : (s.setCtx c x).core k = s.core k := rfl
@[simp] theorem State.grove_setCtx (s : State) (c g : Nat) (x : Ctx) : (s.setCtx c x).grove g = s.grove g := rfl
@[simp] theorem State.core_setMe (s : State) (k : Nat) (x : Ctx) : (s.setMe x).core k = s.core k := rfl
@[simp] theorem State.grove_setMe (s : State) (g : Nat) (x : Ctx) : (s.setMe x).grove g = s.grove g := rfl
@[simp] theorem State.core_setRegs (s : State) (k : Nat) (r : Regs) : (s.setRegs r).core k = s.core k := rfl
@[simp] theorem State.grove_setRegs (s : State) (g : Nat) (r : Regs) : (s.setRegs r).grove g = s.grove g := rfl

end Machine

end Sys2Proof
end

