-- ==== Sys2Proof/Laws/Memory.lean ====
section
/-! SUPPORT. The byte memories: every operation keeps the canonical form, a read gives what was last written, and what the
named updates of State leave unchanged of the bytes. -/

namespace Sys2Proof

/-- A canonical list from `lo` on is one from any lower address on. -/
theorem memWfFrom_mono {lo lo2 : Nat} {m : List Host.Cell} (h : memWfFrom lo m = true) (hl : lo2 ≤ lo) :
    memWfFrom lo2 m = true := by
  cases m with
  | nil => rfl
  | cons p t =>
    obtain ⟨k, v⟩ := p
    simp only [memWfFrom, Bool.and_eq_true, decide_eq_true_eq] at h ⊢
    exact ⟨⟨by omega, h.1.2⟩, h.2⟩

/-- A byte below every listed address reads 0. -/
theorem memGet_below {lo k : Nat} {m : List Host.Cell} (h : memWfFrom lo m = true) (hk : k < lo) : memGet m k = 0 := by
  induction m generalizing lo with
  | nil => rfl
  | cons p t ih =>
    obtain ⟨j, v⟩ := p
    simp only [memWfFrom, Bool.and_eq_true, decide_eq_true_eq] at h
    have : j ≠ k := by omega
    simp only [memGet, if_neg this]
    exact ih h.2 (by omega)

/-- A removed byte keeps the canonical form. -/
theorem memPut_zero_wfFrom {lo k : Nat} {m : List Host.Cell} (h : memWfFrom lo m = true) : memWfFrom lo (memPut k 0 m) = true := by
  induction m generalizing lo with
  | nil => rfl
  | cons p t ih =>
    obtain ⟨j, u⟩ := p
    simp only [memWfFrom, Bool.and_eq_true, decide_eq_true_eq] at h
    obtain ⟨h1, h2⟩ := h
    have both : memWfFrom lo ((j, u) :: memPut k 0 t) = true := by
      simp only [memWfFrom, Bool.and_eq_true, decide_eq_true_eq]
      exact ⟨h1, ih h2⟩
    simp only [memPut, if_true]
    split
    · exact memWfFrom_mono (ih h2) (by omega)
    · split <;> exact both

/-- One stored byte keeps the canonical form. -/
theorem memPut_wfFrom {lo k : Nat} (v : Byte) {m : List Host.Cell} (h : memWfFrom lo m = true) (hk : lo ≤ k) :
    memWfFrom lo (memPut k v m) = true := by
  by_cases e : v = 0#8
  · rw [e]; exact memPut_zero_wfFrom h
  induction m generalizing lo with
  | nil => simp [memPut, e, memWfFrom, hk]
  | cons p t ih =>
    obtain ⟨j, u⟩ := p
    simp only [memWfFrom, Bool.and_eq_true, decide_eq_true_eq] at h
    obtain ⟨⟨h1, h2⟩, h3⟩ := h
    have e1 : ¬ v = 0 := e
    simp only [memPut, e1, if_false]
    split
    · rename_i q
      subst q
      simp [memWfFrom, hk, e, h3]
    · split
      · have : memWfFrom (k + 1) ((j, u) :: t) = true := by
          simp only [memWfFrom, Bool.and_eq_true, decide_eq_true_eq]
          exact ⟨⟨by omega, h2⟩, h3⟩
        simp only [memWfFrom, Bool.and_eq_true, decide_eq_true_eq] at this ⊢
        exact ⟨⟨hk, by simpa using e⟩, this⟩
      · simp only [memWfFrom, Bool.and_eq_true, decide_eq_true_eq]
        exact ⟨⟨h1, h2⟩, ih h3 (by omega)⟩

/-- A write keeps the canonical form. -/
theorem memWrite_wf (a : Nat) (bs : List Byte) {m : List Host.Cell} (h : Memory.wf m = true) :
    Memory.wf (memWrite a bs m) = true := by
  induction bs generalizing a m with
  | nil => exact h
  | cons b t ih => exact ih (a + 1) (memPut_wfFrom b h (Nat.zero_le a))

/-- The stored byte is read back. -/
theorem memGet_memPut_same (k : Nat) (v : Byte) (m : List Host.Cell) : memGet (memPut k v m) k = v := by
  by_cases e : v = 0#8
  · subst e
    induction m with
    | nil => rfl
    | cons p t ih =>
      obtain ⟨j, u⟩ := p
      simp only [memPut]
      split
      · exact ih
      · rename_i q
        split <;> exact (if_neg (Ne.symm q)).trans ih
  · have e1 : ¬ v = 0 := e
    induction m with
    | nil => simp [memPut, e, memGet]
    | cons p t ih =>
      obtain ⟨j, u⟩ := p
      simp only [memPut, e1, if_false]
      split
      · simp [memGet]
      · rename_i q
        split
        · simp [memGet]
        · simp only [memGet, if_neg (Ne.symm q)]
          exact ih

/-- A stored byte leaves every other byte. -/
theorem memGet_memPut_ne {k j : Nat} (hj : j ≠ k) (v : Byte) (m : List Host.Cell) :
    memGet (memPut k v m) j = memGet m j := by
  induction m with
  | nil =>
    by_cases e : v = 0#8
    · simp [memPut, e]
    · simp [memPut, e, memGet, Ne.symm hj]
  | cons p t ih =>
    obtain ⟨i, u⟩ := p
    simp only [memPut]
    split
    · rename_i e
      subst e
      split
      · simp [memGet, Ne.symm hj, ih]
      · simp [memGet, Ne.symm hj]
    · split
      · split
        · simp only [memGet, ih]
        · simp [memGet, Ne.symm hj]
      · simp only [memGet, ih]

/-- A write leaves every byte outside it. -/
theorem memGet_memWrite_out {a k : Nat} (bs : List Byte) (m : List Host.Cell) (h : k < a ∨ a + bs.length ≤ k) :
    memGet (memWrite a bs m) k = memGet m k := by
  induction bs generalizing a m with
  | nil => rfl
  | cons b t ih =>
    simp only [List.length_cons] at h
    simp only [memWrite]
    rw [ih _ (by omega), memGet_memPut_ne (by omega)]

/-- The bytes of a write are read back. -/
theorem memRead_memWrite (a : Nat) (bs : List Byte) (m : List Host.Cell) : memRead (memWrite a bs m) a bs.length = bs := by
  induction bs generalizing a m with
  | nil => rfl
  | cons b t ih =>
    have : memGet (memWrite (a + 1) t (memPut a b m)) a = b := by
      rw [memGet_memWrite_out t _ (Or.inl (by omega))]
      exact memGet_memPut_same a b m
    simp only [List.length_cons, memRead, memWrite, this]
    exact congrArg (b :: ·) (ih (a + 1) _)

/-! A pair's registers (R41, R42) -/

/-- What a merged table holds: the C word's entry where it differs from the one before the pair, and the A word's elsewhere. -/
theorem tabGet_tabMerge {α : Type} [DecidableEq α] (d : α) (old c a : Tab α) (k : Nat) :
    tabGet d (tabMerge d old c a) k = if tabGet d old k = tabGet d c k then tabGet d a k else tabGet d c k := by
  have out : ∀ t : Tab α, (∀ e ∈ t, e.1 ≠ k) → tabGet d t k = d := by
    intro t
    induction t with
    | nil => intro _; rfl
    | cons p t ih =>
      intro h
      have h1 : p.1 ≠ k := h p (List.mem_cons_self ..)
      simp only [tabGet, if_neg h1]
      exact ih (fun e he => h e (List.mem_cons_of_mem _ he))
  have step : ∀ (l : Tab α) (r : Tab α),
      tabGet d (l.foldl (fun r kv => if tabGet d old kv.1 = tabGet d c kv.1 then r else tabSet kv.1 (tabGet d c kv.1) r) r) k
        = if (∃ e ∈ l, e.1 = k) ∧ tabGet d old k ≠ tabGet d c k then tabGet d c k else tabGet d r k := by
    intro l
    induction l with
    | nil => intro r; simp
    | cons p t ih =>
      intro r
      rw [List.foldl_cons, ih]
      by_cases e : p.1 = k
      · subst e
        by_cases q : tabGet d old p.1 = tabGet d c p.1
        · simp [q]
        · simp [q, tabGet_tabSet_same]
      · have m : (∃ x ∈ p :: t, x.1 = k) ↔ ∃ x ∈ t, x.1 = k := by
          refine ⟨?_, fun ⟨x, h, h2⟩ => ⟨x, List.mem_cons_of_mem _ h, h2⟩⟩
          rintro ⟨x, h, h2⟩
          rcases List.mem_cons.1 h with h3 | h3
          · rw [h3] at h2
            exact absurd h2 e
          · exact ⟨x, h3, h2⟩
        by_cases q : tabGet d old p.1 = tabGet d c p.1
        · simp only [q, if_true, m]
        · simp only [q, if_false, m, tabGet_tabSet_ne _ (Ne.symm e)]
  rw [tabMerge, step]
  by_cases q : tabGet d old k = tabGet d c k
  · simp [q]
  · have m : ∃ e ∈ c ++ old, e.1 = k := by
      refine Classical.byContradiction (fun n => q ?_)
      have n1 : ∀ e ∈ c ++ old, e.1 ≠ k := fun e he h => n ⟨e, he, h⟩
      rw [out old (fun e he => n1 e (List.mem_append_right _ he)), out c (fun e he => n1 e (List.mem_append_left _ he))]
    simp only [m, q, ne_eq, not_false_eq_true, and_self, if_true, if_false]

namespace Machine

/-- Global memory, every scratchpad and every Caddy frame of a state are in canonical form. -/
theorem State.reset_mem_wf : Memory.wf State.reset.mem = true := rfl

/-- A store to a place keeps global memory canonical. -/
theorem State.writeLoc_mem_wf (s : State) (l : Loc) (bs : List Byte) (h : Memory.wf s.mem = true) :
    Memory.wf (s.writeLoc l bs).mem = true := by
  cases l with
  | mem a => exact memWrite_wf a bs h
  | scr c o => exact h
  | frame g n o => exact h
  | hdr x o => exact h

/-- A store to a place keeps the scratchpads canonical. -/
theorem State.writeLoc_scratch_wf (s : State) (l : Loc) (bs : List Byte) (h : ∀ k, Memory.wf (s.core k).scratch = true)
    (k : Nat) : Memory.wf ((s.writeLoc l bs).core k).scratch = true := by
  cases l with
  | mem a => exact h k
  | scr c o =>
    by_cases e : k = c
    · subst e
      simp only [State.writeLoc, State.core_setCore]
      exact memWrite_wf o bs (h k)
    · simp only [State.writeLoc]
      rw [State.core_setCore_ne s e]
      exact h k
  | frame g n o => exact h k
  | hdr x o => exact h k

/-- A store to a place keeps the frames of the Caddies canonical. -/
theorem State.writeLoc_frames_wf (s : State) (l : Loc) (bs : List Byte)
    (h : ∀ g n, Memory.wf (tabGet [] (s.grove g).frames n) = true) (g n : Nat) :
    Memory.wf (tabGet [] ((s.writeLoc l bs).grove g).frames n) = true := by
  cases l with
  | mem a => exact h g n
  | scr c o => exact h g n
  | frame g2 n2 o =>
    by_cases e : g = g2
    · subst e
      simp only [State.writeLoc, State.grove_setGrove]
      by_cases e2 : n = n2
      · subst e2
        rw [tabGet_tabSet_same]
        exact memWrite_wf o bs (h g n)
      · rw [tabGet_tabSet_ne _ e2]
        exact h g n
    · simp only [State.writeLoc]
      rw [State.grove_setGrove_ne s e]
      exact h g n
  | hdr x o => exact h g n

/-! Bytes after an update of a context -/

theorem State.byteAt_setCtx (s : State) (c : Nat) (x : Ctx) (l : Loc) : (s.setCtx c x).byteAt l = s.byteAt l := by
  cases l <;> rfl

@[simp] theorem State.byteAt_setMe (s : State) (x : Ctx) (l : Loc) : (s.setMe x).byteAt l = s.byteAt l := by
  cases l <;> rfl

@[simp] theorem State.byteAt_setRegs (s : State) (r : Regs) (l : Loc) : (s.setRegs r).byteAt l = s.byteAt l := by
  cases l <;> rfl

@[simp] theorem State.byteAt_setBind (s : State) (c : Nat) (x : Bind) (l : Loc) : (s.setBind c x).byteAt l = s.byteAt l := by
  cases l <;> rfl

@[simp] theorem State.byteAt_setDie (s : State) (d : Nat) (x : Die) (l : Loc) : (s.setDie d x).byteAt l = s.byteAt l := by
  cases l <;> rfl

@[simp] theorem State.byteAt_setVf (s : State) (v : Nat) (x : Vf) (l : Loc) : (s.setVf v x).byteAt l = s.byteAt l := by
  cases l <;> rfl

/-- A store leaves every byte of another byte memory, and every byte outside its range. -/
theorem State.writeLoc_out (s : State) (l : Loc) (bs : List Byte) : s.keepsMemoryBut (s.writeLoc l bs) l bs.length := by
  intro k hk
  cases l with
  | mem a =>
    cases k with
    | mem b =>
      refine memGet_memWrite_out bs s.mem ?_
      refine Decidable.byContradiction (fun hc => ?_)
      exact hk (b - a) (by omega) (by simp only [Loc.add, Loc.mem.injEq]; omega)
    | _ => rfl
  | scr c o =>
    cases k with
    | scr d b =>
      by_cases e : d = c
      · subst e
        simp only [State.byteAt, State.writeLoc, State.core_setCore]
        refine memGet_memWrite_out bs _ ?_
        refine Decidable.byContradiction (fun hc => ?_)
        exact hk (b - o) (by omega) (by simp only [Loc.add, Loc.scr.injEq, true_and]; omega)
      · simp only [State.byteAt, State.writeLoc]
        rw [State.core_setCore_ne s e]
    | _ => rfl
  | frame g n o =>
    cases k with
    | frame h m b =>
      by_cases e : h = g
      · subst e
        simp only [State.byteAt, State.writeLoc, State.grove_setGrove]
        by_cases e2 : m = n
        · subst e2
          rw [tabGet_tabSet_same]
          refine memGet_memWrite_out bs _ ?_
          refine Decidable.byContradiction (fun hc => ?_)
          exact hk (b - o) (by omega) (by simp only [Loc.add, Loc.frame.injEq, true_and]; omega)
        · rw [tabGet_tabSet_ne _ e2]
      · simp only [State.byteAt, State.writeLoc]
        rw [State.grove_setGrove_ne s e]
    | _ => rfl
  | hdr x o => rfl

end Machine

end Sys2Proof
end

