-- ==== Sys2Proof/Laws/Unit.lean ====
section
/-! SUPPORT. What one word issued alone can do: the checks pass (`ready`) or an answer has come (`answered`), and then the
word retires, redirects, traps, waits or sends as its meaning says. Later proofs cite these lemmas and never unfold `issue`,
`State.gate` or `finish`. -/

namespace Sys2Proof.Machine

/-- A list none of whose elements is mapped gives nothing. -/
theorem filterMap_none {α β : Type} {f : α → Option β} {l : List α} (h : ∀ x ∈ l, f x = none) : l.filterMap f = [] :=
  List.filterMap_eq_nil_iff.2 h

/-- The parts of `ready`. -/
theorem State.ready_parts {s : State} {g : Sig} (h : s.ready g = true) :
    s.unit = {} ∧ s.me.pend = none ∧ (g.handlerOnly = true → s.regs.hm = true)
    ∧ (g.stalls = true → s.me.spec = none) ∧ (g.notRepeated = true → s.regs.rc = 0)
    ∧ (g.notInDual = true → s.inDual = false)
    ∧ (∀ x ∈ g.srcs, s.regs.plain x.cls x.n = true) ∧ (∀ d ∈ g.dsts, s.regs.writable d = true) := by
  simp only [State.ready, State.fresh, Bool.and_eq_true, beq_iff_eq, Bool.or_eq_true, Bool.not_eq_true', List.all_eq_true,
    Option.isNone_iff_eq_none] at h
  obtain ⟨⟨⟨⟨⟨⟨⟨h1, h2⟩, h3⟩, h4⟩, h5⟩, h6⟩, h7⟩, h8⟩ := h
  refine ⟨h1, h2, ?_, ?_, ?_, ?_, h7, h8⟩
  · rintro e; simpa [e] using h3
  · rintro e; simpa [e] using h4
  · rintro e; simpa [e] using h5
  · rintro e; simpa [e] using h6

/-- The parts of `Regs.plain`. -/
theorem Regs.plain_parts {r : Regs} {cls n : Nat} (h : r.plain cls n = true) :
    portNamed r cls n = none ∧ r.emptyAt cls n = false ∧ r.poisonAt cls n = false := by
  simpa [Regs.plain, and_assoc] using h

/-- A state whose unit is at its start, with that unit written out. -/
theorem State.unit_eta {s : State} (h : s.unit = {}) : ({ s with unit := {} } : State) = s := by
  rw [← h]

/-- A ready word passes the gate with the state as it is. -/
theorem State.gate_ready {s : State} {g : Sig} (h : s.ready g = true) : s.gate [(g, false)] = .go s := by
  obtain ⟨h1, h2, h3, h4, h5, h6, h7, h8⟩ := State.ready_parts h
  have srcs : unitSources [(g, false)] = g.srcs.map (fun x => (false, g.a, x)) := by simp [unitSources]
  have pops : unitPops s.regs [(g, false)] = [] := by
    rw [unitPops, srcs]
    refine filterMap_none ?_
    simp only [List.mem_map, forall_exists_index, and_imp]
    rintro _ x hx rfl
    simp [(Regs.plain_parts (h7 x hx)).1]
  have nodst : ∀ d ∈ g.dsts, portNamed s.regs d.cls d.n = none := by
    intro d hd
    have := h8 d hd
    simp only [Regs.writable, Bool.or_eq_true, decide_eq_true_eq, Bool.and_eq_true, Option.isNone_iff_eq_none] at this
    rcases this with h | h
    · have : d.cls ≠ 0 := by omega
      simp [portNamed, this]
    · exact h.1
  have pushes : unitPushes s.regs [(g, false)] = [] := by
    simp only [unitPushes, List.map_cons, List.map_nil, List.flatten_cons, List.flatten_nil, List.append_nil]
    refine filterMap_none ?_
    intro d hd
    simp [nodst d hd]
  have full : ∀ x ∈ g.srcs, s.srcEmpty x.cls x.n = false := by
    intro x hx
    obtain ⟨a, b, -⟩ := Regs.plain_parts (h7 x hx)
    simp [State.srcEmpty, a, b]
  have e1 : (!(s.regs.rc == 0) && g.notRepeated) = false := by
    cases e : g.notRepeated
    · simp
    · simp [h5 e]
  have e2 : (s.inDual && g.notInDual) = false := by
    cases e : g.notInDual
    · simp
    · simp [h6 e]
  have e3 : (g.handlerOnly && !s.regs.hm) = false := by
    cases e : g.handlerOnly
    · simp
    · simp [h3 e]
  have e4 : (s.me.spec.isSome && g.stalls) = false := by
    cases e : g.stalls
    · simp
    · simp [h4 e]
  have f1 : (g.srcs.map (fun x => (false, g.a, x))).find? (fun x => x.2.2.t && s.srcEmpty x.2.2.cls x.2.2.n) = none := by
    simp only [List.find?_eq_none, List.mem_map, forall_exists_index, and_imp]
    rintro _ x hx rfl
    simp [full x hx]
  have f4 : g.dsts.all (fun d => decide (3 < d.cls) || (portNamed s.regs d.cls d.n).isSome
      || !(s.regs.emptyAt d.cls d.n)) = true := by
    simp only [List.all_eq_true]
    intro d hd
    have := h8 d hd
    simp only [Regs.writable, Bool.or_eq_true, Bool.and_eq_true] at this
    rcases this with h | h
    · simp [h]
    · simp [h.2]
  have word : s.wordTrapOf (g, false) = none := by
    have c : ((s.regs.rc != 0 && g.notRepeated) || (s.inDual && g.notInDual)) = false := by simp only [bne, e1, e2, Bool.or_false]
    have p : (g.srcs.find? (fun x => (portNamed s.regs x.cls x.n).isNone && s.regs.poisonAt x.cls x.n)) = none := by
      simp only [List.find?_eq_none]
      intro x hx
      simp [(Regs.plain_parts (h7 x hx)).2.2]
    simp only [State.wordTrapOf, c, Bool.false_eq_true, if_false, p, pops, pushes, List.map_nil, State.portTrap, List.find?_nil,
      Option.map_none]
  have pass : s.gateReady [(g, false)] [] [] = true := by
    simp only [State.gateReady, srcs, List.all_cons, List.all_nil, f4, Bool.and_true, beq_self_eq_true, Bool.true_or]
    simp only [List.all_eq_true, List.mem_map, forall_exists_index, and_imp]
    rintro _ x hx rfl
    simp [(Regs.plain_parts (h7 x hx)).2.1]
  have fl1 : [(g, false)].filter (fun w : Sig × Bool => !w.2) = [(g, false)] := rfl
  have fl2 : [(g, false)].filter (fun w : Sig × Bool => w.2) = [] := rfl
  have eta : ({ s with unit := { s.unit with late := none } } : State) = s := by rw [h1]; exact State.unit_eta h1
  simp only [State.gate, h2, srcs, List.find?_cons, List.find?_nil, e3, List.any_cons, List.any_nil, Bool.or_false, f1, fl1, fl2,
    List.findSome?_cons, List.findSome?_nil, word, Option.isSome_none, Bool.false_eq_true, if_false, pops, pushes, pass, if_true,
    State.latchAll, bne, beq_self_eq_true, Bool.not_true, e4, eta]

/-- A word that popped nothing leaves its effects and its place in program order. -/
theorem State.afterWord_plain {s : State} (old : Regs) (g : Sig) (aw : Bool) (h : s.unit = {}) :
    s.afterWord old g aw = s.setMe { s.me with nseq := s.me.nseq + 1 } := by
  have p : s.popped aw = false := by simp [State.popped, h]
  simp [State.afterWord, p]

/-- A unit that has read no queue entry pops none. -/
theorem State.doPops_none {s : State} (h : s.unit = {}) : s.doPops = s := by
  simp only [State.doPops, h, List.foldl_nil]
  exact State.unit_eta h

/-- Nothing pending changes nothing where it is taken away. -/
theorem State.unpend_none {s : State} {x : Ctx} (h : x.pend = none) :
    (s.setMe x).setMe { (s.setMe x).me with pend := none } = s.setMe x := by
  have e : ({ x with pend := none } : Ctx) = x := by rw [← h]
  simp [e]

/-- A unit without staged pushes makes none, and goes on, where it has nothing pending, where its operation has been performed,
or where its effects have taken what was pending. -/
theorem State.makePushes_none {s s1 : State} {x : Ctx} (aw : Bool) (k : State → State) (hu : (s1.setMe x).unit = {})
    (hp : s.me.pend = none ∨ s.performed = true ∨ x.pend = none) :
    s.makePushes (s1.setMe x) aw k = k (s1.setMe x) := by
  have e : ({ s1.setMe x with unit := {} } : State) = s1.setMe x := State.unit_eta hu
  simp only [State.makePushes, hu, List.filter_nil, List.foldl_nil, State.doPushes, e]
  rcases hp with h | h | h
  · simp [h]
  · simp [h]
  · split
    · rw [State.unpend_none h]
    · rfl

/-- A word that popped nothing and pushes nothing retires, going on in sequence or at `j`. -/
theorem retire_plain {s s1 : State} (g : Sig) (j : Option Word) (hu : s1.unit = {})
    (hp : s.me.pend = none ∨ s.performed = true ∨ s1.me.pend = none) :
    retire s s1 g j = s.endUnit (s1.setMe { s1.me with nseq := s1.me.nseq + 1 }) g.loops j := by
  have e : (s1.setMe { s1.me with nseq := s1.me.nseq + 1 }).unit = {} := hu
  rw [retire, State.afterWord_plain _ g false hu, State.makePushes_none false _ e hp, State.doPops_none e]

/-- A unit whose operands popped nothing and that pushes nothing retires as `retires` says. -/
theorem finish_done {s s1 : State} (g : Sig) (hu : s1.unit = {})
    (hp : s.me.pend = none ∨ s.performed = true ∨ s1.me.pend = none) : finish s g (.done s1) = s.retires g s1 :=
  retire_plain g none hu hp

/-- A unit that redirects ends as `redirects` says. -/
theorem finish_jump {s s1 : State} (g : Sig) (t : Word) (hu : s1.unit = {})
    (hp : s.me.pend = none ∨ s.performed = true ∨ s1.me.pend = none) : finish s g (.jump s1 t) = s.redirects g s1 t :=
  retire_plain g (some t) hu hp

/-- A ready word executes its meaning on the state as it is. -/
theorem issue_ready {s : State} {g : Sig} (f : State → Res) (h : s.ready g = true) : issue g s f = .next (finish s g (f s)) := by
  have m : s.unit.mode = 0 := by simp [(State.ready_parts h).1]
  simp [issue, m, State.gate_ready h]

/-- A ready word whose meaning retires. -/
theorem issue_done {s s1 : State} {g : Sig} {f : State → Res} (h : s.ready g = true) (hf : f s = .done s1) (hu : s1.unit = {}) :
    issue g s f = .next (s.retires g s1) := by
  rw [issue_ready f h, hf, finish_done g hu (.inl (State.ready_parts h).2.1)]

/-- A ready word whose meaning redirects. -/
theorem issue_jump {s s1 : State} {g : Sig} {f : State → Res} {t : Word} (h : s.ready g = true) (hf : f s = .jump s1 t)
    (hu : s1.unit = {}) : issue g s f = .next (s.redirects g s1 t) := by
  rw [issue_ready f h, hf, finish_jump g t hu (.inl (State.ready_parts h).2.1)]

/-- A ready word whose meaning traps. -/
theorem issue_trap {s : State} {g : Sig} {f : State → Res} {w : Why} (h : s.ready g = true) (hf : f s = .trap w) :
    issue g s f = .next (s.traps w false) := by
  rw [issue_ready f h, hf]
  rfl

/-- A ready word whose meaning waits. -/
theorem issue_wait {s : State} {g : Sig} {f : State → Res} (h : s.ready g = true) (hf : f s = .wait) :
    issue g s f = .next s.waits := by
  rw [issue_ready f h, hf]
  rfl

/-- A ready word whose meaning sends an operation. -/
theorem issue_hold {s s1 : State} {g : Sig} {f : State → Res} (h : s.ready g = true) (hf : f s = .hold s1) :
    issue g s f = .next s1.holds := by
  rw [issue_ready f h, hf]
  rfl

/-- The parts of `answered`. -/
theorem State.answered_parts {s : State} {v jv js : Word} {fl : BitVec 6} (h : s.answered v jv js fl = true) :
    s.unit = {} ∧ ∃ p, s.me.pend = some p ∧ p.result = some (.ok v jv js fl) ∧ p.latched = [] ∧ p.pops = [] := by
  simp only [State.answered, Bool.and_eq_true, beq_iff_eq] at h
  obtain ⟨⟨h1, -⟩, h2⟩ := h
  cases e : s.me.pend with
  | none => simp [e] at h2
  | some p => exact ⟨h1, p, rfl, by simpa [e, and_assoc] using h2⟩

/-- An answered operation has been performed. -/
theorem State.answered_performed {s : State} {v jv js : Word} {fl : BitVec 6} (h : s.answered v jv js fl = true) :
    s.performed = true := by
  simp only [State.answered, Bool.and_eq_true] at h
  exact h.1.2

/-- The parts of `gathered`. -/
theorem State.gathered_parts {s : State} {t : Tab Word} (h : s.gathered t = true) :
    s.unit = {} ∧ (tabFind t 0).isSome = true ∧ ∃ p a, s.me.pend = some p ∧ p.op = .read a [] ∧ p.result = none ∧ p.got = t
      ∧ p.latched = [] ∧ p.pops = [] := by
  simp only [State.gathered, Bool.and_eq_true, beq_iff_eq] at h
  obtain ⟨⟨h1, h2⟩, h3⟩ := h
  refine ⟨h1, h2, ?_⟩
  split at h3
  · rename_i a u e
    exact ⟨_, _, e, rfl, rfl, by simpa using h3, rfl, rfl⟩
  · simp at h3

/-- A unit that goes on with an operand it has read executes on the state as it is. -/
theorem issue_gathered {s : State} {g : Sig} {t : Tab Word} (f : State → Res) (h : s.gathered t = true) :
    issue g s f = .next (finish s g (f s)) := by
  obtain ⟨h1, -, p, a, h2, -, -, -, h3, h4⟩ := State.gathered_parts h
  have m : s.unit.mode = 0 := by simp [h1]
  have e : s.gate [(g, false)] = .go s := by
    have e1 : s.gate [(g, false)] = .go { s with unit := { s.unit with latched := p.latched, pops := p.pops } } := by
      unfold State.gate
      rw [h2]
    rw [e1, h3, h4, h1]
    exact congrArg Gate.go (State.unit_eta h1)
  simp only [issue, m, if_true, e]

/-- A word that has read its operand and then retires with nothing pending. -/
theorem issue_gathered_done {s s1 : State} {g : Sig} {t : Tab Word} {f : State → Res} (h : s.gathered t = true)
    (hf : f s = .done s1) (hu : s1.unit = {}) (hp : s1.me.pend = none) : issue g s f = .next (s.retires g s1) := by
  rw [issue_gathered f h, hf, finish_done g hu (.inr (.inr hp))]

/-- What `whenRead` answers once the operand has been read. -/
theorem State.whenRead_gathered {s : State} {t : Tab Word} (a : State → Res) (f : State → Tab Word → Res)
    (b : State → Word → Word → Word → Nat → Res) (h : s.gathered t = true) : s.whenRead a f b = f s.unpend t := by
  obtain ⟨-, h0, p, e, h2, h3, h4, h5, -, -⟩ := State.gathered_parts h
  obtain ⟨⟩ := p
  subst h3 h4 h5
  simp only [State.whenRead, h2]
  simp [h0, State.unpend]

/-- What `whenRead` answers before anything is sent. -/
theorem State.whenRead_start {s : State} (a : State → Res) (f : State → Tab Word → Res)
    (b : State → Word → Word → Word → Nat → Res) (h : s.me.pend = none) : s.whenRead a f b = a s := by
  simp [State.whenRead, State.whenDone, h]

/-- A word whose operation has been performed executes the rest of its meaning. -/
theorem issue_answered {s : State} {g : Sig} {v jv js : Word} {fl : BitVec 6} (f : State → Res)
    (h : s.answered v jv js fl = true) : issue g s f = .next (finish s g (f s)) := by
  obtain ⟨h1, p, h2, -, h3, h4⟩ := State.answered_parts h
  have m : s.unit.mode = 0 := by simp [h1]
  have e : s.gate [(g, false)] = .go s := by
    have e1 : s.gate [(g, false)] = .go { s with unit := { s.unit with latched := p.latched, pops := p.pops } } := by
      unfold State.gate
      rw [h2]
    rw [e1, h3, h4, h1]
    exact congrArg Gate.go (State.unit_eta h1)
  simp only [issue, m, if_true, e]

/-- A word whose operation has been performed and whose meaning then retires. -/
theorem issue_answered_done {s s1 : State} {g : Sig} {v jv js : Word} {fl : BitVec 6} {f : State → Res}
    (h : s.answered v jv js fl = true) (hf : f s = .done s1) (hu : s1.unit = {}) : issue g s f = .next (s.retires g s1) := by
  rw [issue_answered f h, hf, finish_done g hu (.inr (.inl (State.answered_performed h)))]

/-- What `whenDone` answers before the operation is sent. -/
theorem State.whenDone_start {s : State} (a : State → Res) (b : State → Word → Word → Word → Nat → Res)
    (h : s.me.pend = none) : s.whenDone a b = a s := by
  simp [State.whenDone, h]

/-- What `whenDone` answers once the operation has been performed. -/
theorem State.whenDone_answered {s : State} {v jv js : Word} {fl : BitVec 6} (a : State → Res)
    (b : State → Word → Word → Word → Nat → Res) (h : s.answered v jv js fl = true) :
    s.whenDone a b = b s.unpend v jv js fl.toNat := by
  obtain ⟨-, p, h2, h3, -⟩ := State.answered_parts h
  simp [State.whenDone, h2, h3, State.unpend]

/-- A result for an X register that no port is bound to is written to the register (R15, R25). -/
theorem State.putX_plain {s : State} {n : Nat} (v : Word) (h : s.regs.boundTo n = none) :
    s.putX n v = s.setRegs (s.regs.setX n v) := by
  simp [State.putX, h]

/-- A destination of class X that is writable is bound to no port. -/
theorem Regs.writable_x {r : Regs} {n : Nat} (h : r.writable ⟨0, n⟩ = true) : r.boundTo n = none := by
  simpa [Regs.writable, portNamed] using (And.left (by simpa [Regs.writable, portNamed] using h : r.boundTo n = none ∧ _))

/-- The value of an operand that no unit under way has latched (R25, R41). -/
theorem State.rx_plain {s : State} (pos n : Nat) (h : s.unit = {}) : s.rx pos n = s.regs.xAt n := by
  simp [State.rx, h, tabFind]

end Sys2Proof.Machine
end

