-- ==== Sys2Proof/Laws/Retire.lean ====
section
/-! SUPPORT. What the end of a unit leaves unchanged: `retires` and `redirects` change, of the registers, only the PC and
the loop and repeat CSRs, and no byte of memory, unless a step trap follows (R44, R112, R114, R397). -/

namespace Sys2Proof.Machine

/-! One register written -/

@[simp] theorem Regs.csrAt_setCsr_same (r : Regs) (a : Nat) (v : Word) : (r.setCsr a v).csrAt a = v := tabGet_tabSet_same _ _ _ _
theorem Regs.csrAt_setCsr_ne (r : Regs) {a b : Nat} (h : b ≠ a) (v : Word) : (r.setCsr a v).csrAt b = r.csrAt b :=
  tabGet_tabSet_ne _ h _ _

theorem Regs.xAt_setX_same (r : Regs) {n : Nat} (h : n ≠ 0) (v : Word) : (r.setX n v).xAt n = v := by
  simp [Regs.setX, Regs.xAt, h, tabGet_tabSet_same]
theorem Regs.xAt_setX_ne (r : Regs) {n k : Nat} (h : k ≠ n) (v : Word) : (r.setX n v).xAt k = r.xAt k := by
  by_cases e : n = 0
  · simp [Regs.setX, e]
  · simp only [Regs.setX, e, if_false, Regs.xAt, tabGet_tabSet_ne _ h]
theorem Regs.xAt_zero (r : Regs) : r.xAt 0 = 0 := rfl
theorem Regs.setX_zero (r : Regs) (v : Word) : r.setX 0 v = r := rfl
@[simp] theorem Regs.fAt_setF_same (r : Regs) (n : Nat) (v : BitVec 32) : (r.setF n v).fAt n = v := tabGet_tabSet_same _ _ _ _
theorem Regs.fAt_setF_ne (r : Regs) {n k : Nat} (h : k ≠ n) (v : BitVec 32) : (r.setF n v).fAt k = r.fAt k := tabGet_tabSet_ne _ h _ _
@[simp] theorem Regs.vAt_setV_same (r : Regs) (n : Nat) (v : BitVec 512) : (r.setV n v).vAt n = v := tabGet_tabSet_same _ _ _ _
theorem Regs.vAt_setV_ne (r : Regs) {n k : Nat} (h : k ≠ n) (v : BitVec 512) : (r.setV n v).vAt k = r.vAt k := tabGet_tabSet_ne _ h _ _
@[simp] theorem Regs.hAt_setH_same (r : Regs) (n : Nat) (v : BitVec 4096) : (r.setH n v).hAt n = v := tabGet_tabSet_same _ _ _ _
theorem Regs.hAt_setH_ne (r : Regs) {n k : Nat} (h : k ≠ n) (v : BitVec 4096) : (r.setH n v).hAt k = r.hAt k := tabGet_tabSet_ne _ h _ _
@[simp] theorem Regs.bAt_setB_same (r : Regs) (n : Nat) (v : BitVec 32768) : (r.setB n v).bAt n = v := tabGet_tabSet_same _ _ _ _
theorem Regs.bAt_setB_ne (r : Regs) {n k : Nat} (h : k ≠ n) (v : BitVec 32768) : (r.setB n v).bAt k = r.bAt k := tabGet_tabSet_ne _ h _ _
@[simp] theorem Regs.accAt_setAcc_same (r : Regs) (n : Nat) (v : BitVec 8192) : (r.setAcc n v).accAt n = v := tabGet_tabSet_same _ _ _ _
theorem Regs.accAt_setAcc_ne (r : Regs) {n k : Nat} (h : k ≠ n) (v : BitVec 8192) : (r.setAcc n v).accAt k = r.accAt k :=
  tabGet_tabSet_ne _ h _ _
theorem Regs.mAt_setM_same (r : Regs) {n : Nat} (h : n ≠ 0) (v : BitVec 16) : (r.setM n v).mAt n = v := by
  simp [Regs.setM, Regs.mAt, h, tabGet_tabSet_same]
theorem Regs.mAt_setM_ne (r : Regs) {n k : Nat} (h : k ≠ n) (v : BitVec 16) : (r.setM n v).mAt k = r.mAt k := by
  by_cases e : n = 0
  · simp [Regs.setM, e]
  · simp only [Regs.setM, e, if_false, Regs.mAt, tabGet_tabSet_ne _ h]

/-! Registers that differ only in the PC and the loop and repeat CSRs -/

/-- Two sets of registers agree but for the PC and the loop and repeat CSRs. -/
def Regs.sameButEnd (r q : Regs) : Prop :=
  ∃ (csr : Tab Word) (pc : Word), q = { r with csr := csr, pc := pc } ∧ ∀ a, a ∉ endCsrs → q.csrAt a = r.csrAt a

theorem Regs.sameButEnd_refl (r : Regs) : r.sameButEnd r := ⟨r.csr, r.pc, rfl, fun _ _ => rfl⟩

theorem Regs.sameButEnd_trans {r q p : Regs} (h1 : r.sameButEnd q) (h2 : q.sameButEnd p) : r.sameButEnd p := by
  obtain ⟨c1, p1, e1, f1⟩ := h1
  obtain ⟨c2, p2, e2, f2⟩ := h2
  refine ⟨c2, p2, ?_, fun a ha => (f2 a ha).trans (f1 a ha)⟩
  rw [e2, e1]

theorem Regs.sameButEnd_ite {p : Prop} [Decidable p] {r a b : Regs} (ha : r.sameButEnd a) (hb : r.sameButEnd b) :
    r.sameButEnd (if p then a else b) := by
  by_cases h : p
  · rw [if_pos h]; exact ha
  · rw [if_neg h]; exact hb

theorem Regs.sameButEnd_pc (r : Regs) (t : Word) : r.sameButEnd { r with pc := t } := ⟨r.csr, t, rfl, fun _ _ => rfl⟩

theorem Regs.sameButEnd_setCsr (r : Regs) {a : Nat} (h : a ∈ endCsrs) (v : Word) : r.sameButEnd (r.setCsr a v) := by
  refine ⟨tabSet a v r.csr, r.pc, rfl, fun b hb => Regs.csrAt_setCsr_ne r ?_ v⟩
  rintro rfl
  exact hb h

/-- The end of a loop body changes only the PC and the loop counts (R112). -/
theorem Regs.sameButEnd_loopEnd (r : Regs) (t : Word) (w0 w1 : Bool) : r.sameButEnd (r.loopEnd t w0 w1) := by
  have c1 : csrLC1 ∈ endCsrs := by simp [endCsrs]
  have c0 : csrLC0 ∈ endCsrs := by simp [endCsrs]
  unfold Regs.loopEnd
  split
  · exact Regs.sameButEnd_trans (Regs.sameButEnd_setCsr r c1 _) (Regs.sameButEnd_pc _ _)
  · have h1 : r.sameButEnd (if r.csrAt csrLC1 ≠ 0 ∧ t = r.csrAt csrLE1 ∧ !w1 then r.setCsr csrLC1 0 else r) := by
      split
      · exact Regs.sameButEnd_setCsr r c1 _
      · exact Regs.sameButEnd_refl r
    refine Regs.sameButEnd_trans h1 ?_
    generalize (if r.csrAt csrLC1 ≠ 0 ∧ t = r.csrAt csrLE1 ∧ !w1 then r.setCsr csrLC1 0 else r) = q
    dsimp only
    split
    · exact Regs.sameButEnd_trans (Regs.sameButEnd_setCsr q c0 _) (Regs.sameButEnd_pc _ _)
    · exact Regs.sameButEnd_pc _ _

/-- The next PC of a unit changes only the PC and the loop and repeat CSRs (R112, R114). -/
theorem endUnit_regs {s s1 : State} (w : Bool × Bool) (j : Option Word) (hs : s.regs.stepBit = false) :
    s1.regs.sameButEnd (s.endUnit s1 w j).regs ∧ ∀ l, (s.endUnit s1 w j).byteAt l = s1.byteAt l := by
  have a1 : csrRC ∈ endCsrs := by simp [endCsrs]
  have a2 : csrRI ∈ endCsrs := by simp [endCsrs]
  simp only [State.endUnit, hs, Bool.false_and, Bool.false_eq_true, if_false]
  refine ⟨?_, fun l => ?_⟩
  · simp only [State.regs, State.me, State.setMe, State.ctx, State.setCtx, tabGet_tabSet_same]
    cases j with
    | some t => exact Regs.sameButEnd_pc _ _
    | none =>
      dsimp only
      refine Regs.sameButEnd_ite (Regs.sameButEnd_loopEnd _ _ _ _) ?_
      · have h : ∀ r : Regs, r.sameButEnd ((r.setCsr csrRC (r.csrAt csrRC - 1)).setCsr csrRI (r.csrAt csrRI + 1)) := fun r =>
          Regs.sameButEnd_trans (Regs.sameButEnd_setCsr r a1 _) (Regs.sameButEnd_setCsr _ a2 _)
        exact Regs.sameButEnd_ite (Regs.sameButEnd_trans (h _) (Regs.sameButEnd_trans (Regs.sameButEnd_setCsr _ a2 _)
          (Regs.sameButEnd_loopEnd _ _ _ _))) (h _)
  · cases l <;> rfl

/-- A unit that retires leaves the registers as its effects left them, but for the PC and the loop and repeat CSRs, and
every byte. -/
theorem State.retires_frame {s s1 : State} (g : Sig) (hs : s.regs.stepBit = false) :
    s1.regs.sameButEnd (s.retires g s1).regs ∧ ∀ l, (s.retires g s1).byteAt l = s1.byteAt l := by
  have h := endUnit_regs (s := s) (s1 := s1.setMe { s1.me with nseq := s1.me.nseq + 1 }) g.loops none hs
  simpa [State.retires, State.regs] using h

/-- The same of a unit that redirects. -/
theorem State.redirects_frame {s s1 : State} (g : Sig) (t : Word) (hs : s.regs.stepBit = false) :
    s1.regs.sameButEnd (s.redirects g s1 t).regs ∧ ∀ l, (s.redirects g s1 t).byteAt l = s1.byteAt l := by
  have h := endUnit_regs (s := s) (s1 := s1.setMe { s1.me with nseq := s1.me.nseq + 1 }) g.loops (some t) hs
  simpa [State.redirects, State.regs] using h

/-- What `sameButEnd` and an unchanged memory say of the frame. -/
theorem State.keepsRegs_of {s s1 t : State} {k : Kept} (h : s.keepsRegs s1 k) (e : s1.regs.sameButEnd t.regs) :
    s.keepsRegs t k := by
  obtain ⟨c, p, e1, e2⟩ := e
  obtain ⟨h1, h2, h3, h4, h5, h6, h7, h8, h9, h10⟩ := h
  refine ⟨?_, ?_, ?_, ?_, ?_, ?_, ?_, ?_, ?_, ?_⟩
  · intro n hn; rw [e1]; exact h1 n hn
  · intro n hn; rw [e1]; exact h2 n hn
  · intro n hn; rw [e1]; exact h3 n hn
  · intro n hn; rw [e1]; exact h4 n hn
  · intro n hn; rw [e1]; exact h5 n hn
  · intro n hn; rw [e1]; exact h6 n hn
  · intro n hn; rw [e1]; exact h7 n hn
  · intro a ha
    rw [e2 a (fun hm => ha (List.mem_append_right _ hm))]
    exact h8 a ha
  · intro hr; rw [e1]; exact h9 hr
  · intro hr; rw [e1]; exact h10 hr

end Sys2Proof.Machine
end

