-- ==== Sys2Proof/Laws/Families.lean ====
section
/-! SUPPORT. One lemma for each shared shape of a meaning: what a ready word of that shape answers. Later proofs cite these
and unfold only the instruction's own line. -/

namespace Sys2Proof.Machine

/-- A destination X register that is writable takes the result. -/
theorem State.putX_dst {s : State} {g : Sig} {n : Nat} (v : Word) (h : s.ready g = true) (hd : ⟨0, n⟩ ∈ g.dsts) :
    s.putX n v = s.setRegs (s.regs.setX n v) := by
  obtain ⟨-, -, -, -, -, -, -, h8⟩ := State.ready_parts h
  exact State.putX_plain v (Regs.writable_x (h8 _ hd))

/-- An operand of a ready word is its register. -/
theorem State.rx_ready {s : State} {g : Sig} (pos n : Nat) (h : s.ready g = true) : s.rx pos n = s.regs.xAt n :=
  State.rx_plain pos n (State.ready_parts h).1

theorem alu2_done {s : State} {g : Sig} {d a b : BitVec 5} {x : Bool} {f : Nat → Nat → Nat → Nat} (h : s.ready g = true)
    (hd : ⟨0, d.toNat⟩ ∈ g.dsts) :
    alu2 g d a b x f s = .next (s.retires g (s.writeX d (aluW x f (s.regs.xAt a.toNat) (s.regs.xAt b.toNat)))) := by
  refine issue_done h ?_ (State.ready_parts h).1
  rw [State.rx_ready _ _ h, State.rx_ready _ _ h, State.putX_dst _ h hd]
  rfl

theorem alu1_done {s : State} {g : Sig} {d a : BitVec 5} {x : Bool} {f : Nat → Nat → Nat → Nat} (h : s.ready g = true)
    (hd : ⟨0, d.toNat⟩ ∈ g.dsts) :
    alu1 g d a x f s = .next (s.retires g (s.writeX d (aluW x f (s.regs.xAt a.toNat) 0))) := by
  refine issue_done h ?_ (State.ready_parts h).1
  rw [State.rx_ready _ _ h, State.putX_dst _ h hd]
  rfl

theorem aluImm_done {s : State} {g : Sig} {d a : BitVec 5} {imm : Word} {x : Bool} {f : Nat → Nat → Nat → Nat}
    (h : s.ready g = true) (hd : ⟨0, d.toNat⟩ ∈ g.dsts) :
    aluImm g d a imm x f s = .next (s.retires g (s.writeX d (aluW x f (s.regs.xAt a.toNat) imm))) := by
  refine issue_done h ?_ (State.ready_parts h).1
  rw [State.rx_ready _ _ h, State.putX_dst _ h hd]
  rfl

theorem selOp_done {s : State} {g : Sig} {d a b c : BitVec 5} {p : Word → Bool} (h : s.ready g = true)
    (hd : ⟨0, d.toNat⟩ ∈ g.dsts) :
    selOp g d a b c p s = .next (s.retires g (s.writeX d
      (if p (s.regs.xAt a.toNat) then s.regs.xAt b.toNat else s.regs.xAt c.toNat))) := by
  refine issue_done h ?_ (State.ready_parts h).1
  rw [State.rx_ready _ _ h, State.rx_ready _ _ h, State.rx_ready _ _ h, State.putX_dst _ h hd]
  rfl

/-- The draws of a rounding instruction change the generator's state only. -/
theorem State.draws_unit (s : State) (m n : Nat) : (s.draws m n).2.unit = s.unit := by
  unfold State.draws
  split
  · rfl
  · rfl

theorem fRound_done {s : State} {g : Sig} {d : BitVec 5} {op : Nat → Nat → State → Nat × Nat} (h : s.ready g = true) :
    fRound g d op s = .next (s.retires g
      (((s.draws s.regs.frm 1).2.writeF d (op s.regs.frm ((s.draws s.regs.frm 1).1.headD 0) s).1).orFlags
        (op s.regs.frm ((s.draws s.regs.frm 1).1.headD 0) s).2)) := by
  refine issue_done h rfl ?_
  exact (State.draws_unit s _ _).trans (State.ready_parts h).1

theorem fExact_done {s : State} {g : Sig} {d : BitVec 5} {op : State → Nat × Nat} (h : s.ready g = true) :
    fExact g d op s = .next (s.retires g ((s.writeF d (op s).1).orFlags (op s).2)) :=
  issue_done h rfl (State.ready_parts h).1

theorem fToX_done {s : State} {g : Sig} {d : BitVec 5} {op : State → Nat × Nat} (h : s.ready g = true)
    (hd : ⟨0, d.toNat⟩ ∈ g.dsts) :
    fToX g d op s = .next (s.retires g ((s.writeX d (natW (op s).1)).orFlags (op s).2)) := by
  refine issue_done h ?_ (State.ready_parts h).1
  dsimp only
  rw [State.putX_dst _ h hd]
  rfl

/-- A draw leaves the CSRs. -/
theorem State.draws_bound (s : State) (m n k : Nat) : (s.draws m n).2.regs.boundTo k = s.regs.boundTo k := by
  have go : ∀ (n : Nat) (r : Regs), ((r.drawList n).2).csr = r.csr := by
    intro n
    induction n with
    | zero => intro r; rfl
    | succ n ih => intro r; exact ih _
  unfold State.draws
  split
  · have e : ∀ r q : Regs, r.csr = q.csr → r.boundTo k = q.boundTo k := by
      intro r q e
      unfold Regs.boundTo Regs.csrAt
      rw [e]
    dsimp only
    rw [State.regs_setRegs]
    exact e _ _ (go _ _)
  · rfl

theorem fToXRound_done {s : State} {g : Sig} {d : BitVec 5} {op : Nat → Nat → State → Word × Nat} (h : s.ready g = true)
    (hd : ⟨0, d.toNat⟩ ∈ g.dsts) :
    fToXRound g d op s = .next (s.retires g
      (((s.draws s.regs.frm 1).2.writeX d (op s.regs.frm ((s.draws s.regs.frm 1).1.headD 0) s).1).orFlags
        (op s.regs.frm ((s.draws s.regs.frm 1).1.headD 0) s).2)) := by
  obtain ⟨hu, -, -, -, -, -, -, h8⟩ := State.ready_parts h
  have hb : (s.draws s.regs.frm 1).2.regs.boundTo d.toNat = none := by
    rw [State.draws_bound]
    exact Regs.writable_x (h8 _ hd)
  refine issue_done h ?_ ((State.draws_unit s _ _).trans hu)
  dsimp only
  rw [State.putX_plain _ hb]
  rfl

theorem vOp_done {s : State} {g : Sig} {d : BitVec 5} {m : BitVec 3} {w : Nat} {f : State → Nat → Nat × Nat}
    (h : s.ready g = true) :
    vOp g d m w f s = .next (s.retires g
      ((s.setRegs (s.regs.setV d.toNat (mergeLanes w (s.regs.mAt m.toNat) (s.regs.vAt d.toNat) (f s)).1)).orFlags
        (mergeLanes w (s.regs.mAt m.toNat) (s.regs.vAt d.toNat) (f s)).2)) :=
  issue_done h rfl (State.ready_parts h).1

theorem vRound_done {s : State} {g : Sig} {d : BitVec 5} {m : BitVec 3} {w : Nat}
    {f : Nat → Nat → State → Nat → Nat × Nat} (h : s.ready g = true) :
    vRound g d m w f s = .next (s.retires g
      (((s.draws s.regs.frm (512 / w)).2.putV d.toNat (mergeLanes w (s.regs.mAt m.toNat) (s.regs.vAt d.toNat)
          (fun k => f s.regs.frm (nth 0 (s.draws s.regs.frm (512 / w)).1 k) s k)).1).orFlags
        (mergeLanes w (s.regs.mAt m.toNat) (s.regs.vAt d.toNat)
          (fun k => f s.regs.frm (nth 0 (s.draws s.regs.frm (512 / w)).1 k) s k)).2)) :=
  issue_done h rfl ((State.draws_unit s _ _).trans (State.ready_parts h).1)

theorem vRed_done {s : State} {g : Sig} {d a : BitVec 5} {m y : BitVec 3} {f : List (Nat × Nat) → Nat × Option Nat × Nat}
    (h : s.ready g = true) :
    vRed g d a m y f s = .next (s.retires g
      ((s.putV d.toNat (redPut y (f (s.activeLanes a m y)).1 (f (s.activeLanes a m y)).2.1)).orFlags (f (s.activeLanes a m y)).2.2)) :=
  issue_done h rfl (State.ready_parts h).1

theorem mOp_done {s : State} {g : Sig} {d : BitVec 5} {f : State → BitVec 16} (h : s.ready g = true) :
    mOp g d f s = .next (s.retires g (s.writeM d.toNat (f s))) :=
  issue_done h rfl (State.ready_parts h).1

theorem hOp_done {s : State} {g : Sig} {d : BitVec 3} {f : State → BitVec 4096} (h : s.ready g = true) :
    hOp g d f s = .next (s.retires g (s.writeH d (f s))) :=
  issue_done h rfl (State.ready_parts h).1

theorem branch_done {s : State} {g : Sig} {o : BitVec 12} {p : State → Bool} (h : s.ready g = true) :
    branch g o p s = .next (if p s then s.redirects g s (s.target 12 o.toNat) else s.retires g s) := by
  by_cases e : p s
  · rw [if_pos e]
    exact issue_jump h (by rw [if_pos e]) (State.ready_parts h).1
  · rw [if_neg e]
    exact issue_done h (by rw [if_neg e]) (State.ready_parts h).1

/-! Lanes of a register built from a list (R17, R129) -/

theorem upFrom_length (lo n : Nat) : (upFrom lo n).length = n := by
  induction n generalizing lo with
  | zero => rfl
  | succ n ih => simp [upFrom, ih]

theorem upFrom_get (lo n k : Nat) (h : k < (upFrom lo n).length) : (upFrom lo n)[k] = lo + k := by
  induction n generalizing lo k with
  | zero => simp [upFrom] at h
  | succ n ih =>
    cases k with
    | zero => simp [upFrom]
    | succ k =>
      simp only [upFrom, List.getElem_cons_succ]
      rw [ih]
      omega

/-- Lane `k` of a number built from lanes is that lane's value modulo 2^w. -/
theorem lane_ofLanes (w : Nat) (l : List Nat) (k : Nat) (h : k < l.length) : lane w k (ofLanes w l) = l[k] % 2 ^ w := by
  induction l generalizing k with
  | nil => simp at h
  | cons a t ih =>
    cases k with
    | zero =>
      simp [lane, ofLanes, Nat.add_mul_mod_self_left]
    | succ k =>
      simp only [List.getElem_cons_succ]
      rw [← ih k (by simpa using h)]
      simp only [lane, ofLanes]
      rw [Nat.mul_succ, Nat.add_comm (w * k) w, Nat.pow_add, ← Nat.div_div_eq_div_mul,
        Nat.add_mul_div_left _ _ (Nat.two_pow_pos w), Nat.div_eq_of_lt (Nat.mod_lt _ (Nat.two_pow_pos w)), Nat.zero_add]

theorem ofLanes_lt (w : Nat) (l : List Nat) : ofLanes w l < 2 ^ (w * l.length) := by
  induction l with
  | nil => simp [ofLanes]
  | cons a t ih =>
    simp only [ofLanes, List.length_cons, Nat.mul_succ, Nat.pow_add]
    have h1 := Nat.mod_lt a (Nat.two_pow_pos w)
    have h2 : 2 ^ w * ofLanes w t + 2 ^ w ≤ 2 ^ w * 2 ^ (w * t.length) := by
      rw [← Nat.mul_succ]
      exact Nat.mul_le_mul_left _ ih
    rw [Nat.mul_comm (2 ^ (w * t.length))]
    omega

/-- Each lane of a merged register: the new value where the lane is active, the old one elsewhere (R129). -/
theorem mergeLanes_lane {w : Nat} (m : BitVec 16) (old : BitVec 512) (f : Nat → Nat × Nat) {k : Nat} (h : k < 512 / w) :
    lane w k (mergeLanes w m old f).1.toNat = if active w m k then (f k).1 % 2 ^ w else lane w k old.toNat := by
  have hl : ∀ g : Nat → Nat × Nat, ((((upFrom 0 (512 / w)).map g).map (·.1))).length = 512 / w := by
    intro g
    simp [upFrom_length]
  simp only [mergeLanes, BitVec.toNat_ofNat]
  rw [Nat.mod_eq_of_lt (Nat.lt_of_lt_of_le (ofLanes_lt _ _) (Nat.pow_le_pow_right (by omega)
    (by rw [hl]; exact Nat.mul_div_le _ _)))]
  rw [lane_ofLanes _ _ _ (by rw [hl]; exact h)]
  simp only [List.getElem_map, upFrom_get, Nat.zero_add]
  split
  · rfl
  · exact Nat.mod_eq_of_lt (Nat.mod_lt _ (Nat.two_pow_pos w))

/-- A masked operation answers as `LanesDone` says. -/
theorem vOp_lanes {i : Instr} {g : Sig} {d : BitVec 5} {m : BitVec 3} {w : Nat} {f : State → Nat → Nat × Nat}
    (e : ∀ s, exec i s = vOp g d m w f s) :
    LanesDone i g d m w (fun s k => (f s k).1) (fun s => (mergeLanes w (s.regs.mAt m.toNat) (s.regs.vAt d.toNat) (f s)).2) := by
  intro s h
  exact ⟨_, (e s).trans (vOp_done h), fun k hk => mergeLanes_lane _ _ _ hk⟩

/-- The flags of a merged register (R129). -/
theorem mergeLanes_flags (s : State) (m : BitVec 3) (w : Nat) (old : BitVec 512) (f : Nat → Nat × Nat) :
    (mergeLanes w (s.regs.mAt m.toNat) old f).2 = s.laneFlags m w (fun k => (f k).2) := by
  simp only [mergeLanes, State.laneFlags, List.map_map]
  congr 1
  refine List.map_congr_left (fun k _ => ?_)
  simp only [Function.comp_apply]
  split <;> rfl

end Sys2Proof.Machine
end

