-- ==== Sys2Proof/Laws/Access.lean ====
section
/-! SUPPORT. What the checks, translations and counts of an access leave as it is: the unit under way, the current context and
its record. Later proofs cite these and never unfold the walk. -/

namespace Sys2Proof.Machine

@[simp] theorem State.within_unit (s t : State) : (s.within t).unit = s.unit := rfl

/-- Two states agree on what the unit under way needs: the unit, the current context, the context records and the launches. -/
def State.sameUnit (s t : State) : Prop :=
  t.unit = s.unit ∧ t.cur = s.cur ∧ t.ctxs = s.ctxs ∧ t.launches = s.launches

theorem State.sameUnit_refl (s : State) : s.sameUnit s := ⟨rfl, rfl, rfl, rfl⟩
theorem State.sameUnit_trans {s t u : State} (h : s.sameUnit t) (k : t.sameUnit u) : s.sameUnit u :=
  ⟨k.1.trans h.1, k.2.1.trans h.2.1, k.2.2.1.trans h.2.2.1, k.2.2.2.trans h.2.2.2⟩
theorem State.sameUnit_mem (s : State) (m : List Host.Cell) : s.sameUnit { s with mem := m } := ⟨rfl, rfl, rfl, rfl⟩
theorem State.sameUnit_free (s : State) (n : Nat) : s.sameUnit { s with freeIx := n } := ⟨rfl, rfl, rfl, rfl⟩
theorem State.sameUnit_sencha (s : State) (x : Sencha) : s.sameUnit { s with sencha := x } := ⟨rfl, rfl, rfl, rfl⟩

theorem State.sameUnit_me {s t : State} (h : s.sameUnit t) : t.me = s.me := by
  simp only [State.me, State.ctx, h.2.1, h.2.2.1]
theorem State.sameUnit_regs {s t : State} (h : s.sameUnit t) : t.regs = s.regs := by
  simp only [State.regs, State.sameUnit_me h]

theorem Xlat.past_fault {c : Prop} [Decidable c] {k pa lf ea : Nat} {t : State} {x : Xlat}
    (h : (if c then Xlat.fault k else x) = .ok pa lf ea t) : x = .ok pa lf ea t := by
  by_cases e : c
  · rw [if_pos e] at h
    exact absurd h (by simp)
  · rwa [if_neg e] at h

/-- The leaf of a walk changes only the accessed and dirty bits of its entry (R271). -/
theorem State.leaf_same {s t : State} {vf va e ea bits pa lf eb : Nat} {acc : Acc} (h : s.leaf vf va acc e ea bits = .ok pa lf eb t) :
    s.sameUnit t := by
  have wr : ∀ (c : Prop) [Decidable c] (m : List Host.Cell), s.sameUnit (if c then s else { s with mem := m }) := by
    intro c _ m
    split
    · exact State.sameUnit_refl s
    · exact State.sameUnit_mem s m
  unfold State.leaf at h
  dsimp only at h
  have e := (Xlat.ok.inj (Xlat.past_fault (Xlat.past_fault (Xlat.past_fault (Xlat.past_fault (Xlat.past_fault h)))))).2.2.2
  rw [← e]
  exact wr _ _

theorem State.groupEntry_same (s : State) (t i : Nat) : s.sameUnit (s.groupEntry t i).2 := by
  unfold State.groupEntry
  dsimp only
  split
  · exact State.sameUnit_free s _
  · exact State.sameUnit_refl s

/-- A walk changes only memory and the count of free values (R268, R271). -/
theorem State.walkFrom_same {vf va : Nat} {acc : Acc} (ls : List Nat) : ∀ {s t : State} {tb pa lf ea : Nat},
    s.walkFrom vf va acc ls tb = .ok pa lf ea t → s.sameUnit t := by
  induction ls with
  | nil => intro s t tb pa lf ea h; exact absurd h (by simp [State.walkFrom])
  | cons lo more ih =>
    intro s t tb pa lf ea h
    have g : ∀ q : Nat × State, q = (if lo = 12 then s.groupEntry tb (if lo = 48 then fld va lo 4 else fld va lo 9)
        else ((if lo = 48 then fld va lo 4 else fld va lo 9), s)) → s.sameUnit q.2 := by
      rintro _ rfl
      split
      · exact State.groupEntry_same s _ _
      · exact State.sameUnit_refl s
    simp only [State.walkFrom] at h
    generalize e : (if lo = 12 then s.groupEntry tb (if lo = 48 then fld va lo 4 else fld va lo 9)
        else ((if lo = 48 then fld va lo 4 else fld va lo 9), s)) = q at h
    have gq := g q e.symm
    repeat' split at h
    all_goals first
      | exact absurd h (by simp)
      | exact ih h
      | exact State.sameUnit_trans gq (State.leaf_same h)

/-- A translation held by the units changes only them (R272). -/
theorem State.hold_same (s : State) (u : Units) (e : Xlated) : s.sameUnit (s.hold u e) := by
  unfold State.hold
  dsimp only
  split <;> exact ⟨rfl, rfl, rfl, rfl⟩

theorem Xlat.fill_same {s t : State} {u : Units} {vf va pa lf ea : Nat} {x : Xlat} (h : x.fill u vf va = .ok pa lf ea t)
    (hx : ∀ {pa lf ea : Nat} {t : State}, x = .ok pa lf ea t → s.sameUnit t) : s.sameUnit t := by
  cases x with
  | ok pb lg eb r =>
    rw [← (Xlat.ok.inj h).2.2.2]
    exact State.sameUnit_trans (hx rfl) (State.hold_same _ _ _)
  | fault k => exact nomatch h

/-- A translation changes only memory, the units' buffers and the count of free values (R271, R272). -/
theorem State.translate_same {s t : State} {u : Units} {vf va pa lf ea : Nat} {acc : Acc}
    (h : s.translate u vf va acc = .ok pa lf ea t) : s.sameUnit t := by
  unfold State.translate at h
  dsimp only at h
  repeat' split at h
  all_goals first
    | exact Xlat.fill_same h (fun k => State.walkFrom_same _ k)
    | exact State.leaf_same h
    | exact State.sameUnit_trans (State.sameUnit_free s _) (State.leaf_same h)
    | exact State.sameUnit_trans (State.sameUnit_free s _) (Xlat.fill_same h (fun k => State.walkFrom_same _ k))

/-- A checked access to global memory leaves the unit, the current context and the contexts as they are. -/
theorem State.reach_same {s t : State} {a : Word} {acc : Acc} {tile : Bool} {l : Loc} {leaf : Nat}
    (h : s.reach a acc tile = .at_ l leaf t) : s.sameUnit t := by
  unfold State.reach at h
  dsimp only at h
  split at h
  · split at h <;> (simp only [Reach.at_.injEq] at h; obtain ⟨-, -, rfl⟩ := h; exact State.sameUnit_refl s)
  · split at h
    · exact absurd h (by simp)
    · split at h
      · rename_i e
        simp only [Reach.at_.injEq] at h
        obtain ⟨-, -, rfl⟩ := h
        exact State.translate_same e
      · exact absurd h (by simp)

theorem State.countBytes_same {s t : State} {vf va n : Nat} (h : s.countBytes vf va n = some t) : s.sameUnit t := by
  unfold State.countBytes at h
  split at h
  · simp only [Option.some.injEq] at h
    obtain rfl := h
    exact State.sameUnit_refl s
  · simp only [Option.map_eq_some_iff] at h
    obtain ⟨_, _, rfl⟩ := h
    exact State.sameUnit_sencha s _

theorem State.countOp_same {s t : State} {k : Nat} (h : s.countOp k = some t) : s.sameUnit t := by
  unfold State.countOp at h
  split at h
  · simp only [Option.some.injEq] at h
    obtain rfl := h
    exact State.sameUnit_refl s
  · simp only [Option.map_eq_some_iff] at h
    obtain ⟨_, _, rfl⟩ := h
    exact State.sameUnit_sencha s _

theorem State.countTiles_same {s t : State} {a b : Nat} (h : s.countTiles a b = some t) : s.sameUnit t := by
  unfold State.countTiles at h
  generalize s.tagsOf [a, b] = l at h
  have go : ∀ (l : List Nat) (r : Option State), (∀ q, r = some q → s.sameUnit q) →
      ∀ q, l.foldl (fun r k => r.bind (fun q => State.countOp q k)) r = some q → s.sameUnit q := by
    intro l
    induction l with
    | nil => intro r hr q hq; exact hr q hq
    | cons k l ih =>
      intro r hr q hq
      refine ih _ ?_ q hq
      intro p hp
      cases r with
      | none => exact absurd hp (by simp)
      | some r1 => exact State.sameUnit_trans (hr r1 rfl) (State.countOp_same hp)
  exact go l (some s) (by rintro q ⟨⟩; exact State.sameUnit_refl s) t h

/-! The unit under way after the updates of an access -/

@[simp] theorem State.addProd_unit (s : State) (cls reg : Nat) (acq : Bool) (src : ProdSrc) (uc : Option Nat) :
    (s.addProd cls reg acq src uc).unit = s.unit := rfl
@[simp] theorem State.countSent_unit (s : State) (k : Nat) : (s.countSent k).unit = s.unit := by
  unfold State.countSent
  rfl
@[simp] theorem State.writeLoc_unit (s : State) (l : Loc) (bs : List Byte) : (s.writeLoc l bs).unit = s.unit := by
  cases l <;> rfl

theorem State.blend_unit (old new : Nat) (fs : List (Nat × Nat)) : ∀ s : State, (s.blend old new fs).2.unit = s.unit := by
  induction fs with
  | nil => intro s; rfl
  | cons f fs ih => intro s; exact ih _

/-- One event stored leaves the unit under way as it is. -/
@[simp] theorem State.storeLoc_unit (s : State) (l : Loc) (bs : List Byte) : (s.storeLoc l bs).unit = s.unit := by
  unfold State.storeLoc
  split
  · split
    · simp only [State.writeLoc_unit]; exact State.blend_unit _ _ _ _
    · exact State.writeLoc_unit ..
  · exact State.writeLoc_unit ..

theorem State.perform_unit (ws : List Write) : ∀ s : State, (s.perform ws).unit = s.unit := by
  induction ws with
  | nil => intro s; rfl
  | cons w ws ih =>
    intro s
    simp only [State.perform, List.foldl_cons]
    exact (ih (s.storeLoc w.loc w.bytes)).trans (State.storeLoc_unit ..)

@[simp] theorem State.posts_unit (s : State) (c : Option Bool) (w : Write) : (s.posts c w).unit = s.unit := by
  cases c <;> rfl
@[simp] theorem State.holdsStore_unit (s : State) (n : Nat) (c : Option Bool) (w : Write) (pg : Option (Nat × Nat)) :
    (s.holdsStore n c w pg).unit = s.unit := rfl

theorem State.park_unit {s t : State} {kind : Nat} {va : Word} {n : Nat} {st z : Bool} {cls reg : Nat} {d : List Byte}
    (h : s.park kind va n st z cls reg d = some t) : t.unit = s.unit := by
  unfold State.park at h
  dsimp only at h
  split at h
  · exact absurd h (by simp)
  · simp only [Option.some.injEq] at h
    rw [← h]
    rfl

theorem State.readWindow_unit {s t : State} {a : Word} {n : Nat} {bs : List Byte} {m : Bool} (h : s.readWindow a n m = .bytes bs t) :
    t.unit = s.unit := by
  unfold State.readWindow at h
  dsimp only at h
  repeat' split at h
  all_goals first
    | (rw [← (WinRead.bytes.inj h).2]
       rfl)
    | exact nomatch h

theorem State.post_unit {s t : State} {c : Option Bool} {ws : List Write} (h : s.post c ws = some t) : t.unit = s.unit := by
  unfold State.post at h
  dsimp only at h
  cases c with
  | none => rw [← Option.some.inj h]; rfl
  | some b =>
    dsimp only at h
    by_cases e : 1024 ≤ (if b then s.me.pcb else s.me.pca)
    · rw [if_pos e] at h; cases h
    · rw [if_neg e] at h; rw [← Option.some.inj h]; rfl

theorem State.emit_unit {s t : State} {n : Nat} {c : Option Bool} {ws : List Write} {pg : Option (Nat × Nat)}
    (h : s.emit n c ws pg = some t) : t.unit = s.unit := by
  unfold State.emit at h
  dsimp only at h
  split at h
  · split at h
    · cases h
    · rw [← Option.some.inj h]; rfl
  · split at h
    · unfold State.writeOwn at h
      split at h
      · exact State.post_unit h
      · rw [← Option.some.inj h]; exact State.perform_unit _ _
    · exact State.post_unit h

@[simp] theorem State.sign_unit (s : State) (a : Word) (bs : List Byte) : (s.sign a bs).unit = s.unit := by
  unfold State.sign
  split <;> rfl
@[simp] theorem State.signOld_unit (s : State) (a : Word) (l : Loc) (n : Nat) : (s.signOld a l n).unit = s.unit := by
  unfold State.signOld
  split <;> rfl

theorem Put.ofOption_ok {r : Res} {o : Option State} {t : State} (h : Put.ofOption r o = .ok t) : o = some t := by
  cases o with
  | none => exact nomatch h
  | some s => rw [Put.ok.inj h]

/-- A store to the stream window leaves the unit under way as it is. -/
theorem State.putWindow_unit {s t : State} {a : Word} {bs : List Byte} {n : Nat} {m : Bool} (h : s.putWindow a bs n m = .ok t) :
    t.unit = s.unit := by
  unfold State.putWindow at h
  dsimp only at h
  split at h
  · exact nomatch h
  · exact nomatch h
  · rw [State.emit_unit (Put.ofOption_ok h)]; rfl

/-- A store leaves the unit under way as it is. -/
theorem State.put_unit {s t : State} {sp : Nat} {a : Word} {bs : List Byte} {n : Nat} {p : Bool} (h : s.put sp a bs n p = .ok t) :
    t.unit = s.unit := by
  unfold State.put at h
  split at h
  · unfold State.putGlobal at h
    split at h
    · exact nomatch h
    split at h
    · exact nomatch h
    split at h
    · rw [← Put.ok.inj h]; simp
    split at h
    · exact nomatch h
    · split at h
      · rw [State.park_unit (Put.ofOption_ok h)]; simp
      · exact nomatch h
    · rename_i e
      rw [State.emit_unit (Put.ofOption_ok h), State.signOld_unit, State.sign_unit, (State.reach_same e).1]
  · unfold State.putScr at h
    split at h
    · split at h
      · exact nomatch h
      · exact State.emit_unit (Put.ofOption_ok h)
    · exact nomatch h
  · exact State.putWindow_unit h

theorem State.scatter_unit {sp v : Nat} (ls : List (Nat × Word)) : ∀ {s t : State}, s.scatter sp v ls = .ok t → t.unit = s.unit := by
  induction ls with
  | nil => intro s t h; rw [Put.ok.inj h]
  | cons x ls ih =>
    intro s t h
    simp only [State.scatter] at h
    split at h
    · rename_i e
      split at e
      · rw [ih h, State.putWindow_unit e]
      · rw [ih h, State.put_unit e]
    · exact nomatch h

theorem State.vgsLane_unit {s t : State} {sp : Nat} {a : Word} {w : Bool} {l : Loc} {lf : Nat} (h : s.vgsLane sp a w = .at_ l lf t) :
    t.unit = s.unit := by
  unfold State.vgsLane at h
  dsimp only at h
  generalize (if w = true then Acc.store else Acc.load) = acc at h
  split at h
  · exact nomatch h
  split at h
  · split at h
    · exact nomatch h
    · exact nomatch h
    · rename_i e; rw [← (Lane.at_.inj h).2.2, (State.reach_same e).1]
  · split at h
    · rw [(Lane.at_.inj h).2.2]
    · exact nomatch h
  · exact nomatch h

theorem State.lanesOk_unit {sp : Nat} {w : Bool} (ls : List (Nat × Word)) : ∀ {s t : State}, s.lanesOk sp w ls = .ok t → t.unit = s.unit := by
  induction ls with
  | nil => intro s t h; rw [Put.ok.inj h]
  | cons x ls ih =>
    intro s t h
    simp only [State.lanesOk] at h
    split at h
    · exact nomatch h
    · exact ih h
    · rename_i e; rw [ih h, State.vgsLane_unit e]

theorem State.gather_unit {sp : Nat} (ls : List (Nat × Word)) : ∀ {s t : State} {g q : Gather}, s.gather sp g ls = .ok q t →
    t.unit = s.unit := by
  induction ls with
  | nil => intro s t g q h; rw [(Gathered.ok.inj h).2]
  | cons x ls ih =>
    intro s t g q h
    simp only [State.gather] at h
    split at h
    · exact nomatch h
    · split at h
      · exact nomatch h
      · rename_i e; rw [ih h, State.readWindow_unit e]
    · rename_i e
      split at h
      · exact nomatch h
      split at h
      · rw [ih h, State.vgsLane_unit e]
      · split at h
        · exact nomatch h
        · rename_i h2
          rw [ih h]
          split at h2
          · rw [(State.countBytes_same h2).1, State.vgsLane_unit e]
          · rw [← Option.some.inj h2, State.vgsLane_unit e]

/-- The address of an access of a ready word. -/
theorem State.addrOf_ready {s : State} {g : Sig} (a : BitVec 5) (o : BitVec 8) (m : Nat) (h : s.ready g = true) :
    s.addrOf a o m = s.rx 1 a.toNat + wordOf (sextInt 8 o.toNat * m) + (if s.regs.rc = 0 then 0 else natW (s.regs.ri * m))
    ∧ s.rx 1 a.toNat = s.regs.xAt a.toNat := ⟨rfl, State.rx_ready _ _ h⟩

end Sys2Proof.Machine
end

