-- ==== Sys2Proof/Laws/LoadStore.lean ====
section
/-! SUPPORT. What a word whose meaning is one load or one store does, for every space (`LoadForms`, `StoreForms`). -/

namespace Sys2Proof.Machine

theorem accessStops_of {i : Instr} {sp n : Nat} {adr : State → Word} {w : BitVec 2} {acc : Acc} {go rest : State → Res}
    (e : ∀ s, s.ready (cSig i) = true → exec i s = issue (cSig i) s go)
    (h : ∀ s, s.ready (cSig i) = true → go s =
      match s.checkAddr sp (adr s) n acc with
      | some y => .trap y
      | none => if !(s.wField w) || s.acquiring then .wait else rest s) : AccessStops i sp adr n w acc := by
  refine ⟨?_, ?_, ?_⟩
  · intro y s hr hp
    rw [e s hr]
    refine issue_trap hr ?_
    simp only [h s hr, State.checkAddr, hp]
  · intro s hr hp
    rw [e s hr]
    refine issue_trap hr ?_
    simp only [h s hr, State.checkAddr, hp.1, alignTrap, hp.2, if_false]
  · intro s hr hp
    rw [e s hr]
    refine issue_wait hr ?_
    have c : (!(s.wField w) || s.acquiring) = true := by
      rcases hp.2.2 with k | k <;> simp [k]
    simp only [h s hr, State.checkAddr, hp.1, alignTrap, hp.2.1, if_true, c]

/-- The checks of an access that `accessOk` admits pass. -/
theorem State.accessOk_check {s : State} {sp n : Nat} {a : Word} {w : BitVec 2} {acc : Acc} (h : s.accessOk sp a n w acc) :
    s.checkAddr sp a n acc = none ∧ (!(s.wField w) || s.acquiring) = false := by
  obtain ⟨h1, h2, h3, h4⟩ := h
  simp [State.checkAddr, h1, alignTrap, h2, h3, h4]

/-- What a load answers once its checks pass. -/
theorem State.load_past {s : State} {sp n : Nat} {a : Word} {w : BitVec 2} {cls reg : Nat} {sext : Bool}
    (h : s.accessOk sp a n w .load) : s.load sp a n w cls reg sext = s.loadFrom sp a n cls reg sext := by
  obtain ⟨h1, h2⟩ := State.accessOk_check h
  simp only [State.load, h1, h2, Bool.false_eq_true, if_false]

/-- A place in the own scratchpad. -/
theorem Loc.ownOf_scr (c k o : Nat) : (Loc.scr k o).ownOf c = (k == coreOf c) := rfl

/-- A word whose meaning is one load meets `LoadForms`. -/
theorem loadForms_of {i : Instr} {sp n : Nat} {adr : State → Word} {w : BitVec 2} {cls reg : Nat} {sext : Bool} {go : State → Res}
    (e : ∀ s, s.ready (cSig i) = true → exec i s = issue (cSig i) s go)
    (h : ∀ s, s.ready (cSig i) = true → go s = s.load sp (adr s) n w cls reg sext) : LoadForms i sp adr n w cls reg sext := by
  refine ⟨accessStops_of (rest := fun s => s.loadFrom sp (adr s) n cls reg sext) e ?_, ?_, ?_, ?_⟩
  · intro s hr
    rw [h s hr]
    rfl
  · rintro rfl
    refine ⟨?_, ?_, ?_, ?_⟩
    · intro l leaf s1 s2 s hr hp
      obtain ⟨⟨h1, h2⟩, h3, h4⟩ := hp
      have u := (State.sameUnit_trans (State.reach_same h3) (State.countBytes_same h4)).1
      rw [e s hr]
      refine issue_done hr ?_ (by rw [State.addProd_unit, u]; exact (State.ready_parts hr).1)
      rw [h s hr, State.load_past h1, State.loadFrom]
      simp only [h2, Bool.false_eq_true, if_false, h3, h4]
    · intro k s1 s hr hp
      obtain ⟨⟨h1, h2⟩, h3, h4⟩ := hp
      rw [e s hr]
      refine issue_done hr ?_ (by rw [State.park_unit h4]; exact (State.ready_parts hr).1)
      rw [h s hr, State.load_past h1, State.loadFrom]
      simp only [h2, Bool.false_eq_true, if_false, h3, h4]
    · intro y s hr hp
      obtain ⟨⟨h1, h2⟩, h3⟩ := hp
      rw [e s hr]
      refine issue_trap hr ?_
      rw [h s hr, State.load_past h1, State.loadFrom]
      simp only [h2, Bool.false_eq_true, if_false, h3]
    · intro s hr hp
      rw [e s hr]
      refine issue_wait hr ?_
      rw [h s hr, State.load_past hp.1, State.loadFrom]
      simp only [hp.2, if_true]
  · rintro rfl
    refine ⟨?_, ?_, ?_⟩
    · intro o s hr hp
      obtain ⟨⟨h1, h2⟩, h3, h4, h5⟩ := hp
      rw [e s hr]
      refine issue_done hr ?_ (State.ready_parts hr).1
      rw [h s hr, State.load_past h1, State.loadFrom]
      simp only [h2, h4, Loc.ownOf_scr, beq_self_eq_true, h5, decide_eq_true h3, Bool.and_self,
        Bool.false_eq_true, if_false, Option.isNone_none, if_true]
    · intro k o s hr hp
      obtain ⟨⟨h1, h2⟩, w0, h3⟩ := hp
      rw [e s hr]
      refine issue_done hr ?_ (State.ready_parts hr).1
      rw [h s hr, State.load_past h1, State.loadFrom]
      have o0 : ((Loc.scr k o).ownOf s.cur && decide (n ≤ 8)) = false := by
        rcases h3 with h3 | h3
        · simp [Loc.ownOf_scr, h3]
        · simp [decide_eq_false (Nat.not_le.2 h3)]
      simp only [h2, w0, o0, Bool.false_and, Bool.false_eq_true, if_false]
    · intro k o s hr hp
      obtain ⟨⟨h1, h2⟩, h3⟩ := hp
      rw [e s hr]
      refine issue_wait hr ?_
      rw [h s hr, State.load_past h1, State.loadFrom]
      simp only [h2, h3, if_true]
  · rintro rfl
    intro bs s1 s hr hp
    obtain ⟨h1, h2⟩ := hp
    rw [e s hr]
    refine issue_done hr ?_ (by rw [State.addProd_unit, State.readWindow_unit h2]; exact (State.ready_parts hr).1)
    rw [h s hr, State.load_past h1, State.loadFrom, h2] <;> simp

/-- What a store answers once its checks pass. -/
theorem State.store_past {s : State} {sp : Nat} {a : Word} {bs : List Byte} {w : BitVec 2} {k : Nat}
    (h : s.accessOk sp a bs.length w .store) : s.store sp a bs w k = (s.put sp a bs k true).res := by
  obtain ⟨h1, h2⟩ := State.accessOk_check h
  simp only [State.store, h1, h2, Bool.false_eq_true, if_false]

/-! The events of one write (R284) -/

/-- Two granules of one write are different. -/
theorem Loc.sameGranule_add (l : Loc) {j k : Nat} (h : j ≠ k) : (l.add (8 * j)).sameGranule (l.add (8 * k)) = false := by
  cases l <;> simp [Loc.sameGranule, Loc.overlaps, Loc.add] <;> omega

/-- The granules of one write are events of their own. -/
theorem joinWrites_granules (w : Write) (b : Nat → List Byte) (n : Nat) : ∀ k,
    joinWrites ((upFrom k n).map (fun k => { w with loc := w.loc.add (8 * k), bytes := b k }))
      = ((upFrom k n).map (fun k => [{ w with loc := w.loc.add (8 * k), bytes := b k }])) := by
  induction n with
  | zero => intro k; rfl
  | succ n ih =>
    intro k
    simp only [upFrom, List.map_cons, joinWrites, ih]
    cases n with
    | zero => rfl
    | succ n =>
      have d := Loc.sameGranule_add w.loc (show k + 1 ≠ k by omega)
      simp only [upFrom, List.map_cons, List.any_cons, List.any_nil, d, Bool.or_false, Bool.false_eq_true, if_false]

theorem eventsOf_one (w : Write) : eventsOf [w] = w.granules.map (fun v => [v]) := by
  simp only [eventsOf, List.map_cons, List.map_nil, List.flatten_cons, List.flatten_nil, List.append_nil]
  unfold Write.granules
  split
  · rfl
  · rw [joinWrites_granules w (fun k => (w.bytes.drop (8 * k)).take 8), List.map_map]
    rfl

theorem Write.granules_small {w : Write} (h : w.bytes.length ≤ 8) : w.granules = [w] := by
  simp only [Write.granules, h, if_true]

theorem Write.granules_large {w : Write} (h : 16 ≤ w.bytes.length) : 1 < w.granules.length := by
  have up : ∀ n k, (upFrom k n).length = n := by
    intro n
    induction n with
    | zero => intro k; rfl
    | succ n ih => intro k; simp [upFrom, ih]
  rw [Write.granules, if_neg (by omega), List.length_map, up]
  omega

theorem State.emit_held {s : State} {k : Nat} {c : Option Bool} {w : Write} {pg : Option (Nat × Nat)} {sp : Spec}
    (h : s.me.spec = some sp) (r : sp.taken + k ≤ 64) : s.emit k c [w] pg = some (s.holdsStore k c w pg) := by
  unfold State.emit State.holdsStore
  simp only [h, Option.map_some]
  rw [if_neg (by omega)]

/-- A place of a stream page is in no scratchpad. -/
theorem State.pageLoc_own (s : State) (g p k c : Nat) : ((s.pageLoc g p).add k).ownOf c = false := by
  unfold State.pageLoc
  dsimp only
  repeat' split
  all_goals rfl

/-- No store to the own scratchpad is outstanding where an access of it does not wait. -/
theorem State.ownWaits_posted {s : State} {o : Nat} (h : s.ownWaits (.scr (coreOf s.cur) o) = false) :
    s.me.posted.any (·.own) = false := by
  simp only [State.ownWaits, Loc.ownOf_scr, beq_self_eq_true, Bool.true_and, State.ownBusy, Bool.or_eq_false_iff] at h
  exact h.1.2

/-- One event to the own scratchpad, with none to it outstanding, or to the window is performed at once. -/
theorem State.emit_own {s : State} {k : Nat} {w : Write} {pg : Option (Nat × Nat)} (h : s.me.spec = none)
    (hw : (w.bytes.length ≤ 8 ∧ s.me.posted.any (·.own) = false) ∨ w.loc.ownOf s.cur = false) :
    s.emit k none [w] pg = some (s.perform [w]) := by
  have c : ((decide (1 < (eventsOf [w]).length) || ([w] != [] && s.me.posted.any (·.own)))
      && [w].all (fun v => v.loc.ownOf s.cur)) = false := by
    rcases hw with hw | hw
    · simp [eventsOf_one, Write.granules_small hw.1, hw.2]
    · simp [hw]
  unfold State.emit
  simp only [h, Option.isNone_none, if_true, State.writeOwn, c, Bool.false_eq_true, if_false]

/-- Several events to the own scratchpad are posted. -/
theorem State.emit_own_posts {s : State} {k : Nat} {w : Write} {pg : Option (Nat × Nat)} (h : s.me.spec = none)
    (hw : 16 ≤ w.bytes.length) (ho : w.loc.ownOf s.cur = true) : s.emit k none [w] pg = some (s.posts none w) := by
  have c : ((decide (1 < (eventsOf [w]).length) || ([w] != [] && s.me.posted.any (·.own)))
      && [w].all (fun v => v.loc.ownOf s.cur)) = true := by
    have := Write.granules_large hw
    simp [eventsOf_one, ho, this]
  unfold State.emit
  simp only [h, Option.isNone_none, if_true, State.writeOwn, c]
  simp only [State.post, eventsOf_one]
  rfl

theorem State.emit_posts {s : State} {k : Nat} {b : Bool} {w : Write} {pg : Option (Nat × Nat)}
    (h : s.me.spec = none) (r : (if b then s.me.pcb else s.me.pca) < 1024) :
    s.emit k (some b) [w] pg = some (s.posts (some b) w) := by
  unfold State.emit State.posts
  simp only [h, State.post, Option.isNone_some, Bool.false_eq_true, if_false, eventsOf_one]
  rw [if_neg (by omega)]
  cases b <;> rfl

/-- A word whose meaning is one store meets `StoreForms`. -/
theorem storeForms_of {i : Instr} {sp n : Nat} {adr : State → Word} {bs : State → List Byte} {w : BitVec 2} {k : Nat} {go : State → Res}
    (e : ∀ s, s.ready (cSig i) = true → exec i s = issue (cSig i) s go)
    (hn : ∀ s, (bs s).length = n)
    (h : ∀ s, s.ready (cSig i) = true → go s = s.store sp (adr s) (bs s) w k) : StoreForms i sp adr bs n w k := by
  have past : ∀ s, s.ready (cSig i) = true → s.accessOk sp (adr s) n w .store → go s = (s.put sp (adr s) (bs s) k true).res := by
    intro s hr ha
    rw [h s hr, State.store_past (by rw [hn s]; exact ha)]
  refine ⟨accessStops_of (rest := fun s => (s.put sp (adr s) (bs s) k true).res) e ?_, ?_, ?_, ?_⟩
  · intro s hr
    rw [h s hr]
    unfold State.store
    rw [hn s]
    try rfl
  · rintro rfl
    have own : ∀ s o, s.ready (cSig i) = true → s.accessOk 1 (adr s) n w .store →
        s.scrLoc s.cur (adr s).toNat n = some (.scr (coreOf s.cur) o) → s.ownWaits (.scr (coreOf s.cur) o) = false →
        go s = (Put.ofOption s.tryLater (s.emit k none [{ loc := .scr (coreOf s.cur) o, bytes := bs s }] none)).res := by
      intro s o hr h1 h2 h3
      rw [past s hr h1]
      simp only [State.put, State.putScr, hn s, h2, h3, Loc.ownOf_scr, beq_self_eq_true, Bool.false_eq_true, if_false, if_true]
    have other : ∀ s c o, s.ready (cSig i) = true → s.accessOk 1 (adr s) n w .store →
        s.scrLoc s.cur (adr s).toNat n = some (.scr c o) → c ≠ coreOf s.cur → s.ownWaits (.scr c o) = false →
        go s = (Put.ofOption s.tryLater (s.emit k (some false) [{ loc := .scr c o, bytes := bs s }] none)).res := by
      intro s c o hr h1 h2 h3 h4
      have b : (c == coreOf s.cur) = false := by simp [h3]
      rw [past s hr h1]
      simp only [State.put, State.putScr, hn s, h2, h4, Loc.ownOf_scr, b, Bool.false_eq_true, if_false]
    refine ⟨?_, ?_, ?_, ?_, ?_, ?_⟩
    · intro o s hr hp
      obtain ⟨⟨h1, h2⟩, h3, h4, h5⟩ := hp
      rw [e s hr]
      refine issue_done hr ?_ (by rw [State.storeLoc_unit]; exact (State.ready_parts hr).1)
      rw [own s o hr h1 h2 h3, State.emit_own h4 (.inl ⟨by rw [hn s]; exact h5, State.ownWaits_posted h3⟩)]
      rfl
    · intro o s hr hp
      obtain ⟨⟨h1, h2⟩, h3, h4, h5⟩ := hp
      rw [e s hr]
      refine issue_done hr ?_ (by rw [State.posts_unit]; exact (State.ready_parts hr).1)
      rw [own s o hr h1 h2 h3, State.emit_own_posts h4 (by rw [hn s]; exact h5) (by simp [Loc.ownOf_scr])]
      rfl
    · intro c o s hr hp
      obtain ⟨⟨h1, h2⟩, h3, h0, h4, h5⟩ := hp
      rw [e s hr]
      refine issue_done hr ?_ (by rw [State.posts_unit]; exact (State.ready_parts hr).1)
      rw [other s c o hr h1 h2 h3 h0, State.emit_posts h4 (by simpa using h5)]
      rfl
    · intro o s hr hp
      obtain ⟨⟨h1, h2⟩, h3, h4, h5⟩ := hp
      obtain ⟨q, hq⟩ := Option.ne_none_iff_exists'.1 h4
      rw [e s hr]
      refine issue_done hr ?_ (State.ready_parts hr).1
      rw [own s o hr h1 h2 h3, State.emit_held hq (h5 q hq)]
      rfl
    · intro c o s hr hp
      obtain ⟨⟨h1, h2⟩, h3, h0, h4, h5⟩ := hp
      obtain ⟨q, hq⟩ := Option.ne_none_iff_exists'.1 h4
      rw [e s hr]
      refine issue_done hr ?_ (State.ready_parts hr).1
      rw [other s c o hr h1 h2 h3 h0, State.emit_held hq (h5 q hq)]
      rfl
    · intro c o s hr hp
      obtain ⟨⟨h1, h2⟩, h3⟩ := hp
      rw [e s hr]
      refine issue_wait hr ?_
      rw [past s hr h1]
      simp only [State.put, State.putScr, hn s, h2, h3, if_true]
      rfl
  · rintro rfl
    have glob : ∀ s, s.ready (cSig i) = true → s.accessOk 0 (adr s) n w .store → s.ringOverlap (adr s).toNat n = false →
        s.meterTrap s.me.vf (adr s) .store false = false → s.inShadow = false → s.inDual = false →
        go s = (match s.reach (adr s) .store false with
          | .trap y => .stop (.trap y)
          | .fault c => Put.ofOption s.tryLater (s.park c (adr s) n true false 0 0 (bs s))
          | .at_ l leaf s1 => Put.ofOption s.tryLater (((s1.sign (adr s) (bs s)).signOld (adr s) l n).emit k (some true)
              [{ loc := l, bytes := bs s, uc := l.uc leaf }] none) : Put).res := by
      intro s hr h1 h2 h3 h4 h5
      rw [past s hr h1]
      simp only [State.put, State.putGlobal, hn s, h2, h3, h4, Bool.false_eq_true, if_false, if_true]
      have sg : s.sign (adr s) (bs s) = s := by simp [State.sign, h5]
      rw [sg]
      try rfl
    have same : ∀ (s s1 : State), s.inDual = false → ∀ l leaf, s.reach (adr s) .store false = .at_ l leaf s1 →
        s1.launches = s.launches → (s1.sign (adr s) (bs s)).signOld (adr s) l n = s1 := by
      intro s s1 h5 l leaf hreach hl
      have q := State.reach_same hreach
      have d : s1.inDual = s.inDual := by
        unfold State.inDual State.launchOf
        rw [q.2.1]
        have c : s1.ctx s.cur = s.ctx s.cur := by unfold State.ctx; rw [q.2.2.1]
        rw [c, hl]
      simp [State.sign, State.signOld, d, h5]
    refine ⟨?_, ?_, ?_, ?_, ?_⟩
    · intro l leaf s1 s hr hp
      obtain ⟨⟨h1, h2, h3, h4, h5⟩, h6, h7, h8⟩ := hp
      have q := State.reach_same h6
      rw [e s hr]
      refine issue_done hr ?_ (by rw [State.posts_unit, q.1]; exact (State.ready_parts hr).1)
      rw [glob s hr h1 h2 h3 h4 h5]
      simp only [h6]
      rw [same s s1 h5 l leaf h6 q.2.2.2, State.emit_posts (by rw [State.sameUnit_me q]; exact h7)
        (by rw [State.sameUnit_me q]; simpa using h8)]
      rfl
    · intro l leaf s1 s hr hp
      obtain ⟨⟨h1, h2, h3, h4, h5⟩, h6, h7, h8⟩ := hp
      have q := State.reach_same h6
      obtain ⟨x, hx⟩ := Option.ne_none_iff_exists'.1 h7
      rw [e s hr]
      refine issue_done hr ?_ (by rw [State.holdsStore_unit, q.1]; exact (State.ready_parts hr).1)
      rw [glob s hr h1 h2 h3 h4 h5]
      simp only [h6]
      rw [same s s1 h5 l leaf h6 q.2.2.2, State.emit_held (by rw [State.sameUnit_me q]; exact hx) (h8 x hx)]
      rfl
    · intro c s1 s hr hp
      obtain ⟨⟨h1, h2, h3, h4, h5⟩, h6, h7⟩ := hp
      rw [e s hr]
      refine issue_done hr ?_ (by rw [State.park_unit h7]; exact (State.ready_parts hr).1)
      rw [glob s hr h1 h2 h3 h4 h5]
      simp only [h6, h7]
      rfl
    · intro s hr hp
      obtain ⟨h1, h2, h3⟩ := hp
      rw [e s hr]
      refine issue_trap hr ?_
      rw [past s hr h1]
      simp only [State.put, State.putGlobal, hn s, h2, h3, Bool.false_eq_true, if_false, if_true]
      rfl
    · intro s hr hp
      rw [e s hr]
      refine issue_wait hr ?_
      rw [past s hr hp.1]
      simp only [State.put, State.putGlobal, hn s, hp.2, if_true]
      rfl
  · rintro rfl
    refine ⟨?_, ?_⟩
    · intro g c q p s1 s hr hp
      obtain ⟨⟨h1, h2⟩, h3, h4⟩ := hp
      rw [e s hr]
      refine issue_done hr ?_ (by rw [State.storeLoc_unit]; exact (State.ready_parts hr).1)
      rw [past s hr h1]
      simp only [State.put, State.putWindow, h2, Bool.false_eq_true, if_false, h3]
      rw [State.emit_own (by exact h4) (.inr (State.pageLoc_own _ _ _ _ _))]
      rfl
    · intro g c q p s1 x s hr hp
      obtain ⟨⟨h1, h2⟩, h3, h4, h5⟩ := hp
      rw [e s hr]
      refine issue_done hr ?_ (State.ready_parts hr).1
      rw [past s hr h1]
      simp only [State.put, State.putWindow, h2, Bool.false_eq_true, if_false, h3]
      rw [State.emit_held (by exact h4) h5]
      rfl

end Sys2Proof.Machine
end

