-- ==== Sys2Proof/Laws/PerInstr.lean ====
section
/-! SUPPORT. The family `Encoding`, per instruction: the word of a well-formed instruction is never the all-zero word, which is
illegal (R55); an event has no word and is never well-formed. -/

namespace Sys2Proof.Laws

set_option Elab.async false

/-- A well-formed instruction has a word other than the all-zero word (R55). -/
def Encoding.Statement (i : Instr) : Prop := i.wf = true → 0 < encode i

/-- A word holds at least its base, which gives its class, major and operation. -/
theorem le_place (base : Nat) (l : List (Nat × Nat)) : base ≤ place base l := by
  induction l with
  | nil => exact Nat.le_refl _
  | cons p t ih => exact Nat.le_trans ih (Nat.le_add_left _ _)

/-- A word over a base that is not 0. -/
theorem place_pos {base : Nat} (h : 0 < base) (l : List (Nat × Nat)) : 0 < place base l := Nat.lt_of_lt_of_le h (le_place base l)

theorem Encoding.nop (s : Bool) (l : Bool) : Encoding.Statement (.nop s l) :=
  fun _ => place_pos (by decide) _
theorem Encoding.halt (s : Bool) (l : Bool) : Encoding.Statement (.halt s l) :=
  fun _ => place_pos (by decide) _
theorem Encoding.ecall (s : Bool) (l : Bool) : Encoding.Statement (.ecall s l) :=
  fun _ => place_pos (by decide) _
theorem Encoding.ebreak (s : Bool) (l : Bool) : Encoding.Statement (.ebreak s l) :=
  fun _ => place_pos (by decide) _
theorem Encoding.hret (s : Bool) (l : Bool) : Encoding.Statement (.hret s l) :=
  fun _ => place_pos (by decide) _
theorem Encoding.yield (s : Bool) (l : Bool) : Encoding.Statement (.yield s l) :=
  fun _ => place_pos (by decide) _
theorem Encoding.csrr (s : Bool) (l : Bool) (d : BitVec 5) (c : BitVec 11) : Encoding.Statement (.csrr s l d c) :=
  fun _ => place_pos (by decide) _
theorem Encoding.csrw (s : Bool) (l : Bool) (d : BitVec 5) (a : BitVec 5) (c : BitVec 11) : Encoding.Statement (.csrw s l d a c) :=
  fun _ => place_pos (by decide) _
theorem Encoding.csrs (s : Bool) (l : Bool) (d : BitVec 5) (a : BitVec 5) (c : BitVec 11) : Encoding.Statement (.csrs s l d a c) :=
  fun _ => place_pos (by decide) _
theorem Encoding.csrc (s : Bool) (l : Bool) (d : BitVec 5) (a : BitVec 5) (c : BitVec 11) : Encoding.Statement (.csrc s l d a c) :=
  fun _ => place_pos (by decide) _
theorem Encoding.beq (s : Bool) (l : Bool) (a : BitVec 5) (b : BitVec 5) (o : BitVec 12) : Encoding.Statement (.beq s l a b o) :=
  fun _ => place_pos (by decide) _
theorem Encoding.bne (s : Bool) (l : Bool) (a : BitVec 5) (b : BitVec 5) (o : BitVec 12) : Encoding.Statement (.bne s l a b o) :=
  fun _ => place_pos (by decide) _
theorem Encoding.blt (s : Bool) (l : Bool) (a : BitVec 5) (b : BitVec 5) (o : BitVec 12) : Encoding.Statement (.blt s l a b o) :=
  fun _ => place_pos (by decide) _
theorem Encoding.bge (s : Bool) (l : Bool) (a : BitVec 5) (b : BitVec 5) (o : BitVec 12) : Encoding.Statement (.bge s l a b o) :=
  fun _ => place_pos (by decide) _
theorem Encoding.bltu (s : Bool) (l : Bool) (a : BitVec 5) (b : BitVec 5) (o : BitVec 12) : Encoding.Statement (.bltu s l a b o) :=
  fun _ => place_pos (by decide) _
theorem Encoding.bgeu (s : Bool) (l : Bool) (a : BitVec 5) (b : BitVec 5) (o : BitVec 12) : Encoding.Statement (.bgeu s l a b o) :=
  fun _ => place_pos (by decide) _
theorem Encoding.bmskAny (s : Bool) (l : Bool) (k : BitVec 3) (o : BitVec 12) : Encoding.Statement (.bmskAny s l k o) :=
  fun _ => place_pos (by decide) _
theorem Encoding.bmskNone (s : Bool) (l : Bool) (k : BitVec 3) (o : BitVec 12) : Encoding.Statement (.bmskNone s l k o) :=
  fun _ => place_pos (by decide) _
theorem Encoding.bmskAll (s : Bool) (l : Bool) (k : BitVec 3) (o : BitVec 12) : Encoding.Statement (.bmskAll s l k o) :=
  fun _ => place_pos (by decide) _
theorem Encoding.bmskNall (s : Bool) (l : Bool) (k : BitVec 3) (o : BitVec 12) : Encoding.Statement (.bmskNall s l k o) :=
  fun _ => place_pos (by decide) _
theorem Encoding.jal (s : Bool) (l : Bool) (d : BitVec 5) (o : BitVec 18) : Encoding.Statement (.jal s l d o) :=
  fun _ => place_pos (by decide) _
theorem Encoding.jalr (s : Bool) (l : Bool) (d : BitVec 5) (a : BitVec 5) (t : Bool) (i : BitVec 12) : Encoding.Statement (.jalr s l d a t i) :=
  fun _ => place_pos (by decide) _
theorem Encoding.loop (s : Bool) (l : Bool) (n : Bool) (a : BitVec 5) (t : Bool) (i : BitVec 12) : Encoding.Statement (.loop s l n a t i) :=
  fun _ => place_pos (by decide) _
theorem Encoding.rep (s : Bool) (l : Bool) (a : BitVec 5) (t : Bool) (i : BitVec 12) : Encoding.Statement (.rep s l a t i) :=
  fun _ => place_pos (by decide) _
theorem Encoding.ldg (s : Bool) (l : Bool) (d : BitVec 5) (a : BitVec 5) (o : BitVec 8) (z : BitVec 2) (w : BitVec 2) (e : Bool) : Encoding.Statement (.ldg s l d a o z w e) :=
  fun _ => place_pos (by decide) _
theorem Encoding.stg (s : Bool) (l : Bool) (d : BitVec 5) (a : BitVec 5) (o : BitVec 8) (z : BitVec 2) (w : BitVec 2) (t : Bool) : Encoding.Statement (.stg s l d a o z w t) :=
  fun _ => place_pos (by decide) _
theorem Encoding.lds (s : Bool) (l : Bool) (d : BitVec 5) (a : BitVec 5) (o : BitVec 8) (z : BitVec 2) (w : BitVec 2) (e : Bool) : Encoding.Statement (.lds s l d a o z w e) :=
  fun _ => place_pos (by decide) _
theorem Encoding.sts (s : Bool) (l : Bool) (d : BitVec 5) (a : BitVec 5) (o : BitVec 8) (z : BitVec 2) (w : BitVec 2) (t : Bool) : Encoding.Statement (.sts s l d a o z w t) :=
  fun _ => place_pos (by decide) _
theorem Encoding.ldw (s : Bool) (l : Bool) (d : BitVec 5) (a : BitVec 5) (o : BitVec 8) (z : BitVec 2) (w : BitVec 2) (e : Bool) : Encoding.Statement (.ldw s l d a o z w e) :=
  fun _ => place_pos (by decide) _
theorem Encoding.stw (s : Bool) (l : Bool) (d : BitVec 5) (a : BitVec 5) (o : BitVec 8) (z : BitVec 2) (w : BitVec 2) (t : Bool) : Encoding.Statement (.stw s l d a o z w t) :=
  fun _ => place_pos (by decide) _
theorem Encoding.vldg (s : Bool) (l : Bool) (d : BitVec 5) (a : BitVec 5) (o : BitVec 8) (z : BitVec 2) (w : BitVec 2) : Encoding.Statement (.vldg s l d a o z w) :=
  fun _ => place_pos (by decide) _
theorem Encoding.vstg (s : Bool) (l : Bool) (d : BitVec 5) (a : BitVec 5) (o : BitVec 8) (z : BitVec 2) (w : BitVec 2) (t : Bool) : Encoding.Statement (.vstg s l d a o z w t) :=
  fun _ => place_pos (by decide) _
theorem Encoding.vlds (s : Bool) (l : Bool) (d : BitVec 5) (a : BitVec 5) (o : BitVec 8) (z : BitVec 2) (w : BitVec 2) : Encoding.Statement (.vlds s l d a o z w) :=
  fun _ => place_pos (by decide) _
theorem Encoding.vsts (s : Bool) (l : Bool) (d : BitVec 5) (a : BitVec 5) (o : BitVec 8) (z : BitVec 2) (w : BitVec 2) (t : Bool) : Encoding.Statement (.vsts s l d a o z w t) :=
  fun _ => place_pos (by decide) _
theorem Encoding.vgath (s : Bool) (l : Bool) (d : BitVec 5) (a : BitVec 5) (b : BitVec 5) (t : Bool) (u : Bool) (p : BitVec 2) (m : BitVec 3) : Encoding.Statement (.vgath s l d a b t u p m) :=
  fun _ => place_pos (by decide) _
theorem Encoding.vscat (s : Bool) (l : Bool) (d : BitVec 5) (a : BitVec 5) (b : BitVec 5) (t : Bool) (u : Bool) (p : BitVec 2) (m : BitVec 3) : Encoding.Statement (.vscat s l d a b t u p m) :=
  fun _ => place_pos (by decide) _
theorem Encoding.ldo (s : Bool) (l : Bool) (d : BitVec 5) (a : BitVec 5) (z : BitVec 2) (e : Bool) (o : BitVec 2) (c : BitVec 2) : Encoding.Statement (.ldo s l d a z e o c) :=
  fun _ => place_pos (by decide) _
theorem Encoding.sto (s : Bool) (l : Bool) (a : BitVec 5) (b : BitVec 5) (z : BitVec 2) (o : BitVec 2) (c : BitVec 2) : Encoding.Statement (.sto s l a b z o c) :=
  fun _ => place_pos (by decide) _
theorem Encoding.amoSwap (s : Bool) (l : Bool) (d : BitVec 5) (a : BitVec 5) (b : BitVec 5) (z : Bool) (o : BitVec 2) (c : BitVec 2) : Encoding.Statement (.amoSwap s l d a b z o c) :=
  fun _ => place_pos (by decide) _
theorem Encoding.amoAdd (s : Bool) (l : Bool) (d : BitVec 5) (a : BitVec 5) (b : BitVec 5) (z : Bool) (o : BitVec 2) (c : BitVec 2) : Encoding.Statement (.amoAdd s l d a b z o c) :=
  fun _ => place_pos (by decide) _
theorem Encoding.amoAnd (s : Bool) (l : Bool) (d : BitVec 5) (a : BitVec 5) (b : BitVec 5) (z : Bool) (o : BitVec 2) (c : BitVec 2) : Encoding.Statement (.amoAnd s l d a b z o c) :=
  fun _ => place_pos (by decide) _
theorem Encoding.amoOr (s : Bool) (l : Bool) (d : BitVec 5) (a : BitVec 5) (b : BitVec 5) (z : Bool) (o : BitVec 2) (c : BitVec 2) : Encoding.Statement (.amoOr s l d a b z o c) :=
  fun _ => place_pos (by decide) _
theorem Encoding.amoXor (s : Bool) (l : Bool) (d : BitVec 5) (a : BitVec 5) (b : BitVec 5) (z : Bool) (o : BitVec 2) (c : BitVec 2) : Encoding.Statement (.amoXor s l d a b z o c) :=
  fun _ => place_pos (by decide) _
theorem Encoding.amoMax (s : Bool) (l : Bool) (d : BitVec 5) (a : BitVec 5) (b : BitVec 5) (z : Bool) (o : BitVec 2) (c : BitVec 2) : Encoding.Statement (.amoMax s l d a b z o c) :=
  fun _ => place_pos (by decide) _
theorem Encoding.amoMin (s : Bool) (l : Bool) (d : BitVec 5) (a : BitVec 5) (b : BitVec 5) (z : Bool) (o : BitVec 2) (c : BitVec 2) : Encoding.Statement (.amoMin s l d a b z o c) :=
  fun _ => place_pos (by decide) _
theorem Encoding.amoMaxu (s : Bool) (l : Bool) (d : BitVec 5) (a : BitVec 5) (b : BitVec 5) (z : Bool) (o : BitVec 2) (c : BitVec 2) : Encoding.Statement (.amoMaxu s l d a b z o c) :=
  fun _ => place_pos (by decide) _
theorem Encoding.amoxMinu (s : Bool) (l : Bool) (d : BitVec 5) (a : BitVec 5) (b : BitVec 5) (z : Bool) (o : BitVec 2) (c : BitVec 2) : Encoding.Statement (.amoxMinu s l d a b z o c) :=
  fun _ => place_pos (by decide) _
theorem Encoding.amoxCas (s : Bool) (l : Bool) (d : BitVec 5) (a : BitVec 5) (b : BitVec 5) (z : Bool) (o : BitVec 2) (c : BitVec 2) : Encoding.Statement (.amoxCas s l d a b z o c) :=
  fun _ => place_pos (by decide) _
theorem Encoding.amoxFadd (s : Bool) (l : Bool) (d : BitVec 5) (a : BitVec 5) (b : BitVec 5) (o : BitVec 2) (c : BitVec 2) : Encoding.Statement (.amoxFadd s l d a b o c) :=
  fun _ => place_pos (by decide) _
theorem Encoding.amoxFmin (s : Bool) (l : Bool) (d : BitVec 5) (a : BitVec 5) (b : BitVec 5) (o : BitVec 2) (c : BitVec 2) : Encoding.Statement (.amoxFmin s l d a b o c) :=
  fun _ => place_pos (by decide) _
theorem Encoding.amoxFmax (s : Bool) (l : Bool) (d : BitVec 5) (a : BitVec 5) (b : BitVec 5) (o : BitVec 2) (c : BitVec 2) : Encoding.Statement (.amoxFmax s l d a b o c) :=
  fun _ => place_pos (by decide) _
theorem Encoding.fence (s : Bool) (l : Bool) (o : BitVec 2) (c : BitVec 2) : Encoding.Statement (.fence s l o c) :=
  fun _ => place_pos (by decide) _
theorem Encoding.waitc (s : Bool) (l : Bool) (c : BitVec 2) : Encoding.Statement (.waitc s l c) :=
  fun _ => place_pos (by decide) _
theorem Encoding.waita (s : Bool) (l : Bool) (d : BitVec 5) (a : BitVec 5) (b : BitVec 5) (t : Bool) (u : Bool) (z : Bool) (c : BitVec 2) : Encoding.Statement (.waita s l d a b t u z c) :=
  fun _ => place_pos (by decide) _
theorem Encoding.qbind (s : Bool) (l : Bool) (d : BitVec 5) (a : BitVec 5) (t : Bool) : Encoding.Statement (.qbind s l d a t) :=
  fun _ => place_pos (by decide) _
theorem Encoding.qunbind (s : Bool) (l : Bool) (d : BitVec 5) : Encoding.Statement (.qunbind s l d) :=
  fun _ => place_pos (by decide) _
theorem Encoding.ttrun (s : Bool) (l : Bool) (d : BitVec 5) (a : BitVec 5) (t : Bool) : Encoding.Statement (.ttrun s l d a t) :=
  fun _ => place_pos (by decide) _
theorem Encoding.send (s : Bool) (l : Bool) (a : BitVec 5) (b : BitVec 5) (t : Bool) (u : Bool) (z : BitVec 2) : Encoding.Statement (.send s l a b t u z) :=
  fun _ => place_pos (by decide) _
theorem Encoding.qnew (s : Bool) (l : Bool) (d : BitVec 5) (c : BitVec 2) : Encoding.Statement (.qnew s l d c) :=
  fun _ => place_pos (by decide) _
theorem Encoding.cbrAny (s : Bool) (l : Bool) (a : BitVec 5) (h : BitVec 2) (o : BitVec 12) : Encoding.Statement (.cbrAny s l a h o) :=
  fun _ => place_pos (by decide) _
theorem Encoding.cbrAll (s : Bool) (l : Bool) (a : BitVec 5) (h : BitVec 2) (o : BitVec 12) : Encoding.Statement (.cbrAll s l a h o) :=
  fun _ => place_pos (by decide) _
theorem Encoding.cbrMaj (s : Bool) (l : Bool) (a : BitVec 5) (h : BitVec 2) (o : BitVec 12) : Encoding.Statement (.cbrMaj s l a h o) :=
  fun _ => place_pos (by decide) _
theorem Encoding.colxJoin (s : Bool) (l : Bool) (d : BitVec 5) (a : BitVec 5) (b : BitVec 5) (t : Bool) (u : Bool) : Encoding.Statement (.colxJoin s l d a b t u) :=
  fun _ => place_pos (by decide) _
theorem Encoding.colxLeave (s : Bool) (l : Bool) : Encoding.Statement (.colxLeave s l) :=
  fun _ => place_pos (by decide) _
theorem Encoding.sptCpy (s : Bool) (l : Bool) (d : BitVec 5) (a : BitVec 5) (t : Bool) : Encoding.Statement (.sptCpy s l d a t) :=
  fun _ => place_pos (by decide) _
theorem Encoding.sptCan (s : Bool) (l : Bool) (d : BitVec 5) (a : BitVec 5) (t : Bool) : Encoding.Statement (.sptCan s l d a t) :=
  fun _ => place_pos (by decide) _
theorem Encoding.sptPoll (s : Bool) (l : Bool) (d : BitVec 5) (a : BitVec 5) (t : Bool) : Encoding.Statement (.sptPoll s l d a t) :=
  fun _ => place_pos (by decide) _
theorem Encoding.barInit (s : Bool) (l : Bool) (a : BitVec 5) (b : BitVec 5) (t : Bool) (u : Bool) : Encoding.Statement (.barInit s l a b t u) :=
  fun _ => place_pos (by decide) _
theorem Encoding.barExp (s : Bool) (l : Bool) (a : BitVec 5) (b : BitVec 5) (t : Bool) (u : Bool) : Encoding.Statement (.barExp s l a b t u) :=
  fun _ => place_pos (by decide) _
theorem Encoding.barArv (s : Bool) (l : Bool) (d : BitVec 5) (a : BitVec 5) (t : Bool) : Encoding.Statement (.barArv s l d a t) :=
  fun _ => place_pos (by decide) _
theorem Encoding.barWt (s : Bool) (l : Bool) (d : BitVec 5) (a : BitVec 5) (b : BitVec 5) (t : Bool) (u : Bool) : Encoding.Statement (.barWt s l d a b t u) :=
  fun _ => place_pos (by decide) _
theorem Encoding.mclaim (s : Bool) (l : Bool) (d : BitVec 5) (a : BitVec 5) (t : Bool) : Encoding.Statement (.mclaim s l d a t) :=
  fun _ => place_pos (by decide) _
theorem Encoding.mrel (s : Bool) (l : Bool) (a : BitVec 5) (t : Bool) : Encoding.Statement (.mrel s l a t) :=
  fun _ => place_pos (by decide) _
theorem Encoding.mld (s : Bool) (l : Bool) (d : BitVec 5) (a : BitVec 5) (b : BitVec 5) (t : Bool) (u : Bool) (c : Bool) (p : BitVec 2) : Encoding.Statement (.mld s l d a b t u c p) :=
  fun _ => place_pos (by decide) _
theorem Encoding.mstF32 (s : Bool) (l : Bool) (n : BitVec 2) (a : BitVec 5) (b : BitVec 5) (t : Bool) (u : Bool) (m : Bool) (p : BitVec 2) : Encoding.Statement (.mstF32 s l n a b t u m p) :=
  fun _ => place_pos (by decide) _
theorem Encoding.mstH (s : Bool) (l : Bool) (n : BitVec 2) (a : BitVec 5) (b : BitVec 5) (t : Bool) (u : Bool) (m : Bool) (p : BitVec 2) : Encoding.Statement (.mstH s l n a b t u m p) :=
  fun _ => place_pos (by decide) _
theorem Encoding.mstB (s : Bool) (l : Bool) (n : BitVec 2) (a : BitVec 5) (b : BitVec 5) (t : Bool) (u : Bool) (m : Bool) (p : BitVec 2) : Encoding.Statement (.mstB s l n a b t u m p) :=
  fun _ => place_pos (by decide) _
theorem Encoding.mdrain (s : Bool) (l : Bool) (n : BitVec 2) (a : BitVec 5) (b : BitVec 5) (t : Bool) (u : Bool) : Encoding.Statement (.mdrain s l n a b t u) :=
  fun _ => place_pos (by decide) _
theorem Encoding.ctld (s : Bool) (l : Bool) (a : BitVec 5) (t : Bool) (p : Bool) (n : Bool) : Encoding.Statement (.ctld s l a t p n) :=
  fun _ => place_pos (by decide) _
theorem Encoding.hldG (s : Bool) (l : Bool) (h : BitVec 3) (a : BitVec 5) (t : Bool) : Encoding.Statement (.hldG s l h a t) :=
  fun _ => place_pos (by decide) _
theorem Encoding.hldS (s : Bool) (l : Bool) (h : BitVec 3) (a : BitVec 5) (t : Bool) : Encoding.Statement (.hldS s l h a t) :=
  fun _ => place_pos (by decide) _
theorem Encoding.hstG (s : Bool) (l : Bool) (a : BitVec 5) (h : BitVec 3) (t : Bool) (u : Bool) : Encoding.Statement (.hstG s l a h t u) :=
  fun _ => place_pos (by decide) _
theorem Encoding.hstS (s : Bool) (l : Bool) (a : BitVec 5) (h : BitVec 3) (t : Bool) (u : Bool) : Encoding.Statement (.hstS s l a h t u) :=
  fun _ => place_pos (by decide) _
theorem Encoding.podw (s : Bool) (l : Bool) (a : BitVec 5) (h : BitVec 3) (t : Bool) (u : Bool) : Encoding.Statement (.podw s l a h t u) :=
  fun _ => place_pos (by decide) _
theorem Encoding.pods (s : Bool) (l : Bool) (d : BitVec 5) (h : BitVec 3) (u : Bool) : Encoding.Statement (.pods s l d h u) :=
  fun _ => place_pos (by decide) _
theorem Encoding.podr (s : Bool) (l : Bool) (h : BitVec 3) (a : BitVec 5) (t : Bool) : Encoding.Statement (.podr s l h a t) :=
  fun _ => place_pos (by decide) _
theorem Encoding.sspawn (s : Bool) (l : Bool) (d : BitVec 5) (a : BitVec 5) (t : Bool) : Encoding.Statement (.sspawn s l d a t) :=
  fun _ => place_pos (by decide) _
theorem Encoding.sfork (s : Bool) (l : Bool) (d : BitVec 5) (a : BitVec 5) (t : Bool) : Encoding.Statement (.sfork s l d a t) :=
  fun _ => place_pos (by decide) _
theorem Encoding.snext (s : Bool) (l : Bool) (a : BitVec 5) (b : BitVec 5) (t : Bool) (u : Bool) : Encoding.Statement (.snext s l a b t u) :=
  fun _ => place_pos (by decide) _
theorem Encoding.sret (s : Bool) (l : Bool) (a : BitVec 5) (b : BitVec 5) (t : Bool) (u : Bool) : Encoding.Statement (.sret s l a b t u) :=
  fun _ => place_pos (by decide) _
theorem Encoding.sretire (s : Bool) (l : Bool) (a : BitVec 5) (t : Bool) : Encoding.Statement (.sretire s l a t) :=
  fun _ => place_pos (by decide) _
theorem Encoding.sretireSub (s : Bool) (l : Bool) (a : BitVec 5) (t : Bool) : Encoding.Statement (.sretireSub s l a t) :=
  fun _ => place_pos (by decide) _
theorem Encoding.smig (s : Bool) (l : Bool) (d : BitVec 5) (a : BitVec 5) (b : BitVec 5) (t : Bool) (u : Bool) : Encoding.Statement (.smig s l d a b t u) :=
  fun _ => place_pos (by decide) _
theorem Encoding.sinfeas (s : Bool) (l : Bool) (a : BitVec 5) (t : Bool) : Encoding.Statement (.sinfeas s l a t) :=
  fun _ => place_pos (by decide) _
theorem Encoding.sapush (s : Bool) (l : Bool) (d : BitVec 5) (a : BitVec 5) (b : BitVec 5) (t : Bool) (u : Bool) : Encoding.Statement (.sapush s l d a b t u) :=
  fun _ => place_pos (by decide) _
theorem Encoding.sapop (s : Bool) (l : Bool) (d : BitVec 5) (a : BitVec 5) (t : Bool) : Encoding.Statement (.sapop s l d a t) :=
  fun _ => place_pos (by decide) _
theorem Encoding.sstat (s : Bool) (l : Bool) (d : BitVec 5) (a : BitVec 5) (t : Bool) : Encoding.Statement (.sstat s l d a t) :=
  fun _ => place_pos (by decide) _
theorem Encoding.spin (s : Bool) (l : Bool) (a : BitVec 5) (b : BitVec 5) (t : Bool) (u : Bool) : Encoding.Statement (.spin s l a b t u) :=
  fun _ => place_pos (by decide) _
theorem Encoding.sunpin (s : Bool) (l : Bool) (a : BitVec 5) (b : BitVec 5) (t : Bool) (u : Bool) : Encoding.Statement (.sunpin s l a b t u) :=
  fun _ => place_pos (by decide) _
theorem Encoding.jopen (s : Bool) (l : Bool) (d : BitVec 5) (a : BitVec 5) (b : BitVec 5) (t : Bool) (u : Bool) : Encoding.Statement (.jopen s l d a b t u) :=
  fun _ => place_pos (by decide) _
theorem Encoding.jwait (s : Bool) (l : Bool) (d : BitVec 5) (a : BitVec 5) (t : Bool) : Encoding.Statement (.jwait s l d a t) :=
  fun _ => place_pos (by decide) _
theorem Encoding.jpoll (s : Bool) (l : Bool) (d : BitVec 5) (a : BitVec 5) (b : BitVec 5) (t : Bool) (u : Bool) : Encoding.Statement (.jpoll s l d a b t u) :=
  fun _ => place_pos (by decide) _
theorem Encoding.jclose (s : Bool) (l : Bool) (a : BitVec 5) (b : BitVec 5) (t : Bool) (u : Bool) : Encoding.Statement (.jclose s l a b t u) :=
  fun _ => place_pos (by decide) _
theorem Encoding.wopen (s : Bool) (l : Bool) (d : BitVec 5) (a : BitVec 5) (t : Bool) : Encoding.Statement (.wopen s l d a t) :=
  fun _ => place_pos (by decide) _
theorem Encoding.wsumI (s : Bool) (l : Bool) (a : BitVec 5) (b : BitVec 5) (t : Bool) (u : Bool) : Encoding.Statement (.wsumI s l a b t u) :=
  fun _ => place_pos (by decide) _
theorem Encoding.wsumF (s : Bool) (l : Bool) (a : BitVec 5) (b : BitVec 5) (t : Bool) (u : Bool) : Encoding.Statement (.wsumF s l a b t u) :=
  fun _ => place_pos (by decide) _
theorem Encoding.wmaxvI (s : Bool) (l : Bool) (a : BitVec 5) (b : BitVec 5) (t : Bool) (u : Bool) : Encoding.Statement (.wmaxvI s l a b t u) :=
  fun _ => place_pos (by decide) _
theorem Encoding.wmaxvF (s : Bool) (l : Bool) (a : BitVec 5) (b : BitVec 5) (t : Bool) (u : Bool) : Encoding.Statement (.wmaxvF s l a b t u) :=
  fun _ => place_pos (by decide) _
theorem Encoding.wminvI (s : Bool) (l : Bool) (a : BitVec 5) (b : BitVec 5) (t : Bool) (u : Bool) : Encoding.Statement (.wminvI s l a b t u) :=
  fun _ => place_pos (by decide) _
theorem Encoding.wminvF (s : Bool) (l : Bool) (a : BitVec 5) (b : BitVec 5) (t : Bool) (u : Bool) : Encoding.Statement (.wminvF s l a b t u) :=
  fun _ => place_pos (by decide) _
theorem Encoding.wmax (s : Bool) (l : Bool) (a : BitVec 5) (b : BitVec 5) (t : Bool) (u : Bool) : Encoding.Statement (.wmax s l a b t u) :=
  fun _ => place_pos (by decide) _
theorem Encoding.replay (s : Bool) (l : Bool) (d : BitVec 5) (a : BitVec 5) (t : Bool) : Encoding.Statement (.replay s l d a t) :=
  fun _ => place_pos (by decide) _
theorem Encoding.tlbinv (s : Bool) (l : Bool) (a : BitVec 5) (b : BitVec 5) (t : Bool) (u : Bool) : Encoding.Statement (.tlbinv s l a b t u) :=
  fun _ => place_pos (by decide) _
theorem Encoding.cflip (s : Bool) (l : Bool) (a : BitVec 5) (t : Bool) : Encoding.Statement (.cflip s l a t) :=
  fun _ => place_pos (by decide) _
theorem Encoding.mtrd (s : Bool) (l : Bool) (d : BitVec 5) (a : BitVec 5) (b : BitVec 5) (t : Bool) (u : Bool) : Encoding.Statement (.mtrd s l d a b t u) :=
  fun _ => place_pos (by decide) _
theorem Encoding.lui (s : Bool) (l : Bool) (d : BitVec 5) (k : BitVec 16) : Encoding.Statement (.lui s l d k) :=
  fun _ => place_pos (by decide) _
theorem Encoding.luiSh (s : Bool) (l : Bool) (d : BitVec 5) (k : BitVec 16) : Encoding.Statement (.luiSh s l d k) :=
  fun _ => place_pos (by decide) _
theorem Encoding.lnch (s : Bool) (l : Bool) (d : BitVec 5) (a : BitVec 5) (t : Bool) : Encoding.Statement (.lnch s l d a t) :=
  fun _ => place_pos (by decide) _
theorem Encoding.lnchPoll (s : Bool) (l : Bool) (d : BitVec 5) (a : BitVec 5) (t : Bool) : Encoding.Statement (.lnchPoll s l d a t) :=
  fun _ => place_pos (by decide) _
theorem Encoding.lnchWait (s : Bool) (l : Bool) (d : BitVec 5) (a : BitVec 5) (t : Bool) : Encoding.Statement (.lnchWait s l d a t) :=
  fun _ => place_pos (by decide) _
theorem Encoding.add (s : Bool) (d : BitVec 5) (a : BitVec 5) (b : BitVec 5) (t : Bool) (u : Bool) (x : Bool) : Encoding.Statement (.add s d a b t u x) :=
  fun _ => place_pos (by decide) _
theorem Encoding.sub (s : Bool) (d : BitVec 5) (a : BitVec 5) (b : BitVec 5) (t : Bool) (u : Bool) (x : Bool) : Encoding.Statement (.sub s d a b t u x) :=
  fun _ => place_pos (by decide) _
theorem Encoding.and (s : Bool) (d : BitVec 5) (a : BitVec 5) (b : BitVec 5) (t : Bool) (u : Bool) (x : Bool) : Encoding.Statement (.and s d a b t u x) :=
  fun _ => place_pos (by decide) _
theorem Encoding.or (s : Bool) (d : BitVec 5) (a : BitVec 5) (b : BitVec 5) (t : Bool) (u : Bool) (x : Bool) : Encoding.Statement (.or s d a b t u x) :=
  fun _ => place_pos (by decide) _
theorem Encoding.xor (s : Bool) (d : BitVec 5) (a : BitVec 5) (b : BitVec 5) (t : Bool) (u : Bool) (x : Bool) : Encoding.Statement (.xor s d a b t u x) :=
  fun _ => place_pos (by decide) _
theorem Encoding.andn (s : Bool) (d : BitVec 5) (a : BitVec 5) (b : BitVec 5) (t : Bool) (u : Bool) (x : Bool) : Encoding.Statement (.andn s d a b t u x) :=
  fun _ => place_pos (by decide) _
theorem Encoding.sll (s : Bool) (d : BitVec 5) (a : BitVec 5) (b : BitVec 5) (t : Bool) (u : Bool) (x : Bool) : Encoding.Statement (.sll s d a b t u x) :=
  fun _ => place_pos (by decide) _
theorem Encoding.srl (s : Bool) (d : BitVec 5) (a : BitVec 5) (b : BitVec 5) (t : Bool) (u : Bool) (x : Bool) : Encoding.Statement (.srl s d a b t u x) :=
  fun _ => place_pos (by decide) _
theorem Encoding.sra (s : Bool) (d : BitVec 5) (a : BitVec 5) (b : BitVec 5) (t : Bool) (u : Bool) (x : Bool) : Encoding.Statement (.sra s d a b t u x) :=
  fun _ => place_pos (by decide) _
theorem Encoding.ror (s : Bool) (d : BitVec 5) (a : BitVec 5) (b : BitVec 5) (t : Bool) (u : Bool) (x : Bool) : Encoding.Statement (.ror s d a b t u x) :=
  fun _ => place_pos (by decide) _
theorem Encoding.slt (s : Bool) (d : BitVec 5) (a : BitVec 5) (b : BitVec 5) (t : Bool) (u : Bool) (x : Bool) : Encoding.Statement (.slt s d a b t u x) :=
  fun _ => place_pos (by decide) _
theorem Encoding.sltu (s : Bool) (d : BitVec 5) (a : BitVec 5) (b : BitVec 5) (t : Bool) (u : Bool) (x : Bool) : Encoding.Statement (.sltu s d a b t u x) :=
  fun _ => place_pos (by decide) _
theorem Encoding.min (s : Bool) (d : BitVec 5) (a : BitVec 5) (b : BitVec 5) (t : Bool) (u : Bool) (x : Bool) : Encoding.Statement (.min s d a b t u x) :=
  fun _ => place_pos (by decide) _
theorem Encoding.max (s : Bool) (d : BitVec 5) (a : BitVec 5) (b : BitVec 5) (t : Bool) (u : Bool) (x : Bool) : Encoding.Statement (.max s d a b t u x) :=
  fun _ => place_pos (by decide) _
theorem Encoding.minu (s : Bool) (d : BitVec 5) (a : BitVec 5) (b : BitVec 5) (t : Bool) (u : Bool) (x : Bool) : Encoding.Statement (.minu s d a b t u x) :=
  fun _ => place_pos (by decide) _
theorem Encoding.maxu (s : Bool) (d : BitVec 5) (a : BitVec 5) (b : BitVec 5) (t : Bool) (u : Bool) (x : Bool) : Encoding.Statement (.maxu s d a b t u x) :=
  fun _ => place_pos (by decide) _
theorem Encoding.mul (s : Bool) (d : BitVec 5) (a : BitVec 5) (b : BitVec 5) (t : Bool) (u : Bool) (x : Bool) : Encoding.Statement (.mul s d a b t u x) :=
  fun _ => place_pos (by decide) _
theorem Encoding.mulh (s : Bool) (d : BitVec 5) (a : BitVec 5) (b : BitVec 5) (t : Bool) (u : Bool) : Encoding.Statement (.mulh s d a b t u) :=
  fun _ => place_pos (by decide) _
theorem Encoding.mulhu (s : Bool) (d : BitVec 5) (a : BitVec 5) (b : BitVec 5) (t : Bool) (u : Bool) : Encoding.Statement (.mulhu s d a b t u) :=
  fun _ => place_pos (by decide) _
theorem Encoding.div (s : Bool) (d : BitVec 5) (a : BitVec 5) (b : BitVec 5) (t : Bool) (u : Bool) (x : Bool) : Encoding.Statement (.div s d a b t u x) :=
  fun _ => place_pos (by decide) _
theorem Encoding.divu (s : Bool) (d : BitVec 5) (a : BitVec 5) (b : BitVec 5) (t : Bool) (u : Bool) (x : Bool) : Encoding.Statement (.divu s d a b t u x) :=
  fun _ => place_pos (by decide) _
theorem Encoding.rem (s : Bool) (d : BitVec 5) (a : BitVec 5) (b : BitVec 5) (t : Bool) (u : Bool) (x : Bool) : Encoding.Statement (.rem s d a b t u x) :=
  fun _ => place_pos (by decide) _
theorem Encoding.remu (s : Bool) (d : BitVec 5) (a : BitVec 5) (b : BitVec 5) (t : Bool) (u : Bool) (x : Bool) : Encoding.Statement (.remu s d a b t u x) :=
  fun _ => place_pos (by decide) _
theorem Encoding.adds (s : Bool) (d : BitVec 5) (a : BitVec 5) (b : BitVec 5) (t : Bool) (u : Bool) (x : Bool) : Encoding.Statement (.adds s d a b t u x) :=
  fun _ => place_pos (by decide) _
theorem Encoding.subs (s : Bool) (d : BitVec 5) (a : BitVec 5) (b : BitVec 5) (t : Bool) (u : Bool) (x : Bool) : Encoding.Statement (.subs s d a b t u x) :=
  fun _ => place_pos (by decide) _
theorem Encoding.clz (s : Bool) (d : BitVec 5) (a : BitVec 5) (t : Bool) (x : Bool) : Encoding.Statement (.clz s d a t x) :=
  fun _ => place_pos (by decide) _
theorem Encoding.ctz (s : Bool) (d : BitVec 5) (a : BitVec 5) (t : Bool) (x : Bool) : Encoding.Statement (.ctz s d a t x) :=
  fun _ => place_pos (by decide) _
theorem Encoding.popc (s : Bool) (d : BitVec 5) (a : BitVec 5) (t : Bool) (x : Bool) : Encoding.Statement (.popc s d a t x) :=
  fun _ => place_pos (by decide) _
theorem Encoding.wfld (s : Bool) (d : BitVec 5) (a : BitVec 5) (b : BitVec 5) (t : Bool) (u : Bool) : Encoding.Statement (.wfld s d a b t u) :=
  fun _ => place_pos (by decide) _
theorem Encoding.chkb (s : Bool) (d : BitVec 5) (a : BitVec 5) (b : BitVec 5) (t : Bool) (u : Bool) : Encoding.Statement (.chkb s d a b t u) :=
  fun _ => place_pos (by decide) _
theorem Encoding.addi (s : Bool) (d : BitVec 5) (a : BitVec 5) (t : Bool) (i : BitVec 13) : Encoding.Statement (.addi s d a t i) :=
  fun _ => place_pos (by decide) _
theorem Encoding.andi (s : Bool) (d : BitVec 5) (a : BitVec 5) (t : Bool) (i : BitVec 13) : Encoding.Statement (.andi s d a t i) :=
  fun _ => place_pos (by decide) _
theorem Encoding.ori (s : Bool) (d : BitVec 5) (a : BitVec 5) (t : Bool) (i : BitVec 13) : Encoding.Statement (.ori s d a t i) :=
  fun _ => place_pos (by decide) _
theorem Encoding.xori (s : Bool) (d : BitVec 5) (a : BitVec 5) (t : Bool) (i : BitVec 13) : Encoding.Statement (.xori s d a t i) :=
  fun _ => place_pos (by decide) _
theorem Encoding.slti (s : Bool) (d : BitVec 5) (a : BitVec 5) (t : Bool) (i : BitVec 13) : Encoding.Statement (.slti s d a t i) :=
  fun _ => place_pos (by decide) _
theorem Encoding.slli (s : Bool) (d : BitVec 5) (a : BitVec 5) (t : Bool) (w : Bool) (c : BitVec 6) : Encoding.Statement (.slli s d a t w c) :=
  fun _ => place_pos (by decide) _
theorem Encoding.srli (s : Bool) (d : BitVec 5) (a : BitVec 5) (t : Bool) (w : Bool) (c : BitVec 6) : Encoding.Statement (.srli s d a t w c) :=
  fun _ => place_pos (by decide) _
theorem Encoding.srai (s : Bool) (d : BitVec 5) (a : BitVec 5) (t : Bool) (w : Bool) (c : BitVec 6) : Encoding.Statement (.srai s d a t w c) :=
  fun _ => place_pos (by decide) _
theorem Encoding.rori (s : Bool) (d : BitVec 5) (a : BitVec 5) (t : Bool) (w : Bool) (c : BitVec 6) : Encoding.Statement (.rori s d a t w c) :=
  fun _ => place_pos (by decide) _
theorem Encoding.sel (s : Bool) (d : BitVec 5) (a : BitVec 5) (b : BitVec 5) (c : BitVec 5) (t : Bool) (u : Bool) (v : Bool) : Encoding.Statement (.sel s d a b c t u v) :=
  fun _ => place_pos (by decide) _
theorem Encoding.selN (s : Bool) (d : BitVec 5) (a : BitVec 5) (b : BitVec 5) (c : BitVec 5) (t : Bool) (u : Bool) (v : Bool) : Encoding.Statement (.selN s d a b c t u v) :=
  fun _ => place_pos (by decide) _
theorem Encoding.fadd (s : Bool) (d : BitVec 5) (a : BitVec 5) (b : BitVec 5) (t : Bool) (u : Bool) : Encoding.Statement (.fadd s d a b t u) :=
  fun _ => place_pos (by decide) _
theorem Encoding.fsub (s : Bool) (d : BitVec 5) (a : BitVec 5) (b : BitVec 5) (t : Bool) (u : Bool) : Encoding.Statement (.fsub s d a b t u) :=
  fun _ => place_pos (by decide) _
theorem Encoding.fmul (s : Bool) (d : BitVec 5) (a : BitVec 5) (b : BitVec 5) (t : Bool) (u : Bool) : Encoding.Statement (.fmul s d a b t u) :=
  fun _ => place_pos (by decide) _
theorem Encoding.fdiv (s : Bool) (d : BitVec 5) (a : BitVec 5) (b : BitVec 5) (t : Bool) (u : Bool) : Encoding.Statement (.fdiv s d a b t u) :=
  fun _ => place_pos (by decide) _
theorem Encoding.fmin (s : Bool) (d : BitVec 5) (a : BitVec 5) (b : BitVec 5) (t : Bool) (u : Bool) : Encoding.Statement (.fmin s d a b t u) :=
  fun _ => place_pos (by decide) _
theorem Encoding.fmax (s : Bool) (d : BitVec 5) (a : BitVec 5) (b : BitVec 5) (t : Bool) (u : Bool) : Encoding.Statement (.fmax s d a b t u) :=
  fun _ => place_pos (by decide) _
theorem Encoding.fsqrt (s : Bool) (d : BitVec 5) (a : BitVec 5) (t : Bool) : Encoding.Statement (.fsqrt s d a t) :=
  fun _ => place_pos (by decide) _
theorem Encoding.fabs (s : Bool) (d : BitVec 5) (a : BitVec 5) (t : Bool) : Encoding.Statement (.fabs s d a t) :=
  fun _ => place_pos (by decide) _
theorem Encoding.fneg (s : Bool) (d : BitVec 5) (a : BitVec 5) (t : Bool) : Encoding.Statement (.fneg s d a t) :=
  fun _ => place_pos (by decide) _
theorem Encoding.fsgnj (s : Bool) (d : BitVec 5) (a : BitVec 5) (b : BitVec 5) (t : Bool) (u : Bool) : Encoding.Statement (.fsgnj s d a b t u) :=
  fun _ => place_pos (by decide) _
theorem Encoding.feq (s : Bool) (d : BitVec 5) (a : BitVec 5) (b : BitVec 5) (t : Bool) (u : Bool) : Encoding.Statement (.feq s d a b t u) :=
  fun _ => place_pos (by decide) _
theorem Encoding.flt (s : Bool) (d : BitVec 5) (a : BitVec 5) (b : BitVec 5) (t : Bool) (u : Bool) : Encoding.Statement (.flt s d a b t u) :=
  fun _ => place_pos (by decide) _
theorem Encoding.fle (s : Bool) (d : BitVec 5) (a : BitVec 5) (b : BitVec 5) (t : Bool) (u : Bool) : Encoding.Statement (.fle s d a b t u) :=
  fun _ => place_pos (by decide) _
theorem Encoding.fclass (s : Bool) (d : BitVec 5) (a : BitVec 5) (t : Bool) : Encoding.Statement (.fclass s d a t) :=
  fun _ => place_pos (by decide) _
theorem Encoding.fmvXf (s : Bool) (d : BitVec 5) (a : BitVec 5) (t : Bool) : Encoding.Statement (.fmvXf s d a t) :=
  fun _ => place_pos (by decide) _
theorem Encoding.fmvFx (s : Bool) (d : BitVec 5) (a : BitVec 5) (t : Bool) : Encoding.Statement (.fmvFx s d a t) :=
  fun _ => place_pos (by decide) _
theorem Encoding.fmadd (s : Bool) (d : BitVec 5) (a : BitVec 5) (b : BitVec 5) (c : BitVec 5) (t : Bool) (u : Bool) (v : Bool) : Encoding.Statement (.fmadd s d a b c t u v) :=
  fun _ => place_pos (by decide) _
theorem Encoding.fmsub (s : Bool) (d : BitVec 5) (a : BitVec 5) (b : BitVec 5) (c : BitVec 5) (t : Bool) (u : Bool) (v : Bool) : Encoding.Statement (.fmsub s d a b c t u v) :=
  fun _ => place_pos (by decide) _
theorem Encoding.fcvtFI (s : Bool) (d : BitVec 5) (a : BitVec 5) (t : Bool) : Encoding.Statement (.fcvtFI s d a t) :=
  fun _ => place_pos (by decide) _
theorem Encoding.fcvtFU (s : Bool) (d : BitVec 5) (a : BitVec 5) (t : Bool) : Encoding.Statement (.fcvtFU s d a t) :=
  fun _ => place_pos (by decide) _
theorem Encoding.fcvtIF (s : Bool) (d : BitVec 5) (a : BitVec 5) (t : Bool) : Encoding.Statement (.fcvtIF s d a t) :=
  fun _ => place_pos (by decide) _
theorem Encoding.fcvtUF (s : Bool) (d : BitVec 5) (a : BitVec 5) (t : Bool) : Encoding.Statement (.fcvtUF s d a t) :=
  fun _ => place_pos (by decide) _
theorem Encoding.fcvtHF (s : Bool) (d : BitVec 5) (a : BitVec 5) (t : Bool) : Encoding.Statement (.fcvtHF s d a t) :=
  fun _ => place_pos (by decide) _
theorem Encoding.fcvtFH (s : Bool) (d : BitVec 5) (a : BitVec 5) (t : Bool) : Encoding.Statement (.fcvtFH s d a t) :=
  fun _ => place_pos (by decide) _
theorem Encoding.fcvtBF (s : Bool) (d : BitVec 5) (a : BitVec 5) (t : Bool) : Encoding.Statement (.fcvtBF s d a t) :=
  fun _ => place_pos (by decide) _
theorem Encoding.fcvtFB (s : Bool) (d : BitVec 5) (a : BitVec 5) (t : Bool) : Encoding.Statement (.fcvtFB s d a t) :=
  fun _ => place_pos (by decide) _
theorem Encoding.fcvtT8F (s : Bool) (d : BitVec 5) (a : BitVec 5) (t : Bool) : Encoding.Statement (.fcvtT8F s d a t) :=
  fun _ => place_pos (by decide) _
theorem Encoding.fcvtFT8 (s : Bool) (d : BitVec 5) (a : BitVec 5) (t : Bool) : Encoding.Statement (.fcvtFT8 s d a t) :=
  fun _ => place_pos (by decide) _
theorem Encoding.fcvtT4F (s : Bool) (d : BitVec 5) (a : BitVec 5) (t : Bool) : Encoding.Statement (.fcvtT4F s d a t) :=
  fun _ => place_pos (by decide) _
theorem Encoding.fcvtFT4 (s : Bool) (d : BitVec 5) (a : BitVec 5) (t : Bool) : Encoding.Statement (.fcvtFT4 s d a t) :=
  fun _ => place_pos (by decide) _
theorem Encoding.vadd (s : Bool) (d : BitVec 5) (a : BitVec 5) (b : BitVec 5) (m : BitVec 3) (y : BitVec 3) : Encoding.Statement (.vadd s d a b m y) :=
  fun _ => place_pos (by decide) _
theorem Encoding.vsub (s : Bool) (d : BitVec 5) (a : BitVec 5) (b : BitVec 5) (m : BitVec 3) (y : BitVec 3) : Encoding.Statement (.vsub s d a b m y) :=
  fun _ => place_pos (by decide) _
theorem Encoding.vadds (s : Bool) (d : BitVec 5) (a : BitVec 5) (b : BitVec 5) (m : BitVec 3) (y : BitVec 3) : Encoding.Statement (.vadds s d a b m y) :=
  fun _ => place_pos (by decide) _
theorem Encoding.vsubs (s : Bool) (d : BitVec 5) (a : BitVec 5) (b : BitVec 5) (m : BitVec 3) (y : BitVec 3) : Encoding.Statement (.vsubs s d a b m y) :=
  fun _ => place_pos (by decide) _
theorem Encoding.vmul (s : Bool) (d : BitVec 5) (a : BitVec 5) (b : BitVec 5) (m : BitVec 3) (y : BitVec 3) : Encoding.Statement (.vmul s d a b m y) :=
  fun _ => place_pos (by decide) _
theorem Encoding.vmin (s : Bool) (d : BitVec 5) (a : BitVec 5) (b : BitVec 5) (m : BitVec 3) (y : BitVec 3) : Encoding.Statement (.vmin s d a b m y) :=
  fun _ => place_pos (by decide) _
theorem Encoding.vmax (s : Bool) (d : BitVec 5) (a : BitVec 5) (b : BitVec 5) (m : BitVec 3) (y : BitVec 3) : Encoding.Statement (.vmax s d a b m y) :=
  fun _ => place_pos (by decide) _
theorem Encoding.vsh (s : Bool) (d : BitVec 5) (a : BitVec 5) (b : BitVec 5) (m : BitVec 3) (y : BitVec 3) : Encoding.Statement (.vsh s d a b m y) :=
  fun _ => place_pos (by decide) _
theorem Encoding.vand (s : Bool) (d : BitVec 5) (a : BitVec 5) (b : BitVec 5) (m : BitVec 3) : Encoding.Statement (.vand s d a b m) :=
  fun _ => place_pos (by decide) _
theorem Encoding.vor (s : Bool) (d : BitVec 5) (a : BitVec 5) (b : BitVec 5) (m : BitVec 3) : Encoding.Statement (.vor s d a b m) :=
  fun _ => place_pos (by decide) _
theorem Encoding.vxor (s : Bool) (d : BitVec 5) (a : BitVec 5) (b : BitVec 5) (m : BitVec 3) : Encoding.Statement (.vxor s d a b m) :=
  fun _ => place_pos (by decide) _
theorem Encoding.vandn (s : Bool) (d : BitVec 5) (a : BitVec 5) (b : BitVec 5) (m : BitVec 3) : Encoding.Statement (.vandn s d a b m) :=
  fun _ => place_pos (by decide) _
theorem Encoding.vnot (s : Bool) (d : BitVec 5) (a : BitVec 5) (m : BitVec 3) : Encoding.Statement (.vnot s d a m) :=
  fun _ => place_pos (by decide) _
theorem Encoding.vmov (s : Bool) (d : BitVec 5) (a : BitVec 5) (m : BitVec 3) : Encoding.Statement (.vmov s d a m) :=
  fun _ => place_pos (by decide) _
theorem Encoding.vfadd (s : Bool) (d : BitVec 5) (a : BitVec 5) (b : BitVec 5) (m : BitVec 3) (f : BitVec 3) : Encoding.Statement (.vfadd s d a b m f) :=
  fun _ => place_pos (by decide) _
theorem Encoding.vfsub (s : Bool) (d : BitVec 5) (a : BitVec 5) (b : BitVec 5) (m : BitVec 3) (f : BitVec 3) : Encoding.Statement (.vfsub s d a b m f) :=
  fun _ => place_pos (by decide) _
theorem Encoding.vfmul (s : Bool) (d : BitVec 5) (a : BitVec 5) (b : BitVec 5) (m : BitVec 3) (f : BitVec 3) : Encoding.Statement (.vfmul s d a b m f) :=
  fun _ => place_pos (by decide) _
theorem Encoding.vfdiv (s : Bool) (d : BitVec 5) (a : BitVec 5) (b : BitVec 5) (m : BitVec 3) (f : BitVec 3) : Encoding.Statement (.vfdiv s d a b m f) :=
  fun _ => place_pos (by decide) _
theorem Encoding.vfmin (s : Bool) (d : BitVec 5) (a : BitVec 5) (b : BitVec 5) (m : BitVec 3) (f : BitVec 3) : Encoding.Statement (.vfmin s d a b m f) :=
  fun _ => place_pos (by decide) _
theorem Encoding.vfmax (s : Bool) (d : BitVec 5) (a : BitVec 5) (b : BitVec 5) (m : BitVec 3) (f : BitVec 3) : Encoding.Statement (.vfmax s d a b m f) :=
  fun _ => place_pos (by decide) _
theorem Encoding.vfabs (s : Bool) (d : BitVec 5) (a : BitVec 5) (m : BitVec 3) (f : BitVec 3) : Encoding.Statement (.vfabs s d a m f) :=
  fun _ => place_pos (by decide) _
theorem Encoding.vfneg (s : Bool) (d : BitVec 5) (a : BitVec 5) (m : BitVec 3) (f : BitVec 3) : Encoding.Statement (.vfneg s d a m f) :=
  fun _ => place_pos (by decide) _
theorem Encoding.vfmadd (s : Bool) (d : BitVec 5) (a : BitVec 5) (b : BitVec 5) (m : BitVec 3) (f : BitVec 3) : Encoding.Statement (.vfmadd s d a b m f) :=
  fun _ => place_pos (by decide) _
theorem Encoding.vfmsub (s : Bool) (d : BitVec 5) (a : BitVec 5) (b : BitVec 5) (m : BitVec 3) (f : BitVec 3) : Encoding.Statement (.vfmsub s d a b m f) :=
  fun _ => place_pos (by decide) _
theorem Encoding.vfnmadd (s : Bool) (d : BitVec 5) (a : BitVec 5) (b : BitVec 5) (m : BitVec 3) (f : BitVec 3) : Encoding.Statement (.vfnmadd s d a b m f) :=
  fun _ => place_pos (by decide) _
theorem Encoding.vfnmsub (s : Bool) (d : BitVec 5) (a : BitVec 5) (b : BitVec 5) (m : BitVec 3) (f : BitVec 3) : Encoding.Statement (.vfnmsub s d a b m f) :=
  fun _ => place_pos (by decide) _
theorem Encoding.vfdot2 (s : Bool) (d : BitVec 5) (a : BitVec 5) (b : BitVec 5) (m : BitVec 3) (f : BitVec 3) : Encoding.Statement (.vfdot2 s d a b m f) :=
  fun _ => place_pos (by decide) _
theorem Encoding.vrsum (s : Bool) (d : BitVec 5) (a : BitVec 5) (m : BitVec 3) (y : BitVec 3) : Encoding.Statement (.vrsum s d a m y) :=
  fun _ => place_pos (by decide) _
theorem Encoding.vrmax (s : Bool) (d : BitVec 5) (a : BitVec 5) (m : BitVec 3) (y : BitVec 3) : Encoding.Statement (.vrmax s d a m y) :=
  fun _ => place_pos (by decide) _
theorem Encoding.vrmin (s : Bool) (d : BitVec 5) (a : BitVec 5) (m : BitVec 3) (y : BitVec 3) : Encoding.Statement (.vrmin s d a m y) :=
  fun _ => place_pos (by decide) _
theorem Encoding.vrargmax (s : Bool) (d : BitVec 5) (a : BitVec 5) (m : BitVec 3) (y : BitVec 3) : Encoding.Statement (.vrargmax s d a m y) :=
  fun _ => place_pos (by decide) _
theorem Encoding.vrargmin (s : Bool) (d : BitVec 5) (a : BitVec 5) (m : BitVec 3) (y : BitVec 3) : Encoding.Statement (.vrargmin s d a m y) :=
  fun _ => place_pos (by decide) _
theorem Encoding.vrband (s : Bool) (d : BitVec 5) (a : BitVec 5) (m : BitVec 3) (y : BitVec 3) : Encoding.Statement (.vrband s d a m y) :=
  fun _ => place_pos (by decide) _
theorem Encoding.vrbor (s : Bool) (d : BitVec 5) (a : BitVec 5) (m : BitVec 3) (y : BitVec 3) : Encoding.Statement (.vrbor s d a m y) :=
  fun _ => place_pos (by decide) _
theorem Encoding.vrbxor (s : Bool) (d : BitVec 5) (a : BitVec 5) (m : BitVec 3) (y : BitVec 3) : Encoding.Statement (.vrbxor s d a m y) :=
  fun _ => place_pos (by decide) _
theorem Encoding.vperm (s : Bool) (d : BitVec 5) (a : BitVec 5) (b : BitVec 5) (m : BitVec 3) (y : BitVec 3) : Encoding.Statement (.vperm s d a b m y) :=
  fun _ => place_pos (by decide) _
theorem Encoding.vbcast (s : Bool) (d : BitVec 5) (a : BitVec 5) (m : BitVec 3) (y : BitVec 3) : Encoding.Statement (.vbcast s d a m y) :=
  fun _ => place_pos (by decide) _
theorem Encoding.vbcastx (s : Bool) (d : BitVec 5) (a : BitVec 5) (m : BitVec 3) (y : BitVec 3) : Encoding.Statement (.vbcastx s d a m y) :=
  fun _ => place_pos (by decide) _
theorem Encoding.vrot (s : Bool) (d : BitVec 5) (a : BitVec 5) (b : BitVec 5) (m : BitVec 3) (y : BitVec 3) : Encoding.Statement (.vrot s d a b m y) :=
  fun _ => place_pos (by decide) _
theorem Encoding.vcomp (s : Bool) (d : BitVec 5) (a : BitVec 5) (m : BitVec 3) (y : BitVec 3) : Encoding.Statement (.vcomp s d a m y) :=
  fun _ => place_pos (by decide) _
theorem Encoding.vexpd (s : Bool) (d : BitVec 5) (a : BitVec 5) (m : BitVec 3) (y : BitVec 3) : Encoding.Statement (.vexpd s d a m y) :=
  fun _ => place_pos (by decide) _
theorem Encoding.vinsx (s : Bool) (d : BitVec 5) (a : BitVec 5) (b : BitVec 5) (y : BitVec 3) : Encoding.Statement (.vinsx s d a b y) :=
  fun _ => place_pos (by decide) _
theorem Encoding.vextx (s : Bool) (d : BitVec 5) (a : BitVec 5) (b : BitVec 5) (y : BitVec 3) : Encoding.Statement (.vextx s d a b y) :=
  fun _ => place_pos (by decide) _
theorem Encoding.vcmpEq (s : Bool) (d : BitVec 3) (a : BitVec 5) (b : BitVec 5) (m : BitVec 3) (y : BitVec 3) : Encoding.Statement (.vcmpEq s d a b m y) :=
  fun _ => place_pos (by decide) _
theorem Encoding.vcmpNe (s : Bool) (d : BitVec 3) (a : BitVec 5) (b : BitVec 5) (m : BitVec 3) (y : BitVec 3) : Encoding.Statement (.vcmpNe s d a b m y) :=
  fun _ => place_pos (by decide) _
theorem Encoding.vcmpLt (s : Bool) (d : BitVec 3) (a : BitVec 5) (b : BitVec 5) (m : BitVec 3) (y : BitVec 3) : Encoding.Statement (.vcmpLt s d a b m y) :=
  fun _ => place_pos (by decide) _
theorem Encoding.vcmpLe (s : Bool) (d : BitVec 3) (a : BitVec 5) (b : BitVec 5) (m : BitVec 3) (y : BitVec 3) : Encoding.Statement (.vcmpLe s d a b m y) :=
  fun _ => place_pos (by decide) _
theorem Encoding.vcmpGt (s : Bool) (d : BitVec 3) (a : BitVec 5) (b : BitVec 5) (m : BitVec 3) (y : BitVec 3) : Encoding.Statement (.vcmpGt s d a b m y) :=
  fun _ => place_pos (by decide) _
theorem Encoding.vcmpGe (s : Bool) (d : BitVec 3) (a : BitVec 5) (b : BitVec 5) (m : BitVec 3) (y : BitVec 3) : Encoding.Statement (.vcmpGe s d a b m y) :=
  fun _ => place_pos (by decide) _
theorem Encoding.vcmpUnord (s : Bool) (d : BitVec 3) (a : BitVec 5) (b : BitVec 5) (m : BitVec 3) : Encoding.Statement (.vcmpUnord s d a b m) :=
  fun _ => place_pos (by decide) _
theorem Encoding.vcvtFi (s : Bool) (d : BitVec 5) (a : BitVec 5) (m : BitVec 3) (y : BitVec 3) : Encoding.Statement (.vcvtFi s d a m y) :=
  fun _ => place_pos (by decide) _
theorem Encoding.vcvtIf (s : Bool) (d : BitVec 5) (a : BitVec 5) (m : BitVec 3) (y : BitVec 3) : Encoding.Statement (.vcvtIf s d a m y) :=
  fun _ => place_pos (by decide) _
theorem Encoding.vcvtNar (s : Bool) (d : BitVec 5) (a : BitVec 5) (b : BitVec 5) (m : BitVec 3) (y : BitVec 3) : Encoding.Statement (.vcvtNar s d a b m y) :=
  fun _ => place_pos (by decide) _
theorem Encoding.vcvtWid (s : Bool) (d : BitVec 5) (a : BitVec 5) (q : BitVec 5) (m : BitVec 3) (y : BitVec 3) : Encoding.Statement (.vcvtWid s d a q m y) :=
  fun _ => place_pos (by decide) _
theorem Encoding.vcvtEt8 (s : Bool) (d : BitVec 5) (a : BitVec 5) (q : BitVec 5) (m : BitVec 3) : Encoding.Statement (.vcvtEt8 s d a q m) :=
  fun _ => place_pos (by decide) _
theorem Encoding.vcvtDt8 (s : Bool) (d : BitVec 5) (a : BitVec 5) (q : BitVec 5) (m : BitVec 3) : Encoding.Statement (.vcvtDt8 s d a q m) :=
  fun _ => place_pos (by decide) _
theorem Encoding.vcvtEt4 (s : Bool) (d : BitVec 5) (a : BitVec 5) (q : BitVec 5) (m : BitVec 3) : Encoding.Statement (.vcvtEt4 s d a q m) :=
  fun _ => place_pos (by decide) _
theorem Encoding.vcvtDt4 (s : Bool) (d : BitVec 5) (a : BitVec 5) (q : BitVec 5) (m : BitVec 3) : Encoding.Statement (.vcvtDt4 s d a q m) :=
  fun _ => place_pos (by decide) _
theorem Encoding.vexp2 (s : Bool) (d : BitVec 5) (a : BitVec 5) (m : BitVec 3) (f : BitVec 3) : Encoding.Statement (.vexp2 s d a m f) :=
  fun _ => place_pos (by decide) _
theorem Encoding.vlog2 (s : Bool) (d : BitVec 5) (a : BitVec 5) (m : BitVec 3) (f : BitVec 3) : Encoding.Statement (.vlog2 s d a m f) :=
  fun _ => place_pos (by decide) _
theorem Encoding.vrcp (s : Bool) (d : BitVec 5) (a : BitVec 5) (m : BitVec 3) (f : BitVec 3) : Encoding.Statement (.vrcp s d a m f) :=
  fun _ => place_pos (by decide) _
theorem Encoding.vrsqrt (s : Bool) (d : BitVec 5) (a : BitVec 5) (m : BitVec 3) (f : BitVec 3) : Encoding.Statement (.vrsqrt s d a m f) :=
  fun _ => place_pos (by decide) _
theorem Encoding.vsqrt (s : Bool) (d : BitVec 5) (a : BitVec 5) (m : BitVec 3) (f : BitVec 3) : Encoding.Statement (.vsqrt s d a m f) :=
  fun _ => place_pos (by decide) _
theorem Encoding.vtanh (s : Bool) (d : BitVec 5) (a : BitVec 5) (m : BitVec 3) (f : BitVec 3) : Encoding.Statement (.vtanh s d a m f) :=
  fun _ => place_pos (by decide) _
theorem Encoding.vsigm (s : Bool) (d : BitVec 5) (a : BitVec 5) (m : BitVec 3) (f : BitVec 3) : Encoding.Statement (.vsigm s d a m f) :=
  fun _ => place_pos (by decide) _
theorem Encoding.vgelu (s : Bool) (d : BitVec 5) (a : BitVec 5) (m : BitVec 3) (f : BitVec 3) : Encoding.Statement (.vgelu s d a m f) :=
  fun _ => place_pos (by decide) _
theorem Encoding.mand (s : Bool) (d : BitVec 5) (a : BitVec 5) (b : BitVec 5) : Encoding.Statement (.mand s d a b) :=
  fun _ => place_pos (by decide) _
theorem Encoding.mor (s : Bool) (d : BitVec 5) (a : BitVec 5) (b : BitVec 5) : Encoding.Statement (.mor s d a b) :=
  fun _ => place_pos (by decide) _
theorem Encoding.mxor (s : Bool) (d : BitVec 5) (a : BitVec 5) (b : BitVec 5) : Encoding.Statement (.mxor s d a b) :=
  fun _ => place_pos (by decide) _
theorem Encoding.mandn (s : Bool) (d : BitVec 5) (a : BitVec 5) (b : BitVec 5) : Encoding.Statement (.mandn s d a b) :=
  fun _ => place_pos (by decide) _
theorem Encoding.mnot (s : Bool) (d : BitVec 5) (a : BitVec 5) : Encoding.Statement (.mnot s d a) :=
  fun _ => place_pos (by decide) _
theorem Encoding.mfirst (s : Bool) (d : BitVec 5) (a : BitVec 5) : Encoding.Statement (.mfirst s d a) :=
  fun _ => place_pos (by decide) _
theorem Encoding.mfromx (s : Bool) (d : BitVec 5) (a : BitVec 5) : Encoding.Statement (.mfromx s d a) :=
  fun _ => place_pos (by decide) _
theorem Encoding.mtox (s : Bool) (d : BitVec 5) (a : BitVec 5) : Encoding.Statement (.mtox s d a) :=
  fun _ => place_pos (by decide) _
theorem Encoding.mmaH (s : Bool) (c : BitVec 2) (k : Bool) (z : Bool) (a : BitVec 5) (b : BitVec 5) (f : BitVec 5) (r : BitVec 3) : Encoding.Statement (.mmaH s c k z a b f r) :=
  fun _ => place_pos (by decide) _
theorem Encoding.mmaB (s : Bool) (c : BitVec 2) (k : Bool) (z : Bool) (a : BitVec 5) (b : BitVec 5) (f : BitVec 5) (r : BitVec 3) : Encoding.Statement (.mmaB s c k z a b f r) :=
  fun _ => place_pos (by decide) _
theorem Encoding.mmaT8 (s : Bool) (c : BitVec 2) (k : Bool) (z : Bool) (a : BitVec 5) (b : BitVec 5) (f : BitVec 5) (r : BitVec 3) : Encoding.Statement (.mmaT8 s c k z a b f r) :=
  fun _ => place_pos (by decide) _
theorem Encoding.mmaT84 (s : Bool) (c : BitVec 2) (k : Bool) (z : Bool) (a : BitVec 5) (b : BitVec 5) (f : BitVec 5) (r : BitVec 3) : Encoding.Statement (.mmaT84 s c k z a b f r) :=
  fun _ => place_pos (by decide) _
theorem Encoding.mmaT4 (s : Bool) (c : BitVec 2) (k : Bool) (z : Bool) (a : BitVec 5) (b : BitVec 5) (f : BitVec 5) (r : BitVec 3) : Encoding.Statement (.mmaT4 s c k z a b f r) :=
  fun _ => place_pos (by decide) _
theorem Encoding.mmaI8 (s : Bool) (c : BitVec 2) (k : Bool) (z : Bool) (a : BitVec 5) (b : BitVec 5) (t : Bool) : Encoding.Statement (.mmaI8 s c k z a b t) :=
  fun _ => place_pos (by decide) _
theorem Encoding.mzero (s : Bool) (d : BitVec 5) : Encoding.Statement (.mzero s d) :=
  fun _ => place_pos (by decide) _
theorem Encoding.medge (s : Bool) (a : BitVec 5) (t : Bool) : Encoding.Statement (.medge s a t) :=
  fun _ => place_pos (by decide) _
theorem Encoding.mrowr (s : Bool) (d : BitVec 5) (a : BitVec 5) (b : BitVec 5) (u : Bool) : Encoding.Statement (.mrowr s d a b u) :=
  fun _ => place_pos (by decide) _
theorem Encoding.mroww (s : Bool) (d : BitVec 5) (a : BitVec 5) (b : BitVec 5) (t : Bool) (u : Bool) : Encoding.Statement (.mroww s d a b t u) :=
  fun _ => place_pos (by decide) _
theorem Encoding.hbind (s : Bool) (d : BitVec 3) (a : BitVec 3) (b : BitVec 3) (t : Bool) : Encoding.Statement (.hbind s d a b t) :=
  fun _ => place_pos (by decide) _
theorem Encoding.hperm (s : Bool) (d : BitVec 3) (a : BitVec 3) (t : Bool) (i : BitVec 12) : Encoding.Statement (.hperm s d a t i) :=
  fun _ => place_pos (by decide) _
theorem Encoding.hnot (s : Bool) (d : BitVec 3) (a : BitVec 3) (t : Bool) : Encoding.Statement (.hnot s d a t) :=
  fun _ => place_pos (by decide) _
theorem Encoding.hmov (s : Bool) (d : BitVec 3) (a : BitVec 3) (t : Bool) : Encoding.Statement (.hmov s d a t) :=
  fun _ => place_pos (by decide) _
theorem Encoding.hbundle (s : Bool) (a : BitVec 3) (b : BitVec 2) (t : Bool) : Encoding.Statement (.hbundle s a b t) :=
  fun _ => place_pos (by decide) _
theorem Encoding.hclr (s : Bool) (b : BitVec 2) : Encoding.Statement (.hclr s b) :=
  fun _ => place_pos (by decide) _
theorem Encoding.hthr (s : Bool) (d : BitVec 3) (a : BitVec 3) (b : BitVec 2) (t : Bool) : Encoding.Statement (.hthr s d a b t) :=
  fun _ => place_pos (by decide) _
theorem Encoding.hdist (s : Bool) (a : BitVec 3) (b : BitVec 3) (t : Bool) (d : BitVec 5) : Encoding.Statement (.hdist s a b t d) :=
  fun _ => place_pos (by decide) _
theorem Encoding.hpop (s : Bool) (a : BitVec 3) (t : Bool) (d : BitVec 5) : Encoding.Statement (.hpop s a t d) :=
  fun _ => place_pos (by decide) _
theorem Encoding.noise (s : Bool) (d : BitVec 5) (a : BitVec 5) (b : BitVec 5) (m : BitVec 3) : Encoding.Statement (.noise s d a b m) :=
  fun _ => place_pos (by decide) _
theorem Encoding.chash (s : Bool) (d : BitVec 5) (a : BitVec 5) (b : BitVec 5) : Encoding.Statement (.chash s d a b) :=
  fun _ => place_pos (by decide) _
theorem Encoding.chashLd (s : Bool) (d : BitVec 5) (b : BitVec 5) : Encoding.Statement (.chashLd s d b) :=
  fun _ => place_pos (by decide) _
theorem Encoding.chashSt (s : Bool) (a : BitVec 5) (b : BitVec 5) : Encoding.Statement (.chashSt s a b) :=
  fun _ => place_pos (by decide) _
theorem Encoding.hrand (s : Bool) (d : BitVec 3) (a : BitVec 5) : Encoding.Statement (.hrand s d a) :=
  fun _ => place_pos (by decide) _
theorem Encoding.rseed (s : Bool) (a : BitVec 5) : Encoding.Statement (.rseed s a) :=
  fun _ => place_pos (by decide) _
theorem Encoding.rbits (s : Bool) (d : BitVec 5) : Encoding.Statement (.rbits s d) :=
  fun _ => place_pos (by decide) _
theorem Encoding.spoutPortPush (a0 : Nat) (a1 : Word) : Encoding.Statement (.spoutPortPush a0 a1) :=
  fun h => Bool.noConfusion h
theorem Encoding.longLatencyWrite (a0 : Nat) (a1 : GranuleEvent) : Encoding.Statement (.longLatencyWrite a0 a1) :=
  fun h => Bool.noConfusion h
theorem Encoding.slotFillComplete (a0 : Nat) (a1 : GranuleEvent) : Encoding.Statement (.slotFillComplete a0 a1) :=
  fun h => Bool.noConfusion h
theorem Encoding.postedStoreAck (a0 : Nat) (a1 : GranuleEvent) : Encoding.Statement (.postedStoreAck a0 a1) :=
  fun h => Bool.noConfusion h
theorem Encoding.waitaWake (a0 : Nat) : Encoding.Statement (.waitaWake a0) :=
  fun h => Bool.noConfusion h
theorem Encoding.haltComplete (a0 : Nat) : Encoding.Statement (.haltComplete a0) :=
  fun h => Bool.noConfusion h
theorem Encoding.batchWindowExpiry (a0 : Nat) (a1 : Nat) (a2 : Nat) : Encoding.Statement (.batchWindowExpiry a0 a1 a2) :=
  fun h => Bool.noConfusion h
theorem Encoding.layerTaskStart (a0 : Nat) : Encoding.Statement (.layerTaskStart a0) :=
  fun h => Bool.noConfusion h
theorem Encoding.backgroundSpill (a0 : Nat) : Encoding.Statement (.backgroundSpill a0) :=
  fun h => Bool.noConfusion h
theorem Encoding.spillComplete (a0 : Nat) (a1 : Nat) : Encoding.Statement (.spillComplete a0 a1) :=
  fun h => Bool.noConfusion h
theorem Encoding.reloadComplete (a0 : Nat) (a1 : Nat) : Encoding.Statement (.reloadComplete a0 a1) :=
  fun h => Bool.noConfusion h
theorem Encoding.seedPacketArrival (a0 : Arrival) : Encoding.Statement (.seedPacketArrival a0) :=
  fun h => Bool.noConfusion h
theorem Encoding.seedAck (a0 : Arrival) : Encoding.Statement (.seedAck a0) :=
  fun h => Bool.noConfusion h
theorem Encoding.forwardingExpiry (a0 : Nat) (a1 : Nat) : Encoding.Statement (.forwardingExpiry a0 a1) :=
  fun h => Bool.noConfusion h
theorem Encoding.remoteStreamRequest (a0 : Arrival) : Encoding.Statement (.remoteStreamRequest a0) :=
  fun h => Bool.noConfusion h
theorem Encoding.remoteReply (a0 : Arrival) : Encoding.Statement (.remoteReply a0) :=
  fun h => Bool.noConfusion h
theorem Encoding.familyReport (a0 : Arrival) : Encoding.Statement (.familyReport a0) :=
  fun h => Bool.noConfusion h
theorem Encoding.joinDeadline (a0 : Nat) (a1 : Nat) : Encoding.Statement (.joinDeadline a0 a1) :=
  fun h => Bool.noConfusion h
theorem Encoding.retireOrder (a0 : Arrival) : Encoding.Statement (.retireOrder a0) :=
  fun h => Bool.noConfusion h
theorem Encoding.remoteJoinRequest (a0 : Arrival) : Encoding.Statement (.remoteJoinRequest a0) :=
  fun h => Bool.noConfusion h
theorem Encoding.messageArrival (a0 : Arrival) : Encoding.Statement (.messageArrival a0) :=
  fun h => Bool.noConfusion h
theorem Encoding.timetableRelease (a0 : Nat) (a1 : Nat) : Encoding.Statement (.timetableRelease a0 a1) :=
  fun h => Bool.noConfusion h
theorem Encoding.contributionArrival (a0 : Arrival) : Encoding.Statement (.contributionArrival a0) :=
  fun h => Bool.noConfusion h
theorem Encoding.cbrResult (a0 : Nat) : Encoding.Statement (.cbrResult a0) :=
  fun h => Bool.noConfusion h
theorem Encoding.roundTimeout (a0 : Nat) : Encoding.Statement (.roundTimeout a0) :=
  fun h => Bool.noConfusion h
theorem Encoding.copyStart (a0 : Nat) (a1 : Nat) : Encoding.Statement (.copyStart a0 a1) :=
  fun h => Bool.noConfusion h
theorem Encoding.copyComplete (a0 : Nat) (a1 : Nat) : Encoding.Statement (.copyComplete a0 a1) :=
  fun h => Bool.noConfusion h
theorem Encoding.cancelAck (a0 : Nat) (a1 : Nat) : Encoding.Statement (.cancelAck a0 a1) :=
  fun h => Bool.noConfusion h
theorem Encoding.whiskContributionArrival (a0 : Arrival) : Encoding.Statement (.whiskContributionArrival a0) :=
  fun h => Bool.noConfusion h
theorem Encoding.remoteMemoryRequest (a0 : RemoteReq) : Encoding.Statement (.remoteMemoryRequest a0) :=
  fun h => Bool.noConfusion h
theorem Encoding.hostAtomicUr (a0 : Nat) : Encoding.Statement (.hostAtomicUr a0) :=
  fun h => Bool.noConfusion h
theorem Encoding.pageMigration (a0 : Nat) (a1 : Nat) (a2 : Nat) (a3 : Nat) (a4 : Nat) (a5 : List (Nat × Word)) : Encoding.Statement (.pageMigration a0 a1 a2 a3 a4 a5) :=
  fun h => Bool.noConfusion h
theorem Encoding.retryFaultLaunch (a0 : Nat) (a1 : Nat) : Encoding.Statement (.retryFaultLaunch a0 a1) :=
  fun h => Bool.noConfusion h
theorem Encoding.pageService (a0 : Nat) (a1 : List (Nat × Word)) (a2 : Bool) : Encoding.Statement (.pageService a0 a1 a2) :=
  fun h => Bool.noConfusion h
theorem Encoding.setvec (a0 : Nat) : Encoding.Statement (.setvec a0) :=
  fun h => Bool.noConfusion h
theorem Encoding.event (a0 : Nat) : Encoding.Statement (.event a0) :=
  fun h => Bool.noConfusion h
theorem Encoding.replyTimeout (a0 : Nat) : Encoding.Statement (.replyTimeout a0) :=
  fun h => Bool.noConfusion h
theorem Encoding.ackLost (a0 : Nat) (a1 : Nat) : Encoding.Statement (.ackLost a0 a1) :=
  fun h => Bool.noConfusion h
theorem Encoding.selfTestComplete (a0 : UnitId) (a1 : Bool) : Encoding.Statement (.selfTestComplete a0 a1) :=
  fun h => Bool.noConfusion h
theorem Encoding.deadlockScan : Encoding.Statement (.deadlockScan) :=
  fun h => Bool.noConfusion h
theorem Encoding.schedulingPass (a0 : List Nat) : Encoding.Statement (.schedulingPass a0) :=
  fun h => Bool.noConfusion h
theorem Encoding.gangReservation (a0 : Nat) : Encoding.Statement (.gangReservation a0) :=
  fun h => Bool.noConfusion h
theorem Encoding.infusionComplete (a0 : Nat) (a1 : Nat) : Encoding.Statement (.infusionComplete a0 a1) :=
  fun h => Bool.noConfusion h
theorem Encoding.taskStart (a0 : TaskBegin) : Encoding.Statement (.taskStart a0) :=
  fun h => Bool.noConfusion h
theorem Encoding.gangSwitchPost (a0 : Nat) (a1 : Nat) (a2 : Option (BitVec 32)) : Encoding.Statement (.gangSwitchPost a0 a1 a2) :=
  fun h => Bool.noConfusion h
theorem Encoding.gangSwitchStop (a0 : Nat) : Encoding.Statement (.gangSwitchStop a0) :=
  fun h => Bool.noConfusion h
theorem Encoding.partitionSave (a0 : Nat) (a1 : Nat) : Encoding.Statement (.partitionSave a0 a1) :=
  fun h => Bool.noConfusion h
theorem Encoding.partitionResume (a0 : Nat) (a1 : List (Nat × Nat)) : Encoding.Statement (.partitionResume a0 a1) :=
  fun h => Bool.noConfusion h
theorem Encoding.cutEvaluation (a0 : Nat) (a1 : Int) : Encoding.Statement (.cutEvaluation a0 a1) :=
  fun h => Bool.noConfusion h
theorem Encoding.heartbeat (a0 : List (Nat × List Nat)) : Encoding.Statement (.heartbeat a0) :=
  fun h => Bool.noConfusion h
theorem Encoding.domainRecovery (a0 : Nat) (a1 : Option Nat) : Encoding.Statement (.domainRecovery a0 a1) :=
  fun h => Bool.noConfusion h
theorem Encoding.linkFailure (a0 : Nat) : Encoding.Statement (.linkFailure a0) :=
  fun h => Bool.noConfusion h
theorem Encoding.submit (a0 : Nat) (a1 : Word) : Encoding.Statement (.submit a0 a1) :=
  fun h => Bool.noConfusion h
theorem Encoding.statusq (a0 : Nat) (a1 : Word) : Encoding.Statement (.statusq a0 a1) :=
  fun h => Bool.noConfusion h
theorem Encoding.evtail (a0 : Nat) (a1 : Word) : Encoding.Statement (.evtail a0 a1) :=
  fun h => Bool.noConfusion h
theorem Encoding.vfRegisterWrite (a0 : PageAccess) : Encoding.Statement (.vfRegisterWrite a0) :=
  fun h => Bool.noConfusion h
theorem Encoding.bar2Read (a0 : Nat) (a1 : Word) (a2 : Nat) : Encoding.Statement (.bar2Read a0 a1 a2) :=
  fun h => Bool.noConfusion h
theorem Encoding.bar2Write (a0 : Nat) (a1 : Word) (a2 : List Byte) : Encoding.Statement (.bar2Write a0 a1 a2) :=
  fun h => Bool.noConfusion h
theorem Encoding.regionRegister (a0 : RegionReq) : Encoding.Statement (.regionRegister a0) :=
  fun h => Bool.noConfusion h
theorem Encoding.regionDeregister (a0 : Nat) (a1 : BitVec 128) (a2 : BitVec 10240) : Encoding.Statement (.regionDeregister a0 a1 a2) :=
  fun h => Bool.noConfusion h
theorem Encoding.meterReportRequest (a0 : Nat) (a1 : Nat) (a2 : BitVec 128) : Encoding.Statement (.meterReportRequest a0 a1 a2) :=
  fun h => Bool.noConfusion h
theorem Encoding.handover (a0 : HandoverReq) : Encoding.Statement (.handover a0) :=
  fun h => Bool.noConfusion h
theorem Encoding.mailboxAttest (a0 : Nat) (a1 : BitVec 128) : Encoding.Statement (.mailboxAttest a0 a1) :=
  fun h => Bool.noConfusion h
theorem Encoding.okeySet (a0 : Nat) (a1 : BitVec 128) : Encoding.Statement (.okeySet a0 a1) :=
  fun h => Bool.noConfusion h
theorem Encoding.homeDescriptorSet (a0 : Nat) (a1 : Nat) (a2 : Word) : Encoding.Statement (.homeDescriptorSet a0 a1 a2) :=
  fun h => Bool.noConfusion h
theorem Encoding.stashSizeSet (a0 : Nat) (a1 : Nat) (a2 : Nat) : Encoding.Statement (.stashSizeSet a0 a1 a2) :=
  fun h => Bool.noConfusion h
theorem Encoding.ceilingPersist (a0 : Nat) (a1 : Bool) : Encoding.Statement (.ceilingPersist a0 a1) :=
  fun h => Bool.noConfusion h
theorem Encoding.sensors : Encoding.Statement (.sensors) :=
  fun h => Bool.noConfusion h
theorem Encoding.fences : Encoding.Statement (.fences) :=
  fun h => Bool.noConfusion h
theorem Encoding.attest (a0 : BitVec 128) : Encoding.Statement (.attest a0) :=
  fun h => Bool.noConfusion h
theorem Encoding.meter (a0 : Nat) (a1 : BitVec 128) : Encoding.Statement (.meter a0 a1) :=
  fun h => Bool.noConfusion h
theorem Encoding.powercap (a0 : CapReq) : Encoding.Statement (.powercap a0) :=
  fun h => Bool.noConfusion h
theorem Encoding.debugAttach (a0 : Nat) (a1 : Bool) : Encoding.Statement (.debugAttach a0 a1) :=
  fun h => Bool.noConfusion h
theorem Encoding.debugDetach (a0 : Nat) : Encoding.Statement (.debugDetach a0) :=
  fun h => Bool.noConfusion h
theorem Encoding.deploy (a0 : BitVec 128) (a1 : BitVec 10240) : Encoding.Statement (.deploy a0 a1) :=
  fun h => Bool.noConfusion h
theorem Encoding.reset : Encoding.Statement (.reset) :=
  fun h => Bool.noConfusion h
theorem Encoding.firmwareStage (a0 : Firmware) : Encoding.Statement (.firmwareStage a0) :=
  fun h => Bool.noConfusion h
theorem Encoding.powerGood : Encoding.Statement (.powerGood) :=
  fun h => Bool.noConfusion h
theorem Encoding.stage1 (a0 : List UnitId) : Encoding.Statement (.stage1 a0) :=
  fun h => Bool.noConfusion h
theorem Encoding.stage2 (a0 : List UnitId) : Encoding.Statement (.stage2 a0) :=
  fun h => Bool.noConfusion h
theorem Encoding.stageTimeout : Encoding.Statement (.stageTimeout) :=
  fun h => Bool.noConfusion h
theorem Encoding.railFault (a0 : Nat) : Encoding.Statement (.railFault a0) :=
  fun h => Bool.noConfusion h
theorem Encoding.thermalThrottle (a0 : List Int) (a1 : Nat) : Encoding.Statement (.thermalThrottle a0 a1) :=
  fun h => Bool.noConfusion h
theorem Encoding.dieOvertemp (a0 : Nat) : Encoding.Statement (.dieOvertemp a0) :=
  fun h => Bool.noConfusion h
theorem Encoding.dieCooled (a0 : Nat) (a1 : List UnitId) : Encoding.Statement (.dieCooled a0 a1) :=
  fun h => Bool.noConfusion h
theorem Encoding.homeSlicePerform (a0 : Nat) : Encoding.Statement (.homeSlicePerform a0) :=
  fun h => Bool.noConfusion h
theorem Encoding.podRequestServed (a0 : Nat) : Encoding.Statement (.podRequestServed a0) :=
  fun h => Bool.noConfusion h
theorem Encoding.uncorrectableError (a0 : PoisonAt) : Encoding.Statement (.uncorrectableError a0) :=
  fun h => Bool.noConfusion h
theorem Encoding.correctedError (a0 : UnitId) : Encoding.Statement (.correctedError a0) :=
  fun h => Bool.noConfusion h
theorem Encoding.hostAgentAccess (a0 : HostAccess) : Encoding.Statement (.hostAgentAccess a0) :=
  fun h => Bool.noConfusion h
theorem Encoding.expanderLinkDown (a0 : Nat) : Encoding.Statement (.expanderLinkDown a0) :=
  fun h => Bool.noConfusion h
theorem Encoding.orderlyShutdown : Encoding.Statement (.orderlyShutdown) :=
  fun h => Bool.noConfusion h
theorem Encoding.mappingChange (a0 : Nat) (a1 : Word) (a2 : List (Nat × Word)) : Encoding.Statement (.mappingChange a0 a1 a2) :=
  fun h => Bool.noConfusion h
theorem Encoding.debuggerResume (a0 : Nat) : Encoding.Statement (.debuggerResume a0) :=
  fun h => Bool.noConfusion h

end Sys2Proof.Laws
end

