-- ==== Sys2Proof/Laws/Sig.lean ====
section
/-! SUPPORT. The signature of each A form whose meaning writes its signature out. -/

namespace Sys2Proof.Machine

theorem sig_vcvtFi (sm : Bool) (d a : BitVec 5) (m y : BitVec 3) :
    aSigOf (.vcvtFi sm d a m y) = aSig [⟨1, 2, a.toNat, false⟩] [⟨2, d.toNat⟩] false false := rfl
theorem sig_vcvtIf (sm : Bool) (d a : BitVec 5) (m y : BitVec 3) :
    aSigOf (.vcvtIf sm d a m y) = aSig [⟨1, 2, a.toNat, false⟩] [⟨2, d.toNat⟩] false false := rfl
theorem sig_vcvtNar (sm : Bool) (d a b : BitVec 5) (m y : BitVec 3) :
    aSigOf (.vcvtNar sm d a b m y) = aSig [⟨1, 2, a.toNat, false⟩, ⟨2, 2, b.toNat, false⟩] [⟨2, d.toNat⟩] false false := rfl
theorem sig_vcvtWid (sm : Bool) (d a q : BitVec 5) (m y : BitVec 3) :
    aSigOf (.vcvtWid sm d a q m y) = aSig [⟨1, 2, a.toNat, false⟩] [⟨2, d.toNat⟩] false false := rfl
theorem sig_vcvtEt8 (sm : Bool) (d a q : BitVec 5) (m : BitVec 3) :
    aSigOf (.vcvtEt8 sm d a q m) = aSig [⟨1, 2, a.toNat, false⟩] [⟨2, d.toNat⟩] false false := rfl
theorem sig_vcvtDt8 (sm : Bool) (d a q : BitVec 5) (m : BitVec 3) :
    aSigOf (.vcvtDt8 sm d a q m) = aSig [⟨1, 2, a.toNat, false⟩] [⟨2, d.toNat⟩] false false := rfl
theorem sig_vcvtEt4 (sm : Bool) (d a q : BitVec 5) (m : BitVec 3) :
    aSigOf (.vcvtEt4 sm d a q m) = aSig [⟨1, 2, a.toNat, false⟩] [⟨2, d.toNat⟩] false false := rfl
theorem sig_vcvtDt4 (sm : Bool) (d a q : BitVec 5) (m : BitVec 3) :
    aSigOf (.vcvtDt4 sm d a q m) = aSig [⟨1, 2, a.toNat, false⟩] [⟨2, d.toNat⟩] false false := rfl
theorem sig_vexp2 (sm : Bool) (d a : BitVec 5) (m f : BitVec 3) :
    aSigOf (.vexp2 sm d a m f) = aSig [⟨1, 2, a.toNat, false⟩] [⟨2, d.toNat⟩] false false := rfl
theorem sig_vlog2 (sm : Bool) (d a : BitVec 5) (m f : BitVec 3) :
    aSigOf (.vlog2 sm d a m f) = aSig [⟨1, 2, a.toNat, false⟩] [⟨2, d.toNat⟩] false false := rfl
theorem sig_vrcp (sm : Bool) (d a : BitVec 5) (m f : BitVec 3) :
    aSigOf (.vrcp sm d a m f) = aSig [⟨1, 2, a.toNat, false⟩] [⟨2, d.toNat⟩] false false := rfl
theorem sig_vrsqrt (sm : Bool) (d a : BitVec 5) (m f : BitVec 3) :
    aSigOf (.vrsqrt sm d a m f) = aSig [⟨1, 2, a.toNat, false⟩] [⟨2, d.toNat⟩] false false := rfl
theorem sig_vsqrt (sm : Bool) (d a : BitVec 5) (m f : BitVec 3) :
    aSigOf (.vsqrt sm d a m f) = aSig [⟨1, 2, a.toNat, false⟩] [⟨2, d.toNat⟩] false false := rfl
theorem sig_vtanh (sm : Bool) (d a : BitVec 5) (m f : BitVec 3) :
    aSigOf (.vtanh sm d a m f) = aSig [⟨1, 2, a.toNat, false⟩] [⟨2, d.toNat⟩] false false := rfl
theorem sig_vsigm (sm : Bool) (d a : BitVec 5) (m f : BitVec 3) :
    aSigOf (.vsigm sm d a m f) = aSig [⟨1, 2, a.toNat, false⟩] [⟨2, d.toNat⟩] false false := rfl
theorem sig_vgelu (sm : Bool) (d a : BitVec 5) (m f : BitVec 3) :
    aSigOf (.vgelu sm d a m f) = aSig [⟨1, 2, a.toNat, false⟩] [⟨2, d.toNat⟩] false false := rfl
theorem sig_mand (sm : Bool) (d a b : BitVec 5) :
    aSigOf (.mand sm d a b) = aSig [] [⟨4, d.toNat⟩] false false := rfl
theorem sig_mor (sm : Bool) (d a b : BitVec 5) :
    aSigOf (.mor sm d a b) = aSig [] [⟨4, d.toNat⟩] false false := rfl
theorem sig_mxor (sm : Bool) (d a b : BitVec 5) :
    aSigOf (.mxor sm d a b) = aSig [] [⟨4, d.toNat⟩] false false := rfl
theorem sig_mandn (sm : Bool) (d a b : BitVec 5) :
    aSigOf (.mandn sm d a b) = aSig [] [⟨4, d.toNat⟩] false false := rfl
theorem sig_mnot (sm : Bool) (d a : BitVec 5) :
    aSigOf (.mnot sm d a) = aSig [] [⟨4, d.toNat⟩] false false := rfl
theorem sig_mfirst (sm : Bool) (d a : BitVec 5) :
    aSigOf (.mfirst sm d a) = aSig [] [⟨4, d.toNat⟩] false false := rfl
theorem sig_mfromx (sm : Bool) (d a : BitVec 5) :
    aSigOf (.mfromx sm d a) = aSig [⟨1, 0, a.toNat, false⟩] [⟨4, d.toNat⟩] false false := rfl
theorem sig_mtox (sm : Bool) (d a : BitVec 5) :
    aSigOf (.mtox sm d a) = aSig [] [⟨0, d.toNat⟩] false false := rfl
theorem sig_hbind (sm : Bool) (d a b : BitVec 3) (t : Bool) :
    aSigOf (.hbind sm d a b t) = aSig [⟨1, 3, a.toNat, t⟩, ⟨2, 3, b.toNat, t⟩] [⟨3, d.toNat⟩] false true := rfl
theorem sig_hperm (sm : Bool) (d a : BitVec 3) (t : Bool) (i : BitVec 12) :
    aSigOf (.hperm sm d a t i) = aSig [⟨1, 3, a.toNat, t⟩] [⟨3, d.toNat⟩] false true := rfl
theorem sig_hnot (sm : Bool) (d a : BitVec 3) (t : Bool) :
    aSigOf (.hnot sm d a t) = aSig [⟨1, 3, a.toNat, t⟩] [⟨3, d.toNat⟩] false false := rfl
theorem sig_hmov (sm : Bool) (d a : BitVec 3) (t : Bool) :
    aSigOf (.hmov sm d a t) = aSig [⟨1, 3, a.toNat, t⟩] [⟨3, d.toNat⟩] false false := rfl
theorem sig_hthr (sm : Bool) (d a : BitVec 3) (b : BitVec 2) (t : Bool) :
    aSigOf (.hthr sm d a b t) = aSig [⟨1, 3, a.toNat, t⟩] [⟨3, d.toNat⟩] false true := rfl
theorem sig_hbundle (sm : Bool) (a : BitVec 3) (b : BitVec 2) (t : Bool) :
    aSigOf (.hbundle sm a b t) = aSig [⟨1, 3, a.toNat, t⟩] [⟨5, b.toNat⟩] false false := rfl
theorem sig_hclr (sm : Bool) (b : BitVec 2) :
    aSigOf (.hclr sm b) = aSig [] [⟨5, b.toNat⟩] false false := rfl
theorem sig_hdist (sm : Bool) (a b : BitVec 3) (t : Bool) (d : BitVec 5) :
    aSigOf (.hdist sm a b t d) = aSig [⟨1, 3, a.toNat, t⟩, ⟨2, 3, b.toNat, t⟩] [⟨0, d.toNat⟩] false false := rfl
theorem sig_hpop (sm : Bool) (a : BitVec 3) (t : Bool) (d : BitVec 5) :
    aSigOf (.hpop sm a t d) = aSig [⟨1, 3, a.toNat, t⟩] [⟨0, d.toNat⟩] false false := rfl
theorem sig_mmaH (sm : Bool) (c : BitVec 2) (k z : Bool) (a b f : BitVec 5) (r : BitVec 3) :
    aSigOf (.mmaH sm c k z a b f r) = aSig [⟨1, 0, a.toNat, false⟩, ⟨2, 0, b.toNat, false⟩, ⟨3, 1, f.toNat, false⟩] [⟨6, c.toNat⟩] false false := rfl
theorem sig_mmaB (sm : Bool) (c : BitVec 2) (k z : Bool) (a b f : BitVec 5) (r : BitVec 3) :
    aSigOf (.mmaB sm c k z a b f r) = aSig [⟨1, 0, a.toNat, false⟩, ⟨2, 0, b.toNat, false⟩, ⟨3, 1, f.toNat, false⟩] [⟨6, c.toNat⟩] false false := rfl
theorem sig_mmaT8 (sm : Bool) (c : BitVec 2) (k z : Bool) (a b f : BitVec 5) (r : BitVec 3) :
    aSigOf (.mmaT8 sm c k z a b f r) = aSig [⟨1, 0, a.toNat, false⟩, ⟨2, 0, b.toNat, false⟩, ⟨3, 1, f.toNat, false⟩] [⟨6, c.toNat⟩] false false := rfl
theorem sig_mmaT84 (sm : Bool) (c : BitVec 2) (k z : Bool) (a b f : BitVec 5) (r : BitVec 3) :
    aSigOf (.mmaT84 sm c k z a b f r) = aSig [⟨1, 0, a.toNat, false⟩, ⟨2, 0, b.toNat, false⟩, ⟨3, 1, f.toNat, false⟩] [⟨6, c.toNat⟩] false false := rfl
theorem sig_mmaT4 (sm : Bool) (c : BitVec 2) (k z : Bool) (a b f : BitVec 5) (r : BitVec 3) :
    aSigOf (.mmaT4 sm c k z a b f r) = aSig [⟨1, 0, a.toNat, false⟩, ⟨2, 0, b.toNat, false⟩, ⟨3, 1, f.toNat, false⟩] [⟨6, c.toNat⟩] false false := rfl
theorem sig_mmaI8 (sm : Bool) (c : BitVec 2) (k z : Bool) (a b : BitVec 5) (t : Bool) :
    aSigOf (.mmaI8 sm c k z a b t) = aSig [⟨1, 0, a.toNat, false⟩, ⟨2, 0, b.toNat, false⟩] [⟨6, c.toNat⟩] false false := rfl
theorem sig_mzero (sm : Bool) (d : BitVec 5) :
    aSigOf (.mzero sm d) = aSig [] [⟨6, d.toNat⟩] false false := rfl
theorem sig_medge (sm : Bool) (a : BitVec 5) (t : Bool) :
    aSigOf (.medge sm a t) = aSig [⟨1, 0, a.toNat, t⟩] [⟨4, 5⟩, ⟨4, 6⟩, ⟨4, 7⟩] false false := rfl
theorem sig_mrowr (sm : Bool) (d a b : BitVec 5) (u : Bool) :
    aSigOf (.mrowr sm d a b u) = aSig [⟨2, 0, b.toNat, u⟩] [⟨2, d.toNat⟩] false false := rfl
theorem sig_mroww (sm : Bool) (d a b : BitVec 5) (t u : Bool) :
    aSigOf (.mroww sm d a b t u) = aSig [⟨1, 2, a.toNat, t⟩, ⟨2, 0, b.toNat, u⟩] [⟨6, d.toNat⟩] false false := rfl
theorem sig_noise (sm : Bool) (d a b : BitVec 5) (m : BitVec 3) :
    aSigOf (.noise sm d a b m) = aSig [⟨1, 2, a.toNat, false⟩, ⟨2, 0, b.toNat, false⟩, ⟨3, 2, d.toNat, false⟩] [⟨2, d.toNat⟩] false true := rfl
theorem sig_chash (sm : Bool) (d a b : BitVec 5) :
    aSigOf (.chash sm d a b) = aSig [⟨2, 0, b.toNat, false⟩] [⟨2, d.toNat⟩] false true := rfl
theorem sig_chashLd (sm : Bool) (d b : BitVec 5) :
    aSigOf (.chashLd sm d b) = aSig [⟨2, 0, b.toNat, false⟩] [⟨2, d.toNat⟩] false true := rfl
theorem sig_chashSt (sm : Bool) (a b : BitVec 5) :
    aSigOf (.chashSt sm a b) = aSig [⟨1, 2, a.toNat, false⟩, ⟨2, 0, b.toNat, false⟩] [] true false := rfl
theorem sig_hrand (sm : Bool) (d : BitVec 3) (a : BitVec 5) :
    aSigOf (.hrand sm d a) = aSig [⟨1, 0, a.toNat, false⟩] [⟨3, d.toNat⟩] false true := rfl
theorem sig_rseed (sm : Bool) (a : BitVec 5) :
    aSigOf (.rseed sm a) = aSig [⟨1, 0, a.toNat, false⟩] [] false false := rfl
theorem sig_rbits (sm : Bool) (d : BitVec 5) :
    aSigOf (.rbits sm d) = aSig [] [⟨0, d.toNat⟩] false false := rfl

end Sys2Proof.Machine
end

