-- ==== Sys2Proof/Tests/Slice0.lean ====
section
/-! SUPPORT. The author's own tests: ill-formed terms that the check refuses, words of the spec's examples that decode to their
instructions, single steps, and for every statement with hypotheses a state that meets them. -/

open Sys2Proof Sys2Proof.Machine

namespace Sys2Proof.Tests

set_option Elab.async false
set_option maxRecDepth 4000

/-! States for tests -/

/-- Context 0 running task code with X registers and CSRs given, nothing else. -/
def st (xs cs : List (Nat × Word)) : State :=
  let r := xs.foldl (fun (q : Regs) p => q.setX p.1 p.2) {}
  State.reset.setCtx 0 { status := .run, regs := cs.foldl (fun (q : Regs) p => q.setCsr p.1 p.2) r }

/-- The lone word passes every check before it executes. -/
def can (i : Instr) (s : State) : Bool := s.ready (if isA (encode i) then aSigOf i else cSig i)

/-- The state after an instruction, or the state itself where it stops. -/
def after (i : Instr) (s : State) : State :=
  match exec i s with
  | .next t => t
  | _ => s

/-- Task code of function 0 whose first 2 MiB are mapped, with X registers given. -/
def mapped (xs : List (Nat × Word)) : State :=
  let s := State.reset.mapFirst 0 0x200000
  s.setCtx 0 { status := .run, regs := xs.foldl (fun (q : Regs) p => q.setX p.1 p.2) {} }

/-- Every word that is not for handlers only is ready right after reset: the hypothesis of the statements that hold of every
ready word is met for every operand. -/
theorem ready_reset (g : Sig) (h : g.handlerOnly = false) : State.reset.ready g = true := by
  have p : ∀ k n, State.reset.regs.plain k n = true := by
    intro k n
    have b : portNamed State.reset.regs k n = none := by
      have z : ∀ j, bitAt (State.reset.regs.csrAt j).toNat 63 = false := fun _ =>
        (by decide : bitAt (BitVec.toNat (0 : Word)) 63 = false)
      unfold portNamed Regs.boundTo
      simp [z]
    have m : State.reset.regs.emptyAt k n = false := by
      unfold Regs.emptyAt
      split <;> simp [State.reset, State.regs, State.me, State.ctx, tabGet]
    have q : State.reset.regs.poisonAt k n = false := by
      unfold Regs.poisonAt
      split <;> simp [State.reset, State.regs, State.me, State.ctx, tabGet]
    rw [Regs.plain, b, m, q]
    rfl
  have w : ∀ d : Dst, State.reset.regs.writable d = true := by
    intro d
    have := p d.cls d.n
    simp only [Regs.plain, Bool.and_eq_true] at this
    rw [Regs.writable, this.1.1, this.1.2]
    simp
  have f : State.reset.fresh = true := rfl
  have sp : State.reset.me.spec = none := rfl
  have rc : State.reset.regs.rc = 0 := rfl
  have du : State.reset.inDual = false := rfl
  have a1 : (g.srcs.all fun x => State.reset.regs.plain x.cls x.n) = true := List.all_eq_true.2 (fun x _ => p x.cls x.n)
  have a2 : (g.dsts.all fun d => State.reset.regs.writable d) = true := List.all_eq_true.2 (fun x _ => w x)
  rw [State.ready, f, sp, rc, du, h, a1]
  simp only [List.all_eq_true] at a2 ⊢
  simpa using a2


/-! Ill-formed terms: one value for each reserved field -/

theorem test_wf_scalar :
    (Instr.ldg false true 1 2 0 3 0 true).wf = false ∧ (Instr.ldo false true 1 2 3 true 0 0).wf = false
    ∧ (Instr.ldo false true 1 2 0 false 2 0).wf = false ∧ (Instr.sto false true 1 2 0 1 0).wf = false
    ∧ (Instr.fence false true 0 0).wf = false ∧ (Instr.waitc false true 0).wf = false ∧ (Instr.qbind false true 23 1 false).wf = false
    ∧ (Instr.qunbind false true 23).wf = false ∧ (Instr.cbrAny false true 1 3 0).wf = false
    ∧ (Instr.slli false 1 2 false true 32).wf = false := by
  decide +kernel

theorem test_wf_vector :
    (Instr.vadd false 1 2 3 0 7).wf = false ∧ (Instr.vfadd false 1 2 3 0 3).wf = false ∧ (Instr.vfdot2 false 1 2 3 0 0).wf = false
    ∧ (Instr.vrsum false 1 2 0 0).wf = false ∧ (Instr.vrband false 1 2 0 7).wf = false ∧ (Instr.vcmpEq false 1 2 3 0 1).wf = false
    ∧ (Instr.vcvtFi false 1 2 0 3).wf = false ∧ (Instr.vcvtNar false 1 2 3 0 2).wf = false ∧ (Instr.vcvtWid false 1 2 2 0 0).wf = false
    ∧ (Instr.vcvtEt8 false 1 2 4 0).wf = false ∧ (Instr.vcvtEt4 false 1 2 8 0).wf = false ∧ (Instr.vexp2 false 1 2 0 3).wf = false
    ∧ (Instr.vgath false true 1 2 3 false false 3 0).wf = false := by
  decide +kernel

theorem test_wf_others :
    (Instr.mand false 8 0 0).wf = false ∧ (Instr.mand false 0 8 0).wf = false ∧ (Instr.mand false 0 0 8).wf = false
    ∧ (Instr.mnot false 0 8).wf = false ∧ (Instr.mfromx false 8 0).wf = false ∧ (Instr.mtox false 0 8).wf = false
    ∧ (Instr.mmaH false 1 true true 20 21 1 6).wf = false ∧ (Instr.mzero false 4).wf = false ∧ (Instr.mrowr false 4 4 9 false).wf = false
    ∧ (Instr.mroww false 4 4 9 false false).wf = false ∧ (Instr.mld false true 1 2 3 false false false 3).wf = false
    ∧ (Instr.mld false true 1 2 3 false false false 0).wf = false ∧ (Instr.mld false true 1 2 3 false false true 0).wf = true
    ∧ (Instr.mstF32 false true 1 2 3 false false true 3).wf = false ∧ (Instr.chash false 8 5 5).wf = false
    ∧ (Instr.powerGood).wf = false := by
  decide +kernel

/-! Single steps, with the results of the spec's worked examples and of its rules by hand -/

/-- The state after the instruction of a word. -/
noncomputable def ran (w : Nat) (s : State) : State :=
  match decodeWord w with
  | .ok i => after i s
  | _ => s

/-- LUI x5, 0x7E00, not LONE and so with an A word after it, as the first unit after a load (the example of chapter 5). -/
theorem test_step_lui :
    (match step (State.reset.withFetchWord 32 0x12147E00) with
      | .next t => (t.ctx 0).regs.xAt 5 == 0x7E00 && (t.ctx 0).regs.pc == 8
      | _ => false) = true := by
  decide +kernel

/-- LUI.SH x5, 0 makes 0x7E00_0000 of it. -/
theorem test_lui_sh : (ran 0x12150000 (st [(5, 0x7E00)] [])).regs.xAt 5 = 0x7E000000 := by decide +kernel

/-- WFLD x11, x9, x12 with X12 = 1 and widths 4 and 2 returns X9[5:4] (chapter 5). -/
theorem test_wfld : (after (.wfld false 11 9 12 false false) (st [(9, 0x35), (12, 1)] [(csrWIDW, 0x84)])).regs.xAt 11 = 3 := by decide +kernel

/-- SRLI.32 x5, x6, 3 shifts 32 bits and sign-extends (R104). -/
theorem test_srli32 : (ran 0x85298843 (st [(6, 0xFFFFFFFF80000000)] [])).regs.xAt 5 = 0x10000000 := by decide +kernel

/-- DIV.32 of the most negative number by -1 (chapter 5's table). -/
theorem test_div32 :
    (after (.div false 5 6 7 false false true) (st [(6, 0x80000000), (7, 0xFFFFFFFF)] [])).regs.xAt 5 = 0xFFFFFFFF80000000 := by decide +kernel

/-- MFIRST m3, m2 with M2 = 0x00C0 gives 0x0040 (chapter 6). -/
theorem test_mfirst :
    let s := st [] []
    (ran 0x93188005 (s.setRegs (s.regs.setM 2 0xC0))).regs.mAt 3 = 0x40 := by decide +kernel

/-- HPERM h2, h1, 1 of components 0 and 1 gives components 1 and 2 (chapter 7). -/
theorem test_hperm :
    let s := st [] []
    (ran 0x9B442001 (s.setRegs (s.regs.setH 1 3))).regs.hAt 2 = 6 := by decide +kernel

/-- MCLAIM x20, x13 with X13 = -1 and slots 0 to 3 owned gives 4 (chapter 8). -/
theorem test_mclaim :
    let o : Slot := { owner := some 0 }
    (ran 0x2F51A000 ((st [(13, -1)] []).setCore 0 { slots := [(0, o), (1, o), (2, o), (3, o)] })).regs.xAt 20 = 4 := by decide +kernel

/-- Iteration 2 of a repeated STG.D x0, 0(x2) stores at X2 + 16 (R125). -/
theorem test_repeat_store :
    let s := mapped [(2, 0x1000)]
    ((after (.stg false true 0 2 0 3 0 false) ((s.setCsr csrRC 2).setCsr csrRI 2)).me.posted.map (fun p => p.writes.map (·.loc)))
      = [[.mem 0x201010]] := by decide +kernel

/-- CSRW TSTAMP traps ILLEGAL, because TSTAMP is read-only (chapter 5). -/
theorem test_csrw_tstamp :
    let t := after (.csrw false true 0 1 0x0B0) (st [(1, 5)] [(csrTVEC, 0x100)])
    t.regs.csrAt csrTCAUSE = 1 ∧ t.regs.pc = 0x100 ∧ t.regs.hm = true := by decide +kernel

/-- JALR x0, 0(x1) goes to X1. -/
theorem test_jalr : (ran 0x23802000 (st [(1, 0x48)] [])).regs.pc = 0x48 := by decide +kernel

/-- 1.5 + 2.5 = 4 in FP32, exactly: no flag. -/
theorem test_fadd :
    let s := st [] []
    let t := after (.fadd false 1 2 3 false false) (s.setRegs ((s.regs.setF 2 0x3FC00000).setF 3 0x40200000))
    t.regs.fAt 1 = 0x40800000 ∧ t.regs.csrAt csrFFLAGS = 0 := by decide +kernel

/-- 1 / 0 is infinity with DZ (R80). -/
theorem test_fdiv :
    let s := st [] []
    let t := after (.fdiv false 1 2 3 false false) (s.setRegs (s.regs.setF 2 0x3F800000))
    t.regs.fAt 1 = 0x7F800000 := by decide +kernel

/-- STS then LDS of the same doubleword: the producer brings its bytes, the lowest first. -/
theorem test_store_load :
    let s := after (.sts false true 9 1 0 3 0 false) (st [(1, 0x100), (9, 0x0807060504030201)] [])
    s.byteAt (.scr 0 0x100) = 1 ∧ s.byteAt (.scr 0 0x107) = 8
    ∧ ((after (.lds false true 4 1 0 3 0 false) s).me.prods.map (·.src)) = [.value 0x0807060504030201] := by decide +kernel

/-! Words written out from the encodings of the spec: its worked examples -/

theorem test_decode_control :
    decodeWord 0x20000001 = .ok (.nop false true)
    ∧ decodeWord 0x209400B0 = .ok (.csrr false true 5 0xB0)
    ∧ decodeWord 0x20800830 = .ok (.csrw false true 0 0 0x30)
    ∧ decodeWord 0x21041FFE = .ok (.bne false true 1 0 0xFFE)
    ∧ decodeWord 0x23802000 = .ok (.jalr false true 0 1 false 0) := by
  decide +kernel

theorem test_decode_memory :
    decodeWord 0x25A0201C = .ok (.stg false true 8 1 0 3 2 false)
    ∧ decodeWord 0x2580E018 = .ok (.stg false true 0 7 0 3 0 false)
    ∧ decodeWord 0x06106050 = .ok (.lds false false 4 3 2 2 0 false)
    ∧ decodeWord 0x27A6EFF0 = .ok (.stw false true 9 23 127 2 0 false)
    ∧ decodeWord 0x2A886036 = .ok (.ldo false true 2 3 1 true 1 2)
    ∧ decodeWord 0x2A8064CA = .ok (.sto false true 3 4 2 2 2)
    ∧ decodeWord 0x2F8CC001 = .ok (.hldS false true 3 6 false)
    ∧ decodeWord 0x2FCC0105 = .ok (.pods false true 19 1 false)
    ∧ decodeWord 0x2F822104 = .ok (.podw false true 17 1 false false) := by
  decide +kernel

theorem test_decode_atomic :
    decodeWord 0x2C14C721 = .ok (.waita false true 5 6 7 false false false 1)
    ∧ decodeWord 0x2B14E63E = .ok (.amoAdd false true 5 7 6 true 3 2)
    ∧ decodeWord 0x2BA14925 = .ok (.amoxCas false true 8 10 9 false 1 1) := by
  decide +kernel

theorem test_decode_messages :
    decodeWord 0x2CE0A000 = .ok (.qbind false true 24 5 false)
    ∧ decodeWord 0x2CB00011 = .ok (.qnew false true 12 1)
    ∧ decodeWord 0x2C80C70B = .ok (.send false true 6 7 false false 3)
    ∧ decodeWord 0x2D102008 = .ok (.cbrAll false true 4 0 8) := by
  decide +kernel

theorem test_decode_engines :
    decodeWord 0x2E810B00 = .ok (.barInit false true 8 11 false false)
    ∧ decodeWord 0x2EA50A03 = .ok (.barWt false true 9 8 10 false false)
    ∧ decodeWord 0x2E14C000 = .ok (.sptCpy false true 5 6 false)
    ∧ decodeWord 0x2F56E00A = .ok (.mld false true 21 23 0 false false false 2)
    ∧ decodeWord 0x2F06D71C = .ok (.mstH false true 1 22 23 false false true 0)
    ∧ decodeWord 0x31028307 = .ok (.wmax false true 20 3 false false) := by
  decide +kernel

theorem test_decode_streams :
    decodeWord 0x30106000 = .ok (.sspawn false true 4 3 false)
    ∧ decodeWord 0x3020C906 = .ok (.smig false true 8 6 9 false false)
    ∧ decodeWord 0x3000C005 = .ok (.sretireSub false true 6 false)
    ∧ decodeWord 0x30A08902 = .ok (.jpoll false true 8 4 9 false false)
    ∧ decodeWord 0x31A12000 = .ok (.replay false true 8 9 false)
    ∧ decodeWord 0x3194C703 = .ok (.mtrd false true 5 6 7 false false)
    ∧ decodeWord 0x329CA002 = .ok (.lnchWait false true 7 5 false) := by
  decide +kernel

theorem test_decode_integer :
    decodeWord 0x12147E00 = .ok (.lui false false 5 0x7E00)
    ∧ decodeWord 0x12150000 = .ok (.luiSh false false 5 0)
    ∧ decodeWord 0x80324000 = .ok (.add false 6 9 0 false false false)
    ∧ decodeWord 0x806BE2E8 = .ok (.chkb false 13 15 17 false false)
    ∧ decodeWord 0x81294001 = .ok (.addi false 5 5 false 1)
    ∧ decodeWord 0x85298843 = .ok (.srli false 5 6 false true 3) := by
  decide +kernel

theorem test_decode_vector :
    decodeWord 0x89204430 = .ok (.fmadd false 4 1 2 3 false false false)
    ∧ decodeWord 0x8E4A003B = .ok (.vrargmax false 9 8 0 7)
    ∧ decodeWord 0x93188005 = .ok (.mfirst false 3 2) := by
  decide +kernel

theorem test_decode_matrix :
    decodeWord 0x951AD800 = .ok (.mmaB false 0 false true 21 22 0 0)
    ∧ decodeWord 0x947A5420 = .ok (.mmaH false 1 true true 20 21 1 0)
    ∧ decodeWord 0x9A205210 = .ok (.mrowr false 4 1 9 false)
    ∧ decodeWord 0x9A100000 = .ok (.mzero false 2)
    ∧ decodeWord 0x9A030008 = .ok (.medge false 12 false) := by
  decide +kernel

theorem test_decode_hyper :
    decodeWord 0x9B442001 = .ok (.hperm false 2 1 false 1)
    ∧ decodeWord 0x9B650000 = .ok (.hbind false 3 1 2 false)
    ∧ decodeWord 0x9CAC0800 = .ok (.hthr false 5 3 0 false)
    ∧ decodeWord 0x9D148006 = .ok (.hdist false 5 1 false 6)
    ∧ decodeWord 0x9E408A40 = .ok (.noise false 8 2 5 1)
    ∧ decodeWord 0x9E130E01 = .ok (.chash false 2 12 7)
    ∧ decodeWord 0x9E008C11 = .ok (.chashSt false 2 6)
    ∧ decodeWord 0x9E190002 = .ok (.hrand false 3 4)
    ∧ decodeWord 0x9E200004 = .ok (.rbits false 4) := by
  decide +kernel

/-! Witnesses: the hypotheses of the statements can be met. Where a statement asks only that the word is ready, `ready_reset`
is its witness. -/

theorem witness_FieldAndBound :
    can (.wfld false 1 2 3 false false) (st [(2, 0x37), (3, 5)] [(csrWIDW, 0x84)]) = true
    ∧ can (.wfld false 1 2 3 false false) (st [(3, 6)] []) = true
    ∧ can (.chkb false 1 2 3 false false) (st [(2, 6), (3, 7)] []) = true
    ∧ can (.chkb false 1 2 3 false false) (st [(2, 7), (3, 7)] []) = true := by
  decide +kernel

/-- A quiet NaN in F2 and in lane 3 of V2, which the zero tables of reset cannot encode; other values they can. -/
def nanState : State :=
  let r := State.reset.regs
  State.reset.setRegs { r with f := [(2, 0x7FC00000)], v := [(2, BitVec.ofNat 512 (0x7FC00000 * 2 ^ 96))] }

theorem witness_FloatConversions :
    can (.fcvtT8F false 1 2 false) nanState = true
    ∧ encodeT 256 nanState.regs.ct8 (nanState.fv 2) = none ∧ encodeT 16 nanState.regs.ct4 (nanState.fv 2) = none
    ∧ encodeT 256 nanState.regs.ct8 (nanState.fv 3) = some (0, 0) ∧ encodeT 16 nanState.regs.ct4 (nanState.fv 3) = some (0, 0) := by
  decide +kernel

theorem witness_VectorConversions :
    can (.vcvtEt8 false 1 2 0 0) nanState = true
    ∧ encodeT 256 nanState.regs.ct8 (nanState.vf_ 2 fmt32 3) = none ∧ encodeT 16 nanState.regs.ct4 (nanState.vf_ 2 fmt32 3) = none
    ∧ (∀ j, j < 3 → (encodeT 256 nanState.regs.ct8 (nanState.vf_ 2 fmt32 j)).isSome = true
      ∧ (encodeT 16 nanState.regs.ct4 (nanState.vf_ 2 fmt32 j)).isSome = true)
    ∧ ∀ j, j < 16 → (encodeT 256 nanState.regs.ct8 (nanState.vf_ 3 fmt32 j)).isSome = true := by
  decide +kernel

/-- Lane numbers at the last lane of eight and one beyond it. -/
theorem witness_VectorPermutes :
    let s := st [(3, 63), (4, 64)] []
    can (.vinsx false 1 2 3 0) s = true ∧ (s.regs.xAt 3).toNat < 512 / tyW 0 ∧ 512 / tyW 0 ≤ (s.regs.xAt 4).toNat
    ∧ can (.vextx false 1 2 4 0) s = true := by
  decide +kernel

theorem witness_MatrixRows :
    can (.mrowr false 4 1 9 false) (st [(9, 15)] []) = true ∧ can (.mroww false 1 4 9 false false) (st [(9, 16)] []) = true := by
  decide +kernel

/-- Slots 1 and 2 of core 0 owned by context 0 and full, slot 3 busy, slot 4 of another context. -/
def slotState (xs : List (Nat × Word)) : State :=
  (((((st xs []).setSlot 1 { owner := some 0 }).setSlot 2 { owner := some 0 }).setSlot 3 { owner := some 0, busy := true }).setSlot 4
    { owner := some 1 })

theorem witness_MatrixProducts :
    let s := slotState [(1, 1), (2, 2), (3, 3), (4, 4)]
    can (.mmaI8 false 1 false true 1 2 true) s = true ∧ can (.mmaH false 1 false true 1 2 0 0) s = true
    ∧ (s.slotAt 1).owner = some s.cur ∧ (s.slotAt 1).busy = false ∧ (s.slotAt 1).poison = false
    ∧ (s.slotAt 2).owner = some s.cur ∧ (s.slotAt 2).busy = false ∧ (s.slotAt 2).poison = false
    ∧ s.countTiles 1 2 = some s ∧ (s.tagsOf [1, 2]).find? s.frozen = none
    ∧ (s.slotAt 3).owner = some s.cur ∧ (s.slotAt 3).busy = true ∧ (s.slotAt 4).owner ≠ some s.cur := by
  decide +kernel

/-- A slot whose tag names a region that a handover has frozen. -/
theorem witness_MatrixProducts_frozen :
    let s0 := slotState [(1, 1), (2, 2)]
    let s : State := { s0.setSlot 2 { owner := some 0, tag := some 5 } with
      sencha := { regions := [(5, { vf := 0, base := 0, len := 0x10000, pol := true, owner := 0, frozen := true })] } }
    (s.slotAt 2).owner = some s.cur ∧ (s.tagsOf [1, 2]).find? s.frozen = some 5
    ∧ can (.mmaI8 false 1 false true 1 2 true) s = true := by
  decide +kernel

theorem witness_Branches :
    let s := st [(1, 5), (2, 5), (3, -1)] []
    can (.beq false true 1 2 8) s = true ∧ can (.bmskAny false true 1 8) s = true
    ∧ s.regs.xAt 1 = s.regs.xAt 2 ∧ s.regs.xAt 1 ≠ s.regs.xAt 3
    ∧ (s.regs.xAt 3).slt (s.regs.xAt 1) = true ∧ (s.regs.xAt 1).slt (s.regs.xAt 3) = false
    ∧ (s.regs.xAt 1).ult (s.regs.xAt 3) = true ∧ (s.regs.xAt 1).ult (s.regs.xAt 2) = false
    ∧ s.regs.mAt 1 = 0xFFFF ∧ (s.setRegs (s.regs.setM 1 0)).regs.mAt 1 = 0 ∧ (s.setRegs (s.regs.setM 1 1)).regs.mAt 1 = 1 := by
  decide +kernel

/-- LOOP with the count at its limits and the end at its lowest; REP with the counts 0, 1, 65,535 and beyond. -/
theorem witness_JumpsAndLoops :
    can (.jal false true 1 8) (st [] []) = true ∧ can (.jalr false true 0 1 false 0) (st [(1, 8)] []) = true
    ∧ can (.loop false true false 5 false 2) (st [(5, 0x100000000)] []) = true
    ∧ can (.loop false true false 5 false 1) (st [(5, 0xFFFFFFFF)] []) = true
    ∧ can (.loop false true false 5 false 2) (st [(5, 0xFFFFFFFF)] []) = true
    ∧ can (.rep false true 5 false 1) (st [(5, 65535)] []) = true ∧ can (.rep false true 5 false 0xFFF) (st [] []) = true
    ∧ can (.rep false true 5 false 0) (st [(5, 65535)] []) = true
    ∧ can (.rep false true 5 false 0) (st [(5, 1)] [(csrLC0, 1), (csrLE0, 4)]) = true
    ∧ (((mapped []).setCsr csrRC 0).setCsr csrRI 0).nextOf 4 matches .ok _
    ∧ (((st [] []).setCsr csrRC 0).setCsr csrRI 0).nextOf 4 matches .error _ := by
  decide +kernel

theorem witness_SystemForms :
    can (.yield false true) (st [] []) = true ∧ can (.hret false true) (st [] [(csrTSTAT, 1), (csrTEPC, 0x40), (csrTLC0, 3)]) = true := by
  decide +kernel

theorem witness_CsrForms :
    can (.csrr false true 5 0xB0) (st [] []) = true ∧ csrTrap false 0xB0 none = none
    ∧ can (.csrw false true 0 1 0x10) (st [(1, 4)] []) = true ∧ csrTrap false 0x10 (some 4) = none
    ∧ csrTrap false 0x10 (some 5) = some cRESERVED
    ∧ can (.csrs false true 0 0 0x10) (st [] []) = true ∧ csrTrap false 0x108 none = some cPRIV
    ∧ csrTrap true csrTSTAT (some 7) = none ∧ csrTrap false csrTSTAT (some 7) = some cPRIV
    ∧ csrTrap false (csrQB0 + 7) (some 0x8000000080000000) = none
    ∧ ((st [] []).writeQb 7 0x8000000080000000 0 0 matches .ok _) ∧ ((st [] []).writeQb 7 0x80000000C0000000 0 0 matches .error _)
    ∧ csrUse 0x8 = none ∧ csrUse 0x12 = some .ro ∧ csrUse 0x109 = some .handlerRo ∧ csrUse 0x100 = some .handler
    ∧ csrUse 0x7 = some .rw ∧ csrUse 0x6 = some .rwHandler := by
  decide +kernel

/-- The own scratchpad at its last place, the first byte of core 3 through the grove window, mapped memory, an unmapped page, and
the launch window; a W field, an acquire load and misaligned addresses. -/
theorem witness_ScalarLoads :
    let s := mapped [(1, 0x3FFF8), (2, 0x8C0000), (3, 0x100001), (4, 0x400000), (5, 0x000FFFFFFFFFFF00), (6, 2 ^ 52)]
    can (.ldg false true 9 4 0 3 0 false) s = true ∧ can (.lds false true 9 1 0 3 3 false) s = true
    ∧ can (.ldw false true 9 1 0 3 3 false) s = true
    ∧ s.checkSpace 1 (s.offsetAddr 1 0 8) .load = none ∧ s.scrLoc s.cur 0x3FFF8 8 = some (.scr 0 0x3FFF8)
    ∧ s.poisonedLoc (.scr 0 0x3FFF8) 8 = none ∧ s.scrLoc s.cur 0x8C0000 8 = some (.scr 3 0)
    ∧ s.wField 3 = true ∧ s.acquiring = false ∧ s.ringOverlap 0x100000 8 = false
    ∧ (s.reach 0x100000 .load false matches .at_ (.mem _) _ _) ∧ (s.countBytes 0 0x100000 8).isSome = true
    ∧ (s.reach 0x400000 .load false matches .fault 1) ∧ (s.park 1 0x400000 8 false true 0 9 []).isSome = true
    ∧ (s.reach 0x000FFFFFFFFFFF00 .load false matches .at_ (.hdr _ 0) _ _)
    ∧ s.checkSpace 0 (2 ^ 52) .load ≠ none ∧ s.checkSpace 0 0x100001 .load = none ∧ 0x100001 % 8 = 1
    ∧ (s.setMe { s.me with pca := 1 }).wField 1 = false
    ∧ (s.setMe { s.me with prods := [{ n := 0, cls := 0, reg := 7, acq := true, src := .value 0 }] }).acquiring = true := by
  decide +kernel

/-- A stream of one resident page in row 0 of the batch. -/
def windowState : State :=
  let s := mapped []
  let g : Grove := { streams := [(5, { st := 2, npg := 1, map := 2 })], maps := [(2, { mref := 1, pages := [7] })]
                     census := [(7, { v := true, ref := 1, loc := 3 })] }
  (((s.setGrove 0 g).setCsr csrSBN 1).setCsr csrSB0 0x281)

theorem witness_window :
    windowState.checkSpace 2 0x3FF8 .store = none ∧ windowState.checkSpace 2 0x4000 .store ≠ none
    ∧ windowState.windowRow 0x3FF8 = (0, 5, 0) ∧ (windowState.readWindow 0x3FF8 8 matches .bytes _ _)
    ∧ (windowState.copyOnWrite 0 5 0 matches .here 0 7 _)
    ∧ can (.ldw false true 9 1 0 3 3 false) windowState = true ∧ can (.stw false true 9 1 0 3 3 false) windowState = true := by
  decide +kernel

/-- The state with an unresolved collective branch whose buffer has `n` entries taken. -/
def underBranch (n : Nat) (s : State) : State :=
  s.setMe { s.me with spec := some { cp := {}, pred := false, own := false, op := 0, site := 0, epc := 0, next := 4, target := 8
                                     group := 1, round := 0, fresh := false
                                     held := [{ n := 0, entries := n, cls := none, writes := [] }] } }

theorem witness_ScalarStores :
    let s := mapped [(1, 0x3FFF8), (2, 0x8C0000), (3, 0x100000), (4, 0x400000)]
    can (.stg false true 9 3 0 3 0 false) s = true ∧ can (.sts false true 9 1 0 3 0 false) s = true
    ∧ can (.stg false true 9 3 0 3 0 false) (underBranch 63 s) = true
    ∧ s.checkSpace 1 0x3FFF8 .store = none ∧ s.scrLoc s.cur 0x8C0000 8 = some (.scr 3 0)
    ∧ s.me.spec = none ∧ s.me.pca < 1024 ∧ s.me.pcb < 1024 ∧ s.meterTrap 0 0x100000 .store false = false
    ∧ s.inShadow = false ∧ s.inDual = false
    ∧ (s.reach 0x100000 .store false matches .at_ (.mem _) _ _) ∧ (s.reach 0x400000 .store false matches .fault 1)
    ∧ (s.park 1 0x400000 8 true false 0 0 [1]).isSome = true
    ∧ ((underBranch 63 s).me.spec.map (fun p => decide (p.taken + 1 ≤ 64))) = some true
    ∧ ((underBranch 63 s).reach 0x100000 .store false matches .at_ (.mem _) _ _) := by
  decide +kernel

/-- A weight region over the second half of the mapped memory, its policy bit set. -/
theorem witness_metered :
    let s0 := mapped []
    let s : State := { s0 with sencha := { regions := [(1, { vf := 0, base := 0x100000, len := 0x100000, pol := true, owner := 0,
                                                              ceilo := 8, ceilb := 512 })] } }
    s.meterTrap s.me.vf 0x100000 .store false = true ∧ (s.reach 0x100000 .load false matches .trap _)
    ∧ (s.reach 0x100000 .load true matches .at_ _ _ _) ∧ (s.countBytes 0 0x100000 512).isSome = true
    ∧ (s.countBytes 0 0x100000 513).isNone = true := by
  decide +kernel

theorem witness_WideMemory :
    let s := mapped [(1, 0x3FE00), (3, 0x1FFE00)]
    can (.vldg false true 31 3 0 0 0) s = true ∧ can (.vsts false true 31 1 0 3 0 false) s = true
    ∧ can (.hldG false true 7 3 false) s = true ∧ can (.hstS false true 1 7 false false) s = true
    ∧ s.checkSpace 1 0x3FE00 .store = none ∧ s.scrLoc s.cur 0x3FE00 512 = some (.scr 0 0x3FE00)
    ∧ (s.reach 0x1FFE00 .load false matches .at_ (.mem _) _ _) ∧ 0x3FE00 % 512 = 0 ∧ 64 / 2 ^ (3 : BitVec 2).toNat = 8
    ∧ ((underBranch 0 s).me.spec.map (fun p => decide (p.taken + 64 ≤ 64))) = some true := by
  decide +kernel

/-- The clauses of SpaceChecks at the ends of their ranges. -/
theorem witness_SpaceChecks :
    let s := windowState
    let a8 : List Nat := [2 ^ 52 - 0x100000 - 8, 2 ^ 52 - 0x100000, 2 ^ 52 - 0x100 - 8, 2 ^ 52 - 0x100, 2 ^ 52 - 8, 2 ^ 52]
    (a8.map (fun v => (s.checkSpace 0 (natW v) .load).isNone)) = [true, false, false, true, true, false]
    ∧ (a8.map (fun v => (s.checkSpace 0 (natW v) .store).isNone)) = [true, false, false, false, false, false]
    ∧ ([0x3FFF8, 0x40000, 0x7FFFF8, 0x800000, 0xDFFFF8, 0xE00000].map (fun v => (s.checkSpace 1 (natW v) .store).isNone))
      = [true, false, false, true, true, false]
    ∧ s.stashOf 0 = 0 ∧ (s.regs.csrAt csrSBN).toNat = 1
    ∧ s.checkSpace 2 0x100000 .load = some { cause := cSTREAM, tval := 0x100000, acc := 0 }
    ∧ s.checkSpace 2 0x1000000 .load = some { cause := cPROT, tval := 0x1000000, acc := 0 } := by
  decide +kernel

theorem witness_GatherScatter :
    let s0 := mapped [(1, 0x3FFFC), (3, 0x100000), (4, 0x40000)]
    let s := s0.setRegs ((s0.regs.setM 1 3).setM 2 0)
    can (.vgath false true 9 3 2 false false 0 1) s = true ∧ can (.vscat false true 9 1 2 false false 1 2) s = true
    ∧ (s.lanesOk 0 false [(0, 0x100000), (1, 0x100000)] matches .ok _)
    ∧ (s.lanesOk 1 true [(0, 0x3FFFC), (1, 0x40000)] matches .stop (.trap _))
    ∧ (s.lanesOk 1 false [(0, 0x3FFFD)] matches .stop (.trap _)) ∧ (s.lanesOk 1 true [] matches .ok _)
    ∧ (s.gather 0 { base := 0 } [(0, 0x100000)] matches .ok _ _) ∧ (s.scatter 1 5 [(0, 0x3FFFC)] matches .ok _)
    ∧ s.ringOverlap 0x100000 4 = false
    ∧ s.checkSpace 1 0x3FFFC .store = none ∧ (s.checkSpace 1 0x40000 .store).isSome = true := by
  decide +kernel

/-- Context 0 runs a task of launch 1 with a Pod grant of 16 entries from 32 on and a window of 4 of them. -/
def podState (xs : List (Nat × Word)) : State :=
  let s := st xs [(csrHWIN, 0x0000000400000008)]
  (s.setMe { s.me with task := some { launch := 1, ord := 0 } }).setGrove 0 { grants := [(1, (32, 16))] }

/-- An operation that has been performed. -/
def performed (op : PendOp) (s : State) : State :=
  s.setMe { s.me with pend := some { pc := 0, op := op, result := some (.ok 1 2 3 0) } }

/-- An operand that has been read in full. -/
def haveRead (t : Tab Word) (s : State) : State := s.setMe { s.me with pend := some { pc := 0, op := .read 0 [], got := t } }

theorem witness_PodForms :
    let s := podState [(1, 3), (2, 4)]
    let full := s.setGrove 0 { s.grove 0 with podQ := List.replicate 32 (0, 0) }
    can (.podw false true 1 2 false false) s = true ∧ can (.podr false true 2 1 false) s = true
    ∧ can (.pods false true 5 2 false) s = true
    ∧ s.podWindow = some (8, 4) ∧ (s.setCsr csrHWIN 0x000000040000000D).podWindow = none ∧ (st [] []).podWindow = none
    ∧ (s.regs.xAt 1).toNat < 4 ∧ 4 ≤ (s.regs.xAt 2).toNat ∧ (s.grove 0).podQ.length < 32 ∧ s.acquiring = false
    ∧ ¬((full.grove 0).podQ.length < 32) ∧ can (.pods false true 5 2 false) full = true
    ∧ (performed (.podw 8 0) s).answered 1 2 3 0 = true ∧ (performed (.podw 8 0) s).regs.writable ⟨3, 2⟩ = true := by
  decide +kernel

theorem witness_SlotForms :
    let s := slotState [(1, 1), (2, 2), (3, 3), (4, 4), (5, -1), (6, 128), (7, 127), (8, 5)]
    let full : State := s.setCore 0 { s.core 0 with slots := (upFrom 0 128).map (fun n => (n, { owner := some 0 })) }
    can (.mclaim false true 9 5 false) s = true ∧ can (.mrel false true 1 false) s = true
    ∧ can (.mld false true 1 9 0 false false false 1) s = true ∧ s.acquiring = false
    ∧ (s.slotAt 0).owner = none ∧ (s.slotAt 127).owner = none ∧ (s.slotAt 1).owner = some s.cur ∧ (s.slotAt 4).owner = some 1
    ∧ (s.slotAt 3).busy = true ∧ ((upFrom 0 128).all (fun j => (full.slotAt j).owner != none)) = true
    ∧ fld (s.regs.xAt 1).toNat 0 7 = 1 ∧ s.checkSpace 1 (s.regs.xAt 9) .load = none
    ∧ s.scrLoc s.cur 0 512 = some (.scr 0 0) := by
  decide +kernel

theorem witness_SlotForms_global :
    let s := (mapped [(1, 1), (9, 0x1FFE00)]).setSlot 1 { owner := some 0 }
    can (.mld false true 1 9 0 false false false 0) s = true ∧ s.checkSpace 0 0x1FFE00 .load = none ∧ 0x1FFE00 % 512 = 0
    ∧ s.ringOverlap 0x1FFE00 512 = false ∧ (s.reach 0x1FFE00 .load true matches .at_ _ _ _)
    ∧ (s.countBytes 0 0x1FFE00 512).isSome = true := by
  decide +kernel

/-- One element let through, none, and a stride that leaves the scratchpad. -/
theorem witness_MatrixStores :
    let s0 := mapped [(1, 0x3FFFC), (3, 0x100000)]
    let s := s0.setRegs ((s0.regs.setM 5 0).setM 6 0)
    let e := fun (a : Word) => [(mstElt s 0 0 1 2 [] 0).1].map (fun x => { x with addr := a })
    can (.mstF32 false true 0 1 2 false false true 1) s = true ∧ can (.mstH false true 0 3 2 false false true 0) s = true
    ∧ ((upFrom 0 256).filter (fun e => (s.regs.mAt 5).getLsbD (e / 16) && (s.regs.mAt 6).getLsbD (e % 16))) = []
    ∧ (s.mstPlace 1 4 (e 0x3FFFC) matches .ok _ _) ∧ (s.mstPlace 1 4 (e 0x40000) matches .stop (.trap _))
    ∧ (match s.mstPlace 1 4 (e 0x3FFFC) with
      | .ok ps s2 => (s2.mstWrite 1 [ps] matches .ok _)
      | _ => false) = true ∧ s.acquiring = false := by
  decide +kernel

theorem witness_TableForms :
    let s0 := mapped [(1, 0x3FFC0), (2, 0x100000), (3, 64), (4, 65), (5, 0x41), (6, 1)]
    let s := s0.setCsr csrSBN 1
    let nn : Word := 0x7FC000007FC00000
    let good : Tab Word := (upFrom 0 8).zip [0x3F80000000000000, nn, nn, 0x7F8000007FC00000, 0xFF80000080000000, nn, nn, nn]
    let tab := fun (t : Tab Word) => (upFrom 0 16).map (fun c => BitVec.ofNat 32 ((tabGet 0 t (c / 2)).toNat / 2 ^ (32 * (c % 2))))
    can (.ctld false true 1 false true true) s = true
    ∧ (s.readTable 1 1 0 0x3FFC0 matches .ok _ _) ∧ invalidCode 16 (tab good) = none ∧ (haveRead good s).gathered good = true
    ∧ (invalidCode 16 (tab [(0, -1)])).isSome = true ∧ (haveRead [(0, -1)] s).gathered [(0, -1)] = true ∧ (s.regs.xAt 5).toNat % 64 ≠ 0
    ∧ can (.noise false 2 6 1 1) s = true ∧ can (.chash false 2 4 3) s = true ∧ can (.chash false 2 4 0) s = true
    ∧ (s.regs.xAt 3).toNat = 64 ∧ 64 < (s.regs.xAt 4).toNat
    ∧ can (.chashLd false 2 0) s = true ∧ (s.regs.xAt 0).toNat < (s.regs.csrAt csrSBN).toNat
    ∧ (s.regs.csrAt csrSBN).toNat ≤ (s.regs.xAt 6).toNat ∧ can (.chashSt false 2 6) s = true ∧ can (.hrand false 3 2) s = true := by
  decide +kernel

/-- Scratchpad and global places, a bad tag, a host-tier place, and an order code that waits. -/
theorem witness_AtomicForms :
    let s := mapped [(1, 0x400000000003FFF8), (2, 0x100000), (3, 0x8000000000000000), (4, 0x400000000003FFFC), (5, 0x4000000000040000)]
    can (.amoAdd false true 9 1 2 true 3 0) s = true
    ∧ (s.tagged 0x400000000003FFF8 8 .atomic matches .at_ (.scr 0 0x3FFF8) 0 _) ∧ (s.tagged 0x100000 8 .atomic matches .at_ (.mem _) _ _)
    ∧ 2 ≤ tagOf 0x8000000000000000 ∧ (s.tagged 0x400000000003FFFC 8 .atomic matches .trap _)
    ∧ (s.checkSpace 1 (untag 0x4000000000040000) .store).isSome = true
    ∧ s.hostAtom .add (.mem 0x100000) 8 = false ∧ s.hostAtom .and (.mem 0x40000000000) 8 = true
    ∧ s.orderOk 3 = true ∧ s.tagOverlap 0x100000 8 = false
    ∧ (s.setMe { s.me with posted := [{ n := 0, clsB := true, events := [] }], pcb := 1 }).orderOk 2 = false
    ∧ (performed .ttrun s).answered 1 2 3 0 = true ∧ s.regs.writable ⟨0, 9⟩ = true := by
  decide +kernel

theorem witness_OrderedForms :
    let s := mapped [(1, 0x400000000003FFF8), (2, 0x100000), (3, 5)]
    let busy := s.setMe { s.me with posted := [{ n := 0, clsB := true, events := [] }], pcb := 1 }
    let wakes := performed (.sleep (.mem 0x300000) 8 5) (s.setMe { s.me with regs := s.regs.setX 4 5 })
    can (.ldo false true 9 1 3 false 1 0) s = true ∧ can (.sto false true 2 9 3 2 0) s = true ∧ can (.fence false true 3 0) s = true
    ∧ can (.waitc false true 3) s = true ∧ can (.waita false true 9 2 3 false false true 0) s = true
    ∧ s.loadsDone = true ∧ s.storesDone = true ∧ busy.storesDone = false ∧ s.ringOf s.cur = [] ∧ s.me.pcb = 0 ∧ busy.me.pcb ≠ 0
    ∧ can (.fence false true 2 0) busy = true ∧ can (.waitc false true 2) busy = true
    ∧ (s.tagged 0x400000000003FFF8 8 .load matches .at_ (.scr 0 0x3FFF8) 0 _) ∧ (s.tagged 0x100000 8 .load matches .at_ (.mem 0x300000) _ _)
    ∧ (s.tagged 0x100000 8 .store matches .at_ _ _ _) ∧ (s.tagged 0x100001 8 .store matches .trap _)
    ∧ s.readBlocked s.cur s.me.nseq (.mem 0x300000) 8 = false ∧ s.poisonedLoc (.mem 0x300000) 8 = none
    ∧ (Loc.mem 0x300000).uc 0 = none ∧ 0x300000 / 2 ^ 41 % 4 ≠ 2
    ∧ ofBytes (s.readFor s.cur s.me.nseq (.mem 0x300000) 8) = 0 ∧ (s.regs.xAt 3).toNat % 2 ^ 64 = 5
    ∧ (s.regs.xAt 0).toNat % 2 ^ 64 = 0 ∧ wakes.answered 1 2 3 0 = true ∧ wakes.unpend.acquiring = false := by
  decide +kernel

/-- Context 0 in group 1 of two members, round 0 open. -/
def groupState (aborted : Bool) (xs cs : List (Nat × Word)) : State :=
  { st xs ((csrCMEMB, 1) :: cs) with groups := [{ id := 1, vf := 0, home := 0, exp := 2, created := 2, joins := 2, members := [0, 0x80000], aborted := aborted }] }

theorem witness_CollectiveForms :
    let s := groupState false [(1, 5)] []
    let i := Instr.cbrAny false true 1 0 4
    can i s = true ∧ can i (st [(1, 5)] [(csrTSTAT, 1)]) = true ∧ can i (st [(1, 5)] []) = true ∧ can i (st [] []) = true
    ∧ (st [] []).regs.csrAt csrCMEMB = 0 ∧ s.regs.csrAt csrCMEMB ≠ 0 ∧ (s.groupOf s.cur).map (·.id) = some 1
    ∧ (st [] [(csrCMEMB, 1)]).groupOf 0 = none ∧ ((groupState true [] []).groupOf 0).map (·.aborted) = some true
    ∧ s.regs.stepBit = false ∧ (groupState false [] [(csrTSTAT, 4)]).regs.stepBit = true
    ∧ can (.cbrMaj false true 1 1 4) s = true ∧ can (.cbrAll false true 1 2 4) s = true
    ∧ (performed .cbr s).answered 1 2 3 0 = true := by
  decide +kernel

/-- Joining: in a group already; a new group; an existing one with room, full, of another size, and aborted; number 0 without a gang
and the two ends of the range of numbers. -/
theorem witness_CollectiveForms_join :
    let i := Instr.colxJoin false true 9 1 2 false false
    let s := st [(1, 0x7FFF), (2, 65535)] []
    let g : Group := { id := 0x7FFF, vf := 0, home := 0, exp := 2, created := 2, joins := 1, members := [0x80000] }
    let t : State := { s with groups := [g] }
    can i s = true ∧ can i (groupState false [(1, 1)] []) = true ∧ (groupState false [] []).groupOf 0 ≠ none
    ∧ s.groupOf s.cur = none ∧ t.groupOf t.cur = none ∧ (t.groupById 0 0x7FFF).map (·.joins) = some 1 ∧ s.groupById 0 0x7FFF = none
    ∧ s.gangOf s.cur = none ∧ (s.regs.xAt 2).toNat ≤ 65535 ∧ 0x7FFF < (0x8000 : Word).toNat
    ∧ (({ s with groups := [{ g with joins := 2 }] } : State).groupById 0 0x7FFF).map (fun x => decide (x.created ≤ x.joins)) = some true
    ∧ (({ s with groups := [{ g with aborted := true }] } : State).groupById 0 0x7FFF).map (·.aborted) = some true := by
  decide +kernel

/-- A task of gang 0 of a launch whose gangs have two tasks. -/
theorem witness_CollectiveForms_gang :
    let s0 := st [] []
    let s1 : State := s0.setMe { s0.me with task := some { launch := 1, ord := 1 } }
    let l : Launch := { vf := 0, hdr := List.replicate 8 0 ++ bytesOf 8 (2 ^ 41 + 1) ++ bytesOf 8 1 ++ List.replicate 104 0 }
    let s : State := { s1 with launches := [(1, l)]
                               groups := [{ id := 32768, vf := 0, home := 0, launch := some 1, gang := some 0, exp := 2, created := 2 }] }
    s.gangOf s.cur = some (1, 0) ∧ (s.launchOf s.cur).map (fun x => (x.gang, x.e0)) = some (true, 2)
    ∧ (s.groups.find? (fun y => y.launch == some 1 && y.gang == some 0)).isSome = true ∧ s.groupOf s.cur = none
    ∧ can (.colxJoin false true 9 0 2 false false) s = true := by
  decide +kernel

theorem witness_QueueForms :
    let s := st [(1, 0x01000000), (2, 0x80000000), (3, 0x03000000), (4, 0x100000000), (5, 0x3FFC0), (6, 0x40000), (8, 0x3FFC4)] []
    let bound := s.setCsr csrQB0 0x8000000080000000
    let holding := (s.setCsr csrQB0 0x80000000C0000000).setGrove 0 { queues := [(0, { launch := 1, vf := 0, scope := 3, by_ := 0, items := [{ ctx := 0, gen := 0, n := 1, w := 7 }] })] }
    let here := s.caddr 0
    let f := s.setGrove 0 { queues := (upFrom 0 256).map (fun k => (k, { launch := 1, vf := 0, scope := 0, by_ := 0 })) }
    can (.qbind false true 24 1 false) s = true ∧ can (.qbind false true 25 2 false) bound = true
    ∧ s.mayUse 0 (portOf s.self 0x01000000) = true ∧ s.mayUse 0 (portOf s.self 0x03000000) = false ∧ 2 ^ 32 ≤ (0x100000000 : Word).toNat
    ∧ (upFrom 0 8).all (fun m => s.regs.boundTo (24 + m) == none) = true ∧ bound.regs.boundTo 24 = some 0x80000000
    ∧ holding.holdsMine 0xC0000000 = true ∧ bound.holdsMine 0x80000000 = false ∧ can (.qunbind false true 24) holding = true
    ∧ (s.launchOf 0 = none) ∧ can (.qnew false true 9 3) s = true ∧ tabFind (s.grove 0).queues 0 = none
    ∧ (upFrom 0 256).all (fun k => (tabFind (f.grove 0).queues k).isSome) = true ∧ can (.qnew false true 9 3) f = true
    ∧ can (.send false true 1 5 false false 3) s = true ∧ s.addrOk here = true ∧ s.addrOk 0x0000020000000000 = false
    ∧ s.checkSpace 1 0x3FFC0 .load = none ∧ (s.checkSpace 1 0x40000 .load).isSome = true ∧ 0x3FFC4 % 64 ≠ 0
    ∧ s.accepts here 9 = true
    ∧ (s.setMe { s.me with inbox := [{ words := List.replicate 120 0 }] }).accepts here 9 = false := by
  decide +kernel

/-- A copy of 64 bytes from scratchpad address 0 to 0x1000, its descriptor at 0x200. -/
def copyState : State :=
  let bs := bytesOf 8 (2 ^ 62) ++ bytesOf 8 (2 ^ 62 + 0x1000) ++ bytesOf 8 (2 ^ 38 + 2 ^ 16)
  (st [(1, 0x200), (2, 0x240), (3, 0x208)] []).setCore 0 { scratch := memWrite 0x200 bs [] }

/-- X24 bound to a queue with one entry, 7, and then to an empty one, a full one and the Spout. -/
def queueState (xs : List (Nat × Word)) (n : Nat) : State :=
  let s0 := st xs [(csrQB0, 0x80000000C0000000)]
  (s0.setMe { s0.me with task := some { launch := 1, ord := 0 } }).setGrove 0
    { queues := [(0, { launch := 1, vf := 0, scope := 3, by_ := 0, items := (upFrom 0 n).map (fun k => { ctx := 0, gen := 0, n := k, w := 7 }) })] }

theorem witness_QueueForms_lone :
    let s := queueState [(1, 2), (24, 99)]
    let spout := (copyState.setCsr csrQB0 0x8000000001000000)
    let words : Tab Word := ((upFrom (pushPlace false) 8).zip [natW (2 ^ 62), natW (2 ^ 62 + 0x1000), natW (2 ^ 38 + 2 ^ 16), 0, 0, 0, 0, 0])
    let items := fun (s : State) => ((tabFind (s.grove 0).queues 0).map (·.items.map (·.w))).getD [1]
    (s 1).fresh = true ∧ (s 1).me.spec = none ∧ (s 1).acquiring = false ∧ portOf (s 1).self 0xC0000000 = .queue 0 0
    ∧ (s 1).mayUse 0 (.queue 0 0) = true ∧ (s 1).regs.boundTo 24 = some 0xC0000000 ∧ (s 1).openEntries 0 0xC0000000 = [(0, 7)]
    ∧ (s 0).openEntries 0 0xC0000000 = [] ∧ (s 63).roomFor [0xC0000000] 0xC0000000 = true ∧ (s 64).roomFor [0xC0000000] 0xC0000000 = false
    ∧ (s 1).regs.writable ⟨0, 9⟩ = true ∧ (s 1).regs.plain 0 1 = true
    ∧ (after (.addi false 9 24 false 5) (s 1)).regs.xAt 9 = 12 ∧ items (after (.addi false 9 24 false 5) (s 1)) = []
    ∧ (after (.addi false 9 24 false 5) (s 1)).regs.xAt 24 = 99 ∧ items (after (.addi false 24 1 false 5) (s 1)) = [7, 7]
    ∧ (((s 1).setMe { (s 1).me with task := none }).mayUse 0 (.queue 0 0)) = false ∧ Port.pops .spout = false
    ∧ (underBranch 0 (s 1)).fresh = true ∧ (underBranch 0 (s 1)).me.spec ≠ none
    ∧ spout.regs.boundTo 24 = some 0x01000000 ∧ spout.roomFor [0x01000000] 0x01000000 = true ∧ (spout.descAt 0x200 matches .ok _)
    ∧ (spout.descAt 0x208 matches .error _) ∧ spout.descClear (.scr 0 0x200) = true
    ∧ tabFind words (pushPlace false) ≠ none ∧ (spout.submit 0x200 (wordsFrom words (pushPlace false) 8) matches .ok _ _)
    ∧ (after (.addi false 24 1 false 0) spout).me.pend.isSome = true := by
  decide +kernel

/-- QNEW of a scope wider than the launch admits. -/
theorem witness_QueueForms_scope :
    let s0 := st [] []
    let s : State := { s0.setMe { s0.me with task := some { launch := 1, ord := 0 } } with
                       launches := [(1, { vf := 0, hdr := List.replicate 128 0 })] }
    can (.qnew false true 9 1) s = true ∧ (s.launchOf s.cur).map (·.qscope) = some 0 := by
  decide +kernel

/-- A timetable of one entry at scratchpad address 0: one participant, send to core 1 of one unit of 64 bytes. -/
theorem witness_QueueForms_timetable :
    let bs := bytesOf 8 (2 ^ 32 + 1) ++ bytesOf 8 0 ++ bytesOf 8 (2 ^ 62 + 2 ^ 57 + 2 ^ 40) ++ bytesOf 8 0x1000
    let s := (st [(1, 0), (2, 0x40000)] []).setCore 0 { scratch := memWrite 0 bs [] }
    let head : Tab Word := [(0, natW (2 ^ 32 + 1)), (1, 0)]
    let t : Tab Word := head ++ [(2, natW (2 ^ 62 + 2 ^ 57 + 2 ^ 40)), (3, 0x1000)]
    let busy := s.setCtx 1 { status := .run, pend := some { pc := 0, op := .ttrun } }
    can (.ttrun false true 9 1 false) s = true ∧ s.ownRange 0 1 = some 0 ∧ s.ownRange 0x40000 1 = none
    ∧ s.poisonedLoc (.scr 0 0) 16 = none ∧ s.acquiring = false ∧ s.ownBusy = false ∧ s.sptPending = false
    ∧ (haveRead head s).gathered head = true ∧ (haveRead t s).gathered t = true ∧ (haveRead t busy).gathered t = true
    ∧ fld (2 ^ 32 + 1) 32 9 = 1 ∧ fld (2 ^ 32 + 1) 0 16 = 1 ∧ fld (2 ^ 32 + 1) 41 15 = 0 ∧ fld (2 ^ 32 + 1) 16 16 = 0
    ∧ (s.tablePieces 1 2 16).map (·.ix) = [2, 3] ∧ tabFind head 2 = none ∧ tabFind t 2 ≠ none ∧ tabFind t 3 ≠ none
    ∧ (s.tableEntries 0 t 1 2 16 matches .ok _) ∧ (s.tableEntries 2 t 1 2 16 matches .ok _) ∧ (s.tableEntries 1 t 1 2 16 matches .error _)
    ∧ s.tableBusy = false ∧ busy.tableBusy = true := by
  decide +kernel

theorem witness_CopyForms :
    let s := copyState
    let k : Copy := { handle := 7, ctx := 0, vf := 0, launch := 0, desc := [], classB := false, status := 1 }
    let t := fun (n : Nat) => s.setGrove 0 { copies := [{ k with status := n }] }
    let words := fun (w : Word) => ((upFrom 0 8).zip [natW (2 ^ 62), natW (2 ^ 62 + 0x1000), w, 0, 0, 0, 0, 0] : Tab Word)
    let good := words (natW (2 ^ 38 + 2 ^ 16))
    let ws := fun (t : Tab Word) => (upFrom 0 8).map (tabGet 0 t)
    can (.sptCpy false true 9 1 false) s = true ∧ (s.descAt 0x200 matches .ok (.scr 0 0x200)) ∧ (s.descAt 0x208 matches .error _)
    ∧ s.acquiring = false ∧ s.ownBusy = false ∧ s.sptPending = false ∧ s.readBlocked 0 s.me.nseq (.scr 0 0x200) 64 = false
    ∧ (haveRead good s).gathered good = true ∧ (haveRead (words 0) s).gathered (words 0) = true
    ∧ (s.submit 0x200 (ws good) matches .ok _ _) ∧ (s.submit 0x200 (ws (words 0)) matches .trap _)
    ∧ ((s.setGrove 0 { copies := List.replicate 64 k }).submit 0x200 (ws good) matches .wait)
    ∧ can (.sptPoll false true 9 1 false) s = true ∧ can (.sptCan false true 9 1 false) (t 2) = true
    ∧ (s.copyOf 7).isNone = true ∧ ((t 1).copyOf 7).map (·.2.2.status) = some 1 ∧ ((t 2).copyOf 7).map (·.2.2.status) = some 2
    ∧ ((t 3).copyOf 7).map (·.2.2.status) = some 3 ∧ (performed (.cancel 0 7) s).answered 1 2 3 0 = true := by
  decide +kernel

/-- Barrier objects: one that expects 2 arrivals and 5 bytes with phase 0, and one marked as failed. -/
theorem witness_CopyForms_barriers :
    let o := fun (w : Nat) => (st [(1, 0x3FFF0), (2, 65535), (3, 65536), (4, 1)] []).setCore 0 { scratch := memWrite 0x3FFF0 (bytesOf 8 w) [] }
    let s := o (2 ^ 41 + 5)
    can (.barInit false true 1 2 false false) s = true ∧ can (.barExp false true 1 2 false false) s = true
    ∧ can (.barArv false true 9 1 false) s = true ∧ can (.barWt false true 9 1 2 false false) s = true
    ∧ (s.barAt 0x3FFF0 matches .ok (.scr 0 0x3FFF0)) ∧ (s.barAt 0x3FFF8 matches .error _) ∧ s.barClear (.scr 0 0x3FFF0) = true
    ∧ (s.regs.xAt 2).toNat ≤ 65535 ∧ 65535 < (s.regs.xAt 3).toNat ∧ (s.barWords (.scr 0 0x3FFF0)).1 % 2 ^ 40 = 5
    ∧ ((5 : Nat) : Int) + (-6 : Word).toInt < 0 ∧ (5 : Int) + (natW (2 ^ 40 - 6)).toInt < 2 ^ 40
    ∧ (s.barWords (.scr 0 0x3FFF0)).1 / 2 ^ 63 % 2 = 0 ∧ ((o (2 ^ 61)).barWords (.scr 0 0x3FFF0)).1 / 2 ^ 61 % 2 = 1
    ∧ s.me.pca = 0 ∧ s.me.pcb = 0 ∧ s.ringOf 0 = [] ∧ s.readsBefore 0 s.me.nseq = []
    ∧ settleBar (2 ^ 41 + 5) (2 ^ 41 + 5) = (2 ^ 63 + 2 ^ 41, 0) ∧ settleBar (2 ^ 41 + 5) (2 ^ 41 + 4) = (2 ^ 41 + 5, 2 ^ 41 + 4) := by
  decide +kernel

theorem tabGet_upFrom {α : Type} (d v : α) : ∀ n lo k, lo ≤ k → k < lo + n →
    tabGet d ((upFrom lo n).map (fun j => (j, v))) k = v
  | 0, _, _, _, _ => by omega
  | n + 1, lo, k, h1, h2 => by
    simp only [upFrom, List.map_cons, tabGet]
    split
    · rfl
    · exact tabGet_upFrom d v n (lo + 1) k (by omega) (by omega)

/-- A die whose every Whisk slot is open: WOPEN answers 0. -/
def openSlots : Tab WSlot := (upFrom 0 1024).map (fun k => (k, { opened := true }))
theorem witness_WhiskForms_full :
    ∀ k, k < 1024 → (tabGet {} ((State.reset.setDie 0 { wslots := openSlots }).die 0).wslots k).opened = true := fun k h => by
  have : (State.reset.setDie 0 { wslots := openSlots }).die 0 = { wslots := openSlots } := rfl
  rw [this]
  simp [openSlots, tabGet_upFrom _ _ 1024 0 k (by omega) (by omega)]

theorem witness_WhiskForms :
    let s := st [(1, 0x00000001), (2, 0x10002), (3, 0x70001), (4, 0x0000000000000101), (5, 0x04000101), (6, 0x20000101), (7, 0x8000),
      (8, 0x18000101)] []
    can (.wopen false true 9 1 false) s = true ∧ can (.wsumI false true 4 3 false false) s = true
    ∧ can (.mdrain false true 0 4 7 false false) s = true 
    ∧ (tabGet {} (s.die 0).wslots 0).opened = false
    ∧ s.present 0 = true ∧ (0x04000101 / 2 ^ 26 % 8 = 1) ∧ (0x20000101 / 2 ^ 29 % 2 = 1) ∧ (0x18000101 / 2 ^ 26 % 8 = 6)
    ∧ s.whiskWaits 0x101 1 = false ∧ (s.setMe { s.me with pcb := 1024 }).whiskWaits 0x101 1 = true := by
  decide +kernel

theorem witness_TaskForms :
    let s0 := mapped [(1, 0x1FFF00), (2, 0x1FFF01), (3, 2 ^ 52)]
    let s : State := { s0.setMe { s0.me with task := some { launch := 1, ord := 0 } } with
                       launches := [(1, { vf := 0, hdr := List.replicate 128 0, status := 8 })] }
    let h := s.setMe { s.me with pend := some { pc := 0, op := .halt true } }
    can (.lnch false true 9 1 false) s = true ∧ can (.lnchPoll false true 9 1 false) s = true ∧ can (.halt false true) s = true
    ∧ s.me.pca = 0 ∧ s.me.pcb = 0 ∧ s.acquiring = false ∧ s.ringOf s.cur = []
    ∧ (s.reach 0x1FFF00 .load false matches .at_ (.mem _) _ _) ∧ s.poisonedLoc (.mem 0x3FFF00) 256 = none
    ∧ s.readBlocked s.cur s.me.nseq (.mem 0x3FFF00) 256 = false ∧ (s.vf 0).childQ.length < 256
    ∧ 256 ≤ ((s.setVf 0 { s.vf 0 with childQ := List.replicate 256 1 }).vf 0).childQ.length
    ∧ (s.setMe { s.me with pcb := 1 }).me.pcb ≠ 0 ∧ can (.lnch false true 9 1 false) (s.setMe { s.me with pcb := 1 }) = true
    ∧ isFinal (s.launchStatus 0) = true
    ∧ isFinal (({ s with launches := [(2, { vf := 0, hdr := [], status := 2, parent := some 1 })] } : State).launchStatus (lidOf 0 2)) = false
    ∧ h.haltReady 0 = true ∧ h.me.pend.map (·.op) = some (.halt true) ∧ (performed (.halt true) s).answered 1 2 3 0 = true := by
  decide +kernel

/-- Handles of the own grove, of grove 1 and of a grove that does not exist. -/
theorem witness_StreamForms :
    let s := windowState.setRegs (([(1, 0x281), (2, 0x20281), (3, 0x180281), (4, 0x100000000)] : List (Nat × Word)).foldl
      (fun (q : Regs) p => q.setX p.1 p.2) windowState.regs)
    let op := fun (f : StrmForm) (x : Word) => s.strmOp (some s.cur) s.me.vf f 0x281 x
    can (.sstat false true 9 1 false) s = true ∧ can (.snext false true 1 2 false false) s = true
    ∧ s.handleProt 0x281 (some 0) = false ∧ s.handleProt 0x20281 (some 0) = false ∧ s.handleProt 0x180281 (some 0) = true
    ∧ s.handleProt 0x100000000 (some 0) = true ∧ handleGrove 0x281 = 0 ∧ handleGrove 0x20281 = 1 ∧ handlePkg 0x281 = s.self
    ∧ s.acquiring = false
    ∧ (op .stat 0 matches .ok _ _ _) ∧ (op .apush 5 matches .ok 1 _ _) ∧ (op .apop 0 matches .trap _)
    ∧ (op .pin 0 matches .ok _ _ _) ∧ (op .pin 1 matches .trap _) ∧ (op .unpin 0 matches .ok _ _ _) ∧ (op .ret 0 matches .ok _ _ _)
    ∧ (op .infeas 0 matches .ok _ _ _) ∧ (op .retire 0 matches .ok _ _ _) ∧ (op .fork 0 matches .ok _ _ _)
    ∧ (op .retireSub 0 matches .ok _ _ _)
    ∧ (performed (.strm 0x281) s).answered 1 2 3 0 = true := by
  decide +kernel

/-- SNEXT of a row of the batch whose layer entry exists. -/
theorem witness_StreamForms_next :
    let s0 := windowState.setGrove 0 { windowState.grove 0 with
      layers := [(3, { vf := 0, hdrA := 0, b := 1, win := 0, loga := 0, logn := 0, launch := 9 })] }
    let s := (s0.setStream 0 5 { s0.stream 0 5 with st := 3 }).setMe { s0.me with task := some { launch := 9, ord := 0 } }
    let t : State := s.setGrove 0 { s.grove 0 with batches := [{ kid := 3, layer := 0, rows := [0x281], bser := 1, ctx := some 0 }] }
    (t.strmOp (some t.cur) 0 .next 0x281 (natW (2 ^ 16 * 3 + 1)) matches .ok _ _ _) := by
  decide +kernel

/-- A descriptor of one zero-filled page at scratchpad address 0x40 that names layer entry 3, and a launch with a quota of `q`. -/
def spawnState (q : Nat) (w2 : Nat) : State :=
  let bs := bytesOf 8 0x100 ++ bytesOf 8 0 ++ bytesOf 8 w2
  let s0 := (st [(1, 0x40), (2, 0x41), (3, 0x40000), (4, 0x80)] []).setCore 0 { scratch := memWrite 0x40 bs [] }
  let s1 := (s0.setMe { s0.me with task := some { launch := 9, ord := 0 } }).setGrove 0
    { layers := [(3, { vf := 0, hdrA := 0x100, b := 1, win := 0, loga := 0, logn := 0, launch := 9 })] }
  { s1 with launches := [(9, { vf := 0, hdr := List.replicate 8 0 ++ bytesOf 8 (2 ^ 44 * q) })] }

theorem witness_StreamForms_spawn :
    let w2 := 2 ^ 32 + 2 ^ 25 + 2 ^ 20 + 1
    let s := spawnState 16 w2
    let p := Loc.scr 0 0x40
    let t : Tab Word := [(0, 0x100), (1, 0), (2, natW w2)]
    let copied : Tab Word := [(0, 0x100), (1, 0x4000000000000000), (2, natW (w2 - 1))]
    let ws := fun (t : Tab Word) => (upFrom 0 8).map (tabGet 0 t)
    can (.sspawn false true 9 1 false) s = true ∧ s.checkSpace 1 0x40 .load = none ∧ (s.checkSpace 1 0x40000 .load).isSome = true
    ∧ 0x41 % 64 ≠ 0 ∧ s.scrLoc s.cur 0x40 64 = some p ∧ s.poisonedLoc p 64 = none ∧ s.acquiring = false
    ∧ s.readBlocked s.cur s.me.nseq p 64 = false
    ∧ ((spawnDesc (ws t)).map (fun y => (y.npg, y.zf, y.b))) = some (1, true, 1) ∧ (spawnDesc (ws [(0, 0)])).isNone = true
    ∧ (haveRead t s).gathered t = true ∧ (haveRead [(0, 0)] s).gathered [(0, 0)] = true ∧ s.freeMap 0 = some 0
    ∧ ((spawnDesc (ws copied)).map (fun y => (y.npg, y.zf, y.src))) = some (1, false, 0x4000000000000000)
    ∧ (s.readTagged 256 8 0x4000000000000000 matches .reads _ _) ∧ (haveRead copied s).gathered copied = true
    ∧ tabFind copied 8 = none ∧ (s.newPages 0 0 9 (pagesOf (copied ++ [(8, 5)]) 1 8)).isSome = true
    ∧ (s.launchOf s.cur).map (·.quota) = some 16 ∧ ((spawnState 0 w2).launchOf 0).map (·.quota) = some 0
    ∧ (s.layerFor 0 0 0x100 1 0 0 0 matches .entry 3 _) ∧ (s.layerFor 0 0 0x100 2 0 0 0 matches .bad)
    ∧ s.freeStreamCtx 0 true = some 0 ∧ (s.newPages 0 0 9 [([], [])]).isSome = true
    ∧ ((after (.sspawn false true 9 1 false) (haveRead t s)).regs.xAt 9) = 1 := by
  decide +kernel

/-- The family of stream 5 in the states of a join: none, open, resolved. -/
theorem witness_JoinForms :
    let m : Member := { handle := 0x281, ford := 0, ver := 0 }
    let s := fun (j : Nat) => windowState.setFamily 0 5 { fam := 0x281, vf := 0, own := 1, jst := j, members := [m] }
    let op := fun (n : Nat) (f : JoinForm) (x : Word) => (s n).joinOp (some 0) ((s n).caddr 0) 0 0 f 0x281 x 0
    can (.jopen false true 9 1 2 false false) (s 0) = true ∧ can (.jwait false true 9 1 false) (s 1) = true
    ∧ (s 0).handleProt 0x281 (some 0) = false ∧ (s 0).handleProt 0x100000281 (some 0) = true
    ∧ (op 0 .jopen 0 matches .ok _ _ _ _) ∧ (op 0 .jwait 0 matches .trap _) ∧ (op 1 .jwait 0 matches .waits _)
    ∧ (op 2 .jwait 0 matches .ok _ _ _ _) ∧ (op 1 .jpoll 0 matches .ok 0 0 1 _) ∧ (op 2 .jpoll 1 matches .trap _)
    ∧ (op 1 .jclose 1 matches .ok _ _ _ _) ∧ (op 1 .jclose 2 matches .trap _)
    ∧ (performed (.join 0x281 true) (s 1)).answered 1 2 3 0 = true := by
  decide +kernel

/-- Context 0 the servicer of its grove, with a parked load of a mapped and one of an unmapped page. -/
theorem witness_SysxForms :
    let s0 := mapped [(1, 0xFFFF), (2, 0x10000), (3, 0x40), (4, 1), (5, 4095), (6, 4096)]
    let e : RingEntry := { tag := 1, kind := 1, va := 0x100000, ctx := 4, gen := 0, n := 0, size := 8, store := false, zext := true
                           cls := 0, reg := 7, vf := 0 }
    let s := (s0.setCsr csrTSTAT 1).setGrove 0 { servicer := some 0, ring := [e, { e with tag := 2, va := 0x400000 }] }
    let m : State := { s with sencha := { regions := [(4095, { vf := 0, base := 0, len := 0, pol := false, owner := 0 }),
                                                      (1, { vf := 1, base := 0, len := 0, pol := false, owner := 0 })] } }
    can (.replay false true 9 1 false) s = true ∧ s.isKettle = true ∧ s0.isKettle = false
    ∧ (0xFFFF : Word).toNat < 2 ^ 16 ∧ 2 ^ 16 ≤ (0x10000 : Word).toNat ∧ (s.grove 0).ring.all (fun x => x.tag != 0xFFFF) = true
    ∧ (s.replayEntry e matches .ok _) ∧ (s.replayEntry { e with va := 0x400000 } matches .fault _)
    ∧ can (.tlbinv false true 0 3 false false) s = true ∧ 0x40 / 2 ^ 6 % 2 ^ 57 = 1 ∧ 1 % 2 ^ 6 ≠ s0.me.vf
    ∧ can (.cflip false true 1 false) s = true ∧ can (.mtrd false true 9 5 0 false false) m = true
    ∧ (tabFind m.sencha.regions 4095).map (·.vf) = some 0 ∧ (tabFind m.sencha.regions 1).map (·.vf) = some 1
    ∧ tabFind s.sencha.regions 4095 = none := by
  decide +kernel

/-- What the context holds after its outstanding work: a load of mapped memory, a posted store, a Pod request, a sleeping WAITA
and an atomic. -/
def busyState (op : Option PendOp) (src : ProdSrc) : State :=
  let s := mapped [(1, 1)]
  (s.setMe { s.me with
    prods := [{ n := 3, cls := 0, reg := 7, src := src }]
    posted := [{ n := 2, clsB := true, events := [[{ loc := .mem 0x300000, bytes := [1, 2] }]] }]
    pcb := 1
    pend := op.map (fun o => { pc := 0, op := o })
    regs := s.regs.setEmpty 0 7 }).setSlot 5 { owner := some 0, busy := true, fill := some ({ n := 1, parts := [{ ix := 0, loc := .mem 0x300200, va := 0 }] }, none) }

theorem witness_MemoryEvents :
    let s := busyState none (.value 9)
    let p : Prod := { n := 3, cls := 0, reg := 7, src := .value 9 }
    let part : Piece := { ix := 0, loc := .mem 0x300200, va := 0 }
    let f : Fill := { n := 1, parts := [part] }
    let store : Posted := { n := 2, clsB := true, events := [[{ loc := .mem 0x300000, bytes := [1, 2] }]] }
    s.me.prods[0]? = some p ∧ s.prodReady 0 p 0 = true ∧ (p.event 0).any (fun j => j.1.pkg s.self != s.self) = false
    ∧ s.brought 0 3 0 (.value 9) = .value 9
    ∧ ({ s with memPoison := [0x60000] } : State).brought 0 3 0 (.load (.mem 0x300000) 8 false 0) = .bad 0 8
    ∧ (s.brought 0 3 1 (.gather 4 0 [part, part]) matches .more _)
    ∧ s.prodReady 0 { p with src := .search 0 0 4 0 } 0 = false
    ∧ (tabGet {} (s.core 0).slots 5).owner = some 0 ∧ (tabGet {} (s.core 0).slots 5).fill = some (f, none)
    ∧ s.readBlocked 0 1 (.mem 0x300200) 8 = false ∧ s.ucBlocked 0 1 none = false
    ∧ (f.read 0 part 7 false).parts = [] ∧ (f.read 0 part 7 false).bad = false ∧ (f.read 0 part 7 true).bad = true
    ∧ s.me.posted[0]? = some store ∧ s.postedReady 0 0 0 store [{ loc := .mem 0x300000, bytes := [1, 2] }] = true ∧ store.events.eraseIdx 0 = []
    ∧ (let t := busyState (some (.atom .add (.mem 0x200000) 8 1 0 0 none)) (.value 9)
       (Loc.mem 0x200000).pkg t.self = t.self) ∧ s.readBlocked 0 s.me.nseq (.mem 0x200000) 8 = false
    ∧ s.ucBlocked 0 s.me.nseq none = false ∧ s.poisonedLoc (.mem 0x200000) 8 = none
    ∧ ofBytes (s.readFor 0 4 (.mem 0x300000) 8) = 0x201 ∧ fld 0x40000000000 41 2 = 2 ∧ s.ownFrame 0x200000 = true
    ∧ fld 0x40000000000 43 9 = s.self ∧ s.owner 0 0 = some s.me ∧ s.invals.contains 0 = false := by
  decide +kernel

/-- A pushed value, a page move with no access left, and one that an access still reaches. -/
theorem witness_MemoryEvents_more :
    let q : Prod := { n := 3, cls := 0, reg := 24, push := some 0x80000000, src := .value 9 }
    let s0 := st [] [(csrQB0, 0x8000000080000000)]
    let s := s0.setMe { s0.me with prods := [q] }
    let m : Moving := { vf := 0, va := 0, src := 0x200000, dst := 0x400000, bytes := 0x200000, ptes := [] }
    let b := busyState none (.value 9)
    let t : State := { mapped [] with moving := [m] }
    s.prodReady 0 q 0 = true ∧ t.moving[0]? = some m ∧ t.reached 0x200000 0x200000 = false ∧ b.reached 0x200000 0x200000 = true
    ∧ ((mapped []).mappings 0x200000 0x200000 0).map (fun y => (y.ea, y.va, y.bytes)) = [(0x3000, 0, 0x200000)]
    ∧ (((mapped []).beginMove m).mem64 0x3000) % 2 = 0 ∧ t.onFenced 0x200000 0x200000 = false
    ∧ t.ownFrame (2 ^ 43) = false ∧ ({ t with invals := [0] } : State).invals.contains 0 = true := by
  decide +kernel

/-- A value that goes to the Spout: its descriptor is read, and then submitted, or is not valid; a granule that a unit reads, with
and without poison, and one that it writes; a store whose second event is still to come; a contribution kept back. -/
theorem witness_MemoryEvents_granules :
    let spout : Prod := { n := 3, cls := 0, reg := 24, push := some 0x01000000, src := .value 0x200 }
    let s0 := copyState
    let holds := fun (p : Prod) => s0.setMe { s0.me with prods := [p] }
    let sent := { spout with src := .desc 0x200 (2 ^ 62 + 2 ^ 64 * (2 ^ 62 + 0x1000) + 2 ^ 128 * (2 ^ 38 + 2 ^ 16)) [] }
    let part : Piece := { ix := 0, loc := .scr 0 0x200, va := 0x200 }
    let reads := (s0.setMe { s0.me with pend := some { pc := 0, op := .read 4 [part] } })
    let w : Write := { loc := .mem 0x300000, bytes := [1] }
    let two : Posted := { n := 2, clsB := true, events := [[w], [{ w with loc := .mem 0x300008 }]] }
    (holds spout).prodReady 0 spout 0 = true ∧ (s0.latePush 0x01000000 0x200 spout.src matches .read (.scr 0 0x200) _)
    ∧ (s0.latePush 0x01000000 0x208 spout.src matches .trap _) ∧ (holds sent).prodReady 0 sent 0 = true
    ∧ (s0.brought 0 3 0 sent.src matches .value _)
    ∧ (match sent.src with
      | .desc _ v _ => (s0.latePush 0x01000000 v sent.src matches .ok _ _)
      | _ => false) = true
    ∧ reads.readBlocked 0 reads.me.nseq part.loc 8 = false ∧ reads.ucBlocked 0 reads.me.nseq none = false
    ∧ reads.poisonedFor 0 part.loc 8 = none ∧ ({ mapped [] with memPoison := [0x60000] } : State).poisonedFor 0 (.mem 0x300000) 8 = some 8
    ∧ reads.resting (.mem 0x300000) = false ∧ two.events.eraseIdx 0 ≠ []
    ∧ ((mapped []).setMe { (mapped []).me with posted := [two] }).postedReady 0 0 0 two [w] = true
    ∧ two.unsent = none ∧ { two with unsent := some { id := 1, src := 0, n := 2, row := 0, vf := 0, colour := false, elts := [] } }.unsent ≠ none := by
  decide +kernel

theorem witness_MemoryEvents_pod :
    let s := podState []
    let waits := fun (o : PendOp) => (s.setMe { s.me with pend := some { pc := 0, op := o } }).setGrove 0 { s.grove 0 with podQ := [(0, 0)] }
    let t := waits (.podw 8 1)
    let u := s.setMe { s.me with prods := [{ n := 0, cls := 0, reg := 5, src := .search 8 4 4096 1 }] }
    (t.grove 0).podQ = [(0, 0)] ∧ t.me.prods = [] ∧ t.me.pend.map (·.op) = some (.podw 8 1) ∧ t.me.nseq = 0
    ∧ t.me.task.map (·.launch) = some 1 ∧ t.podBase 0 1 = 32 ∧ (waits (.podr 8 0)).me.pend.map (·.op) = some (.podr 8 0)
    ∧ (t.grove 0).podPoison.contains 40 = false ∧ (t.setGrove 0 { t.grove 0 with podPoison := [40] } |>.grove 0).podPoison.contains 40 = true
    ∧ u.me.prods.map (·.src) = [.search 8 4 4096 1] ∧ popcount 4096 ((tabGet 0 (t.grove 0).pod 40) ^^^ 1#4096).toNat = 1 := by
  decide +kernel

theorem witness_StreamEvents :
    let s := windowState
    let src := s.caddr 96
    let net := fun (p : Packet) => ({ s with net := [p] } : State)
    ((net (.strmReq src 0 1 .stat 0x281 0)).takePacket (.net 0)).map (·.1) = some (.strmReq src 0 1 .stat 0x281 0)
    ∧ (s.takePacket (.leaf 7 0 (.reply src 0 (.ok 0 0 0 0)))).map (·.1) = some (.reply src 0 (.ok 0 0 0 0))
    ∧ (s.takePacket (.leaf 7 1 (.reply src 0 (.ok 0 0 0 0)))).isNone = true
    ∧ (s.strmOp none 0 .stat 0x281 0 matches .ok _ _ _) ∧ (s.strmOp none 0 .apop 0x281 0 matches .trap _)
    ∧ isStreamRequest (.migDrop 5) = true ∧ ((net (.migDrop 5)).takeStreamRequest s (.migDrop 5) matches (some _, _))
    ∧ (s.setStream 0 6 { st := 6, fwd := 0 }).stream 0 6 = { st := 6, fwd := 0 }
    ∧ (s.setStream 0 6 { st := 6, fwd := 1 }).tick < 1 ∧ 64 ≤ s.framesFree 0
    ∧ ((s.setPage 0 7 { s.page 0 7 with slot := some 1, spilling := 1 }).page 0 7).spilling = 1 ∧ s.heldPage 0 7 = false
    ∧ ((s.setPage 0 7 { s.page 0 7 with into := some 1, spl := true }).page 0 7).into = some 1
    ∧ (net (.seedAck 0x281 none)).takePacket (.net 0) = some (.seedAck 0x281 none, s)
    ∧ (net (.gone 0x281 0x281 0)).reportInOrder (.net 0) = true ∧ (net (.retire 0x281 0x281 0 false none)).orderInOrder (.net 0) = true
    ∧ ({ s with net := [.retire 0x281 0x281 0 false none, .retire 0x281 0x281 0 false none] } : State).orderInOrder (.net 1) = false
    ∧ handlePkg 0x02000281 ≠ s.self ∧ (net (.gone 0x281 0x281 0)).reportInOrder (.net 1) = false ∧ s.seedInOrder (.net 0) = false
    ∧ handlePkg 0x281 = s.self := by
  decide +kernel

/-- Three parked streams of one layer: in the order of their Caddy cycles, the lower number first within one, and a batch of two. -/
theorem witness_StreamEvents_batch :
    let t : Stream := { st := 1, parked := true, kid := 3, npg := 1, map := 2, vf := 0 }
    let g := windowState.grove 0
    let y : Layer := { vf := 0, hdrA := 0, b := 2, win := 0, loga := 0, logn := 0, launch := 9 }
    let s0 := windowState.setGrove 0 { g with
      layers := [(3, y)], streams := [(5, { t with since := 4 }), (6, { t with since := 5 }), (7, { t with since := 2 })] }
    let s : State := { s0 with tick := 6 }
    let r := s.formBatch 0 3 0
    (s.bucket 0 3 0).map (·.1) = [7, 5, 6] ∧ tabFind (s.grove 0).layers 3 = some y
    ∧ (r.grove 0).batches.map (·.rows) = [[0x381, 0x281]] ∧ (r.stream 0 7).st = 2 ∧ (r.stream 0 6).st = 1
    ∧ 4 / 2 < s.tick / 2 ∧ ¬(4 / 2 < s0.tick / 2) ∧ s.nextBatch 0 3 = none ∧ (r.nextBatch 0 3).isSome = true ∧ y.loga = 0 := by
  decide +kernel

/-- A layer task of one row, on a context bound to its launch. -/
theorem witness_StreamEvents_layer :
    let y : Layer := { vf := 0, hdrA := 0, b := 1, win := 0, loga := 0, logn := 0, launch := 9 }
    let b : Batch := { kid := 3, layer := 7, rows := [0x281], bser := 4 }
    let l : Launch := { vf := 0, hdr := List.replicate 256 0, status := 2, admitted := true, layerOf := some (0, 3) }
    let g := windowState.grove 0
    let s0 := ((windowState.setGrove 0 { g with layers := [(3, y)], batches := [b], streams := [(5, { st := 2, npg := 1, map := 2 })] }).setCtx 4
      {}).setBind 4 { launch := some 9 }
    let s : State := { s0 with launches := [(9, l)] }
    s.nextBatch 0 3 = some b ∧ (s.ctx 4).status = .free ∧ s.readyOn l 0 = true ∧ s.serves 4 0 = true ∧ (s.bind 4).launch = some 9
    ∧ (((s.startBatch 4 9 l y b).ctx 4).regs.csrAt csrSCUR) = natW (2 ^ 32 * 4 + 2 ^ 16 * 3 + 7) ∧ b.rows.length ≤ 16
    ∧ ((s.startBatch 4 9 l y b).stream 0 5).st = 3 ∧ (s.stream 0 5).gen = 1 := by
  decide +kernel

/-- A grove short of frames, whose oldest page is dirty, or has been written to its slot. -/
theorem witness_StreamEvents_spill :
    let full := fun (d : Bool) (k : Option Nat) =>
      (windowState.setGrove 0 { windowState.grove 0 with
        census := [(7, { v := true, ref := 1, loc := 3, dirty := d, slot := k })], frameFenced := upFrom 4 2000 }).setVf 0
        { windowState.vf 0 with spillSlots := 4 }
    let s := full true none
    let draining := fun (s : State) => s.setGrove 0 { s.grove 0 with draining := true }
    let oldest := fun (s : State) =>
      oldestPage (((draining s).residents.filter (fun x => x.1 == 0 && x.2.2.spilling == 0)).filter (draining s).spillable)
    s.framesFree 0 < 64 ∧ s.framesFree 0 + ((s.grove 0).census.filter (fun p => p.2.spilling == 1)).length < 128
    ∧ oldest s = some (0, 7, s.page 0 7) ∧ ((draining s).takeSlot 0 7).map (·.1) = some 0
    ∧ ((draining (full false (some 2))).takeSlot 0 7).map (·.1) = some 2 ∧ oldest (full false (some 2)) = some (0, 7, (full false (some 2)).page 0 7) := by
  decide +kernel

theorem witness_EngineEvents :
    let k : Copy := { handle := 7, ctx := 0, vf := 0, launch := 0, desc := [], classB := false, status := 1 }
    let done : Copy := { k with status := 2, row := 1, desc := [0, 0, natW (2 ^ 16)] }
    let s := (copyState.setGrove 0 { copies := [k, { k with status := 2 }] })
    let g : Group := { id := 1, vf := 0, home := 0, exp := 2, created := 2 }
    let y : Contribution := { group := 1, vf := 0, member := 0, round := 0, op := 0, pred := true, site := 0 }
    let sp := underBranch 0 (st [] [(csrTVEC, 0x100)])
    (s.grove 0).copies[0]? = some k ∧ s.runsFor 0 0 = true
    ∧ (earlierCopies (s.grove 0).copies 0 k).all (fun c => c.status != 1) = true
    ∧ (earlierCopies (s.grove 0).copies 1 { k with status := 2 }).any (fun c => c.status == 1) = true
    ∧ done.allRead = true ∧ done.out = [] ∧ (s.copyAction done).isSome = true
    ∧ (s.copyAction { done with desc := [0, 0, natW (2 ^ 62 + 2 ^ 16), 0, natW 0x3FFF8] }).isSome = false
    ∧ (({ s with groups := [g] } : State).groupById 0 1) = some g ∧ g.home = s.self ∧ y.round = g.round ∧ g.got = [] ∧ 2 ≤ g.exp
    ∧ (s.takeMsg { src := s.caddr 0, dst := s.caddr 0, sz := 0, payload := 0, colour := false, stamp := 0 }).isSome = true
    ∧ (({ s with tick := 2 ^ 30 } : State).tick < ({ g with got := [y] } : Group).first + 2 ^ 30) = False
    ∧ (sp.me.spec.map (fun x => (x.pred, x.trap == none))) = some (false, true)
    ∧ ((sp.setMe { sp.me with result := some (.taken false) }).me.result) = some (.taken false)
    ∧ ((sp.setMe { sp.me with
          result := some (.taken true)
          spec := sp.me.spec.map (fun x => { x with pred := true, trap := some { cause := cPROT, tval := 5, epc := 8 } }) }).applyResult 0
        (.taken true)).regs.csrAt csrTCAUSE = natW (cPROT.toNat + 2 ^ 7) := by
  decide +kernel

/-- A reduction of two contributions: the first is kept, the second posts the sums. -/
theorem witness_EngineEvents_whisk :
    let w : WSlot := { ser := 1, opened := true, owner := 0, vf := 0, kind := 0, fsc := 0, n := 2 }
    let m : WhiskMsg := { id := whiskId 0 0 0 0 1 1, src := 0, n := 0, row := 0, vf := 0, colour := false, elts := [.int 3, .int (-5)] }
    let s := fun (w : WSlot) => State.reset.setDie 0 { wslots := [(1, w)] }
    let r := fun (w : WSlot) (m : WhiskMsg) => (tabGet {} (((s w).takeWhisk m).die 0).wslots 1)
    (r w m).got = [m.elts] ∧ (r w m).result = []
    ∧ ((r { w with got := [[.int 4, .int 2]] } m).result.take 2) = [7, -3] ∧ (r { w with got := [[.int 4]] } m).result.length = 16
    ∧ (((s w).takeWhisk { m with vf := 1 }).die 0).wdrop = 1
    ∧ (fmt32.val 0x7FC00000).isNan = true ∧ (fmt32.val 0x3F800000).isNan = false := by
  decide +kernel

/-- A beat of 64 bytes from core 0 to core 1 that is good, before and at its cycle, and an exchange at its end; a context that waits
alone for a message is a knot; a message behind one of its flow in a drop buffer. -/
theorem witness_EngineEvents_exchange :
    let b : ExBar := { arrived := [{ ctx := 0, need := 1, es := [(natW (2 ^ 62 + 2 ^ 57 + 2 ^ 40 + 5), 0)] }], t0 := some 10 }
    let s := fun (n : Nat) => ({ State.reset with tick := n } : State)
    let waits := st [] []
    let n := waits.setMe { waits.me with wait := 2, waitOn := some (.pop 0x80000000), task := some { launch := 1, ord := 0 } }
    let m : Msg := { dst := n.caddr 0, src := n.caddr 4, sz := 0, stamp := 0, colour := false, payload := 0 }
    let d : State := { n with parts := [(2, { groves := [0], vf := 0, phase := 2, drop := [.msg m] })] }
    (b.good[0]?).map (fun x => (x.core, x.peer, x.cycle)) = some (0, 1, 5) ∧ (b.good[1]?).isNone = true
    ∧ (s 14).tick < 10 + 5 ∧ 10 + 5 ≤ (s 15).tick ∧ 10 + lastBeat (b.arrived.map (·.es)).flatten ≤ (s 80).tick ∧ b.faults 1 = 1 ∧ b.faults 0 = 0
    ∧ findKnots n.nodes = [[(n.caddr 0).toNat]] ∧ (n.nodes.map (·.c)) = [0] ∧ n.knots = []
    ∧ d.inDrop (n.caddr 4, n.caddr 0) = true ∧ d.inDrop (n.caddr 0, n.caddr 4) = false := by
  decide +kernel

/-- An exchange barrier that has been released, with no timetable left behind it. -/
theorem witness_EngineEvents_barrier :
    let b : ExBar := { arrived := [], t0 := some 0 }
    let s := State.reset.setDie 0 { bars := [(1, [b])] }
    tabGet [] (s.die 0).bars 1 = [b] ∧ b.t0 = some 0 ∧ 0 ≤ s.tick ∧ s.parts.all (fun p => p.2.phase == 0) = true := by
  decide +kernel

/-- A launch of two tasks bound to context 0, free and startable; and the services that a trapped context waits for. -/
theorem witness_KettleEvents :
    let l : Launch := { vf := 0, hdr := List.replicate 8 0 ++ bytesOf 8 1 ++ bytesOf 8 1 ++ List.replicate 104 0, status := 2
                        admitted := true, split := true, tickets := [(0, (0, 2))] }
    let s : State := { State.reset.setBind 0 { launch := some 1 } with launches := [(1, l)] }
    let t : TrapRec := { cause := cECALL, tval := 0, epc := 0x40 }
    let w := State.reset.setCtx 0 { status := .service t, regs := (({} : Regs).setX 5 1).setX 6 (natW (2 ^ 52 - 4)) }
    let p := State.reset.setCtx 0 { status := .service { t with cause := cPAGE } }
    let a := fun (u : UnitId) => ({ State.reset with mgmt := { testing := [u] } } : State)
    (s.bind 0).launch = some 1 ∧ (tabFind s.launches 1).isSome = true ∧ s.startable 0 l = true ∧ l.layerOf = none ∧ l.gang = false
    ∧ l.total = 2 ∧ (State.reset.bind 0).launch = none
    ∧ (w.ctx 0).status = .service t ∧ (w.ctx 0).regs.xAt 5 = 1 ∧ ((w.ctx 0).regs.xAt 6).toNat % 4 = 0
    ∧ ((w.ctx 0).regs.xAt 6).toNat < 2 ^ 52 ∧ (p.ctx 0).status = .service { t with cause := cPAGE }
    ∧ (performed (.strm 5) p).me.pend.map (fun e => decide (e.since + 2 ^ 32 ≤ p.tick)) = some false
    ∧ UnitId.core 3 ∈ (a (.core 3)).mgmt.testing ∧ UnitId.core 4 ∉ (a (.core 3)).mgmt.testing
    ∧ s.readyOn l 0 = true ∧ s.readyOn { l with hdr := l.hdr.take 8 ++ bytesOf 8 (2 ^ 39 + 1) ++ l.hdr.drop 16 } 0 = false
    ∧ State.reset.bindable 5 = true ∧ (infuse [] [] matches .error _) ∧ State.reset.cacheHit 0 0 5 = none ∧ State.reset.freeBit.2.freeIx = 1
    ∧ State.reset.ownerAt (.reg 12 0 5) = none ∧ State.reset.unitAt (.reg 12 0 5) = some (.core 3)
    ∧ (State.reset.ownerAt (.scratch 3 8)).isSome = true
    ∧ ((mapped []).setVf 0 { (mapped []).vf 0 with enabled := true }).ownerAt (.mem 0x40000) = some (0, 0)
    ∧ State.reset.unitAt (.mem (2 ^ 40)) = none := by
  decide +kernel

/-- A launch at the head of its queue that a pass binds to context 5, and a gang that gets a run of cores. -/
theorem witness_KettleEvents_pass :
    let l : Launch := { vf := 0, hdr := List.replicate 8 0 ++ bytesOf 8 1 ++ bytesOf 8 1 ++ List.replicate 104 0, admitted := true }
    let s0 := State.reset.setVf 0 { State.reset.vf 0 with submitQ := [1] }
    let s : State := { s0 with launches := [(1, l)] }
    let gang : Launch := { l with hdr := List.replicate 8 0 ++ bytesOf 8 (2 ^ 41 + 1) ++ bytesOf 8 1 ++ List.replicate 104 0 }
    let t : State := { s0 with launches := [(1, gang)], tick := 300001 }
    (0, 1) ∈ s.heads ∧ s.suits 1 l 5 = true ∧ ((s.schedulingPass [5]).bind 5).launch = some 1 ∧ (s.bind 5).launch = none
    ∧ (s.setBind 5 { launch := some 1 }).suits 1 l 4607 = true
    ∧ gang.gang = true ∧ gang.hasWork = true ∧ gang.run = none ∧ (0, 1) ∈ t.heads ∧ t.bestRun 0 gang.e0 = some (0, 0)
    ∧ tabGet (0, 0) ({ l with tickets := [(0, (3, 5)), (1, (7, 9))] } : Launch).tickets 0 = (3, 5)
    ∧ richest ([(0, (5, 5)), (1, (7, 9))] : Tab (Nat × Nat)) = some 1 ∧ dieOf 1151 < 4 := by
  decide +kernel

/-- An infusion of an image of three words, under way for die 0, with its residual not held and held. -/
theorem witness_KettleEvents_infusion :
    let img := bytesOf 4 0xC1280005 ++ bytesOf 4 0xC1314001 ++ bytesOf 4 0x20000002 ++ bytesOf 4 0x20000002
    let l : Launch := { vf := 0, hdr := bytesOf 8 (2 ^ 53) ++ bytesOf 8 (2 ^ 39 + 1) ++ List.replicate 240 0, image := img, infusing := [0], status := 2 }
    let s : State := { State.reset with launches := [(1, l)] }
    let held := s.setDie 0 { s.die 0 with cache := [{ key := 5, vf := 0, words := [], back := [], used := 0 }] }
    tabFind s.launches 1 = some l ∧ 0 ∈ l.infusing ∧ l.plain = false ∧ isFinal l.status = false
    ∧ s.cacheHit 0 0 5 = none ∧ (held.cacheHit 0 0 5).isSome = true ∧ imageWords l.klen img = [0xC1280005, 0xC1314001, 0x20000002, 0x20000002]
    ∧ ((infuse (imageWords l.klen img) l.hdr).toOption).isSome = true ∧ ((infuse (imageWords 0 []) l.hdr).toOption).isNone = true
    ∧ (s.cachePut 0 { key := 5, vf := 0, words := [0x20000002], back := [2 ^ 20], used := 0 }).isSome = true
    ∧ (s.makeRoom 0 (cacheBytes + 1) 1 []).isNone = true := by
  decide +kernel

/-- A lost acknowledgement of a store to a scratchpad, which ends the launch. -/
theorem witness_KettleEvents_lost :
    let q : Posted := { n := 0, clsB := false, events := [[{ loc := .scr 24 0, bytes := [1] }]] }
    let s0 := st [] []
    let s := s0.setMe { s0.me with posted := [q], pca := 1, task := some { launch := 1, ord := 0 } }
    s.me.posted[0]? = some q ∧ q.events = [[{ loc := .scr 24 0, bytes := [1] }]] ∧ s.me.task.map (·.launch) = some 1
    ∧ s.freeBit.2.freeIx = 1 := by
  decide +kernel

theorem witness_PartitionEvents :
    let q : Part := { groves := [0, 1], vf := 0 }
    let s := fun (k : Nat) => ({ State.reset with parts := [(2, { q with phase := k, time := 0 })] } : State)
    let c := fun (k : Nat) => ({ q with phase := k, cut := some 5 } : Part)
    tabFind (s 0).parts 2 = some { q with phase := 0 } ∧ (s 0).tick + 60000 ≤ 60000 ∧ 59999 < (s 0).tick + 60000
    ∧ (s 2).drained { q with phase := 2 } = true ∧ tabFind (s 3).parts 2 = some { q with phase := 3 }
    ∧ (s 2).cutSum { q with phase := 2 } + 0 = 0 ∧ (s 2).cutSum { q with phase := 2 } + 1 ≠ 0 ∧ q.groves.Nodup ∧ 30 ∈ q.cores
    ∧ (((s 1).stopPart 2 (c 1)).core 30).colour = true ∧ (((s 1).stopPart 2 (c 1)).core 30).cutid = 5
    ∧ (((s 1).stopPart 2 (c 1)).core 48).colour = false
    ∧ ((s 3).saveSet q).vf = q.vf := by
  decide +kernel

/-- A domain of two packages in one ring, of which package 1 has missed two heartbeats and misses a third. -/
theorem witness_PackageLoss :
    let s : State := { State.reset with mgmt := { domain := 1, hbMissed := [(512, 2)] } }
    let t : State := { s with mgmt := { s.mgmt with hbMissed := [] } }
    let tab := fun (s : State) => tabSet 512 (tabGet 0 s.mgmt.hbMissed 512 + 1) ([] : Tab Nat)
    s.neighbours 1 = [0] ∧ 1 ∉ s.mgmt.failed ∧ 3 ≤ tabGet 0 (tab s) 512 ∧ tabGet 0 (tab t) 512 < 3
    ∧ (match execHeartbeat [(1, [0])] s with
      | .next r => r.mgmt.failed == [1]
      | _ => false) = true
    ∧ s.hasRoute 1 = true ∧ ({ s with mgmt := { s.mgmt with portsDown := [0, 1, 2, 3] } } : State).hasRoute 1 = false
    ∧ s.present 0 = true ∧ (upFrom 0 2).all (fun q => s.present q) = true ∧ s.firstHop 1 = some (0, false) ∧ s.present 2 = false := by
  decide +kernel

/-- A partition that has kept a cut. -/
theorem witness_PackageLoss_recovery :
    let s0 : State := { State.reset with mgmt := { domain := 1, failed := [1] }, parts := [(2, { groves := [0], vf := 0, ckpt := some { vf := 0 } })] }
    s0.spans 2 0 = true ∧ (tabGet {} s0.parts 2).ckpt = some { vf := 0 } ∧ (tabGet {} State.reset.parts 2).ckpt = none := by
  decide +kernel

/-- Function 0 enabled with its first 2 MiB of memory mapped. -/
def hostState : State :=
  let s := State.reset.mapFirst 0 0x200000
  s.setVf 0 { s.vf 0 with enabled := true }

theorem witness_HostEvents :
    let s := hostState
    (s.vf 0).enabled = true ∧ (s.vf 4).enabled = false ∧ (s.readVirt 0 2 0x100 256).isSome = true
    ∧ (s.readVirt 0 2 0x400000 8).isNone = true ∧ s.hostRegion 0 0x100 8 = false
    ∧ (({ s with sencha := { regions := [(1, { vf := 0, base := 0x100, len := 64, pol := true, owner := 0 })] } } : State).hostRegion 0 0x100 8)
      = true
    ∧ s.ownsGrove 0 1 = true ∧ fld (0 : Word).toNat 32 4 < 12 := by
  decide +kernel

theorem witness_ManagementEvents :
    let s : State := { State.reset with mgmt := { stage := some 0 } }
    (s.mgmt.stage ≠ none ∧ s.mgmt.busy ≤ s.tick) ∧ State.reset.mgmt.stage = none
    ∧ ({ s with mgmt := { s.mgmt with busy := 1 } } : State).tick < 1 ∧ s.mgmt.cap < 2401 ∧ s.sencha.deploySet = false
    ∧ s.tick ≤ 9000000000 ∧ s.mgmt.stuck = false ∧ s.launchesOn 3 = [] ∧ 3 ∉ s.mgmt.farDown := by
  decide +kernel

/-! Traps, ends of units, checks, pairs, frames and steps -/

theorem witness_TrapEntry :
    let s := st [] [(csrTVEC, 0x100), (csrLC0, 3), (csrRC, 2)]
    s.me.spec = none ∧ s.regs.hm = false ∧ s.regs.csrAt csrTVEC ≠ 0 ∧ cILLEGAL ≠ cPAGE
    ∧ (s.takeTrap 0 { cause := cILLEGAL, tval := 7, epc := 0x40 }).regs.pc = 0x100
    ∧ (s.takeTrap 0 { cause := cILLEGAL, tval := 7, epc := 0x40 }).regs.csrAt csrTLC0 = 3 := by
  decide +kernel

/-- A trap whose unit lies in residual code: the words before the window, at its two ends, and the back map. -/
theorem witness_TrapEntry_residual :
    let l : Launch := { vf := 0, hdr := bytesOf 8 (2 ^ 52 + 0x4000) ++ List.replicate 120 0, residual := some 5 }
    let s0 := st [] [(csrTVEC, 0x100)]
    let s : State := { (s0.setMe { s0.me with task := some { launch := 1, ord := 0 } }).setDie 0
      { cache := [{ key := 5, vf := 0, words := [0], back := [2 ^ 19 * 3 + 2 ^ 4 * 7] }] } with launches := [(1, l)] }
    ((s.launchOf 0).map (·.residual)) = some (some 5) ∧ (s.die 0).cache.find? (fun e => e.key == 5 && e.vf == 0) ≠ none
    ∧ (s.sourceOf 0 (natW residualBase)).1 = 0x400C ∧ (s.sourceOf 0 (natW residualBase)).2.1 = 7
    ∧ (s.sourceOf 0 (natW (residualBase - 4))).1 = natW (residualBase - 4)
    ∧ (s.sourceOf 0 (natW (residualBase + 0x10000))).1 = natW (residualBase + 0x10000) := by
  decide +kernel

theorem witness_TrapOutcomes :
    let s := st [] []
    (underBranch 0 s).me.spec ≠ none ∧ s.me.spec = none ∧ s.regs.csrAt csrTVEC = 0 ∧ (st [(5, 1)] []).regs.xAt 5 = 1
    ∧ (st [(5, 3)] []).regs.xAt 5 ≠ 1 ∧ s.regs.csrAt csrLC0 = 0 ∧ (st [] [(csrTSTAT, 1)]).regs.hm = true
    ∧ ((s.setVf 0 { s.vf 0 with debug := true }).vf 0).debug = true ∧ (s.vf 0).debug = false
    ∧ (s.checkReported 0 { cause := cMCE, tval := 1, epc := 0, unit := 1 }).mgmt.testing = [.core 0]
    ∧ (s.checkReported 0 { cause := cMCE, tval := 0x840000, epc := 0, unit := 4 }).mgmt.testing = [.core 1]
    ∧ (tabFind ({ s with launches := [(1, { vf := 0, hdr := [], status := 2 })] } : State).launches 1).map (·.status) = some 2 := by
  decide +kernel

/-- Both loop ends reached at once, a repetition's last and earlier passes, and STEP set. -/
theorem witness_UnitEnd :
    let s := st [] [(csrLC1, 2), (csrLE1, 4), (csrLC0, 1), (csrLE0, 4)]
    s.unit = {} ∧ s.regs.csrAt csrLC1 ≠ 1 ∧ s.regs.pc + 4 = s.regs.csrAt csrLE1 ∧ s.regs.pc + 4 = s.regs.csrAt csrLE0
    ∧ (st [] [(csrRC, 1)]).regs.csrAt csrRC = 1 ∧ (st [] [(csrRC, 2)]).regs.csrAt csrRC ≠ 1
    ∧ (st [] [(csrTSTAT, 4)]).regs.stepBit = true ∧ (st [] [(csrTSTAT, 4)]).regs.hm = false
    ∧ ((st [] []).sourceOf 0 0).2.2 = false := by
  decide +kernel

/-- X5 empty, F6 poisoned. -/
def markedState : State :=
  let s := st [] []
  s.setRegs ((s.regs.setEmpty 0 5).setPoison 1 6)

theorem witness_EmptyTraps :
    markedState.fresh = true ∧ markedState.me.spec = none
    ∧ (aSigOf (.sub false 1 5 2 true true false)).srcs.head?.map (fun x => (x.t, markedState.srcEmpty x.cls x.n)) = some (true, true)
    ∧ (Instr.sources (.add false 1 5 2 true true false)).head?.map (fun x => (x.t, markedState.srcEmpty x.cls x.n)) = some (true, true)
    ∧ (Instr.sources (.beq false false 1 2 0)).all (fun x => !(x.t && markedState.srcEmpty x.cls x.n)) = true
    ∧ markedState.me.pend = none := by
  decide +kernel

theorem witness_GateStops :
    let s := markedState
    s.fresh = true ∧ s.regs.hm = false ∧ (cSig (.hret false true)).handlerOnly = true
    ∧ (underBranch 0 s).me.spec ≠ none ∧ (cSig (.sret false true 1 2 false false)).stalls = true
    ∧ s.regs.csrAt csrRC = 0 ∧ (st [] [(csrRC, 1)]).regs.csrAt csrRC ≠ 0 ∧ (cSig (.beq false true 1 2 0)).notRepeated = true
    ∧ portNamed s.regs 0 5 = none ∧ s.regs.emptyAt 0 5 = true ∧ s.regs.poisonAt 1 6 = true
    ∧ (aSigOf (.fadd false 1 6 2 false false)).srcs.head?.map (fun x => s.regs.poisonAt x.cls x.n) = some true
    ∧ (aSigOf (.addi false 5 1 false 0)).dsts.head?.map (fun d => s.regs.emptyAt d.cls d.n) = some true := by
  decide +kernel

theorem witness_PairReadsOld :
    let s := st [(1, 4), (2, 5)] []
    let c := Instr.lds false false 9 1 0 3 0 false
    let a := Instr.add false 1 1 2 false false false
    let g := (({ s with unit := { mode := 1 } } : State).gate [(cSig c, false), (aSigOf a, true)])
    (g matches .go _) ∧ s.checkSpace 1 (s.offsetAddr 1 0 8) .load = none ∧ (s.offsetAddr 1 0 8).toNat % 8 = 4 ∧ s.wField 0 = true := by
  decide +kernel

/-- A pair of JALR x5, x1 and ADD x1, x1, x2: both read the old X1 and both results are written (R41). -/
theorem witness_PairReadsOld_done :
    let s := st [(1, 4), (2, 5)] []
    let c := Instr.jalr false false 5 1 false 0
    let a := Instr.add false 1 1 2 false false false
    (match runPair s c a with
      | .next t => decide (t.regs.xAt 1 = 9 ∧ t.regs.xAt 5 = 8 ∧ t.regs.pc = 4)
      | _ => false) = true := by
  decide +kernel

/-- A pair whose C word sends an atomic operation: it is sent where the A word would retire. -/
theorem witness_PairReadsOld_sent :
    let s := (mapped [(1, 0x100000), (2, 5)])
    let c := Instr.amoAdd false false 9 1 2 true 3 0
    let a := Instr.add false 3 2 2 false false false
    (match runPair s c a with
      | .next t => decide (t.regs.xAt 3 = 0 ∧ t.regs.pc = 0 ∧ t.performed = true)
      | _ => false) = true := by
  decide +kernel

theorem witness_PairReadsOld_late :
    let s := st [] []
    s.performed = false ∧ (performed (.podw 8 0) s).performed = true ∧ (match s.doPushes none 0 [] with
      | .ok v t => decide (v = 0 ∧ t.unit.late = none)
      | _ => false) = true := by
  decide +kernel

theorem witness_RegisterFrame :
    isA (encode (.fadd false 1 3 2 false false)) = true ∧ State.reset.ready (aSigOf (.fadd false 1 3 2 false false)) = true := by
  decide +kernel

theorem witness_MemoryFrame :
    let s := st [(1, 0x3FE00)] []
    can (.sts false true 9 1 0 3 0 false) s = true ∧ can (.hldS false true 2 1 false) s = true ∧ s.regs.stepBit = false
    ∧ s.me.spec = none ∧ s.scrLoc s.cur 0x3FE00 512 = some (.scr 0 0x3FE00) ∧ s.poisonedLoc (.scr 0 0x3FE00) 512 = none
    ∧ s.checkSpace 1 0x3FE00 .store = none ∧ s.ownBusy = false ∧ (s.core 0).live.contains (0x3FE00 / 16) = false
    ∧ s.scrLoc s.cur 0x3FFF8 8 = some (.scr 0 0x3FFF8) ∧ s.checkSpace 1 0x3FFF8 .store = none := by
  decide +kernel

theorem witness_MemoryFrame_posted :
    (match exec (.hstS false true 2 1 false false) (st [(1, 0x3FE00)] []) with
      | .next t => decide (t.me.posted.map (fun p => (p.own, p.events.length)) = [(true, 64)])
      | _ => false) = true := by
  decide +kernel

/-- A step on the state that stands for a loaded program, and the fetch of its word. -/
theorem witness_StepRunsDecoded :
    let s := State.reset.withFetchWord 32 0x81280005
    let t0 := s.later.tookTurn 0
    let t := t0.setCore 0 { s.later.core 0 with turn := 0 }
    s.dueEvent = none ∧ s.mgmt.stopped = false ∧ s.resolving = none ∧ s.choices = [.turn 0] ∧ t.me.mce = [] ∧ t.me.pend = none
    ∧ t.breakpoint 0 = none ∧ (t.fetch 0 matches .word 0x81280005 _) ∧ isA 0x81280005 = true ∧ reservedMajor 0x81280005 = false
    ∧ decodeWord 0x81280005 = .ok (.addi false 5 0 false 5) ∧ t.meterTrap 0 0 .fetch false = false
    ∧ (t.translate (unitsOf 0) 0 0 .fetch matches .ok _ _ _ _) ∧ t.poisonedLoc (.mem 0x200000) 4 = none := by
  decide +kernel

/-- The pair of a C word and an A word at an address divisible by 8. -/
theorem witness_StepRunsDecoded_pair :
    let s := State.reset.placeWords [0x01041FFE, 0x81280005]
    s.choices = [.turn 0] ∧ isA 0x01041FFE = false ∧ isLone 0x01041FFE = false ∧ isA 0x81280005 = true
    ∧ sameDest (Instr.dests (.bne false false 1 0 0xFFE)) (Instr.dests (.addi false 5 0 false 5)) = false
    ∧ decodeWord 0x01041FFE = .ok (.bne false false 1 0 0xFFE) := by
  decide +kernel

theorem witness_RoundTrip : (Instr.add false 6 9 0 false false false).wf = true ∧ (Instr.mmaH false 1 true true 20 21 1 0).wf = true := by
  decide +kernel

theorem witness_StepKeepsWhole : State.reset.Whole ∧ (step State.reset matches .next _) := by
  refine ⟨rfl, ?_⟩
  decide +kernel

end Sys2Proof.Tests
end

section
/-! PROOF. The state after reset (R15, R35). -/

namespace Sys2Proof.Machine

/-- The registers before anything is written: each at its reset value and full (R15). -/
theorem Regs.reset_values (n : Nat) :
    ({} : Regs).xAt n = 0 ∧ ({} : Regs).fAt n = 0 ∧ ({} : Regs).vAt n = 0 ∧ ({} : Regs).hAt n = 0
      ∧ ({} : Regs).mAt n = 0xFFFF ∧ ({} : Regs).bAt n = 0 ∧ ({} : Regs).accAt n = 0 ∧ ({} : Regs).csrAt n = 0 :=
  ⟨ite_self _, rfl, rfl, rfl, ite_self _, rfl, rfl, rfl⟩

theorem Regs.reset_full (k n : Nat) : ({} : Regs).emptyAt k n = false := by
  rcases k with _ | _ | _ | k
  · exact Bool.and_eq_false_imp.2 fun _ => BitVec.getLsbD_zero
  all_goals exact BitVec.getLsbD_zero

/-- Settles O58: no table of the reset state has an entry, so every read gives its default. -/
theorem resetState : Obligations.ResetState := by
  refine ⟨rfl, rfl, fun c => ⟨rfl, rfl, rfl, Regs.reset_values, Regs.reset_full⟩, fun _ _ => rfl, ?_⟩
  intro l
  cases l <;> rfl
end Sys2Proof.Machine
end

section
/-! PROOF. The checks before a word executes, in their order (R21 to R25, R45). -/

namespace Sys2Proof.Machine

/-! What the checks before a word answer, in their order (R45). -/

/-- Reading the entries that a unit pops changes only the unit. -/
theorem State.latchAll_with (l : List (Nat × Nat)) (u : IUnit) :
    ∀ s : State, ({ s.latchAll l with unit := u } : State) = { s with unit := u } := by
  induction l with
  | nil => exact fun _ => rfl
  | cons p t ih => exact fun s => ih _

/-- The parts of `fresh`. -/
theorem State.fresh_parts {s : State} (h : s.fresh = true) : s.unit = {} ∧ s.me.pend = none := by
  simpa [State.fresh] using h

theorem unitSources_lone (g : Sig) : unitSources [(g, false)] = g.srcs.map (fun x => (false, g.a, x)) := by
  simp [unitSources]

/-- The checks of a lone word with nothing pending, in their order. -/
theorem State.gate_lone (s : State) (g : Sig) (hp : s.me.pend = none) :
    s.gate [(g, false)] =
      if g.handlerOnly && !s.regs.hm then .trap { cause := cPRIV, tval := wordTval g false } false
      else if s.me.spec.isSome && (g.stalls || unitPops s.regs [(g, false)] != [] || unitPushes s.regs [(g, false)] != []) then
        .wait (some .cbr)
      else match g.srcs.find? (fun x => x.t && s.srcEmpty x.cls x.n) with
        | some x => .trap { cause := cEMPTY, tval := srcTval g.a x } false
        | none => match s.wordTrapOf (g, false) with
          | some y => .trap y false
          | none =>
            let pops := unitPops s.regs [(g, false)]
            let pushes := unitPushes s.regs [(g, false)]
            if s.gateReady [(g, false)] pops pushes then
              .go { s.latchAll pops with unit := { (s.latchAll pops).unit with late := none } }
            else .wait (s.portWait pops pushes) := by
  have empty : (unitSources [(g, false)]).find? (fun x => x.2.2.t && s.srcEmpty x.2.2.cls x.2.2.n)
      = (g.srcs.find? (fun x => x.t && s.srcEmpty x.cls x.n)).map (fun x => (false, g.a, x)) := by
    rw [unitSources_lone, List.find?_map]
    rfl
  simp only [State.gate, hp, empty, List.find?_singleton, List.any_cons, List.any_nil, Bool.or_false]
  cases g.handlerOnly && !s.regs.hm with
  | true => rfl
  | false =>
    cases s.me.spec.isSome && (g.stalls || unitPops s.regs [(g, false)] != [] || unitPushes s.regs [(g, false)] != []) with
    | true => rfl
    | false =>
      cases g.srcs.find? (fun x => x.t && s.srcEmpty x.cls x.n) with
      | some x => rfl
      | none => cases h : s.wordTrapOf (g, false) <;> simp [h]

/-- A lone word whose checks end in a trap. -/
theorem issue_gate_trap {s : State} {g : Sig} {w : Why} {aw : Bool} (f : State → Res) (h : s.fresh = true)
    (hg : s.gate [(g, false)] = .trap w aw) : issue g s f = .next (s.traps w false) := by
  simp [issue, (State.fresh_parts h).1, hg]

/-- A lone word whose checks end in a wait. -/
theorem issue_gate_wait {s : State} {g : Sig} {on : Option WaitOn} (f : State → Res) (h : s.fresh = true)
    (hg : s.gate [(g, false)] = .wait on) : issue g s f = .next (s.waitsOn on) := by
  simp [issue, (State.fresh_parts h).1, hg]

/-- A lone word whose checks pass executes on the state that they leave. -/
theorem issue_gate_go {s s1 : State} {g : Sig} (f : State → Res) (h : s.unit = {})
    (hg : s.gate [(g, false)] = .go s1) : issue g s f = .next (finish s g (f s1)) := by
  simp [issue, h, hg]

/-- The TVAL of a trap on the word itself is the word where it is not the A word of a pair (R45). -/
theorem wordTval_false (g : Sig) : wordTval g false = natW g.word := rfl

@[simp] theorem cSig_a (i : Instr) : (cSig i).a = false := rfl
@[simp] theorem aSigOf_a (i : Instr) : (aSigOf i).a = true := rfl

/-- TVAL of R22: number, class, and the class bit of the word. -/
theorem srcTval_eq (a : Bool) (x : Src) :
    srcTval a x = BitVec.ofNat 64 (x.n + 32 * x.cls + (if a then 128 else 0)) := by
  cases a <;> rfl

/-- A source with T set that reads empty (R22). -/
def State.emptyTrap (s : State) (x : Src) : Prop := x.t = true ∧ s.srcEmpty x.cls x.n = true

/-- `x` is the first element of `xs` with `p`. -/
def FirstOf {α : Type} (p : α → Prop) (xs : List α) (x : α) : Prop := ∃ a b, xs = a ++ x :: b ∧ p x ∧ ∀ y ∈ a, ¬p y

theorem FirstOf.find? {α : Type} {p : α → Prop} {q : α → Bool} {xs : List α} {x : α} (h : FirstOf p xs x)
    (e : ∀ y, q y = true ↔ p y) : xs.find? q = some x := by
  obtain ⟨a, b, h1, h2, h3⟩ := h
  refine List.find?_eq_some_iff_append.2 ⟨(e x).2 h2, a, b, h1, fun y hy => ?_⟩
  simpa [← e y] using h3 y hy

theorem State.emptyTrap_iff (s : State) (x : Src) : (x.t && s.srcEmpty x.cls x.n) = true ↔ s.emptyTrap x := by
  simp [State.emptyTrap]

/-- The first empty source with T set of a lone word traps (R21, R22). -/
theorem State.gate_empty {s : State} {g : Sig} {x : Src} (hp : s.me.pend = none) (hs : s.me.spec = none)
    (hm : g.handlerOnly = true → s.regs.hm = true) (h : FirstOf s.emptyTrap g.srcs x) :
    s.gate [(g, false)] = .trap { cause := cEMPTY, tval := srcTval g.a x } false := by
  have priv : ¬((g.handlerOnly && !s.regs.hm) = true) := by
    simpa using hm
  rw [State.gate_lone s g hp, if_neg priv, hs, h.find? s.emptyTrap_iff]
  rfl

/-- The sources of a pair in the order of R22: those of the C word, then those of the A word. -/
theorem unitSources_pair (g k : Sig) : unitSources [(g, false), (k, true)]
    = g.srcs.map (fun x => (false, g.a, x)) ++ k.srcs.map (fun x => (true, k.a, x)) := by
  simp [unitSources]

/-- A pair whose modes are allowed traps on its first empty source with T set. -/
theorem State.gate_pair_empty {s : State} {g k : Sig} {y : Bool × Bool × Src} (hp : s.me.pend = none) (hs : s.me.spec = none)
    (hm : g.handlerOnly = true → s.regs.hm = true) (hk : k.handlerOnly = false)
    (h : (unitSources [(g, false), (k, true)]).find? (fun x => x.2.2.t && s.srcEmpty x.2.2.cls x.2.2.n) = some y) :
    s.gate [(g, false), (k, true)] = .trap { cause := cEMPTY, tval := srcTval y.2.1 y.2.2 } y.1 := by
  have priv : [(g, false), (k, true)].find? (fun w => w.1.handlerOnly && !s.regs.hm) = none := by
    simpa [hk] using hm
  simp [State.gate, hp, priv, hs, h]

/-- The empty source of the C word comes first. -/
theorem find?_pair_first {s : State} {g k : Sig} {x : Src} (h : FirstOf s.emptyTrap g.srcs x) :
    (unitSources [(g, false), (k, true)]).find? (fun x => x.2.2.t && s.srcEmpty x.2.2.cls x.2.2.n) = some (false, g.a, x) := by
  rw [unitSources_pair, List.find?_append, List.find?_map, Function.comp_def, h.find? s.emptyTrap_iff]
  rfl

/-- The empty source of the A word comes where the C word has none. -/
theorem find?_pair_second {s : State} {g k : Sig} {x : Src} (hg : ∀ y ∈ g.srcs, ¬s.emptyTrap y)
    (h : FirstOf s.emptyTrap k.srcs x) :
    (unitSources [(g, false), (k, true)]).find? (fun x => x.2.2.t && s.srcEmpty x.2.2.cls x.2.2.n) = some (true, k.a, x) := by
  have none : g.srcs.find? (fun x => x.t && s.srcEmpty x.cls x.n) = none :=
    List.find?_eq_none.2 fun y hy => mt (s.emptyTrap_iff y).1 (hg y hy)
  rw [unitSources_pair, List.find?_append, List.find?_map, List.find?_map, Function.comp_def, Function.comp_def, none,
    h.find? s.emptyTrap_iff]
  rfl

/-- A pair whose checks end in a trap. -/
theorem runPair_gate_trap {s : State} {c a : Instr} {w : Why} {aw : Bool}
    (h : ({ s with unit := { mode := 1 } } : State).gate [(cSig c, false), (aSigOf a, true)] = .trap w aw) :
    runPair s c a = .next (({ s with unit := { mode := 1 } } : State).traps w aw) := by
  simp [runPair, h]

/-- The operands of a word are named in the order of R22. -/
theorem sources_pairwise_pos (i : Instr) : (Instr.sources i).Pairwise (fun x y => x.pos < y.pos) := by
  have h : decide (((Instr.sources i).map Src.pos).Pairwise (· < ·)) = true := by cases i <;> rfl
  exact List.pairwise_map.1 (of_decide_eq_true h)

/-- Settles O51: the first empty source is what `find?` of the gate meets. -/
theorem emptyTraps : Obligations.EmptyTraps := by
  refine ⟨fun g s f x hf hs hm h => ?_, fun c a s x hp hs hm => ⟨fun h => ?_, fun h0 h => ?_⟩, sources_pairwise_pos⟩
  · have gate := State.gate_empty (State.fresh_parts hf).2 hs hm h
    simpa only [srcTval_eq] using issue_gate_trap f hf gate
  · have gate := State.gate_pair_empty (s := { s with unit := { mode := 1 } }) hp hs hm rfl
      (find?_pair_first (g := cSig c) (k := aSigOf a) h)
    simpa only [srcTval_eq, cSig_a, aSigOf_a] using runPair_gate_trap gate
  · have gate := State.gate_pair_empty (s := { s with unit := { mode := 1 } }) hp hs hm rfl
      (find?_pair_second (g := cSig c) (k := aSigOf a) h0 h)
    simpa only [srcTval_eq, cSig_a, aSigOf_a] using runPair_gate_trap gate

/-! The checks of a lone word none of whose registers is bound to a port (R21, R23, R115, R205, R399). -/

/-- A word in handler mode only traps PRIV in task mode (R29). -/
theorem State.gate_priv {s : State} {g : Sig} (hp : s.me.pend = none) (h : g.handlerOnly = true) (hm : s.regs.hm = false) :
    s.gate [(g, false)] = .trap { cause := cPRIV, tval := wordTval g false } false := by
  rw [State.gate_lone s g hp, h, hm]
  rfl

/-- A word that stalls under an unresolved collective branch, or that names a port, waits for its resolution (R99, R258). -/
theorem State.gate_stalls {s : State} {g : Sig} (hp : s.me.pend = none) (hm : g.handlerOnly = true → s.regs.hm = true)
    (hs : s.me.spec ≠ none)
    (h : g.stalls = true ∨ unitPops s.regs [(g, false)] ≠ [] ∨ unitPushes s.regs [(g, false)] ≠ []) :
    s.gate [(g, false)] = .wait (some .cbr) := by
  have priv : ¬((g.handlerOnly && !s.regs.hm) = true) := by simpa using hm
  have stalls : (s.me.spec.isSome && (g.stalls || unitPops s.regs [(g, false)] != []
      || unitPushes s.regs [(g, false)] != [])) = true := by
    simpa [Option.isSome_iff_ne_none, hs, or_assoc] using h
  rw [State.gate_lone s g hp, if_neg priv, if_pos stalls]

/-- A word that is allowed in its mode, does not wait for a collective branch and has no empty source with T set meets the
checks of row 9 of R45, and then waits or executes. -/
theorem State.gate_row9 {s : State} {g : Sig} (hp : s.me.pend = none) (hm : g.handlerOnly = true → s.regs.hm = true)
    (hs : s.me.spec = none ∨ (g.stalls = false ∧ unitPops s.regs [(g, false)] = [] ∧ unitPushes s.regs [(g, false)] = []))
    (he : ∀ x ∈ g.srcs, ¬s.emptyTrap x) :
    s.gate [(g, false)] = match s.wordTrapOf (g, false) with
      | some y => .trap y false
      | none =>
        let pops := unitPops s.regs [(g, false)]
        let pushes := unitPushes s.regs [(g, false)]
        if s.gateReady [(g, false)] pops pushes then
          .go { s.latchAll pops with unit := { (s.latchAll pops).unit with late := none } }
        else .wait (s.portWait pops pushes) := by
  have priv : ¬((g.handlerOnly && !s.regs.hm) = true) := by simpa using hm
  have free : ¬((s.me.spec.isSome && (g.stalls || unitPops s.regs [(g, false)] != []
      || unitPushes s.regs [(g, false)] != [])) = true) := by
    rcases hs with h | ⟨h1, h2, h3⟩
    · simp [h]
    · simp [h1, h2, h3]
  have full : g.srcs.find? (fun x => x.t && s.srcEmpty x.cls x.n) = none :=
    List.find?_eq_none.2 fun y hy => mt (s.emptyTrap_iff y).1 (he y hy)
  rw [State.gate_lone s g hp, if_neg priv, if_neg free, full]

/-- No register of the word is bound to a port (R25). -/
def Sig.unbound (g : Sig) (r : Regs) : Prop :=
  (∀ x ∈ g.srcs, portNamed r x.cls x.n = none) ∧ ∀ d ∈ g.dsts, portNamed r d.cls d.n = none

/-- A word whose sources are bound to no port pops nothing. -/
theorem unitPops_unbound {r : Regs} {g : Sig} (h : ∀ x ∈ g.srcs, portNamed r x.cls x.n = none) :
    unitPops r [(g, false)] = [] := by
  rw [unitPops, unitSources_lone, List.filterMap_map]
  exact filterMap_none fun x hx => by simp [h x hx]

/-- A word whose destinations are bound to no port pushes nothing. -/
theorem unitPushes_unbound {r : Regs} {g : Sig} (h : ∀ d ∈ g.dsts, portNamed r d.cls d.n = none) :
    unitPushes r [(g, false)] = [] := by
  simp only [unitPushes, List.map_cons, List.map_nil, List.flatten_cons, List.flatten_nil, List.append_nil]
  exact filterMap_none fun d hd => by simp [h d hd]

/-- A source that is bound to no port reads empty where its register is empty (R20). -/
theorem State.srcEmpty_unbound {s : State} {cls n : Nat} (h : portNamed s.regs cls n = none) :
    s.srcEmpty cls n = s.regs.emptyAt cls n := by
  simp [State.srcEmpty, h]

/-- A word that may not stand here: repeated (R115) or in a DUAL task (R205). -/
def State.bars (s : State) (g : Sig) : Prop :=
  (s.regs.csrAt csrRC ≠ 0 ∧ g.notRepeated = true) ∨ (s.inDual = true ∧ g.notInDual = true)

theorem State.bars_iff (s : State) (g : Sig) :
    ((s.regs.rc != 0 && g.notRepeated) || (s.inDual && g.notInDual)) = true ↔ s.bars g := by
  have rc : s.regs.rc ≠ 0 ↔ s.regs.csrAt csrRC ≠ 0 := by simp [Regs.rc, BitVec.toNat_eq]
  rw [State.bars, ← rc]
  simp

/-- A source whose register is marked poisoned (R399). -/
def State.poisoned (s : State) (x : Src) : Prop :=
  portNamed s.regs x.cls x.n = none ∧ s.regs.poisonAt x.cls x.n = true

theorem State.poisoned_iff (s : State) (x : Src) :
    ((portNamed s.regs x.cls x.n).isNone && s.regs.poisonAt x.cls x.n) = true ↔ s.poisoned x := by
  simp [State.poisoned]

/-- A word that may not stand here traps ILLEGAL. -/
theorem State.wordTrapOf_bars {s : State} {g : Sig} (h : s.bars g) :
    s.wordTrapOf (g, false) = some { cause := cILLEGAL, tval := wordTval g false } := by
  simp only [State.wordTrapOf]
  rw [if_pos ((s.bars_iff g).2 h)]

/-- A poisoned source traps MCE. -/
theorem State.wordTrapOf_poisoned {s : State} {g : Sig} {x : Src} (hb : ¬s.bars g) (h : FirstOf s.poisoned g.srcs x) :
    s.wordTrapOf (g, false) = some { cause := cMCE, tval := srcTval g.a x, unit := 1 } := by
  simp only [State.wordTrapOf]
  rw [if_neg (mt (s.bars_iff g).1 hb), h.find? s.poisoned_iff]

/-- A word that may stand here and has no poisoned source meets the checks of its ports. -/
theorem State.wordTrapOf_ports {s : State} {g : Sig} (hb : ¬s.bars g) (h : ∀ x ∈ g.srcs, ¬s.poisoned x) :
    s.wordTrapOf (g, false)
      = s.portTrap ((unitPops s.regs [(g, false)]).map (·.2)) ((unitPushes s.regs [(g, false)]).map (·.2)) := by
  have clean : g.srcs.find? (fun x => (portNamed s.regs x.cls x.n).isNone && s.regs.poisonAt x.cls x.n) = none :=
    List.find?_eq_none.2 fun y hy => mt (s.poisoned_iff y).1 (h y hy)
  simp only [State.wordTrapOf]
  rw [if_neg (mt (s.bars_iff g).1 hb), clean]

section Unbound
variable {s : State} {g : Sig} (hp : s.me.pend = none) (hm : g.handlerOnly = true → s.regs.hm = true)
  (hs : s.me.spec = none ∨ g.stalls = false) (hu : g.unbound s.regs)
  (he : ∀ x ∈ g.srcs, ¬(x.t = true ∧ s.regs.emptyAt x.cls x.n = true))
include hp hm hs hu he

/-- What a word without ports meets at row 9 of R45 and after it. -/
theorem State.gate_unbound : s.gate [(g, false)] = match s.wordTrapOf (g, false) with
      | some y => .trap y false
      | none => if s.gateReady [(g, false)] [] [] then .go { s with unit := { s.unit with late := none } } else .wait none := by
  have pops := unitPops_unbound hu.1
  have pushes := unitPushes_unbound hu.2
  have full : ∀ x ∈ g.srcs, ¬s.emptyTrap x := fun x hx h => he x hx ⟨h.1, State.srcEmpty_unbound (hu.1 x hx) ▸ h.2⟩
  rw [State.gate_row9 hp hm (hs.imp_right fun h => ⟨h, pops, pushes⟩) full, pops, pushes]
  rfl

/-- A word that may not stand here (R115, R205). -/
theorem State.gate_bars (h : s.bars g) :
    s.gate [(g, false)] = .trap { cause := cILLEGAL, tval := wordTval g false } false := by
  rw [State.gate_unbound hp hm hs hu he, State.wordTrapOf_bars h]

/-- A word whose first poisoned source is `x` (R399). -/
theorem State.gate_poisoned {x : Src} (hb : ¬s.bars g) (h : FirstOf s.poisoned g.srcs x) :
    s.gate [(g, false)] = .trap { cause := cMCE, tval := srcTval g.a x, unit := 1 } false := by
  rw [State.gate_unbound hp hm hs hu he, State.wordTrapOf_poisoned hb h]

/-- A word that is not ready waits (R21, R23). -/
theorem State.gate_waits (hb : ¬s.bars g) (h : ∀ x ∈ g.srcs, ¬s.poisoned x) (hr : s.gateReady [(g, false)] [] [] = false) :
    s.gate [(g, false)] = .wait none := by
  rw [State.gate_unbound hp hm hs hu he, State.wordTrapOf_ports hb h, unitPops_unbound hu.1, unitPushes_unbound hu.2, hr]
  rfl

end Unbound

/-- A word waits for an empty source (R21). -/
theorem State.gateReady_source {s : State} {g : Sig} {x : Src} {pops : List (Nat × Nat)} {pushes : List (Bool × Nat)}
    (hx : x ∈ g.srcs) (hb : portNamed s.regs x.cls x.n = none) (h : s.regs.emptyAt x.cls x.n = true) :
    s.gateReady [(g, false)] pops pushes = false := by
  have no : (unitSources [(g, false)]).all (fun x => (portNamed s.regs x.2.2.cls x.2.2.n).isSome
      || !(s.regs.emptyAt x.2.2.cls x.2.2.n)) = false := by
    rw [unitSources_lone, List.all_map, List.all_eq_false]
    exact ⟨x, hx, by simp [hb, h]⟩
  simp [State.gateReady, no]

/-- A word waits for an empty destination (R23). -/
theorem State.gateReady_dest {s : State} {g : Sig} {d : Dst} {pops : List (Nat × Nat)} {pushes : List (Bool × Nat)}
    (hd : d ∈ g.dsts) (hc : d.cls ≤ 3) (hb : portNamed s.regs d.cls d.n = none) (h : s.regs.emptyAt d.cls d.n = true) :
    s.gateReady [(g, false)] pops pushes = false := by
  have no : [(g, false)].all (fun w => w.1.dsts.all (fun d =>
      decide (3 < d.cls) || (portNamed s.regs d.cls d.n).isSome || !(s.regs.emptyAt d.cls d.n))) = false := by
    simp only [List.all_cons, List.all_nil, Bool.and_true, List.all_eq_false]
    exact ⟨d, hd, by simp [hb, h, hc]⟩
  simp [State.gateReady, no]

/-- Settles O52: each check in the order of the gate. -/
theorem gateStops : Obligations.GateStops := by
  intro g s f hf
  have hp := (State.fresh_parts hf).2
  refine ⟨fun ⟨h, hm⟩ => issue_gate_trap f hf (State.gate_priv hp h hm), fun hn hs => ?_, fun hu hn hs he => ?_⟩
  · have hm : g.handlerOnly = true → s.regs.hm = true := fun h => by simpa using fun q => hn ⟨h, q⟩
    exact issue_gate_wait f hf (State.gate_stalls hp hm hs.1 (.inl hs.2))
  have hm : g.handlerOnly = true → s.regs.hm = true := fun h => by simpa using fun q => hn ⟨h, q⟩
  have hs' : s.me.spec = none ∨ g.stalls = false := by
    by_cases q : s.me.spec = none
    · exact .inl q
    · exact .inr (by simpa using fun h => hs ⟨q, h⟩)
  have he' : ∀ x ∈ g.srcs, ¬(x.t = true ∧ s.regs.emptyAt x.cls x.n = true) := fun x hx h => he ⟨x, hx, h⟩
  refine ⟨fun hb => issue_gate_trap f hf (State.gate_bars hp hm hs' hu he' hb), fun hb => ⟨?_, ?_, ?_⟩⟩
  · intro p x q hx hpx hfirst
    have first : FirstOf s.poisoned g.srcs x :=
      ⟨p, q, hx, ⟨hu.1 x (by simp [hx]), hpx⟩, fun y hy h => hfirst y hy h.2⟩
    simpa only [srcTval_eq] using issue_gate_trap f hf (State.gate_poisoned hp hm hs' hu he' hb first)
  · rintro hc ⟨x, hx, h⟩
    exact issue_gate_wait f hf (State.gate_waits hp hm hs' hu he' hb (fun y hy q => hc y hy q.2)
      (State.gateReady_source hx (hu.1 x hx) h))
  · rintro hc ⟨d, hd, hcls, h⟩
    exact issue_gate_wait f hf (State.gate_waits hp hm hs' hu he' hb (fun y hy q => hc y hy q.2)
      (State.gateReady_dest hd hcls (hu.2 d hd) h))

end Sys2Proof.Machine
end

section
/-! PROOF. The two words of a pair (R41 to R45). -/

namespace Sys2Proof.Machine

/-! The two words of a pair (R41 to R45). -/

/-- The checks that pass change only the unit. -/
theorem State.gate_go {s t : State} {ws : List (Sig × Bool)} (h : s.gate ws = .go t) : ∃ u, t = { s with unit := u } := by
  unfold State.gate at h
  dsimp only at h
  repeat' split at h
  all_goals cases h
  · exact ⟨_, rfl⟩
  all_goals exact ⟨_, State.latchAll_with _ _ s⟩

/-- The registers as they stood before the pair, but for the draws of the C word and for the flags, which the A word raises
anew (R41, R42). -/
theorem State.forA_regs (s2 s3 : State) :
    (s2.forA s3).regs = ({ s2.regs with rhi := s3.regs.rhi, rlo := s3.regs.rlo } : Regs).setCsr csrFFLAGS 0 :=
  State.regs_setRegs _ _

/-! The registers after a pair -/

/-- What is left of a register that two words may have written: the C word's value where it changed it, and else the A
word's. -/
def picked {α : Type} (old cw aw v : α) : Prop := (cw ≠ old → v = cw) ∧ (cw = old → v = aw)

theorem picked_ite {α : Type} [DecidableEq α] (old cw aw : α) : picked old cw aw (if old = cw then aw else cw) :=
  ⟨fun h => if_neg (Ne.symm h), fun h => if_pos h.symm⟩

theorem picked_tabMerge {α : Type} [DecidableEq α] (d : α) (old c a : Tab α) (k : Nat) :
    picked (tabGet d old k) (tabGet d c k) (tabGet d a k) (tabGet d (tabMerge d old c a) k) := by
  rw [tabGet_tabMerge]
  exact picked_ite _ _ _

/-- Register 0 of a class that has a fixed register 0, and its other registers. -/
theorem picked_fixed {α : Type} {n : Nat} {z old c a v : α} (h : picked old c a v) :
    picked (if n = 0 then z else old) (if n = 0 then z else c) (if n = 0 then z else a) (if n = 0 then z else v) := by
  by_cases e : n = 0
  · simp [e, picked]
  · simpa [e] using h

theorem Regs.mergePair_csrAt (old c a : Regs) {n : Nat} (h : n ≠ csrFFLAGS) :
    picked (old.csrAt n) (c.csrAt n) (a.csrAt n) ((Regs.mergePair old c a).csrAt n) := by
  rw [Regs.mergePair, Regs.csrAt_setCsr_ne _ h]
  exact picked_tabMerge 0 old.csr c.csr a.csr n

/-- The flags that either word of a pair raised are raised (R42). -/
theorem Regs.mergePair_fflags (old c a : Regs) :
    (Regs.mergePair old c a).csrAt csrFFLAGS = c.csrAt csrFFLAGS ||| a.csrAt csrFFLAGS :=
  Regs.csrAt_setCsr_same _ _ _

/-! How a pair goes on after its C word -/

section Pair
variable {s s2 s3 : State} {c a : Instr}
  (hg : ({ s with unit := { mode := 1 } } : State).gate [(cSig c, false), (aSigOf a, true)] = .go s2)
  (hc : exec c s2 = .next s3)
include hg hc

/-- A C word that neither retires nor sends an operation ends the pair. -/
theorem runPair_stops {t : State} (h : s.pairStops s3.unit.ended = some t) : runPair s c a = .next t := by
  simp [runPair, hg, hc, h]

/-- After a C word that retires in sequence. -/
theorem runPair_done (h : s3.unit.ended = .done) :
    runPair s c a = pushC s s3 (fun r => runA s s2 r a (fun s4 => .next (s.pairEnds s2 r s4 (cSig c).loops none))) := by
  simp [runPair, hg, hc, h, State.pairStops]

/-- After a C word that redirects. -/
theorem runPair_jump {t : Word} (h : s3.unit.ended = .jump t) :
    runPair s c a = pushC s s3 (fun r => runA s s2 r a (fun s4 => .next (s.pairEnds s2 r s4 (cSig c).loops (some t)))) := by
  simp [runPair, hg, hc, h, State.pairStops]

/-- After a C word that sends an operation. -/
theorem runPair_hold (h : s3.unit.ended = .hold) :
    runPair s c a = runA s s2 { s3 with unit := { s3.unit with pushes := [] } } a
      (fun s4 => s.tryPushes s4 (fun _ => .next (s3.holdsAfter s))) := by
  simp [runPair, hg, hc, h, State.pairStops]

end Pair

/-- The pushes of a C word are made before the A word; those of a word whose operation has been performed are made later. -/
theorem pushC_ok {s s3 r : State} {u : Word} {k : State → Out}
    (h : (s.performed = true ∧ r = s3)
      ∨ (s.performed = false ∧ s3.doPushes s.me.pend (pushPlace false) s3.unit.pushes = .ok u r)) :
    pushC s s3 k = k r := by
  rcases h with ⟨h, rfl⟩ | ⟨h, h2⟩
  · simp [pushC, h]
  · simp [pushC, h, h2]

/-- An A word that may not execute traps by itself. -/
theorem runA_late {s s2 r : State} {a : Instr} {k : State → Out} {w : Why} (h : r.unit.late = some w) :
    runA s s2 r a k = .next (s.traps w true) := by
  simp [runA, h]

/-- An A word that traps. -/
theorem runA_trap {s s2 r s4 : State} {a : Instr} {k : State → Out} {t : TrapRec} (hl : r.unit.late = none)
    (he : exec a (s2.forA r) = .next s4) (h : s4.unit.ended = .trap t) : runA s s2 r a k = .next (s.pairTrap t) := by
  simp [runA, hl, he, h, State.pairStops]

/-- An A word that retires. -/
theorem runA_done {s s2 r s4 : State} {a : Instr} {k : State → Out} (hl : r.unit.late = none)
    (he : exec a (s2.forA r) = .next s4) (h : s4.unit.ended = .done) : runA s s2 r a k = k s4 := by
  simp [runA, hl, he, h, State.pairStops]

/-- Where nothing has been performed no push is left for later: none is picked out, and all the others are. -/
theorem filter_late {α : Type} {b : Bool} (hb : b = false) (p : α → Bool) (l : List α) : l.filter (fun x => b && p x) = [] := by
  subst hb
  exact List.filter_eq_nil_iff.2 fun _ _ => Bool.false_ne_true

theorem filter_prompt {α : Type} {b : Bool} (hb : b = false) (p : α → Bool) (l : List α) : l.filter (fun x => !(b && p x)) = l := by
  subst hb
  exact List.filter_eq_self.2 fun _ _ => rfl

/-- The pushes of a unit that has sent no operation are made before it ends. -/
theorem State.makePushes_ok {s s4 s5 : State} {v : Word} {aw : Bool} {k : State → State} (hp : s.performed = false)
    (h : s4.doPushes s.me.pend (pushPlace aw) s4.unit.pushes = .ok v s5) :
    s.makePushes s4 aw k = k (if s.me.pend.isSome then s5.setMe { s5.me with pend := none } else s5) := by
  simp only [State.makePushes, filter_late hp, filter_prompt hp, List.foldl_nil, h]
  simp only [hp, Bool.not_false, Bool.and_true]

/-- Settles O53: the two words run one after the other on the registers of `s`, and `mergePair` picks between what they left. -/
theorem pairReadsOld : Obligations.PairReadsOld := by
  intro s s2 s3 r s4 s5 c a u v hg
  have old : s2.regs = s.regs := by
    obtain ⟨u, rfl⟩ := State.gate_go hg
    rfl
  have ends : ∀ j, runPair s c a = .next (s.pairEnds s2 r s4 (cSig c).loops j) →
      (s.performed = false →
        (s4.setRegs (s2.regs.mergePair r.regs s4.regs)).doPushes s.me.pend (pushPlace true) s4.unit.pushes = .ok v s5 →
        runPair s c a = .next (s.endUnit (if s.me.pend.isSome then s5.setMe { s5.me with pend := none } else s5).doPops
          (cSig c).loops j))
      ∧ (s.performed = true → runPair s c a = .next (s.makePushes (s4.setRegs (s2.regs.mergePair r.regs s4.regs)) true
          (fun t => s.endUnit t.doPops (cSig c).loops j))) := fun j h =>
    ⟨fun hp hd => h.trans (congrArg _ (State.makePushes_ok hp hd)), fun _ => h⟩
  refine ⟨old, ⟨?_, ?_⟩, ?_, ?_, ?_, ?_, ?_, ?_, ?_, ?_, ?_⟩
  · rw [State.forA_regs, old]
    rfl
  · intro k hk
    rw [State.forA_regs, old, Regs.csrAt_setCsr_ne _ hk]
    rfl
  · intro t hc ht
    exact runPair_stops hg hc (by rw [ht]; rfl)
  · rintro w ⟨hc, he, hr⟩ hl
    rw [runPair_done hg hc he, pushC_ok hr, runA_late hl]
  · rintro t ⟨hc, he, hr⟩ hl ha ht
    rw [runPair_done hg hc he, pushC_ok hr, runA_trap hl ha ht]
  · rintro ⟨⟨hc, he, hr⟩, hl, ha, hd⟩
    exact ends none (by rw [runPair_done hg hc he, pushC_ok hr, runA_done hl ha hd])
  · rintro t ⟨⟨hc, he, hr⟩, hl, ha, hd⟩
    exact ends (some t) (by rw [runPair_jump hg hc he, pushC_ok hr, runA_done hl ha hd])
  · rintro ⟨hc, he⟩ hl ha
    refine ⟨fun t ht => ?_, fun hd => ⟨fun y hy => ?_, fun hy => ?_⟩⟩
    · exact (runPair_hold hg hc he).trans (runA_trap hl ha ht)
    all_goals
      refine ((runPair_hold hg hc he).trans (runA_done hl ha hd)).trans ?_
      rw [State.tryPushes, hy]
  · rintro w ⟨hc, he⟩ hl
    exact (runPair_hold hg hc he).trans (runA_late hl)
  · intro n
    rw [← old]
    exact ⟨picked_fixed (picked_tabMerge _ _ _ _ _), picked_tabMerge _ _ _ _ _, picked_tabMerge _ _ _ _ _,
      picked_fixed (picked_tabMerge _ _ _ _ _), picked_tabMerge _ _ _ _ _, picked_tabMerge _ _ _ _ _,
      picked_tabMerge _ _ _ _ _, Regs.mergePair_csrAt _ _ _⟩
  · exact Regs.mergePair_fflags _ _ _

end Sys2Proof.Machine
end

section
/-! PROOF. CSR access and its checks (R30, R33, R116). -/

namespace Sys2Proof.Machine

/-! CSR access and its checks (R30, R33, R116). -/

/-- What a CSR form `i` of CSR `k` does: `new` gives the value that it writes, if there is one, and X `d` takes the value
before the unit. -/
def CsrForm (i : Instr) (d : BitVec 5) (k : Nat) (new : State → Option Word) : Prop :=
  let opens := fun (s : State) (v : Word) => csrTrap s.regs.hm k (new s) = none ∧ new s = some v
  let put := fun (s : State) (v : Word) =>
    (s.writeX d (s.readCsr k)).writeQb (k - csrQB0) v (natW ((cSig i).word)) (natW (v.toNat % 2 ^ 32))
  DoneIf i (cSig i) (fun s => csrTrap s.regs.hm k (new s) = none ∧ new s = none) (fun s => s.writeX d (s.readCsr k))
  ∧ (k ≠ csrTSTAT → ¬(csrQB0 ≤ k ∧ k < csrQB0 + 8) → ∀ v, DoneIf i (cSig i)
      (fun s => opens s v) (fun s => (s.writeX d (s.readCsr k)).setCsr k v))
  ∧ (k = csrTSTAT → ∀ v, DoneIf i (cSig i) (fun s => opens s v)
      (fun s => (s.writeX d (s.readCsr k)).setCsr csrTSTAT
        (bit1 64 s.regs.hm + 2 * bit1 64 (v.getLsbD 1) + 4 * bit1 64 (v.getLsbD 2))))
  ∧ (csrQB0 ≤ k → k < csrQB0 + 8 →
      (∀ v s1, DoneIf i (cSig i) (fun s => opens s v ∧ s.me.spec = none ∧ put s v = .ok s1) (fun _ => s1))
      ∧ (∀ v y, TrapIf i (cSig i) (fun s => opens s v ∧ s.me.spec = none ∧ put s v = .error y) (fun _ => y))
      ∧ ∀ v s, s.ready (cSig i) = true → opens s v → s.me.spec ≠ none → exec i s = .next (s.waitsOn (some .cbr)))
  ∧ ∀ q, TrapIf i (cSig i) (fun s => csrTrap s.regs.hm k (new s) = some q)
      (fun _ => { cause := q, tval := natW ((cSig i).word) })

/-- What a CSR form means once its operands are read. -/
def csrMeaning (g : Sig) (d : BitVec 5) (c : BitVec 11) (new : State → Word → Option Word) (s : State) : Res :=
  match csrTrap s.regs.hm c.toNat (new s (s.readCsr c.toNat)) with
  | some k => .trap { cause := k, tval := wordTval g false }
  | none =>
    match new s (s.readCsr c.toNat) with
    | none => .done (s.putX d.toNat (s.readCsr c.toNat))
    | some w =>
      if s.me.spec.isSome ∧ csrQB0 ≤ c.toNat ∧ c.toNat < csrQB0 + 8 then .blocked .cbr
      else
        match (s.putX d.toNat (s.readCsr c.toNat)).writeCsr c.toNat w (wordTval g false) with
        | .ok s2 => .done s2
        | .error y => .trap y

theorem csrOp_eq (g : Sig) (d : BitVec 5) (c : BitVec 11) (new : State → Word → Option Word) (s : State) :
    csrOp g d c new s = issue g s (csrMeaning g d c new) := rfl

theorem tstatOf_eq (hm phm step : Bool) : tstatOf hm phm step = bit1 64 hm + 2 * bit1 64 phm + 4 * bit1 64 step := by
  cases hm <;> cases phm <;> cases step <;> rfl

/-- A write of an X register leaves the mode bit. -/
@[simp] theorem State.hm_writeX (s : State) (d : BitVec 5) (v : Word) : (s.writeX d v).regs.hm = s.regs.hm := by
  simp only [State.writeX, State.regs_setRegs, Regs.setX]
  split <;> rfl

/-- A write of TSTAT keeps the mode bit (R29). -/
theorem State.writeCsr_tstat (s : State) (v word : Word) : s.writeCsr csrTSTAT v word
    = .ok (s.setCsr csrTSTAT (bit1 64 s.regs.hm + 2 * bit1 64 (v.getLsbD 1) + 4 * bit1 64 (v.getLsbD 2))) := by
  rw [← tstatOf_eq]
  rfl

/-- QB0 to QB7 are written by `writeQb` (R27, R244). -/
theorem State.writeCsr_qb (s : State) {k : Nat} (h : csrQB0 ≤ k) (h8 : k < csrQB0 + 8) (v word : Word) :
    s.writeCsr k v word = s.writeQb (k - csrQB0) v word (natW (v.toNat % 2 ^ 32)) := by
  have t : k ≠ csrTSTAT := by simp only [csrQB0, csrTSTAT] at *; omega
  simp [State.writeCsr, t, h, h8, fld]

/-- Any other CSR takes the value. -/
theorem State.writeCsr_plain (s : State) {k : Nat} (t : k ≠ csrTSTAT) (h : ¬(csrQB0 ≤ k ∧ k < csrQB0 + 8)) (v word : Word) :
    s.writeCsr k v word = .ok (s.setCsr k v) := by
  simp [State.writeCsr, t, h]

/-- A queue register that may be bound changes nothing but its CSR. -/
theorem State.writeQb_ok {s t : State} {n : Nat} {v word bad : Word} (h : s.writeQb n v word bad = .ok t) :
    t = s.setCsr (csrQB0 + n) v := by
  unfold State.writeQb at h
  dsimp only at h
  repeat' split at h
  all_goals cases h
  rfl

section Meaning
variable {s : State} {g : Sig} {d : BitVec 5} {c : BitVec 11} {new : State → Word → Option Word} {v : Word}

/-- A form that its checks refuse. -/
theorem csrMeaning_trap {q : BitVec 6} (h : csrTrap s.regs.hm c.toNat (new s (s.readCsr c.toNat)) = some q) :
    csrMeaning g d c new s = .trap { cause := q, tval := wordTval g false } := by
  simp [csrMeaning, h]

/-- A form without a new value only reads. -/
theorem csrMeaning_read (h : csrTrap s.regs.hm c.toNat (new s (s.readCsr c.toNat)) = none)
    (hn : new s (s.readCsr c.toNat) = none) : csrMeaning g d c new s = .done (s.putX d.toNat (s.readCsr c.toNat)) := by
  simp only [csrMeaning, h]
  simp only [hn]

/-- A form with a new value writes its CSR, but for a queue register under an unresolved collective branch (R99). -/
theorem csrMeaning_write (h : csrTrap s.regs.hm c.toNat (new s (s.readCsr c.toNat)) = none)
    (hn : new s (s.readCsr c.toNat) = some v) (hs : ¬(s.me.spec.isSome ∧ csrQB0 ≤ c.toNat ∧ c.toNat < csrQB0 + 8)) :
    csrMeaning g d c new s = match (s.putX d.toNat (s.readCsr c.toNat)).writeCsr c.toNat v (wordTval g false) with
      | .ok s2 => .done s2
      | .error y => .trap y := by
  simp only [csrMeaning, h]
  simp only [hn, if_neg hs]

theorem csrMeaning_blocked (h : csrTrap s.regs.hm c.toNat (new s (s.readCsr c.toNat)) = none)
    (hn : new s (s.readCsr c.toNat) = some v) (hs : s.me.spec.isSome ∧ csrQB0 ≤ c.toNat ∧ c.toNat < csrQB0 + 8) :
    csrMeaning g d c new s = .blocked .cbr := by
  simp only [csrMeaning, h]
  simp only [hn, if_pos hs]

end Meaning

/-- A form whose meaning is `csrOp` does what `CsrForm` says. -/
theorem csrForm_of_csrOp {i : Instr} {d : BitVec 5} {c : BitVec 11} {new : State → Word → Option Word}
    {val : State → Option Word} (hi : ∀ s, exec i s = csrOp (cSig i) d c new s) (hd : ⟨0, d.toNat⟩ ∈ (cSig i).dsts)
    (hv : ∀ s, s.unit = {} → new s (s.readCsr c.toNat) = val s) : CsrForm i d c.toNat val := by
  have reads : ∀ s : State, s.ready (cSig i) = true → new s (s.readCsr c.toNat) = val s := fun s h => hv s (State.ready_parts h).1
  have put : ∀ s : State, s.ready (cSig i) = true → s.putX d.toNat (s.readCsr c.toNat) = s.writeX d (s.readCsr c.toNat) :=
    fun s h => State.putX_dst _ h hd
  have whole : ∀ s : State, s.ready (cSig i) = true → ∀ a v, ((s.writeX d (s.readCsr c.toNat)).setCsr a v).unit = {} :=
    fun s h _ _ => (State.ready_parts h).1
  refine ⟨?_, ?_, ?_, ?_, ?_⟩
  · rintro s h ⟨ht, hn⟩
    rw [← reads s h] at ht hn
    rw [hi, csrOp_eq]
    exact issue_done h ((csrMeaning_read ht hn).trans (by rw [put s h])) (State.ready_parts h).1
  · rintro t q v s h ⟨ht, hn⟩
    rw [← reads s h] at ht hn
    rw [hi, csrOp_eq]
    refine issue_done h ?_ (whole s h _ _)
    rw [csrMeaning_write ht hn (fun p => q p.2), put s h, State.writeCsr_plain _ t q]
  · rintro t v s h ⟨ht, hn⟩
    rw [← reads s h] at ht hn
    rw [hi, csrOp_eq]
    refine issue_done h ?_ (whole s h _ _)
    have q : ¬(csrQB0 ≤ c.toNat ∧ c.toNat < csrQB0 + 8) := by simp [t, csrQB0, csrTSTAT]
    rw [csrMeaning_write ht hn (fun p => q p.2), put s h, t, State.writeCsr_tstat, State.hm_writeX]
  · intro q0 q8
    refine ⟨?_, ?_, ?_⟩
    · rintro v s1 s h ⟨⟨ht, hn⟩, hs, hp⟩
      dsimp only at hp
      rw [← reads s h] at ht hn
      rw [hi, csrOp_eq]
      refine issue_done h ?_ ?_
      · rw [csrMeaning_write ht hn (by simp [hs]), put s h, State.writeCsr_qb _ q0 q8, wordTval_false, hp]
      · rw [State.writeQb_ok hp]
        exact whole s h _ _
    · rintro v y s h ⟨⟨ht, hn⟩, hs, hp⟩
      dsimp only at hp
      rw [← reads s h] at ht hn
      rw [hi, csrOp_eq]
      refine issue_trap h ?_
      rw [csrMeaning_write ht hn (by simp [hs]), put s h, State.writeCsr_qb _ q0 q8, wordTval_false, hp]
    · rintro v s h ⟨ht, hn⟩ hs
      rw [← reads s h] at ht hn
      rw [hi, csrOp_eq, issue_ready _ h, csrMeaning_blocked ht hn ⟨Option.isSome_iff_ne_none.2 hs, q0, q8⟩]
      rfl
  · rintro q s h ht
    rw [← reads s h] at ht
    rw [hi, csrOp_eq]
    exact issue_trap h (csrMeaning_trap ht)

/-- The checks of a CSR access in their order (R33, R30). -/
theorem csrTrap_order (hm : Bool) (a : Nat) (v : Word) :
    (hm = false → 0x100 ≤ a → a < 0x200 → csrTrap hm a none = some cPRIV ∧ csrTrap hm a (some v) = some cPRIV)
    ∧ ((hm = true ∨ a < 0x100 ∨ 0x200 ≤ a) →
      (csrUse a = none → csrTrap hm a none = some cRESERVED ∧ csrTrap hm a (some v) = some cRESERVED)
      ∧ (csrUse a ≠ none → csrTrap hm a none = none)
      ∧ (csrUse a = some .rwHandler → hm = false → csrTrap hm a (some v) = some cPRIV)
      ∧ (csrUse a = some .ro ∨ csrUse a = some .handlerRo → csrTrap hm a (some v) = some cILLEGAL)
      ∧ (csrUse a = some .rw ∨ csrUse a = some .handler ∨ (csrUse a = some .rwHandler ∧ hm = true) →
          csrTrap hm a (some v) = if csrReserved a v.toNat then some cRESERVED else none)) := by
  refine ⟨fun h h1 h2 => ?_, fun h => ?_⟩
  · have priv : (!hm && decide (0x100 ≤ a ∧ a ≤ 0x1FF)) = true := by simp [h]; omega
    simp only [csrTrap, if_pos priv, and_self]
  · have pass : ¬((!hm && decide (0x100 ≤ a ∧ a ≤ 0x1FF)) = true) := by
      rcases h with h | h | h <;> simp [h]; all_goals omega
    simp only [csrTrap, if_neg pass]
    refine ⟨fun h => by simp [h], fun h => ?_, fun h hm0 => by simp [h, hm0], fun h => ?_, fun h => ?_⟩
    · obtain ⟨u, hu⟩ := Option.ne_none_iff_exists'.1 h
      simp [hu]
    · rcases h with h | h <;> simp [h]
    · rcases h with h | h | ⟨h, h1⟩
      · simp [h]
      · simp [h]
      · simp [h, h1]

/-- Settles O20: each form is `csrOp` with its new value. -/
theorem csrForms : Obligations.CsrForms := by
  refine ⟨fun sm l d a c => ⟨?_, ?_, ?_, ?_⟩, fun hm a v _ => csrTrap_order hm a v⟩
  · exact csrForm_of_csrOp (fun s => exec_csrr sm l d c s) (List.mem_singleton.2 rfl) (fun _ _ => rfl)
  · refine csrForm_of_csrOp (fun s => exec_csrw sm l d a c s) (List.mem_singleton.2 rfl) (fun s h => ?_)
    rw [State.rx_plain _ _ h]
  · refine csrForm_of_csrOp (fun s => exec_csrs sm l d a c s) (List.mem_singleton.2 rfl) (fun s h => ?_)
    rw [State.rx_plain _ _ h]
  · refine csrForm_of_csrOp (fun s => exec_csrc sm l d a c s) (List.mem_singleton.2 rfl) (fun s h => ?_)
    rw [State.rx_plain _ _ h]

end Sys2Proof.Machine
end

section
/-! PROOF. Queue registers of a lone word: the checks of their ports (R25, R26). -/

namespace Sys2Proof

/-- A table read at another key than the one written. -/
theorem tabFind_tabSet_ne {α : Type} {k j : Nat} (h : j ≠ k) (v : α) (t : Tab α) : tabFind (tabSet k v t) j = tabFind t j := by
  induction t with
  | nil => simp [tabSet, tabFind, Ne.symm h]
  | cons p t ih =>
    obtain ⟨i, u⟩ := p
    simp only [tabSet]
    split
    · rename_i e
      subst e
      simp [tabFind, Ne.symm h]
    · split
      · simp [tabFind, Ne.symm h]
      · simp only [tabFind]
        rw [ih]

/-- An entry that is there is what the table reads. -/
theorem tabGet_of_tabFind {α : Type} {d v : α} {t : Tab α} {k : Nat} (h : tabFind t k = some v) : tabGet d t k = v := by
  induction t with
  | nil => exact absurd h (by simp [tabFind])
  | cons p t ih =>
    obtain ⟨j, u⟩ := p
    simp only [tabFind] at h
    rw [tabGet]
    split at h
    · rename_i e
      rw [if_pos e]
      exact Option.some.inj h
    · rename_i e
      rw [if_neg e]
      exact ih h

namespace Machine

/-- The state with another unit under way. -/
def State.withUnit (s : State) (u : IUnit) : State := { s with unit := u }

@[simp] theorem State.withUnit_unit (s : State) (u : IUnit) : (s.withUnit u).unit = u := rfl
@[simp] theorem State.withUnit_cur (s : State) (u : IUnit) : (s.withUnit u).cur = s.cur := rfl
@[simp] theorem State.withUnit_me (s : State) (u : IUnit) : (s.withUnit u).me = s.me := rfl
@[simp] theorem State.withUnit_regs (s : State) (u : IUnit) : (s.withUnit u).regs = s.regs := rfl
@[simp] theorem State.withUnit_grove (s : State) (u : IUnit) (g : Nat) : (s.withUnit u).grove g = s.grove g := rfl

/-! Queue registers of a lone word (R25, R26): a word with one X source and one X destination, that writes its destination at
retirement. -/

/-- The signature of such a word. -/
abbrev xxSig (n k : Nat) (t : Bool) : Sig := aSig [⟨1, 0, n, t⟩] [⟨0, k⟩] false true

section XX
variable {r : Regs} {n k : Nat} {t : Bool}

theorem unitPops_xx : unitPops r [(xxSig n k t, false)] = (r.boundTo n).toList.map (fun p => (1, p)) := by
  cases h : r.boundTo n <;> simp [unitPops, unitSources, portNamed, aSig, h]

theorem unitPushes_xx : unitPushes r [(xxSig n k t, false)] = (r.boundTo k).toList.map (fun p => (false, p)) := by
  cases h : r.boundTo k <;> simp [unitPushes, portNamed, aSig, h]

end XX

/-- A context may pop a port, or push to it (R242, R316). -/
def State.usesPort (s : State) (p : Nat) (pops : Bool) : Bool :=
  s.mayUse s.cur (portOf s.self p) && (if pops then (portOf s.self p).pops else (portOf s.self p).pushes)

/-- The trap of a port that may not be used so. -/
def portWhy (p : Nat) : Why := { cause := cPROT, tval := natW p }

theorem State.portTrap_pop {s : State} {p : Nat} (qs : List Nat) (h : s.usesPort p true = false) :
    s.portTrap [p] qs = some (portWhy p) := by
  simp only [State.usesPort, if_true] at h
  simp only [State.portTrap, List.find?_cons, h, Bool.not_false]
  rfl

theorem State.portTrap_pop_ok {s : State} {p : Nat} (h : s.usesPort p true = true) : s.portTrap [p] [] = none := by
  simp only [State.usesPort, if_true] at h
  simp only [State.portTrap, List.find?_cons, List.find?_nil, h, Bool.not_true]
  rfl

theorem State.portTrap_push {s : State} {p : Nat} (h : s.usesPort p false = false) :
    s.portTrap [] [p] = some (portWhy p) := by
  simp only [State.usesPort, Bool.false_eq_true, if_false] at h
  simp only [State.portTrap, List.find?_cons, List.find?_nil, h, Bool.not_false]
  rfl

theorem State.portTrap_push_ok {s : State} {p : Nat} (h : s.usesPort p false = true) : s.portTrap [] [p] = none := by
  simp only [State.usesPort, Bool.false_eq_true, if_false] at h
  simp only [State.portTrap, List.find?_cons, List.find?_nil, h, Bool.not_true]
  rfl

section Gate
variable {s : State} {n k p : Nat} {t : Bool} (hp : s.me.pend = none)
include hp

/-- Under an unresolved collective branch a word with a queue register waits (R99). -/
theorem State.gate_xx_spec (hs : s.me.spec ≠ none) (h : s.regs.boundTo n = some p ∨ s.regs.boundTo k = some p) :
    s.gate [(xxSig n k t, false)] = .wait (some .cbr) := by
  refine State.gate_stalls hp (by simp [aSig]) hs (.inr ?_)
  rw [unitPops_xx, unitPushes_xx]
  exact h.imp (fun h => by simp [h]) (fun h => by simp [h])

variable (hs : s.me.spec = none)
include hs

/-- A word with no empty source that traps and no poisoned one meets the checks of its ports, and then waits or executes. -/
theorem State.gate_xx (he : ¬s.emptyTrap ⟨1, 0, n, t⟩) (hpo : ¬s.poisoned ⟨1, 0, n, t⟩) :
    s.gate [(xxSig n k t, false)] =
      match s.portTrap (s.regs.boundTo n).toList (s.regs.boundTo k).toList with
      | some y => .trap y false
      | none =>
        let pops := (s.regs.boundTo n).toList.map (fun p => (1, p))
        let pushes := (s.regs.boundTo k).toList.map (fun p => (false, p))
        if s.gateReady [(xxSig n k t, false)] pops pushes then
          .go { s with unit := { (s.latchAll pops).unit with late := none } }
        else .wait (s.portWait pops pushes) := by
  have bars : ¬s.bars (xxSig n k t) := by simp [State.bars, aSig]
  rw [State.gate_row9 hp (by simp [aSig]) (.inl hs) (by simpa [aSig] using he),
    State.wordTrapOf_ports bars (by simpa [aSig] using hpo), unitPops_xx, unitPushes_xx]
  simp only [List.map_map, Function.comp_def, List.map_id', State.latchAll_with] <;> rfl

end Gate

/-! A source bound to a port -/

section Pop
variable {s : State} {n k p : Nat} {t : Bool} (hp : s.me.pend = none) (hs : s.me.spec = none) (hb : s.regs.boundTo n = some p)
include hb

theorem State.emptyTrap_bound : s.emptyTrap ⟨1, 0, n, t⟩ ↔ t = true ∧ s.openEntries s.cur p = [] := by
  simp [State.emptyTrap, State.srcEmpty, portNamed, hb]

theorem State.not_poisoned_bound : ¬s.poisoned ⟨1, 0, n, t⟩ := by
  simp [State.poisoned, portNamed, hb]

include hp hs

/-- A port that may not be popped (R242, R317). -/
theorem State.gate_pop_prot (he : t = false ∨ s.openEntries s.cur p ≠ []) (hu : s.usesPort p true = false) :
    s.gate [(xxSig n k t, false)] = .trap (portWhy p) false := by
  have full : ¬s.emptyTrap ⟨1, 0, n, t⟩ := by
    rw [State.emptyTrap_bound hb]
    rintro ⟨h1, h2⟩
    simp [h1, h2] at he
  rw [State.gate_xx hp hs full (State.not_poisoned_bound hb), hb, Option.toList_some, State.portTrap_pop _ hu]

variable (hd : s.regs.writable ⟨0, k⟩ = true) (hu : s.usesPort p true = true)
include hd hu

/-- A port without an entry is waited for (R21, R25). -/
theorem State.gate_pop_waits (ht : t = false) (he : s.openEntries s.cur p = []) :
    s.gate [(xxSig n k t, false)] = .wait (some (.pop p)) := by
  have full : ¬s.emptyTrap ⟨1, 0, n, t⟩ := by simp [State.emptyTrap_bound hb, ht]
  have few : s.tooFew [(1, p)] p = true := by simp [State.tooFew, he]
  rw [State.gate_xx hp hs full (State.not_poisoned_bound hb), hb, Regs.writable_x hd, Option.toList_some, Option.toList_none,
    State.portTrap_pop_ok hu]
  simp [State.gateReady, few, State.portWait]

/-- The first entry that the word may take is read (R26). -/
theorem State.gate_pop_go {e : Nat} {w : Word} {rest : List (Nat × Word)} (hun : s.unit = {}) (ha : s.acquiring = false)
    (he : s.openEntries s.cur p = (e, w) :: rest) : s.gate [(xxSig n k t, false)]
      = .go (s.withUnit { latched := [(1, w)], pops := [{ port := p, n := e }] }) := by
  have full : ¬s.emptyTrap ⟨1, 0, n, t⟩ := by simp [State.emptyTrap_bound hb, he]
  have enough : s.tooFew [(1, p)] p = false := by simp [State.tooFew, he]
  have pass : s.gateReady [(xxSig n k t, false)] [(1, p)] [] = true := by
    have hk : portNamed s.regs 0 k = none ∧ s.regs.emptyAt 0 k = false := by simpa [Regs.writable] using hd
    simp [State.gateReady, unitSources, aSig, portNamed, hb, enough, ha, hk.2]
  rw [State.gate_xx hp hs full (State.not_poisoned_bound hb), hb, Regs.writable_x hd, Option.toList_some, Option.toList_none,
    State.portTrap_pop_ok hu]
  simp only [List.map_cons, List.map_nil, pass, if_true, State.latchAll, he, hun, List.filter_nil, List.length_nil]
  rfl

end Pop

/-! A destination bound to a port -/

theorem Regs.boundTo_plain {r : Regs} {n : Nat} (h : r.plain 0 n = true) : r.boundTo n = none := (Regs.plain_parts h).1

section Push
variable {s : State} {n k p : Nat} {t : Bool} (hp : s.me.pend = none) (hs : s.me.spec = none) (hb : s.regs.boundTo k = some p)
  (ha : s.regs.plain 0 n = true)
include ha

theorem State.not_emptyTrap_plain : ¬s.emptyTrap ⟨1, 0, n, t⟩ := by
  obtain ⟨h1, h2, -⟩ := Regs.plain_parts ha
  simp [State.emptyTrap, State.srcEmpty, h1, h2]

theorem State.not_poisoned_plain : ¬s.poisoned ⟨1, 0, n, t⟩ := by
  simp [State.poisoned, (Regs.plain_parts ha).2.2]

include hp hs hb

/-- A port to which the context may not push (R242, R317). -/
theorem State.gate_push_prot (hu : s.usesPort p false = false) :
    s.gate [(xxSig n k t, false)] = .trap (portWhy p) false := by
  rw [State.gate_xx hp hs (State.not_emptyTrap_plain ha) (State.not_poisoned_plain ha), hb, Regs.boundTo_plain ha,
    Option.toList_some, Option.toList_none, State.portTrap_push hu]

variable (hu : s.usesPort p false = true)
include hu

/-- A port without room is waited for (R25). -/
theorem State.gate_push_waits (hr : s.roomFor [p] p = false) :
    s.gate [(xxSig n k t, false)] = .wait (some (.push p)) := by
  rw [State.gate_xx hp hs (State.not_emptyTrap_plain ha) (State.not_poisoned_plain ha), hb, Regs.boundTo_plain ha,
    Option.toList_some, Option.toList_none, State.portTrap_push_ok hu]
  simp [State.gateReady, State.portWait, hr]

/-- A port with room lets the word execute. -/
theorem State.gate_push_go (hun : s.unit = {}) (hq : s.acquiring = false) (hr : s.roomFor [p] p = true) :
    s.gate [(xxSig n k t, false)] = .go s := by
  obtain ⟨h1, h2, -⟩ := Regs.plain_parts ha
  have pass : s.gateReady [(xxSig n k t, false)] [] [(false, p)] = true := by
    simp [State.gateReady, unitSources, aSig, portNamed, hb, hq, hr, h2]
  rw [State.gate_xx hp hs (State.not_emptyTrap_plain ha) (State.not_poisoned_plain ha), hb, Regs.boundTo_plain ha,
    Option.toList_some, Option.toList_none, State.portTrap_push_ok hu]
  simp only [List.map_cons, List.map_nil, pass, if_true, State.latchAll, hun]
  exact congrArg Gate.go (State.unit_eta hun)

end Push

end Machine
end Sys2Proof
end

section
/-! PROOF. Queue registers of a lone word: what it pops and pushes (R25, R26). -/

namespace Sys2Proof

/-- The signed reading of a bit vector by its number is the library's. -/
theorem sextInt_toNat {n : Nat} (hn : 0 < n) (v : BitVec n) : sextInt n v.toNat = v.toInt := by
  have two : 2 ^ n = 2 * 2 ^ (n - 1) := by
    rw [Nat.mul_comm, Nat.two_pow_pred_mul_two hn]
  have lt := v.isLt
  rw [sextInt, Nat.mod_eq_of_lt lt, BitVec.toInt_eq_toNat_cond]
  by_cases low : v.toNat < 2 ^ (n - 1)
  · rw [if_pos low, if_pos (by omega)]
  · rw [if_neg low, if_neg (by omega)]

/-- SExt of R98 is the library's sign extension. -/
theorem sextW_toNat {n : Nat} (hn : 0 < n) (v : BitVec n) : sextW n v.toNat = v.signExtend 64 := by
  rw [sextW, wordOf, sextInt_toNat hn]
  rfl

namespace Machine

/-- A 64-bit addition (R100, R103). -/
theorem aluW_add (a b : Word) : aluW false aluAdd a b = a + b := by
  refine BitVec.eq_of_toNat_eq ?_
  simp [aluW, aluAdd, natW]

theorem exec_addi_eq (sm : Bool) (d a : BitVec 5) (t : Bool) (m : BitVec 13) (s : State) :
    exec (.addi sm d a t m) s = issue (xxSig a.toNat d.toNat t) s
      (fun q => .done (q.putX d.toNat (q.rx 1 a.toNat + m.signExtend 64))) := by
  simp only [← aluW_add, ← sextW_toNat (by decide : 0 < 13) m]
  rfl

/-! How a word with queue registers retires -/

/-- A unit that has staged no push makes none. -/
theorem State.makePushes_nil {s s1 : State} {aw : Bool} {k : State → State} (hp : s.me.pend = none) (hu : s1.unit.pushes = []) :
    s.makePushes s1 aw k = k s1 := by
  have e : ({ s1 with unit := { s1.unit with pushes := [] } } : State) = s1 := by rw [← hu]
  simp [State.makePushes, hu, State.doPushes, hp, e]

/-- The place in program order of the current context's unit is taken. -/
def State.counted (s : State) : State := s.setMe { s.me with nseq := s.me.nseq + 1 }

@[simp] theorem State.counted_unit (s : State) : s.counted.unit = s.unit := rfl
@[simp] theorem State.counted_cur (s : State) : s.counted.cur = s.cur := rfl
@[simp] theorem State.counted_grove (s : State) (g : Nat) : s.counted.grove g = s.grove g := rfl
@[simp] theorem State.counted_regs (s : State) : s.counted.regs = s.regs := State.regs_setMe _ _
@[simp] theorem State.counted_gen (s : State) : s.counted.me.gen = s.me.gen := by
  simp [State.counted]

/-- A word that writes its destination at retirement leaves its place in program order taken. -/
theorem State.afterWord_atOnce {s : State} (old : Regs) {g : Sig} (aw : Bool) (h : g.atOnce = true) :
    s.afterWord old g aw = s.counted := by
  simp [State.afterWord, h, State.counted]

/-- A word without staged pushes that writes its destination at retirement. -/
theorem retire_pops {s s1 : State} {g : Sig} (j : Option Word) (hp : s.me.pend = none) (hg : g.atOnce = true)
    (hu : s1.unit.pushes = []) :
    retire s s1 g j = s.endUnit s1.counted.doPops g.loops j := by
  rw [retire, State.afterWord_atOnce _ false hg, State.makePushes_nil hp (s1 := s1.counted) hu]

/-- The queue `ix` of grove `g` of `r` is `q`, and every other queue is as in `s`. -/
def State.queueNow (s r : State) (g ix : Nat) (q : Queue) : Prop :=
  tabFind (r.grove g).queues ix = some q
  ∧ ∀ k j, (k, j) ≠ (g, ix) → tabFind (r.grove k).queues j = tabFind (s.grove k).queues j

/-- One queue written. -/
theorem State.queueNow_of_groves {s r : State} {g ix : Nat} {q : Queue}
    (h : r.groves = (s.setGrove g { s.grove g with queues := tabSet ix q (s.grove g).queues }).groves) : s.queueNow r g ix q := by
  have grove : ∀ k, r.grove k = (s.setGrove g { s.grove g with queues := tabSet ix q (s.grove g).queues }).grove k :=
    fun k => show tabGet {} r.groves k = _ by rw [h]; rfl
  refine ⟨?_, fun k j hkj => ?_⟩
  · rw [grove, State.grove_setGrove]
    exact tabFind_tabSet_same _ _ _
  · rw [grove]
    by_cases e : k = g
    · subst e
      rw [State.grove_setGrove]
      exact tabFind_tabSet_ne (fun h => hkj (by rw [h])) _ _
    · rw [State.grove_setGrove_ne _ e]

/-- A queue entry popped by its number (R26). -/
theorem State.takePop_queue {s : State} {p : Pop} {g ix : Nat} {q : Queue} (hpt : portOf s.self p.port = .queue g ix)
    (hq : tabFind (s.grove g).queues ix = some q) :
    s.takePop p = s.setGrove g { s.grove g with
      queues := tabSet ix { q with items := q.items.filter (fun e => e.n != p.n) } (s.grove g).queues } := by
  simp [State.takePop, hpt, hq]

/-- The one entry that a unit has read is popped: its queue no longer has it, and the registers are as they were. -/
theorem State.doPops_queue {s : State} {p : Pop} {g ix : Nat} {q : Queue} (hu : s.unit.pops = [p])
    (hpt : portOf s.self p.port = .queue g ix) (hq : tabFind (s.grove g).queues ix = some q) :
    s.doPops.regs = s.regs ∧ s.queueNow s.doPops g ix { q with items := q.items.filter (fun e => e.n != p.n) } := by
  simp only [State.doPops, hu, List.foldl_cons, List.foldl_nil, State.takePop_queue hpt hq]
  exact ⟨rfl, State.queueNow_of_groves rfl⟩

/-- The state after a push of `v` to the queue `q`, which is number `ix` of grove `g` (R25). -/
def State.pushedTo (s : State) (g ix : Nat) (q : Queue) (v : Word) : State :=
  let e : QItem := { n := q.seq, ctx := s.cur, gen := s.me.gen, w := v }
  let s1 := s.setGrove g { s.grove g with queues := tabSet ix { q with items := q.items ++ [e], seq := q.seq + 1 } (s.grove g).queues }
  (s1.countSent (coreOf s.cur)).countRecv (coreOf s.cur) (s.core (coreOf s.cur)).colour

@[simp] theorem State.pushedTo_regs (s : State) (g ix : Nat) (q : Queue) (v : Word) : (s.pushedTo g ix q v).regs = s.regs := rfl
@[simp] theorem State.pushedTo_unit (s : State) (g ix : Nat) (q : Queue) (v : Word) : (s.pushedTo g ix q v).unit = s.unit := rfl

theorem State.pushedTo_queue (s : State) (g ix : Nat) (q : Queue) (v : Word) : s.queueNow (s.pushedTo g ix q v) g ix
    { q with items := q.items ++ [{ n := q.seq, ctx := s.cur, gen := s.me.gen, w := v }], seq := q.seq + 1 } :=
  State.queueNow_of_groves rfl

theorem State.pushPort_queue {s : State} {g ix : Nat} {v : Word} {q : Queue} (hq : tabFind (s.grove g).queues ix = some q)
    (hl : q.items.length < 64) : s.pushPort (.queue g ix) v none = .ok 0 (s.pushedTo g ix q v) := by
  unfold State.pushPort
  dsimp only
  rw [hq]
  dsimp only
  rw [if_neg (Nat.not_le.2 hl)]
  rfl

/-- The one push of a unit, to a queue. -/
theorem State.doPushes_queue {s : State} {p k g ix : Nat} {v : Word} {q : Queue} (hpt : portOf s.self p = .queue g ix)
    (hq : tabFind (s.grove g).queues ix = some q) (hl : q.items.length < 64) :
    s.doPushes none k [(p, v)]
      = .ok 0 ((s.pushedTo g ix q v).withUnit { (s.pushedTo g ix q v).unit with pushes := [] }) := by
  simp only [State.doPushes, hpt, State.pushPort_queue hq hl]
  rfl

/-- A result for an X register bound to a port is staged for it (R25). -/
theorem State.putX_bound {s : State} {n p : Nat} (v : Word) (hu : s.unit = {}) (h : s.regs.boundTo n = some p) :
    s.putX n v = s.withUnit { pushes := [(p, v)] } := by
  simp only [State.putX, h, hu]
  rfl

/-- A unit that has sent nothing has performed nothing. -/
theorem State.performed_none {s : State} (h : s.me.pend = none) : s.performed = false := by
  simp [State.performed, h]

/-- Room in a queue is room for one entry more (R26). -/
theorem State.roomFor_queue {s : State} {p g ix : Nat} {q : Queue} (hpt : portOf s.self p = .queue g ix)
    (hq : tabFind (s.grove g).queues ix = some q) (h : s.roomFor [p] p = true) : q.items.length < 64 := by
  simp only [State.roomFor, hpt, Bool.and_eq_true, decide_eq_true_eq, State.portEntries, List.length_map,
    tabGet_of_tabFind hq] at h
  have room : q.items.length + 1 ≤ 64 := by simpa using h.2
  exact room

section Queue
variable {s : State} {p g ix : Nat} {q : Queue} {sm t : Bool} {d a : BitVec 5} {m : BitVec 13}
  (hf : s.fresh = true) (hs : s.me.spec = none) (ha : s.acquiring = false) (hpt : portOf s.self p = .queue g ix)
  (hm : s.mayUse s.cur (.queue g ix) = true) (hq : tabFind (s.grove g).queues ix = some q)
include hf hs ha hpt hm hq

/-- ADDI with its source bound to a queue that has an entry: it reads the first that it may take, and pops it. -/
theorem addi_pop {n : Nat} {w : Word} {rest : List (Nat × Word)} (hb : s.regs.boundTo a.toNat = some p)
    (hd : s.regs.writable ⟨0, d.toNat⟩ = true) (he : s.openEntries s.cur p = (n, w) :: rest) :
    ∃ r, exec (.addi sm d a t m) s = .next (s.endUnit r (aSigOf (.addi sm d a t m)).loops none)
      ∧ r.regs = (s.writeX d (w + m.signExtend 64)).regs
      ∧ s.queueNow r g ix { q with items := q.items.filter (fun e => e.n != n) } := by
  obtain ⟨hu, hp⟩ := State.fresh_parts hf
  have uses : s.usesPort p true = true := by simp [State.usesPort, hpt, hm, Port.pops]
  have gate := State.gate_pop_go (t := t) hp hs hb hd uses hu ha he
  have free : (s.withUnit { latched := [(1, w)], pops := [{ port := p, n := n }] }).regs.boundTo d.toNat = none :=
    Regs.writable_x hd
  rw [exec_addi_eq, issue_gate_go _ hu gate, finish, State.putX_plain _ free, retire_pops none hp rfl rfl]
  obtain ⟨regs, queue⟩ := State.doPops_queue (p := { port := p, n := n })
    (s := ((s.withUnit { latched := [(1, w)], pops := [{ port := p, n := n }] }).writeX d (w + m.signExtend 64)).counted)
    rfl hpt hq
  exact ⟨_, rfl, regs.trans (State.counted_regs _), queue⟩

/-- ADDI with its destination bound to a queue that has room: it pushes its result. -/
theorem addi_push (hb : s.regs.boundTo d.toNat = some p) (hx : s.regs.plain 0 a.toNat = true) (hr : s.roomFor [p] p = true) :
    ∃ r, exec (.addi sm d a t m) s = .next (s.endUnit r (aSigOf (.addi sm d a t m)).loops none) ∧ r.regs = s.regs
      ∧ s.queueNow r g ix { q with
        items := q.items ++ [{ n := q.seq, ctx := s.cur, gen := s.me.gen, w := s.regs.xAt a.toNat + m.signExtend 64 }]
        seq := q.seq + 1 } := by
  obtain ⟨hu, hp⟩ := State.fresh_parts hf
  have uses : s.usesPort p false = true := by simp [State.usesPort, hpt, hm, Port.pushes]
  have gate := State.gate_push_go (t := t) hp hs hb hx uses hu ha hr
  have full := State.roomFor_queue hpt hq hr
  generalize hv : s.regs.xAt a.toNat + m.signExtend 64 = v
  have pushes := State.doPushes_queue (k := pushPlace false) (v := v) (s := (s.withUnit { pushes := [(p, v)] }).counted) hpt hq full
  refine ⟨((s.withUnit { pushes := [(p, v)] }).counted.pushedTo g ix q v).withUnit {}, ?_, State.counted_regs _, ?_⟩
  · rw [exec_addi_eq, issue_gate_go _ hu gate, finish, State.putX_bound _ hu hb, State.rx_plain _ _ hu, hv, retire,
      State.afterWord_atOnce _ false rfl, State.makePushes_ok (State.performed_none hp) (by rw [hp]; exact pushes)]
    simp only [hp, Option.isSome_none, Bool.false_eq_true, if_false]
    rw [State.doPops_none rfl]
    rfl
  · have queue := State.pushedTo_queue (s.withUnit { pushes := [(p, v)] }).counted g ix q v
    rw [State.counted_gen] at queue
    exact queue

end Queue

end Machine
end Sys2Proof
end

section
/-! PROOF. Pushes of a lone word to the Spout (R317). -/

namespace Sys2Proof.Machine

/-! Pushes of a lone word to the Spout (R317): the result is the address of a descriptor. -/

/-- The identifier of the Spout's port. -/
theorem portOf_spout (self : Nat) : portOf self 0x01000000 = .spout := rfl

/-- A place for a descriptor does not depend on the unit under way. -/
@[simp] theorem State.descAt_withUnit (s : State) (u : IUnit) (a : Word) : (s.withUnit u).descAt a = s.descAt a := rfl
@[simp] theorem State.descClear_withUnit (s : State) (u : IUnit) (l : Loc) : (s.withUnit u).descClear l = s.descClear l := rfl

/-- The Spout takes no copy of descriptor `d` now: the context's 64 copies or the grove's 1,024 are open (R319). -/
abbrev State.spoutFull (s : State) : Prop :=
  64 ≤ s.openCopies s.cur ∨ 1024 ≤ ((s.grove (groveOf s.cur)).copies.filter (·.open_)).length

/-- The state with the copy of descriptor `d` queued (R319). -/
def State.submitted (s : State) (d : List Word) : State :=
  let x := s.me
  let g := s.grove (groveOf s.cur)
  let k : Copy := { handle := copyHandle s.cur (x.sptSeq + 1), ctx := s.cur, gen := x.gen, vf := x.vf
                    launch := (x.task.map (·.launch)).getD 0, desc := d
                    classB := fld (descWord d 1) 62 2 == 0, status := 1, seq := (x.sptSeq + 1).toNat }
  (s.setMe { x with sptSeq := x.sptSeq + 1 }).setGrove (groveOf s.cur) { g with copies := g.copies ++ [k] }

@[simp] theorem State.scrLoc_withUnit (s : State) (u : IUnit) (c a n : Nat) : (s.withUnit u).scrLoc c a n = s.scrLoc c a n := rfl
@[simp] theorem State.scrPieces_withUnit (s : State) (u : IUnit) (c f : Nat) :
    ∀ a n, (s.withUnit u).scrPieces c f a n = s.scrPieces c f a n := by
  induction f with
  | zero => exact fun _ _ => rfl
  | succ f ih =>
    intro a n
    simp only [State.scrPieces, State.scrLoc_withUnit, ih]

@[simp] theorem State.rowsOk_withUnit (s : State) (u : IUnit) (c b st len rows : Nat) :
    (s.withUnit u).rowsOk c b st len rows = s.rowsOk c b st len rows := by
  simp only [State.rowsOk, State.scrPieces_withUnit]

theorem State.descOk_withUnit (s : State) (u : IUnit) (c : Nat) (d : List Word) : (s.withUnit u).descOk c d = s.descOk c d := by
  simp only [State.descOk, State.rowsOk_withUnit, State.scrLoc_withUnit]

theorem State.openCopies_withUnit (s : State) (u : IUnit) (c : Nat) : (s.withUnit u).openCopies c = s.openCopies c := rfl

theorem State.spoutFull_withUnit (s : State) (u : IUnit) : (s.withUnit u).spoutFull ↔ s.spoutFull := by
  simp only [State.spoutFull, State.withUnit_cur, State.openCopies_withUnit, State.withUnit_grove]

theorem State.submitted_withUnit (s : State) (u : IUnit) (d : List Word) :
    (s.withUnit u).submitted d = (s.submitted d).withUnit u := rfl

/-- A descriptor that is taken is sound, and there is room for its copy. -/
theorem State.submit_ok {s t : State} {a h : Word} {d : List Word} : s.submit a d = .ok h t ↔
    s.descOk s.cur d = true ∧ descWindow d = none ∧ ¬s.spoutFull ∧ h = copyHandle s.cur (s.me.sptSeq + 1)
      ∧ t = s.submitted d := by
  have eq : s.submit a d = if !(s.descOk s.cur d) then .trap { cause := cSPOUT, tval := a }
      else if (descWindow d).isSome then .trap { cause := cPROT, tval := natW ((descWindow d).getD 0), acc := 4 }
      else if s.spoutFull then .wait else .ok (copyHandle s.cur (s.me.sptSeq + 1)) (s.submitted d) := rfl
  rw [eq]
  by_cases h1 : s.descOk s.cur d = true
  · by_cases h2 : descWindow d = none
    · by_cases h3 : s.spoutFull
      · rw [h1, h2, if_pos h3]
        simp [h3]
      · rw [h1, h2, if_neg h3]
        simp [h3, eq_comm]
    · rw [h1, if_pos (Option.isSome_iff_ne_none.2 h2)]
      simp [h2]
  · rw [if_pos (by simpa using h1)]
    simp [h1]

/-- A copy is submitted whatever unit is under way, which stays as it is. -/
theorem State.submit_withUnit {s t : State} {a h : Word} {d : List Word} (u : IUnit) (e : s.submit a d = .ok h t) :
    (s.withUnit u).submit a d = .ok h (t.withUnit u) := by
  obtain ⟨h1, h2, h3, rfl, rfl⟩ := State.submit_ok.1 e
  refine State.submit_ok.2 ⟨?_, h2, mt (s.spoutFull_withUnit u).1 h3, rfl, (s.submitted_withUnit u d).symm⟩
  rw [State.descOk_withUnit]
  exact h1

theorem State.submit_unit {s t : State} {a h : Word} {d : List Word} (e : s.submit a d = .ok h t) : t.unit = s.unit := by
  obtain ⟨-, -, -, -, rfl⟩ := State.submit_ok.1 e
  rfl

/-! What the pushes of a unit that has sent no operation lead to -/

section Pushes
variable {s s4 : State} {aw : Bool} {k : State → State} (hp : s.performed = false)
include hp

theorem State.makePushes_trap {w : Why} (h : s4.doPushes s.me.pend (pushPlace aw) s4.unit.pushes = .trap w) :
    s.makePushes s4 aw k = s.traps w aw := by
  simp only [State.makePushes, filter_late hp, filter_prompt hp, List.foldl_nil, h]
  simp only [hp, Bool.false_eq_true, if_false]

theorem State.makePushes_wait (h : s4.doPushes s.me.pend (pushPlace aw) s4.unit.pushes = .wait) :
    s.makePushes s4 aw k = s.waits := by
  simp only [State.makePushes, filter_late hp, filter_prompt hp, List.foldl_nil, h]

theorem State.makePushes_read {l : Loc} {a : Word} (h : s4.doPushes s.me.pend (pushPlace aw) s4.unit.pushes = .read l a) :
    s.makePushes s4 aw k = s.readsDesc s4.unit (pushPlace aw) l a := by
  simp only [State.makePushes, filter_late hp, filter_prompt hp, List.foldl_nil, h]

end Pushes

/-- The state at the pushes of a lone word that leaves result `v` for port `p`. -/
def State.staged (s : State) (p : Nat) (v : Word) : State := s.counted.withUnit { pushes := [(p, v)] }

/-- A push to the Spout without the words of its descriptor. -/
theorem State.pushPort_first (s : State) (v : Word) : s.pushPort .spout v none = match s.descAt v with
    | .error w => .trap w
    | .ok l => if s.descClear l then .read l v else .wait := by
  unfold State.pushPort
  dsimp only
  cases s.descAt v <;> rfl

/-- A push to the Spout with the words of its descriptor. -/
theorem State.pushPort_words {s : State} {v : Word} {l : Loc} (ws : List Word) (h : s.descAt v = .ok l) :
    s.pushPort .spout v (some ws) = s.submit v ws := by
  unfold State.pushPort
  dsimp only
  rw [h]

/-- The one push of a unit, to the Spout, without a descriptor (R317). -/
theorem State.staged_first {s : State} {p : Nat} (v : Word) (k : Nat) (hpt : portOf s.self p = .spout) :
    (s.staged p v).doPushes none k [(p, v)] = match s.counted.descAt v with
      | .error w => .trap w
      | .ok l => if s.counted.descClear l then .read l v else .wait := by
  have port : portOf (s.staged p v).self p = .spout := hpt
  have place : (s.staged p v).descAt v = s.counted.descAt v := State.descAt_withUnit _ _ _
  have clear : ∀ l, (s.staged p v).descClear l = s.counted.descClear l := fun l => State.descClear_withUnit _ _ l
  have words : pushRead none k = .words none := rfl
  simp only [State.doPushes, port, words, State.pushPort_first, place, clear]
  cases s.counted.descAt v with
  | error w => rfl
  | ok l => cases h : s.counted.descClear l <;> simp [h]

/-- The pending read of a unit that has read its descriptor. -/
theorem pushRead_words {p : Pend} {acc : BitVec 4} {k : Nat} (ho : p.op = .read acc []) (hr : p.result = none)
    (hg : tabFind p.got k ≠ none) : pushRead (some p) k = .words (some (wordsFrom p.got k 8)) := by
  obtain ⟨⟩ := p
  subst ho hr
  simp [pushRead, Option.isSome_iff_ne_none, hg]

/-- The one push of a unit, to the Spout, with the words of its descriptor. -/
theorem State.staged_words {s t : State} {p k : Nat} {pd : Pend} {acc : BitVec 4} {v h : Word} {l : Loc}
    (hpt : portOf s.self p = .spout) (ho : pd.op = .read acc []) (hr : pd.result = none) (hg : tabFind pd.got k ≠ none)
    (hd : s.counted.descAt v = .ok l) (hs : s.counted.submit v (wordsFrom pd.got k 8) = .ok h t) :
    (s.staged p v).doPushes (some pd) k [(p, v)] = .ok 0 (t.withUnit {}) := by
  have port : portOf (s.staged p v).self p = .spout := hpt
  have place : (s.staged p v).descAt v = .ok l := (State.descAt_withUnit _ _ _).trans hd
  have sent : (s.staged p v).submit v (wordsFrom pd.got k 8) = .ok h (t.withUnit { pushes := [(p, v)] }) :=
    State.submit_withUnit _ hs
  simp only [State.doPushes, port, pushRead_words ho hr hg, State.pushPort_words _ place, sent]
  rfl

section Spout
variable {s : State} {sm t : Bool} {d a : BitVec 5} {m : BitVec 13} {p : Nat}
  (hb : s.regs.boundTo d.toNat = some p) (hpt : portOf s.self p = .spout) (hu : s.unit = {})
include hb hu

/-- ADDI with its destination bound to a port, past its checks: its result is staged. -/
theorem addi_staged (hg : s.gate [(xxSig a.toNat d.toNat t, false)] = .go s) :
    exec (.addi sm d a t m) s = .next (s.makePushes (s.staged p (s.regs.xAt a.toNat + m.signExtend 64)) false
      (fun q => s.endUnit q.doPops (aSigOf (.addi sm d a t m)).loops none)) := by
  rw [exec_addi_eq, issue_gate_go _ hu hg, finish, State.putX_bound _ hu hb, State.rx_plain _ _ hu, retire,
    State.afterWord_atOnce _ false rfl]
  rfl

include hpt

/-- ADDI pushing an address to the Spout takes the traps of SPT.CPY, and then reads the descriptor (R317). -/
theorem addi_spout_first (hp : s.me.pend = none) (hs : s.me.spec = none) (ha : s.acquiring = false)
    (hr : s.roomFor [p] p = true) (hx : s.regs.plain 0 a.toNat = true) :
    let v := s.regs.xAt a.toNat + m.signExtend 64
    (∀ w, s.counted.descAt v = .error w → exec (.addi sm d a t m) s = .next (s.traps w false))
    ∧ ∀ x, s.counted.descAt v = .ok x → exec (.addi sm d a t m) s
        = .next (if s.counted.descClear x then s.readsDesc {} (pushPlace false) x v else s.waits) := by
  intro v
  have uses : s.usesPort p false = true := by simp [State.usesPort, hpt, State.mayUse, Port.pushes]
  have gate := State.gate_push_go (t := t) hp hs hb hx uses hu ha hr
  have unsent := State.performed_none hp
  have first := State.staged_first v (pushPlace false) hpt
  rw [addi_staged hb hu gate]
  refine ⟨fun w hw => ?_, fun x hx => ?_⟩
  · rw [hw] at first
    rw [State.makePushes_trap unsent (by rw [hp]; exact first)]
  · rw [hx] at first
    dsimp only at first
    cases hc : s.counted.descClear x with
    | true =>
      rw [hc, if_pos rfl] at first
      rw [State.makePushes_read unsent (by rw [hp]; exact first)]
      rfl
    | false =>
      rw [hc, if_neg (by decide)] at first
      rw [State.makePushes_wait unsent (by rw [hp]; exact first)]
      rfl

/-- ADDI pushing an address to the Spout, with the descriptor read, submits it. -/
theorem addi_spout_words {k : Pend} {acc : BitVec 4} {x : Loc} {h : Word} {s2 : State} (hp : s.me.pend = some k)
    (ho : k.op = .read acc []) (hr : k.result = none) (hl : k.latched = []) (hk : k.pops = [])
    (hg : tabFind k.got (pushPlace false) ≠ none) (hd : s.counted.descAt (s.regs.xAt a.toNat + m.signExtend 64) = .ok x)
    (hs : s.counted.submit (s.regs.xAt a.toNat + m.signExtend 64) (wordsFrom k.got (pushPlace false) 8) = .ok h s2) :
    ∃ r, exec (.addi sm d a t m) s = .next (s.endUnit r (aSigOf (.addi sm d a t m)).loops none)
      ∧ { r with unit := {} } = s2.setMe { s2.me with pend := none } := by
  have gate : s.gate [(xxSig a.toNat d.toNat t, false)] = .go s := by
    simp only [State.gate, hp, hl, hk, hu]
    exact congrArg Gate.go (State.unit_eta hu)
  have read : s.performed = false := by simp [State.performed, hp, ho]
  have unit : s2.unit = {} := (State.submit_unit hs).trans hu
  have words := State.staged_words hpt ho hr hg hd hs
  rw [State.withUnit, State.unit_eta unit] at words
  refine ⟨(s2.setMe { s2.me with pend := none }).doPops, ?_, ?_⟩
  · rw [addi_staged hb hu gate, State.makePushes_ok read (by rw [hp]; exact words), hp]
    rfl
  · rw [State.doPops_none (s := s2.setMe _) unit]
    exact State.unit_eta (s := s2.setMe _) unit

end Spout

end Sys2Proof.Machine
end

section
/-! PROOF. QBIND, QUNBIND and QNEW (R27, R244). -/

namespace Sys2Proof

/-- A bit read by division is the library's. -/
theorem bitAt_toNat {w : Nat} (v : BitVec w) (k : Nat) : bitAt v.toNat k = v.getLsbD k := by
  rw [bitAt, BitVec.getLsbD, Nat.testBit_eq_decide_div_mod_eq]
  rfl

/-- The numbers from `lo` on, as the library gives them. -/
theorem upFrom_eq_range' (lo n : Nat) : upFrom lo n = List.range' lo n := by
  induction n generalizing lo with
  | zero => rfl
  | succ n ih => rw [upFrom, ih, List.range'_succ]

theorem mem_upFrom_zero {n k : Nat} : k ∈ upFrom 0 n ↔ k < n := by
  rw [upFrom_eq_range', List.mem_range'_1]
  omega

/-- The lowest key that a table does not have. -/
theorem tabFree_some {α : Type} {t : Tab α} {n k : Nat} (hk : k < n) (hf : tabFind t k = none)
    (hl : ∀ j, j < k → tabFind t j ≠ none) : tabFree t n = some k := by
  rw [tabFree, upFrom_eq_range', List.find?_range'_eq_some]
  refine ⟨by simp [hf], List.mem_range'_1.2 (by omega), fun j _ hj => ?_⟩
  simp only [Bool.not_eq_true', Option.isNone_eq_false_iff]
  exact Option.isSome_iff_ne_none.2 (hl j hj)

/-- A table that has every key. -/
theorem tabFree_none {α : Type} {t : Tab α} {n : Nat} (h : ∀ k, k < n → tabFind t k ≠ none) : tabFree t n = none := by
  rw [tabFree, List.find?_eq_none]
  intro k hk
  simpa using h k (mem_upFrom_zero.1 hk)

namespace Machine

/-! QBIND, QUNBIND and QNEW (R244) -/

/-- The word that binds a queue register to port `p`. -/
theorem bindWord_toNat {p : Nat} (h : p < 2 ^ 32) : (natW (2 ^ 63 + p)).toNat = 2 ^ 63 + p := by
  rw [natW, BitVec.toNat_ofNat, Nat.mod_eq_of_lt]
  omega

theorem bindWord_bound {p : Nat} (h : p < 2 ^ 32) : bitAt (natW (2 ^ 63 + p)).toNat 63 = true := by
  rw [bindWord_toNat h]
  simp only [bitAt, beq_iff_eq]
  omega

theorem bindWord_port {p : Nat} (h : p < 2 ^ 32) : fld (natW (2 ^ 63 + p)).toNat 0 32 = p := by
  rw [bindWord_toNat h, fld]
  omega

/-- The port of queue register `n` still holds entries of the context, and would be left (R27). -/
def State.leaves (s : State) (n : Nat) (v : Word) : Prop :=
  (s.regs.csrAt (csrQB0 + n)).getLsbD 63 = true ∧ s.regs.csrAt (csrQB0 + n) ≠ v
    ∧ s.holdsMine ((s.regs.csrAt (csrQB0 + n)).toNat % 2 ^ 32) = true

theorem State.leaves_iff (s : State) (n : Nat) (v : Word) :
    (bitAt (s.regs.csrAt (csrQB0 + n)).toNat 63 && decide (s.regs.csrAt (csrQB0 + n) ≠ v)
      && s.holdsMine (fld (s.regs.csrAt (csrQB0 + n)).toNat 0 32)) = true ↔ s.leaves n v := by
  simp [State.leaves, bitAt_toNat, fld, and_assoc]

/-- No other queue register is bound to port `p` (R244). -/
def State.soleBinding (s : State) (n p : Nat) : Prop := ∀ m, m < 8 → m ≠ n → s.regs.boundTo (24 + m) ≠ some p

theorem State.soleBinding_iff (s : State) (n p : Nat) :
    (upFrom 0 8).any (fun m => m != n && s.regs.boundTo (24 + m) == some p) = false ↔ s.soleBinding n p := by
  rw [List.any_eq_false]
  constructor
  · intro h m hm hn e
    exact h m (mem_upFrom_zero.2 hm) (by simp [hn, e])
  · intro h m hm
    simpa using h m (mem_upFrom_zero.1 hm)

section Bind
variable {s : State} {n p : Nat} (hp : p < 2 ^ 32) (word bad : Word)
include hp

/-- A port that may not be used. -/
theorem State.writeQb_prot (h : s.mayUse s.cur (portOf s.self p) = false) :
    s.writeQb n (natW (2 ^ 63 + p)) word bad = .error { cause := cPROT, tval := bad } := by
  simp only [State.writeQb, bindWord_bound hp, bindWord_port hp, h]
  rfl

variable (h : s.mayUse s.cur (portOf s.self p) = true)
include h

/-- A port that another queue register is bound to. -/
theorem State.writeQb_twice (ho : ¬s.soleBinding n p) :
    s.writeQb n (natW (2 ^ 63 + p)) word bad = .error { cause := cILLEGAL, tval := bad } := by
  have twice : (upFrom 0 8).any (fun m => m != n && s.regs.boundTo (24 + m) == some p) = true := by
    simpa using mt (s.soleBinding_iff n p).1 ho
  simp only [State.writeQb, bindWord_bound hp, bindWord_port hp, h, twice]
  rfl

variable (ho : s.soleBinding n p)
include ho

theorem State.writeQb_leaves (hl : s.leaves n (natW (2 ^ 63 + p))) :
    s.writeQb n (natW (2 ^ 63 + p)) word bad = .error { cause := cILLEGAL, tval := word } := by
  simp only [State.writeQb, bindWord_bound hp, bindWord_port hp, h, (s.soleBinding_iff n p).2 ho]
  rw [(s.leaves_iff n _).2 hl]
  rfl

theorem State.writeQb_binds (hl : ¬s.leaves n (natW (2 ^ 63 + p))) :
    s.writeQb n (natW (2 ^ 63 + p)) word bad = .ok (s.setCsr (csrQB0 + n) (natW (2 ^ 63 + p))) := by
  simp only [State.writeQb, bindWord_bound hp, bindWord_port hp, h, (s.soleBinding_iff n p).2 ho]
  rw [if_neg (by simp), if_neg (by simp), if_neg (mt (s.leaves_iff n _).1 hl)]

end Bind

/-- A binding ended: no port is checked. -/
theorem State.writeQb_unbind_leaves {s : State} {n : Nat} (word bad : Word) (hl : s.leaves n 0) :
    s.writeQb n 0 word bad = .error { cause := cILLEGAL, tval := word } := by
  simp only [State.writeQb]
  rw [(s.leaves_iff n _).2 hl]
  rfl

theorem State.writeQb_unbinds {s : State} {n : Nat} (word bad : Word) (hl : ¬s.leaves n 0) :
    s.writeQb n 0 word bad = .ok (s.setCsr (csrQB0 + n) 0) := by
  simp only [State.writeQb]
  rw [if_neg (by simp [bitAt]), if_neg (by simp [bitAt]), if_neg (mt (s.leaves_iff n _).1 hl)]

/-- A queue register written, or the trap of its write. -/
def resOf : Except Why State → Res
  | .ok s => .done s
  | .error y => .trap y

/-- QBIND of the identifier `v`. -/
def State.qbindRes (s : State) (n : Nat) (v word : Word) : Res :=
  if 2 ^ 32 ≤ v.toNat then .trap { cause := cPROT, tval := v } else resOf (s.writeQb n (natW (2 ^ 63 + v.toNat)) word v)

theorem exec_qbind_eq (sm l t : Bool) (d a : BitVec 5) (s : State) : exec (.qbind sm l d a t) s
    = issue (cSig (.qbind sm l d a t)) s
        (fun q => q.qbindRes (d.toNat - 24) (q.rx 1 a.toNat) (wordTval (cSig (.qbind sm l d a t)) false)) := rfl

theorem exec_qunbind_eq (sm l : Bool) (d : BitVec 5) (s : State) : exec (.qunbind sm l d) s
    = issue (cSig (.qunbind sm l d)) s
        (fun q => resOf (q.writeQb (d.toNat - 24) 0 (wordTval (cSig (.qunbind sm l d)) false) 0)) := rfl

/-- A port that the context may not use, or no port's identifier. -/
theorem State.qbindRes_prot {s : State} {v : Word} (n : Nat) (word : Word)
    (h : 2 ^ 32 ≤ v.toNat ∨ s.mayUse s.cur (portOf s.self (v.toNat % 2 ^ 32)) = false) :
    s.qbindRes n v word = .trap { cause := cPROT, tval := v } := by
  by_cases wide : 2 ^ 32 ≤ v.toNat
  · rw [State.qbindRes, if_pos wide]
  · have small := Nat.not_le.1 wide
    have port := h.resolve_left wide
    rw [Nat.mod_eq_of_lt small] at port
    rw [State.qbindRes, if_neg wide, State.writeQb_prot small _ _ port]
    rfl

section Binds
variable {s : State} {n : Nat} {v : Word} (word : Word)
  (h : v.toNat < 2 ^ 32 ∧ s.mayUse s.cur (portOf s.self (v.toNat % 2 ^ 32)) = true)
include h

theorem State.qbindRes_eq : s.qbindRes n v word = resOf (s.writeQb n (natW (2 ^ 63 + v.toNat)) word v) := by
  rw [State.qbindRes, if_neg (Nat.not_le.2 h.1)]

/-- A port that another queue register is bound to. -/
theorem State.qbindRes_twice (ho : ¬s.soleBinding n (v.toNat % 2 ^ 32)) :
    s.qbindRes n v word = .trap { cause := cILLEGAL, tval := v } := by
  rw [State.qbindRes_eq word h]
  obtain ⟨small, may⟩ := h
  rw [Nat.mod_eq_of_lt small] at may ho
  rw [State.writeQb_twice small _ _ may ho]
  rfl

variable (ho : s.soleBinding n (v.toNat % 2 ^ 32))
include ho

/-- A queue register whose port still holds entries of the context. -/
theorem State.qbindRes_leaves (hl : s.leaves n (natW (2 ^ 63 + v.toNat))) :
    s.qbindRes n v word = .trap { cause := cILLEGAL, tval := word } := by
  rw [State.qbindRes_eq word h]
  obtain ⟨small, may⟩ := h
  rw [Nat.mod_eq_of_lt small] at may ho
  rw [State.writeQb_leaves small _ _ may ho hl]
  rfl

theorem State.qbindRes_done (hl : ¬s.leaves n (natW (2 ^ 63 + v.toNat))) :
    s.qbindRes n v word = .done (s.setCsr (csrQB0 + n) (natW (2 ^ 63 + v.toNat))) := by
  rw [State.qbindRes_eq word h]
  obtain ⟨small, may⟩ := h
  rw [Nat.mod_eq_of_lt small] at may ho
  rw [State.writeQb_binds small _ _ may ho hl]
  rfl

end Binds

/-- The lowest scope that the launch of the current context gives a queue (R244). -/
def State.queueScope (s : State) : Nat :=
  match s.launchOf s.cur with
  | some l => l.qscope
  | none => 3

theorem State.queueScope_eq (s : State) : s.queueScope = ((s.launchOf s.cur).map (·.qscope)).getD 3 := by
  unfold State.queueScope
  cases s.launchOf s.cur <;> rfl

/-- The state with queue `ix` of the current grove made with scope `c` (R244). -/
def State.withQueue (s : State) (c : BitVec 2) (ix : Nat) : State :=
  let g := s.grove (groveOf s.cur)
  let q : Queue := { launch := (s.me.task.map (·.launch)).getD 0, vf := s.me.vf, scope := c, by_ := s.caddr s.cur }
  s.setGrove (groveOf s.cur) { g with queues := tabSet ix q g.queues }

@[simp] theorem State.withQueue_regs (s : State) (c : BitVec 2) (ix : Nat) : (s.withQueue c ix).regs = s.regs := rfl
@[simp] theorem State.withQueue_unit (s : State) (c : BitVec 2) (ix : Nat) : (s.withQueue c ix).unit = s.unit := rfl

theorem exec_qnew_eq (sm l : Bool) (d : BitVec 5) (c : BitVec 2) (s : State) : exec (.qnew sm l d c) s
    = issue (cSig (.qnew sm l d c)) s (fun q =>
        if q.queueScope < c.toNat then .trap { cause := cPROT, tval := natW c.toNat }
        else match tabFree (q.grove (groveOf q.cur)).queues 256 with
          | none => .done (q.putX d.toNat 0)
          | some ix => .done ((q.withQueue c ix).putX d.toNat (queueId q.self (groveOf q.cur) ix))) := rfl

/-- QBIND (R244). -/
theorem qbind_forms (sm l t : Bool) (d a : BitVec 5) :
    let i := Instr.qbind sm l d a t
    let n := d.toNat - 24
    let A := fun (s : State) => s.regs.xAt a.toNat
    let port := fun (s : State) => (A s).toNat % 2 ^ 32
    let may := fun (s : State) => (A s).toNat < 2 ^ 32 ∧ s.mayUse s.cur (portOf s.self (port s)) = true
    TrapIf i (cSig i) (fun s => 2 ^ 32 ≤ (A s).toNat ∨ s.mayUse s.cur (portOf s.self (port s)) = false)
        (fun s => { cause := cPROT, tval := A s })
    ∧ TrapIf i (cSig i) (fun s => may s ∧ ¬s.soleBinding n (port s)) (fun s => { cause := cILLEGAL, tval := A s })
    ∧ TrapIf i (cSig i) (fun s => may s ∧ s.soleBinding n (port s) ∧ s.leaves n (natW (2 ^ 63 + (A s).toNat)))
        (fun _ => { cause := cILLEGAL, tval := wordTval (cSig i) false })
    ∧ DoneIf i (cSig i) (fun s => may s ∧ s.soleBinding n (port s) ∧ ¬s.leaves n (natW (2 ^ 63 + (A s).toNat)))
        (fun s => s.setCsr (csrQB0 + n) (natW (2 ^ 63 + (A s).toNat))) := by
  intro i n A port may
  refine ⟨fun s hr h => ?_, fun s hr ⟨hm, ho⟩ => ?_, fun s hr ⟨hm, ho, hl⟩ => ?_, fun s hr ⟨hm, ho, hl⟩ => ?_⟩
  · rw [exec_qbind_eq]
    refine issue_trap hr ?_
    rw [State.rx_ready _ _ hr, State.qbindRes_prot _ _ h]
  · rw [exec_qbind_eq]
    refine issue_trap hr ?_
    rw [State.rx_ready _ _ hr, State.qbindRes_twice _ hm ho]
  · rw [exec_qbind_eq]
    refine issue_trap hr ?_
    rw [State.rx_ready _ _ hr, State.qbindRes_leaves _ hm ho hl]
  · rw [exec_qbind_eq]
    refine issue_done hr ?_ (State.ready_parts hr).1
    rw [State.rx_ready _ _ hr, State.qbindRes_done _ hm ho hl]

/-- QUNBIND (R244). -/
theorem qunbind_forms (sm l : Bool) (d : BitVec 5) :
    let i := Instr.qunbind sm l d
    let n := d.toNat - 24
    TrapIf i (cSig i) (fun s => s.leaves n 0) (fun _ => { cause := cILLEGAL, tval := wordTval (cSig i) false })
    ∧ DoneIf i (cSig i) (fun s => ¬s.leaves n 0) (fun s => s.setCsr (csrQB0 + n) 0) := by
  intro i n
  refine ⟨fun s hr h => ?_, fun s hr h => ?_⟩
  · rw [exec_qunbind_eq]
    refine issue_trap hr ?_
    rw [State.writeQb_unbind_leaves _ _ h]
    rfl
  · rw [exec_qunbind_eq]
    refine issue_done hr ?_ (State.ready_parts hr).1
    rw [State.writeQb_unbinds _ _ h]
    rfl

/-- A queue number that is free in the current grove. -/
abbrev State.freeQueue (s : State) (ix : Nat) : Prop := ix < 256 ∧ tabFind (s.grove (groveOf s.cur)).queues ix = none

/-- QNEW (R244). -/
theorem qnew_forms (sm l : Bool) (d : BitVec 5) (c : BitVec 2) :
    let i := Instr.qnew sm l d c
    TrapIf i (cSig i) (fun s => s.queueScope < c.toNat) (fun _ => { cause := cPROT, tval := natW c.toNat })
    ∧ DoneIf i (cSig i) (fun s => c.toNat ≤ s.queueScope ∧ ∀ ix, ¬s.freeQueue ix) (fun s => s.writeX d 0)
    ∧ ∀ ix, DoneIf i (cSig i) (fun s => c.toNat ≤ s.queueScope ∧ s.freeQueue ix ∧ ∀ j, j < ix → ¬s.freeQueue j)
        (fun s => (s.withQueue c ix).writeX d (queueId s.self (groveOf s.cur) ix)) := by
  intro i
  refine ⟨fun s hr h => ?_, fun s hr ⟨hc, hn⟩ => ?_, fun ix s hr ⟨hc, hx, hl⟩ => ?_⟩
  · rw [exec_qnew_eq]
    exact issue_trap hr (if_pos h)
  · have none := tabFree_none (n := 256) (t := (s.grove (groveOf s.cur)).queues) fun k hk he => hn k ⟨hk, he⟩
    rw [exec_qnew_eq]
    refine issue_done hr ?_ (State.ready_parts hr).1
    rw [if_neg (Nat.not_lt.2 hc), none, State.putX_dst _ hr (List.mem_singleton.2 rfl)]
    rfl
  · have some := tabFree_some hx.1 hx.2 fun j hj he => hl j hj ⟨Nat.lt_trans hj hx.1, he⟩
    rw [exec_qnew_eq]
    refine issue_done hr ?_ (State.ready_parts hr).1
    have free : (s.withQueue c ix).regs.boundTo d.toNat = none :=
      Regs.writable_x ((State.ready_parts hr).2.2.2.2.2.2.2 _ (List.mem_singleton.2 rfl))
    rw [if_neg (Nat.not_lt.2 hc), some]
    exact congrArg Res.done (State.putX_plain _ free)

end Machine
end Sys2Proof
end

section
/-! PROOF. SEND and TTRUN (R245, R251, R252). -/

namespace Sys2Proof.Machine

/-! SEND and TTRUN (R245, R251, R252): words that read their operand granule by granule. -/

/-- Words as one number, lowest first. -/
theorem ofWords_wordsFrom (t : Tab Word) (lo n : Nat) :
    ofWords (wordsFrom t lo n) = (upFrom lo n).foldr (fun j v => (tabGet 0 t j).toNat + 2 ^ 64 * v) 0 := by
  rw [wordsFrom]
  induction upFrom lo n with
  | nil => rfl
  | cons j l ih => rw [List.map_cons, ofWords, ih, List.foldr_cons]

/-! The checks of an address before its translation (R122) -/

theorem State.checkAddr_space {s : State} {sp m : Nat} {a : Word} {acc : Acc} {y : Why} (h : s.checkSpace sp a acc = some y) :
    s.checkAddr sp a m acc = some y := by
  simp only [State.checkAddr, h]

theorem State.checkAddr_misaligned {s : State} {sp m : Nat} {a : Word} {acc : Acc} (h : s.checkSpace sp a acc = none)
    (hm : a.toNat % m ≠ 0) : s.checkAddr sp a m acc = some { cause := cMISALIGN, tval := a, acc := accCode acc } := by
  simp only [State.checkAddr, h, alignTrap, if_neg hm]

theorem State.checkAddr_ok {s : State} {sp m : Nat} {a : Word} {acc : Acc} (h : s.checkSpace sp a acc = none)
    (hm : a.toNat % m = 0) : s.checkAddr sp a m acc = none := by
  simp only [State.checkAddr, h, alignTrap, if_pos hm]

/-! What the rest of a word sees once its operand has been read -/

@[simp] theorem State.unpend_regs (s : State) : s.unpend.regs = s.regs := State.regs_setMe _ _
@[simp] theorem State.unpend_unit (s : State) : s.unpend.unit = s.unit := rfl
@[simp] theorem State.unpend_pend (s : State) : s.unpend.me.pend = none := by simp [State.unpend]
@[simp] theorem State.unpend_addrOk (s : State) (a : Word) : s.unpend.addrOk a = s.addrOk a := rfl

/-- What `whenRead` answers once the operation that the operand led to has been performed. -/
theorem State.whenRead_answered {s : State} {v jv js : Word} {fl : BitVec 6} (a : State → Res) (f : State → Tab Word → Res)
    (b : State → Word → Word → Word → Nat → Res) (h : s.answered v jv js fl = true) :
    s.whenRead a f b = b s.unpend v jv js fl.toNat := by
  rw [← State.whenDone_answered a b h]
  obtain ⟨-, p, h2, h3, -⟩ := State.answered_parts h
  obtain ⟨⟩ := p
  subst h3
  simp only [State.whenRead, h2]

/-! SEND (R245) -/

/-- SEND's payload of `n` bytes at `p` is checked and read. -/
def State.readsPayload (s : State) (p : Word) (n : Nat) : Res :=
  match s.checkAddr 1 p n .load, s.scrLoc s.cur p.toNat n with
  | some y, _ => .trap y
  | none, none => .trap { cause := cPROT, tval := p, acc := accCode .load }
  | none, some l =>
    match s.poisonedLoc l n with
    | some u => .trap { cause := cMCE, tval := p, unit := u, acc := accCode .load }
    | none =>
      if s.acquiring || s.ownWaits l || s.readBlocked s.cur s.me.nseq l n then .wait
      else s.sendReads (accCode .load) [] (piecesFrom 0 l n p none)

/-- The message of the payload `t` is on its way to `d`. -/
def State.sent (s : State) (d : Word) (z : BitVec 2) (t : Tab Word) : State :=
  (s.sendPacket (fld d.toNat 32 9) (.msg
    { dst := d, src := s.caddr s.cur, sz := z, stamp := s.tick, colour := (s.core (coreOf s.cur)).colour
      payload := BitVec.ofNat 512 (ofWords (wordsFrom t 0 (8 * 2 ^ z.toNat / 8))) })).countSent (coreOf s.cur)

theorem State.sendPacket_unit (s : State) (pkg : Nat) (p : Packet) : (s.sendPacket pkg p).unit = s.unit := by
  unfold State.sendPacket
  split <;> rfl

theorem State.sendPacket_me (s : State) (pkg : Nat) (p : Packet) : (s.sendPacket pkg p).me = s.me := by
  unfold State.sendPacket
  split <;> rfl

theorem State.sent_unit (s : State) (d : Word) (z : BitVec 2) (t : Tab Word) : (s.sent d z t).unit = s.unit := by
  rw [State.sent, State.countSent_unit, State.sendPacket_unit]

theorem State.sent_me (s : State) (d : Word) (z : BitVec 2) (t : Tab Word) : (s.sent d z t).me = s.me :=
  State.sendPacket_me _ _ _

/-- What SEND means once its operands are read. -/
def State.sendRes (s : State) (d p : Word) (z : BitVec 2) : Res :=
  if !(s.addrOk d) then .trap { cause := cPROT, tval := d }
  else s.whenRead (fun s => s.readsPayload p (8 * 2 ^ z.toNat))
    (fun s t => if !(s.accepts d (1 + 2 ^ z.toNat)) then .blocked (.send d) else .done (s.sent d z t))
    (fun q _ _ _ _ => .done q)

theorem exec_send_eq (sm l : Bool) (a b : BitVec 5) (t u : Bool) (z : BitVec 2) (s : State) :
    exec (.send sm l a b t u z) s
      = issue (cSig (.send sm l a b t u z)) s (fun q => q.sendRes (q.rx 1 a.toNat) (q.rx 2 b.toNat) z) := rfl

section Payload
variable {s : State} {p : Word} {n : Nat} (hc : s.checkSpace 1 p .load = none)
include hc

theorem State.readsPayload_misaligned (hn : p.toNat % n ≠ 0) :
    s.readsPayload p n = .trap { cause := cMISALIGN, tval := p, acc := 0 } := by
  rw [State.readsPayload, State.checkAddr_misaligned hc hn]
  rfl

variable (hn : p.toNat % n = 0) {l : Loc} (hl : s.scrLoc s.cur p.toNat n = some l)
include hn hl

theorem State.readsPayload_poisoned {u : BitVec 4} (hp : s.poisonedLoc l n = some u) :
    s.readsPayload p n = .trap { cause := cMCE, tval := p, unit := u, acc := 0 } := by
  simp only [State.readsPayload, State.checkAddr_ok hc hn, hl, hp]
  rfl

variable (hp : s.poisonedLoc l n = none)
include hp

theorem State.readsPayload_sound : s.readsPayload p n =
    if s.acquiring || s.ownWaits l || s.readBlocked s.cur s.me.nseq l n then .wait
    else s.sendReads 0 [] (granulesOf 0 l n p none) := by
  simp only [State.readsPayload, State.checkAddr_ok hc hn, hl, hp]
  rfl

end Payload

/-- SEND before its payload is read. -/
theorem send_starts {s : State} {sm l : Bool} {a b : BitVec 5} {t u : Bool} {z : BitVec 2}
    (h : s.ready (cSig (.send sm l a b t u z)) = true) (ho : s.addrOk (s.regs.xAt a.toNat) = true) :
    exec (.send sm l a b t u z) s = .next (finish s (cSig (.send sm l a b t u z))
      (s.readsPayload (s.regs.xAt b.toNat) (8 * 2 ^ z.toNat))) := by
  rw [exec_send_eq, issue_ready _ h, State.rx_ready _ _ h, State.rx_ready _ _ h, State.sendRes, ho,
    State.whenRead_start _ _ _ (State.ready_parts h).2.1]
  rfl

/-- SEND once its payload `w` is read. -/
theorem send_sends {s : State} {sm l : Bool} {a b : BitVec 5} {t u : Bool} {z : BitVec 2} {w : Tab Word}
    (h : s.gathered w = true) (ho : s.addrOk (s.regs.xAt a.toNat) = true) :
    exec (.send sm l a b t u z) s = .next (finish s (cSig (.send sm l a b t u z))
      (if !(s.unpend.accepts (s.regs.xAt a.toNat) (1 + 2 ^ z.toNat)) then .blocked (.send (s.regs.xAt a.toNat))
       else .done (s.unpend.sent (s.regs.xAt a.toNat) z w))) := by
  have unit := (State.gathered_parts h).1
  rw [exec_send_eq, issue_gathered _ h, State.rx_plain _ _ unit, State.rx_plain _ _ unit, State.sendRes, ho,
    State.whenRead_gathered _ _ _ h]
  rfl

section Send
variable (sm l : Bool) (a b : BitVec 5) (t u : Bool) (z : BitVec 2)

theorem send_traps :
    let i := Instr.send sm l a b t u z
    let A := fun (s : State) => s.regs.xAt a.toNat
    let P := fun (s : State) => s.regs.xAt b.toNat
    let k := 8 * 2 ^ z.toNat
    TrapIf i (cSig i) (fun s => s.addrOk (A s) = false) (fun s => { cause := cPROT, tval := A s })
    ∧ (∀ y, TrapIf i (cSig i) (fun s => s.addrOk (A s) = true ∧ s.checkSpace 1 (P s) .load = some y) (fun _ => y))
    ∧ TrapIf i (cSig i) (fun s => s.addrOk (A s) = true ∧ s.checkSpace 1 (P s) .load = none ∧ (P s).toNat % k ≠ 0)
        (fun s => { cause := cMISALIGN, tval := P s, acc := 0 })
    ∧ (∀ p u, TrapIf i (cSig i) (fun s => s.addrOk (A s) = true ∧ s.checkSpace 1 (P s) .load = none ∧ (P s).toNat % k = 0
          ∧ s.scrLoc s.cur (P s).toNat k = some p ∧ s.poisonedLoc p k = some u)
        (fun s => { cause := cMCE, tval := P s, unit := u, acc := 0 })) := by
  intro i A P k
  refine ⟨fun s h ho => ?_, fun y s h ⟨ho, hc⟩ => ?_, fun s h ⟨ho, hc, hm⟩ => ?_, fun p u s h ⟨ho, hc, hm, hl, hp⟩ => ?_⟩
  · rw [exec_send_eq]
    refine issue_trap h ?_
    rw [State.rx_ready _ _ h, State.sendRes, ho]
    rfl
  · rw [send_starts h ho, State.readsPayload, State.checkAddr_space hc]
    rfl
  · rw [send_starts h ho, State.readsPayload_misaligned hc hm]
    rfl
  · rw [send_starts h ho, State.readsPayload_poisoned hc hm hl hp]
    rfl

end Send

/-- SEND's payload is sound, and lies at `p` in the scratchpad space. -/
abbrev State.payload (s : State) (A P : Word) (k : Nat) (p : Loc) : Prop :=
  s.addrOk A = true ∧ s.checkSpace 1 P .load = none ∧ P.toNat % k = 0 ∧ s.scrLoc s.cur P.toNat k = some p ∧ s.poisonedLoc p k = none

/-- Nothing holds back the read of `k` bytes at `p`. -/
abbrev State.calmAt (s : State) (p : Loc) (k : Nat) : Prop :=
  s.acquiring = false ∧ s.ownWaits p = false ∧ s.readBlocked s.cur s.me.nseq p k = false

theorem send_goes (sm l : Bool) (a b : BitVec 5) (t u : Bool) (z : BitVec 2) :
    let i := Instr.send sm l a b t u z
    let A := fun (s : State) => s.regs.xAt a.toNat
    let P := fun (s : State) => s.regs.xAt b.toNat
    let k := 8 * 2 ^ z.toNat
    (∀ p, SendIf i (cSig i) (fun s => s.payload (A s) (P s) k p ∧ s.calmAt p k) (fun s => s)
        (fun s => .read 0 (granulesOf 0 p k (P s) none)))
    ∧ ReadWaitIf i (cSig i) (fun s _ => s.addrOk (A s) = true ∧ s.accepts (A s) (1 + 2 ^ z.toNat) = false)
        (fun s => some (.send (A s)))
    ∧ ReadDoneIf i (cSig i) (fun s _ => s.addrOk (A s) = true ∧ s.accepts (A s) (1 + 2 ^ z.toNat) = true)
        (fun s w => s.sent (A s) z w)
    ∧ (∀ p, WaitIf i (cSig i) (fun s => s.payload (A s) (P s) k p ∧ ¬s.calmAt p k)) := by
  intro i A P k
  refine ⟨fun p s h ⟨⟨ho, hc, hm, hl, hp⟩, ha, hw, hb⟩ => ?_, fun s w h _ ⟨ho, hr⟩ => ?_, fun s w h _ ⟨ho, hr⟩ => ?_,
    fun p s h ⟨⟨ho, hc, hm, hl, hp⟩, hn⟩ => ?_⟩
  · rw [send_starts h ho, State.readsPayload_sound hc hm hl hp, ha, hw, hb]
    rfl
  · simp only [A, State.unpend_regs, State.unpend_addrOk] at ho hr
    rw [send_sends h ho, hr]
    rfl
  · simp only [A, State.unpend_regs, State.unpend_addrOk] at ho hr
    rw [send_sends h ho, hr]
    refine congrArg Host.Outcome.next ((finish_done (s1 := s.unpend.sent (s.regs.xAt a.toNat) z w) _ ?_ ?_).trans ?_)
    · exact (State.sent_unit _ _ _ _).trans (State.gathered_parts h).1
    · rw [State.sent_me]
      exact .inr (.inr (State.unpend_pend s))
    · simp only [A, State.unpend_regs, i]
  · have blocked : (s.acquiring || s.ownWaits p || s.readBlocked s.cur s.me.nseq p k) = true := by
      refine eq_true_of_ne_false fun no => hn ?_
      simp only [Bool.or_eq_false_iff] at no
      obtain ⟨⟨acq, own⟩, read⟩ := no
      exact ⟨acq, own, read⟩
    rw [send_starts h ho, State.readsPayload_sound hc hm hl hp, blocked]
    rfl

/-! TTRUN (R251, R252) -/

/-- TTRUN's header at `a` is checked and read. -/
def State.readsHeader (s : State) (a : Word) : Res :=
  match s.ownRange a.toNat 1 with
  | none => .trap { cause := cPROT, tval := a, acc := accCode .load }
  | some o =>
    if a.toNat % 16 ≠ 0 then .trap { cause := cMISALIGN, tval := a, acc := accCode .load }
    else if s.acquiring || s.ownBusy || s.sptPending then .wait
    else
      let l := Loc.scr (coreOf s.cur) o
      match s.poisonedLoc l 16 with
      | some u => .trap { cause := cMCE, tval := a, unit := u, acc := accCode .load }
      | none => s.sendReads (accCode .load) [] (piecesFrom 0 l 16 a none)

/-- The header `h` of a timetable is valid, and the word after it is 0 (R251). -/
abbrev headerSound (t : Tab Word) : Prop :=
  let h := (tabGet 0 t 0).toNat
  tabGet 0 t 1 = 0 ∧ fld h 41 15 = 0 ∧ fld h 16 16 = 0 ∧ 0 < fld h 32 9 ∧ fld h 32 9 ≤ 288 ∧ 0 < fld h 0 16 ∧ fld h 0 16 ≤ 256

theorem not_headerSound (t : Tab Word) : ¬headerSound t ↔
    let h := (tabGet 0 t 0).toNat
    tabGet 0 t 1 ≠ 0 ∨ fld h 41 15 ≠ 0 ∨ fld h 16 16 ≠ 0 ∨ fld h 32 9 = 0 ∨ 288 < fld h 32 9 ∨ fld h 0 16 = 0
      ∨ 256 < fld h 0 16 := by
  by_cases e : tabGet 0 t 1 = 0
  · simp only [headerSound, e, true_and, ne_eq, not_true_eq_false, false_or]
    omega
  · simp only [headerSound, e, false_and, not_false_eq_true, ne_eq, true_or]

/-- The timetable `t`, with entries `es`, arrives at its barrier (R252). -/
def State.barArrives (s : State) (t : Tab Word) (es : List (Word × Word)) : State :=
  let h := (tabGet 0 t 0).toNat
  let d := s.die (dieOf s.cur)
  let b := arriveBar s.tick { ctx := s.cur, need := fld h 32 9, es := es } (tabGet [] d.bars (fld h 56 8))
  s.setDie (dieOf s.cur) { d with bars := tabSet (fld h 56 8) b d.bars }

/-- The entries of the timetable at `a`, as far as they are read. -/
abbrev State.entryReads (s : State) (a : Word) (t : Tab Word) : List Piece :=
  s.tablePieces (fld (tabGet 0 t 0).toNat 0 16) 2 (a.toNat + 16)

/-- The entries of the timetable at `a`, checked. -/
abbrev State.entriesOf (s : State) (a : Word) (t : Tab Word) : Except Why (List (Word × Word)) :=
  s.tableEntries (coreOf s.cur % 24) t (fld (tabGet 0 t 0).toNat 0 16) 2 (a.toNat + 16)

/-- TTRUN goes on with what it has read of the timetable at `a`. -/
def State.runsTable (s : State) (a : Word) (t : Tab Word) : Res :=
  let h := (tabGet 0 t 0).toNat
  if tabGet 0 t 1 ≠ 0 ∨ fld h 41 15 ≠ 0 ∨ fld h 16 16 ≠ 0 ∨ fld h 32 9 = 0 ∨ 288 < fld h 32 9 ∨ fld h 0 16 = 0
      ∨ 256 < fld h 0 16 then .trap { cause := cRESERVED, tval := a }
  else if (s.entryReads a t).any (fun q => (tabFind t q.ix).isNone) then s.sendReads (accCode .load) t (s.entryReads a t)
  else
    match s.entriesOf a t with
    | .error y => .trap y
    | .ok es => if s.tableBusy then .wait else (s.barArrives t es).send .ttrun

theorem exec_ttrun_eq (sm l : Bool) (d a : BitVec 5) (t : Bool) (s : State) :
    exec (.ttrun sm l d a t) s = issue (cSig (.ttrun sm l d a t)) s (fun q =>
      q.whenRead (fun s => s.readsHeader (q.rx 1 a.toNat)) (fun s t => s.runsTable (q.rx 1 a.toNat) t)
        (fun r v _ _ _ => .done (r.putX d.toNat v))) := rfl

/-- Every entry of the timetable at `a` that lies in the own scratchpad has been read. -/
abbrev State.tableWhole (s : State) (a : Word) (t : Tab Word) : Prop := ∀ q ∈ s.entryReads a t, tabFind t q.ix ≠ none

section Table
variable {s : State} {a : Word} {t : Tab Word}

theorem State.runsTable_reserved (h : ¬headerSound t) : s.runsTable a t = .trap { cause := cRESERVED, tval := a } := by
  unfold State.runsTable
  exact if_pos ((not_headerSound t).1 h)

/-- A timetable whose header is sound. -/
theorem State.runsTable_sound (h : headerSound t) : s.runsTable a t =
    if (s.entryReads a t).any (fun q => (tabFind t q.ix).isNone) then s.sendReads 0 t (s.entryReads a t)
    else match s.entriesOf a t with
      | .error y => .trap y
      | .ok es => if s.tableBusy then .wait else (s.barArrives t es).send .ttrun := by
  unfold State.runsTable
  exact (if_neg (mt (not_headerSound t).2 (not_not_intro h))).trans rfl

theorem State.runsTable_partly (h : headerSound t) (hw : ¬s.tableWhole a t) :
    s.runsTable a t = s.sendReads 0 t (s.entryReads a t) := by
  rw [State.runsTable_sound h, if_pos]
  simpa [State.tableWhole] using hw

theorem State.runsTable_whole (h : headerSound t) (hw : s.tableWhole a t) : s.runsTable a t = match s.entriesOf a t with
      | .error y => .trap y
      | .ok es => if s.tableBusy then .wait else (s.barArrives t es).send .ttrun := by
  rw [State.runsTable_sound h, if_neg]
  simpa [State.tableWhole, Option.isSome_iff_ne_none] using hw

end Table

section Ttrun
variable {s : State} {sm l t : Bool} {d a : BitVec 5}

/-- TTRUN before its header is read. -/
theorem ttrun_starts (h : s.ready (cSig (.ttrun sm l d a t)) = true) :
    exec (.ttrun sm l d a t) s
      = .next (finish s (cSig (.ttrun sm l d a t)) (s.readsHeader (s.regs.xAt a.toNat))) := by
  rw [exec_ttrun_eq, issue_ready _ h, State.rx_ready _ _ h, State.whenRead_start _ _ _ (State.ready_parts h).2.1]

/-- TTRUN once words of its timetable are read. -/
theorem ttrun_runs {w : Tab Word} (h : s.gathered w = true) :
    exec (.ttrun sm l d a t) s
      = .next (finish s (cSig (.ttrun sm l d a t)) (s.unpend.runsTable (s.regs.xAt a.toNat) w)) := by
  rw [exec_ttrun_eq, issue_gathered _ h, State.rx_plain _ _ (State.gathered_parts h).1, State.whenRead_gathered _ _ _ h]

end Ttrun

/-- The core has nothing to end first before a timetable is read. -/
abbrev State.tableFree (s : State) : Prop := s.acquiring = false ∧ s.ownBusy = false ∧ s.sptPending = false

section TtrunForms
variable (sm l t : Bool) (d a : BitVec 5)

theorem ttrun_header :
    let i := Instr.ttrun sm l d a t
    let A := fun (s : State) => s.regs.xAt a.toNat
    TrapIf i (cSig i) (fun s => s.ownRange (A s).toNat 1 = none) (fun s => { cause := cPROT, tval := A s, acc := 0 })
    ∧ (∀ q, TrapIf i (cSig i) (fun s => s.ownRange (A s).toNat 1 = some q ∧ (A s).toNat % 16 ≠ 0)
        (fun s => { cause := cMISALIGN, tval := A s, acc := 0 }))
    ∧ (∀ q, SendIf i (cSig i) (fun s => s.ownRange (A s).toNat 1 = some q ∧ (A s).toNat % 16 = 0 ∧ s.tableFree
          ∧ s.poisonedLoc (.scr (coreOf s.cur) q) 16 = none)
        (fun s => s) (fun s => .read 0 (granulesOf 0 (.scr (coreOf s.cur) q) 16 (A s) none)))
    ∧ (∀ q u, TrapIf i (cSig i) (fun s => s.ownRange (A s).toNat 1 = some q ∧ (A s).toNat % 16 = 0 ∧ s.tableFree
          ∧ s.poisonedLoc (.scr (coreOf s.cur) q) 16 = some u) (fun s => { cause := cMCE, tval := A s, unit := u, acc := 0 }))
    ∧ (∀ q, WaitIf i (cSig i) (fun s => s.ownRange (A s).toNat 1 = some q ∧ (A s).toNat % 16 = 0 ∧ ¬s.tableFree)) := by
  intro i A
  refine ⟨fun s h ho => ?_, fun q s h ⟨ho, hm⟩ => ?_, fun q s h ⟨ho, hm, ⟨ha, hb, hc⟩, hp⟩ => ?_,
    fun q u s h ⟨ho, hm, ⟨ha, hb, hc⟩, hp⟩ => ?_, fun q s h ⟨ho, hm, hf⟩ => ?_⟩
  all_goals simp only [A] at ho
  · rw [ttrun_starts h, State.readsHeader, ho]
    rfl
  · rw [ttrun_starts h, State.readsHeader, ho]
    dsimp only
    rw [if_pos hm]
    rfl
  · rw [ttrun_starts h, State.readsHeader, ho]
    simp only [ha, hb, hc, hp]
    rw [if_neg (not_not_intro hm)]
    rfl
  · rw [ttrun_starts h, State.readsHeader, ho]
    simp only [ha, hb, hc, hp]
    rw [if_neg (not_not_intro hm)]
    rfl
  · have busy : (s.acquiring || s.ownBusy || s.sptPending) = true := by
      refine eq_true_of_ne_false fun no => hf ?_
      simp only [Bool.or_eq_false_iff] at no
      obtain ⟨⟨acq, own⟩, spt⟩ := no
      exact ⟨acq, own, spt⟩
    rw [ttrun_starts h, State.readsHeader, ho]
    simp only [busy]
    rw [if_neg (not_not_intro hm)]
    rfl

theorem ttrun_table :
    let i := Instr.ttrun sm l d a t
    let A := fun (s : State) => s.regs.xAt a.toNat
    let ends := fun (s : State) (w : Tab Word) (r : Except Why (List (Word × Word))) =>
      headerSound w ∧ s.tableWhole (A s) w ∧ s.entriesOf (A s) w = r
    ReadTrapIf i (cSig i) (fun _ w => ¬headerSound w) (fun s _ => { cause := cRESERVED, tval := A s })
    ∧ ReadSendIf i (cSig i) (fun s w => headerSound w ∧ ¬s.tableWhole (A s) w) (fun s _ => s)
        (fun s w => .read 0 (s.entryReads (A s) w)) true
    ∧ (∀ y, ReadTrapIf i (cSig i) (fun s w => ends s w (.error y)) (fun _ _ => y))
    ∧ (∀ es, ReadWaitIf i (cSig i) (fun s w => ends s w (.ok es) ∧ s.tableBusy = true) (fun _ => none))
    ∧ (∀ es, ReadSendIf i (cSig i) (fun s w => ends s w (.ok es) ∧ s.tableBusy = false) (fun s w => s.barArrives w es)
        (fun _ _ => .ttrun) false) := by
  intro i A ends
  refine ⟨fun s w h _ hn => ?_, fun s w h _ ⟨hs, hw⟩ => ?_, fun y s w h _ ⟨hs, hw, he⟩ => ?_,
    fun es s w h _ ⟨⟨hs, hw, he⟩, hb⟩ => ?_, fun es s w h _ ⟨⟨hs, hw, he⟩, hb⟩ => ?_⟩
  all_goals simp only [A, State.unpend_regs] at *
  · rw [ttrun_runs h, State.runsTable_reserved hn]
    rfl
  · rw [ttrun_runs h, State.runsTable_partly hs hw]
    rfl
  · rw [ttrun_runs h, State.runsTable_whole hs hw, he]
    rfl
  · rw [ttrun_runs h, State.runsTable_whole hs hw, he]
    dsimp only
    rw [if_pos hb]
    rfl
  · rw [ttrun_runs h, State.runsTable_whole hs hw, he]
    dsimp only
    rw [if_neg (by simp [hb])]
    rfl

theorem ttrun_answers :
    AnswerDone (.ttrun sm l d a t) (cSig (.ttrun sm l d a t)) (fun s v _ _ _ => s.writeX d v) := by
  intro s v jv js fl h hw
  have free : s.unpend.regs.boundTo d.toNat = none := by
    rw [State.unpend_regs]
    exact Regs.writable_x (List.all_eq_true.1 hw _ (List.mem_singleton.2 rfl))
  rw [exec_ttrun_eq]
  refine issue_answered_done h ?_ (State.answered_parts h).1
  rw [State.whenRead_answered _ _ _ h, State.putX_plain _ free]
  rfl

end TtrunForms

/-- A timetable arrives at the open exchange of its barrier, which is the last, or at a new one (R252). -/
theorem arriveBar_closed (now : Nat) (x : Arrived) {done : List ExBar} (h : ∀ e ∈ done, e.t0 ≠ none) (rest : List ExBar) :
    arriveBar now x (done ++ rest) = done ++ arriveBar now x rest := by
  induction done with
  | nil => rfl
  | cons e done ih =>
    have closed : e.t0.isNone = false := by simpa [Option.isSome_iff_ne_none] using h e (by simp)
    rw [List.cons_append, arriveBar, closed, ih (fun q hq => h q (by simp [hq]))]
    rfl

end Sys2Proof.Machine
end

section
/-! PROOF. Queue registers, queues, SEND and TTRUN: the statement. -/

namespace Sys2Proof.Machine

/-! The clauses on the queue registers of a lone word (R25, R26, R317): ADDI is the word. -/

section Addi
variable {s : State} {p : Nat} {sm t : Bool} {d a : BitVec 5} {m : BitVec 13}

/-- ADDI with a queue register under an unresolved collective branch (R99). -/
theorem addi_spec (hf : s.fresh = true) (hb : s.regs.boundTo a.toNat = some p ∨ s.regs.boundTo d.toNat = some p)
    (hs : s.me.spec ≠ none) : exec (.addi sm d a t m) s = .next (s.waitsOn (some .cbr)) := by
  rw [exec_addi_eq]
  exact issue_gate_wait _ hf (State.gate_xx_spec (State.fresh_parts hf).2 hs hb)

/-- ADDI with its source bound to a port that may not be popped (R242, R317). -/
theorem addi_pop_prot (hf : s.fresh = true) (hs : s.me.spec = none) (hb : s.regs.boundTo a.toNat = some p)
    (hu : s.usesPort p true = false) (he : t = false ∨ s.openEntries s.cur p ≠ []) :
    exec (.addi sm d a t m) s = .next (s.traps { cause := cPROT, tval := natW p } false) := by
  rw [exec_addi_eq]
  exact issue_gate_trap _ hf (State.gate_pop_prot (State.fresh_parts hf).2 hs hb he hu)

/-- ADDI with its destination bound to a port to which the context may not push (R242, R317). -/
theorem addi_push_prot (hf : s.fresh = true) (hs : s.me.spec = none) (hb : s.regs.boundTo d.toNat = some p)
    (hx : s.regs.plain 0 a.toNat = true) (hu : s.usesPort p false = false) :
    exec (.addi sm d a t m) s = .next (s.traps { cause := cPROT, tval := natW p } false) := by
  rw [exec_addi_eq]
  exact issue_gate_trap _ hf (State.gate_push_prot (State.fresh_parts hf).2 hs hb hx hu)

section Queue
variable {g ix : Nat} (hf : s.fresh = true) (hs : s.me.spec = none) (hpt : portOf s.self p = .queue g ix)
  (hm : s.mayUse s.cur (.queue g ix) = true)
include hf hs hpt hm

/-- ADDI with its source bound to a queue without an entry for it. -/
theorem addi_pop_waits (hb : s.regs.boundTo a.toNat = some p) (hd : s.regs.writable ⟨0, d.toNat⟩ = true)
    (he : s.openEntries s.cur p = []) (ht : t = false) :
    exec (.addi sm d a t m) s = .next (s.waitsOn (some (.pop p))) := by
  have uses : s.usesPort p true = true := by simp [State.usesPort, hpt, hm, Port.pops]
  rw [exec_addi_eq]
  exact issue_gate_wait _ hf (State.gate_pop_waits (State.fresh_parts hf).2 hs hb hd uses ht he)

/-- ADDI with its destination bound to a queue without room. -/
theorem addi_push_waits (hb : s.regs.boundTo d.toNat = some p) (hx : s.regs.plain 0 a.toNat = true)
    (hr : s.roomFor [p] p = false) : exec (.addi sm d a t m) s = .next (s.waitsOn (some (.push p))) := by
  have uses : s.usesPort p false = true := by simp [State.usesPort, hpt, hm, Port.pushes]
  rw [exec_addi_eq]
  exact issue_gate_wait _ hf (State.gate_push_waits (State.fresh_parts hf).2 hs hb hx uses hr)

end Queue

end Addi

/-- Where a timetable arrives at its barrier (R252). -/
theorem arriveBar_forms (now : Nat) (x : Arrived) {done : List ExBar} (h : ∀ e ∈ done, e.t0 ≠ none) :
    (arriveBar now x done = done ++ [{ arrived := [x], t0 := if 1 < x.need then none else some (now + 64) }])
    ∧ ∀ bs, arriveBar now x (done ++ [{ arrived := bs, t0 := none }])
        = done ++ [{ arrived := bs ++ [x], t0 := if bs.length + 1 < x.need then none else some (now + 64) }] := by
  refine ⟨?_, fun bs => ?_⟩
  · have new := arriveBar_closed now x h []
    rw [List.append_nil] at new
    exact new
  · rw [arriveBar_closed now x h, arriveBar, exchangeOf, List.length_append]
    rfl

/-- Settles O33: the queue registers of ADDI, then QBIND, QUNBIND, QNEW, SEND and TTRUN. -/
theorem queueForms : Obligations.QueueForms := by
  intro sm l d a b t u z c m A qb qu qn sd tr n old port may once left scope room P k payload sent head sound reads whole table
    free calm ai ends queueNow uses sum
  obtain ⟨bind_prot, bind_twice, bind_leaves, bind_done⟩ := qbind_forms sm l t d a
  obtain ⟨unbind_leaves, unbind_done⟩ := qunbind_forms sm l d
  obtain ⟨new_prot, new_none, new_done⟩ := qnew_forms sm l d c
  obtain ⟨send_prot, send_space, send_align, send_mce⟩ := send_traps sm l a b t u z
  obtain ⟨send_reads, send_waits, send_done, send_held⟩ := send_goes sm l a b t u z
  obtain ⟨run_prot, run_align, run_reads, run_mce, run_held⟩ := ttrun_header sm l t d a
  obtain ⟨table_bad, table_reads, table_trap, table_busy, table_done⟩ := ttrun_table sm l t d a
  simp only [State.queueScope_eq] at new_prot new_none new_done
  simp only [State.sent, ofWords_wordsFrom] at send_done
  refine ⟨?_, ?_, ?_, fun _ => ⟨bind_prot, bind_twice, bind_leaves, bind_done, unbind_leaves, unbind_done⟩, new_prot, new_none,
    new_done, send_prot, send_space, send_align, send_mce, send_reads, send_waits, send_done, send_held, run_prot, run_align, run_reads,
    run_mce, run_held, table_bad, table_reads, ?_, ?_, ?_, fun now x done h => arriveBar_forms now x h, ttrun_answers sm l t d a⟩
  · intro s p g ix q hf hs ha hpt hm hq
    refine ⟨fun hb hd => ⟨fun n w rest he => addi_pop hf hs ha hpt hm hq hb hd he,
      fun he ht => addi_pop_waits hf hs hpt hm hb hd he ht⟩,
      fun hb hx => ⟨fun hr => addi_push hf hs ha hpt hm hq hb hx hr, fun hr => addi_push_waits hf hs hpt hm hb hx hr⟩⟩
  · exact fun s p hf => ⟨addi_spec hf, fun hs => ⟨fun hb hu ho => addi_pop_prot hf hs hb hu ho,
      fun hb hx hu => addi_push_prot hf hs hb hx hu⟩⟩
  · exact fun s hb hu => ⟨fun hp hs ha hr hx => addi_spout_first hb (portOf_spout _) hu hp hs ha hr hx,
      fun k acc x v s2 hp ho hr hl hk hg hd hs => addi_spout_words hb (portOf_spout _) hu hp ho hr hl hk hg hd hs⟩
  · exact fun y s w h hd ⟨hs, hw, he⟩ => table_trap y s w h hd ⟨hs, hw, he⟩
  · exact fun es s w h hd ⟨hs, hw, he, hb⟩ => table_busy es s w h hd ⟨⟨hs, hw, he⟩, hb⟩
  · exact fun es s w h hd ⟨hs, hw, he, hb⟩ => table_done es s w h hd ⟨⟨hs, hw, he⟩, hb⟩

end Sys2Proof.Machine
end

section
/-! REFUTATION. Events of memory: a Pod search of no entries (R162). -/

namespace Sys2Proof.Machine

/-- A Pod search of no entries that allows a distance above 4096 answers the distance 4097 with which it starts. -/
theorem podSearch_none : podSearch {} 0 0 4097 0 = 4097 * 2 ^ 16 := by decide

/-- Refutes O40: a Pod search of no entries with the allowed distance 4097 has no entry within that distance, but answers
4097 * 2 ^ 16 and not 2 ^ 64 - 1, since it starts from a distance of 4097, which is within the allowed one. -/
theorem not_memoryEvents : ¬ Obligations.MemoryEvents := by
  rintro ⟨-, -, search, -⟩
  have misses := (search {} 0 0 4097 0).1 (by simp)
  rw [podSearch_none] at misses
  exact absurd misses (by decide)

end Sys2Proof.Machine
end

section
/-! REFUTATION. Events of the Kettle: a tile load that has waited too long (R400, R447). -/

namespace Sys2Proof.Machine

/-- A tile fill that began at cycle 0 and still has to read a granule of the far tier (R276, R447). -/
def farFill : Fill := { n := 0, parts := [{ ix := 0, loc := .mem (2 ^ 41), va := 0 }] }

/-- At cycle 2^32 context 0 runs, has sent no operation and has no load outstanding, but its slot 0 still waits for `farFill`. -/
def lateState : State :=
  { tick := 2 ^ 32, ctxs := [(0, { status := .run })]
    cores := [(0, { slots := [(0, { owner := some 0, busy := true, fill := some (farFill, none) })] })] }

theorem lateState_idle : (lateState.ctx 0).pend = none ∧ (lateState.ctx 0).prods = [] := ⟨rfl, rfl⟩

theorem lateState_lateFill : lateState.lateFill 0 = some (0, 0) := by decide

/-- Its reply timeout ends the fill, and takes 512 free bytes for the slot (R400). -/
theorem lateState_timeOut : lateState.timeOut 0 = lateState.timeOutFill 0 0 0 := by
  unfold State.timeOut
  rw [lateState_lateFill]
  rfl

theorem lateState_freeIx : (lateState.timeOutFill 0 0 0).freeIx = lateState.freeIx + 512 := rfl

/-- Refutes O43: a context with nothing pending and no load outstanding does not stay as it is at its reply timeout, where a tile
load of it has waited too long for data of the far tier: `lateState`. -/
theorem not_kettleEvents : ¬ Obligations.KettleEvents := by
  rintro ⟨events, -⟩
  obtain ⟨-, -, -, -, -, -, -, -, -, -, -, -, -, -, -, -, -, -, -, idle, -⟩ :=
    events 0 0 0 0 { vf := 0, hdr := [] } { cause := 0, tval := 0, epc := 0 } [] (.core 0) (.mem 0)
      { n := 0, clsB := false, events := [] } [] { launch := 0, ord := 0 } [] { pc := 0, op := .cbr } lateState 0 []
      { vf := 0, pc := 0 } [] []
  have stays : lateState.timeOut 0 = lateState := Host.Outcome.next.inj (idle lateState lateState_idle)
  have same := congrArg State.freeIx stays
  rw [lateState_timeOut, lateState_freeIx] at same
  omega

end Sys2Proof.Machine
end

section
/-! PROOF. Lanes of a vector register: what a masked operation writes and which flags it raises (R17, R129). -/

namespace Sys2Proof

/-- A lane is below 2^w. -/
theorem lane_lt (w i v : Nat) : lane w i v < 2 ^ w := Nat.mod_lt _ (Nat.two_pow_pos w)

namespace Machine

/-- Every element type has lanes of at least one bit. -/
theorem tyW_pos (y : BitVec 3) : 0 < tyW y := by
  unfold tyW
  split <;> decide

theorem State.vl_lt (s : State) (n : BitVec 5) (w k : Nat) : s.vl n w k < 2 ^ w := lane_lt ..

/-- The number of a lane's bit vector is the lane. -/
@[simp] theorem State.laneBV_toNat (s : State) (n : BitVec 5) (w k : Nat) : (s.laneBV n w k).toNat = s.vl n w k := by
  rw [State.laneBV, BitVec.toNat_ofNat, Nat.mod_eq_of_lt (s.vl_lt n w k)]

/-- Lanes that raise no flag raise none together. -/
@[simp] theorem State.laneFlags_none (s : State) (m : BitVec 3) (w : Nat) : s.laneFlags m w (fun _ => 0) = 0 := by
  have none (l : List Nat) : (l.map (fun _ => 0)).foldl (· ||| ·) 0 = 0 := by
    induction l with
    | nil => rfl
    | cons x l ih => simpa using ih
  simp only [State.laneFlags, ite_self, none]

/-- A masked operation whose lanes are `v`, with the flags of its active lanes. -/
theorem vOp_lanesDone {i : Instr} {g : Sig} {d : BitVec 5} {m : BitVec 3} {w : Nat} {f : State → Nat → Nat × Nat}
    {v : State → Nat → Nat} (e : ∀ s, exec i s = vOp g d m w f s)
    (hv : ∀ s, s.ready g = true → ∀ k, (f s k).1 % 2 ^ w = v s k % 2 ^ w) :
    LanesDone i g d m w v (fun s => s.laneFlags m w (fun k => (f s k).2)) := by
  intro s h
  obtain ⟨r, he, hr⟩ := vOp_lanes e s h
  dsimp only at he
  rw [mergeLanes_flags] at he
  exact ⟨r, he, fun k hk => by rw [hr k hk, hv s h k]⟩

/-- A masked operation whose lanes are `v` and raise no flag. -/
theorem vOp_lanesDone_exact {i : Instr} {g : Sig} {d : BitVec 5} {m : BitVec 3} {w : Nat} {u v : State → Nat → Nat}
    (e : ∀ s, exec i s = vOp g d m w (fun s k => (u s k, 0)) s)
    (hv : ∀ s, s.ready g = true → ∀ k, u s k % 2 ^ w = v s k % 2 ^ w) : LanesDone i g d m w v (fun _ => 0) := by
  simpa using vOp_lanesDone e hv

end Machine
end Sys2Proof
end

section
/-! PROOF. Integer and bitwise lanes (R138, R139). -/

namespace Sys2Proof.Machine

/-- The value of a lane of an integer type is its bit vector's, signed or not (R53). -/
theorem tyVal_toNat (y : BitVec 3) (x : BitVec (tyW y)) : tyVal y x.toNat = if tySigned y then x.toInt else (x.toNat : Int) := by
  rw [tyVal, sextInt_toNat (tyW_pos y)]

/-- Two lanes of an integer type compare as their bit vectors do. -/
theorem tyVal_lt (y : BitVec 3) (x z : BitVec (tyW y)) :
    tyVal y x.toNat < tyVal y z.toNat ↔ (if tySigned y then x.slt z else x.ult z) = true := by
  rw [tyVal_toNat, tyVal_toNat]
  split
  · exact BitVec.slt_iff_toInt_lt.symm
  · rw [Int.ofNat_lt, BitVec.ult_iff_lt, BitVec.lt_def]

/-- An integer as `w` bits is the library's. -/
theorem wrapI_eq (w : Nat) (i : Int) : wrapI w i = (BitVec.ofInt w i).toNat := by
  rw [wrapI, BitVec.toNat_ofInt]

/-- A shift to the left gives 0 from the width on (R139). -/
theorem shl_toNat {w : Nat} (x : BitVec w) (c : Nat) :
    (x <<< c).toNat = if w ≤ c then 0 else x.toNat * 2 ^ c % 2 ^ w := by
  rw [BitVec.toNat_shiftLeft, Nat.shiftLeft_eq]
  split
  · next h => exact Nat.mod_eq_zero_of_dvd (Nat.dvd_mul_left_of_dvd (Nat.pow_dvd_pow 2 h) _)
  · rfl

/-- VSH to the right: the value divided by a power of two, rounded down (R139). -/
theorem wrapI_tyVal_div (y : BitVec 3) (x : BitVec (tyW y)) (n : Nat) :
    wrapI (tyW y) (tyVal y x.toNat / ((2 ^ n : Nat) : Int))
      = if tySigned y then (x.sshiftRight n).toNat else (x >>> n).toNat := by
  rw [tyVal_toNat]
  split
  · rw [wrapI_eq, BitVec.sshiftRight, Int.shiftRight_eq_div_pow]
  · rw [← Int.natCast_ediv, wrapI, ← Int.natCast_emod, Int.toNat_natCast, BitVec.toNat_ushiftRight, Nat.shiftRight_eq_div_pow,
      Nat.mod_eq_of_lt (Nat.lt_of_le_of_lt (Nat.div_le_self _ _) x.isLt)]

/-- The count of VSH is the signed low byte of its second lane (R139). -/
theorem sextInt_byte {w : Nat} (x : BitVec w) : sextInt 8 x.toNat = (x.setWidth 8).toInt := by
  rw [← sextInt_toNat (by decide), BitVec.toNat_setWidth, sextInt, sextInt, Nat.mod_mod]

/-- VSH on two lanes (R139). -/
theorem vShL_toNat (y : BitVec 3) (x z : BitVec (tyW y)) :
    (vShL y x.toNat z.toNat).1 =
      let c := (z.setWidth 8).toInt
      if 0 ≤ c then (x <<< c.toNat).toNat
      else if tySigned y then (x.sshiftRight c.natAbs).toNat else (x >>> c.natAbs).toNat := by
  simp only [vShL, sextInt_byte, wrapI_tyVal_div, shl_toNat]

/-- An operation on two lanes of an integer type that raises no flag. -/
theorem vInt_lanesDone {i : Instr} {g : Sig} {d a b : BitVec 5} {m y : BitVec 3} {op : BitVec 3 → Nat → Nat → Nat × Nat}
    {v : State → Nat → Nat} (e : ∀ s, exec i s = vInt g d a b m y op s) (noFlags : ∀ p q, (op y p q).2 = 0)
    (hv : ∀ s k, (op y (s.laneBV a (tyW y) k).toNat (s.laneBV b (tyW y) k).toNat).1 % 2 ^ tyW y = v s k % 2 ^ tyW y) :
    LanesDone i g d m (tyW y) v (fun _ => 0) := by
  have lanes := vOp_lanesDone e (v := v) (fun s _ k => by simpa using hv s k)
  simpa only [noFlags, State.laneFlags_none] using lanes

/-- Settles O7: each operation on numbers is the one on the lanes' bit vectors. -/
theorem vectorIntegerLanes : Obligations.VectorIntegerLanes := by
  intro sm d a b m y w lt
  refine ⟨?add, ?sub, ?mul, ?min, ?max, ?sh, ?adds, ?subs⟩
  case add => exact vInt_lanesDone (fun s => exec_vadd sm d a b m y s) (fun _ _ => rfl) fun s k => by rw [vAddL, BitVec.toNat_add]
  case sub =>
    refine vInt_lanesDone (fun s => exec_vsub sm d a b m y s) (fun _ _ => rfl) fun s k => ?_
    rw [vSubL, aluSub, BitVec.toNat_sub, Nat.add_comm, Nat.sub_add_comm (Nat.le_of_lt (s.laneBV b (tyW y) k).isLt)]
  case mul => exact vInt_lanesDone (fun s => exec_vmul sm d a b m y s) (fun _ _ => rfl) fun s k => by rw [vMulL, BitVec.toNat_mul]
  case min =>
    refine vInt_lanesDone (fun s => exec_vmin sm d a b m y s) (fun _ _ => rfl) fun s k => ?_
    simp only [vMinL, tyVal_lt]
    simp only [lt, State.laneBV_toNat, w]
  case max =>
    refine vInt_lanesDone (fun s => exec_vmax sm d a b m y s) (fun _ _ => rfl) fun s k => ?_
    simp only [vMaxL, tyVal_lt]
    simp only [lt, State.laneBV_toNat, w]
  case sh => exact vInt_lanesDone (fun s => exec_vsh sm d a b m y s) (fun _ _ => rfl) fun s k => by rw [vShL_toNat]
  case adds => exact vOp_lanesDone (fun s => exec_vadds sm d a b m y s) fun _ _ _ => rfl
  case subs => exact vOp_lanesDone (fun s => exec_vsubs sm d a b m y s) fun _ _ _ => rfl

/-- Settles O8: each operation on numbers below 2^32 is the one on the lanes' bit vectors. -/
theorem vectorBitwiseLanes : Obligations.VectorBitwiseLanes := by
  intro sm d a b m
  have compl (s : State) (n : BitVec 5) (k : Nat) : 2 ^ 32 - 1 - s.vl n 32 k = (~~~(s.laneBV n 32 k)).toNat := by
    rw [BitVec.toNat_not, State.laneBV_toNat]
  refine ⟨?and, ?or, ?xor, ?andn, ?not, ?mov⟩
  case and => exact vOp_lanesDone_exact (fun s => exec_vand sm d a b m s) fun s _ k => by simp
  case or => exact vOp_lanesDone_exact (fun s => exec_vor sm d a b m s) fun s _ k => by simp
  case xor => exact vOp_lanesDone_exact (fun s => exec_vxor sm d a b m s) fun s _ k => by simp
  case andn =>
    refine vOp_lanesDone_exact (fun s => exec_vandn sm d a b m s) fun s _ k => ?_
    rw [compl, BitVec.toNat_and, State.laneBV_toNat]
  case not => exact vOp_lanesDone_exact (fun s => exec_vnot sm d a m s) fun s _ k => by rw [compl]
  case mov => exact vOp_lanesDone_exact (fun s => exec_vmov sm d a m s) fun _ _ _ => rfl

end Sys2Proof.Machine
end

section
/-! PROOF. Floating-point lanes and reductions (R140 to R145). -/

namespace Sys2Proof.Machine

/-- A rounding operation writes a rounded V result (R129, R130). -/
theorem vRound_roundV {i : Instr} {g : Sig} {d : BitVec 5} {m : BitVec 3} {w : Nat} {f : Nat → Nat → State → Nat → Nat × Nat}
    (e : ∀ s, exec i s = vRound g d m w f s) : Done i g (fun s => s.roundV d m w (fun o r k => f o r s k)) :=
  fun s h => (e s).trans (vRound_done h)

/-- Settles O9: each rounding form is one `vRound`, and each exact form one `vOp`. -/
theorem vectorFloatForms : Obligations.VectorFloatForms := by
  refine ⟨fun sm d a b m f => ?_, fun sm d a m f => ?_⟩
  · refine ⟨?add, ?sub, ?mul, ?div, ?madd, ?msub, ?nmadd, ?nmsub, ?dot2, ?min, ?max, ?abs, ?neg⟩
    case add => exact vRound_roundV fun s => exec_vfadd sm d a b m f s
    case sub => exact vRound_roundV fun s => exec_vfsub sm d a b m f s
    case mul => exact vRound_roundV fun s => exec_vfmul sm d a b m f s
    case div => exact vRound_roundV fun s => exec_vfdiv sm d a b m f s
    case madd => exact vRound_roundV fun s => exec_vfmadd sm d a b m f s
    case msub => exact vRound_roundV fun s => exec_vfmsub sm d a b m f s
    case nmadd => exact vRound_roundV fun s => exec_vfnmadd sm d a b m f s
    case nmsub => exact vRound_roundV fun s => exec_vfnmsub sm d a b m f s
    case dot2 => exact vRound_roundV fun s => exec_vfdot2 sm d a b m f s
    case min => exact vOp_lanesDone (fun s => exec_vfmin sm d a b m f s) fun _ _ _ => rfl
    case max => exact vOp_lanesDone (fun s => exec_vfmax sm d a b m f s) fun _ _ _ => rfl
    case abs => exact vOp_lanesDone_exact (fun s => exec_vfabs sm d a m f s) fun _ _ _ => rfl
    case neg => exact vOp_lanesDone_exact (fun s => exec_vfneg sm d a m f s) fun _ _ _ => rfl
  · refine ⟨?exp2, ?log2, ?rcp, ?rsqrt, ?sqrt, ?tanh, ?sigm, ?gelu⟩
    case exp2 => exact vRound_roundV fun s => exec_vexp2 sm d a m f s
    case log2 => exact vRound_roundV fun s => exec_vlog2 sm d a m f s
    case rcp => exact vRound_roundV fun s => exec_vrcp sm d a m f s
    case rsqrt => exact vRound_roundV fun s => exec_vrsqrt sm d a m f s
    case sqrt => exact vRound_roundV fun s => exec_vsqrt sm d a m f s
    case tanh => exact vRound_roundV fun s => exec_vtanh sm d a m f s
    case sigm => exact vRound_roundV fun s => exec_vsigm sm d a m f s
    case gelu => exact vRound_roundV fun s => exec_vgelu sm d a m f s

/-- A reduction that does not round writes element 0 of V d (R144, R145). -/
theorem vRed_redPut {i : Instr} {g : Sig} {d a : BitVec 5} {m y : BitVec 3} {f : List (Nat × Nat) → Nat × Option Nat × Nat}
    (e : ∀ s, exec i s = vRed g d a m y f s) :
    Done i g (fun s => (s.setRegs (s.regs.setV d.toNat (redPut y (f (s.activeLanes a m y)).1 (f (s.activeLanes a m y)).2.1))).orFlags
      (f (s.activeLanes a m y)).2.2) :=
  fun s h => (e s).trans (vRed_done h)

/-- VRSUM of an integer type adds the active lanes (R144). -/
theorem vrsum_int (sm : Bool) (d a : BitVec 5) (m : BitVec 3) {y : BitVec 3} (hy : y ≠ 7) :
    Done (.vrsum sm d a m y) (aSigOf (.vrsum sm d a m y))
      (fun s => s.setRegs (s.regs.setV d.toNat (redPut y ((s.activeLanes a m y).map (·.2)).sum none))) := by
  intro s h
  rw [exec_vrsum, execVrsum]
  refine issue_done h ?_ (State.ready_parts h).1
  simp only [hy, if_false, List.sum_eq_foldl]
  rfl

/-- VRSUM of F32 rounds the exact sum once, with one draw in SR (R144). -/
theorem vrsum_float (sm : Bool) (d a : BitVec 5) (m : BitVec 3) :
    Done (.vrsum sm d a m 7) (aSigOf (.vrsum sm d a m 7)) (fun s =>
      let q := s.draws s.regs.frm 1
      let ts := (s.activeLanes a m 7).map (fun c => fmt32.val c.2)
      let r := if s.activeLanes a m 7 = [] then (0, 0) else fused s.regs.frm (q.1.headD 0) ts (nvOf (ts.any (·.signals)))
      (q.2.setRegs (q.2.regs.setV d.toNat (redPut 7 r.1 none))).orFlags r.2) := by
  intro s h
  rw [exec_vrsum, execVrsum]
  exact issue_done h rfl ((State.draws_unit s s.regs.frm 1).trans (State.ready_parts h).1)

/-- Settles O10: VRSUM of its two kinds of types, and the reductions that do not round. -/
theorem vectorReductions : Obligations.VectorReductions := by
  intro sm d a m y red
  refine ⟨?sumInt, ?sumFloat, ?max, ?min, ?argmax, ?argmin, ?band, ?bor, ?bxor⟩
  case sumInt => exact fun s h hy => vrsum_int sm d a m hy s h
  case sumFloat =>
    rintro s h rfl
    exact vrsum_float sm d a m s h
  case max => exact vRed_redPut (f := redBest y true false) fun s => exec_vrmax sm d a m y s
  case min => exact vRed_redPut (f := redBest y false false) fun s => exec_vrmin sm d a m y s
  case argmax => exact vRed_redPut (f := redBest y true true) fun s => exec_vrargmax sm d a m y s
  case argmin => exact vRed_redPut (f := redBest y false true) fun s => exec_vrargmin sm d a m y s
  case band => exact vRed_redPut (f := redFold (· &&& ·) (2 ^ tyW y - 1)) fun s => exec_vrband sm d a m y s
  case bor => exact vRed_redPut (f := redFold (· ||| ·) 0) fun s => exec_vrbor sm d a m y s
  case bxor => exact vRed_redPut (f := redFold (· ^^^ ·) 0) fun s => exec_vrbxor sm d a m y s

end Sys2Proof.Machine
end

section
/-! PROOF. Permutes and lane moves (R146). -/

namespace Sys2Proof.Machine

/-- VCOMP (R146). -/
theorem vcomp_done (sm : Bool) (d a : BitVec 5) (m y : BitVec 3) :
    Done (.vcomp sm d a m y) (aSigOf (.vcomp sm d a m y))
      (fun s => s.writeV d (ofLanes (tyW y) ((s.activeLanes a m y).map (·.2)))) := by
  intro s h
  rw [exec_vcomp, execVcomp]
  exact issue_done h rfl (State.ready_parts h).1

/-- VINSX (R146). -/
theorem vinsx_done (sm : Bool) (d a b : BitVec 5) (y : BitVec 3) :
    DoneIf (.vinsx sm d a b y) (aSigOf (.vinsx sm d a b y)) (fun s => (s.regs.xAt b.toNat).toNat < 512 / tyW y)
      (fun s => s.writeV d (ofLanes (tyW y) (setNth ((s.regs.xAt a.toNat).toNat % 2 ^ tyW y)
        (lanesOf (tyW y) (512 / tyW y) (s.regs.vAt d.toNat).toNat) (s.regs.xAt b.toNat).toNat))) := by
  intro s h hb
  rw [exec_vinsx, execVinsx]
  refine issue_done h ?_ (State.ready_parts h).1
  simp only [State.rx_ready _ _ h, if_neg (Nat.not_le.2 hb)]
  rfl

/-- VINSX of a lane beyond the lanes (R146). -/
theorem vinsx_trap (sm : Bool) (d a b : BitVec 5) (y : BitVec 3) :
    TrapIf (.vinsx sm d a b y) (aSigOf (.vinsx sm d a b y)) (fun s => 512 / tyW y ≤ (s.regs.xAt b.toNat).toNat)
      (fun s => { cause := cILLEGAL, tval := s.regs.xAt b.toNat }) := by
  intro s h hb
  rw [exec_vinsx, execVinsx]
  refine issue_trap h ?_
  simp only [State.rx_ready _ _ h, if_pos hb]

/-- A lane extended to 64 bits as its type says (R146). -/
theorem State.vl_extend (s : State) (n : BitVec 5) (y : BitVec 3) (k : Nat) :
    (if tySigned y then sextW (tyW y) (s.vl n (tyW y) k) else natW (s.vl n (tyW y) k))
      = if tySigned y then (s.laneBV n (tyW y) k).signExtend 64 else (s.laneBV n (tyW y) k).setWidth 64 := by
  rw [← State.laneBV_toNat, sextW_toNat (tyW_pos y), natW, BitVec.ofNat_toNat]

/-- VEXTX (R146). -/
theorem vextx_done (sm : Bool) (d a b : BitVec 5) (y : BitVec 3) :
    DoneIf (.vextx sm d a b y) (aSigOf (.vextx sm d a b y)) (fun s => (s.regs.xAt b.toNat).toNat < 512 / tyW y)
      (fun s =>
        let v := s.laneBV a (tyW y) (s.regs.xAt b.toNat).toNat
        s.writeX d (if tySigned y then v.signExtend 64 else v.setWidth 64)) := by
  intro s h hb
  rw [exec_vextx, execVextx]
  refine issue_done h ?_ (State.ready_parts h).1
  simp only [State.rx_ready _ _ h, if_neg (Nat.not_le.2 hb), State.vl_extend]
  rw [State.putX_dst _ h (List.mem_singleton_self _)]
  rfl

/-- VEXTX of a lane beyond the lanes (R146). -/
theorem vextx_trap (sm : Bool) (d a b : BitVec 5) (y : BitVec 3) :
    TrapIf (.vextx sm d a b y) (aSigOf (.vextx sm d a b y)) (fun s => 512 / tyW y ≤ (s.regs.xAt b.toNat).toNat)
      (fun s => { cause := cILLEGAL, tval := s.regs.xAt b.toNat }) := by
  intro s h hb
  rw [exec_vextx, execVextx]
  refine issue_trap h ?_
  simp only [State.rx_ready _ _ h, if_pos hb]

/-- Settles O11: the masked permutes lane by lane, then VCOMP and the two lane moves. -/
theorem vectorPermutes : Obligations.VectorPermutes := by
  intro sm d a b m y w n
  refine ⟨?perm, ?bcast, ?bcastx, ?rot, ?expd, vcomp_done sm d a m y, vinsx_done sm d a b y, vinsx_trap sm d a b y,
    vextx_done sm d a b y, vextx_trap sm d a b y⟩
  case perm => exact vOp_lanesDone_exact (fun s => exec_vperm sm d a b m y s) fun _ _ _ => rfl
  case bcast => exact vOp_lanesDone_exact (fun s => exec_vbcast sm d a m y s) fun _ _ _ => rfl
  case bcastx =>
    refine vOp_lanesDone_exact (fun s => exec_vbcastx sm d a m y s) fun s h _ => ?_
    rw [State.rx_ready _ _ h, Nat.mod_mod]
  case rot =>
    refine vOp_lanesDone_exact (fun s => exec_vrot sm d a b m y s) fun s h _ => ?_
    rw [State.rx_ready _ _ h]
  case expd => exact vOp_lanesDone_exact (fun s => exec_vexpd sm d a m y s) fun _ _ _ => rfl

end Sys2Proof.Machine
end

section
/-! PROOF. Compares and mask operations (R147, R150). -/

namespace Sys2Proof

/-- The first of the bits that a number is put together from is its bit 0. -/
theorem testBit_ofBits_zero (b : Bool) (l : List Bool) : (ofBits (b :: l)).testBit 0 = b := by
  rw [Nat.testBit_zero, ofBits, Nat.add_mul_mod_self_left]
  cases b <;> rfl

/-- The other bits are its half. -/
theorem ofBits_cons_div_two (b : Bool) (l : List Bool) : ofBits (b :: l) / 2 = ofBits l := by
  have lt : b2n b < 2 := by cases b <;> decide
  rw [ofBits]
  omega

/-- Bit `i` of a number put together from bits is element `i`, or 0 past the last. -/
theorem testBit_ofBits (l : List Bool) (i : Nat) : (ofBits l).testBit i = (l[i]?).getD false := by
  induction l generalizing i with
  | nil => simp [ofBits]
  | cons b l ih =>
    cases i with
    | zero => exact testBit_ofBits_zero b l
    | succ i => rw [Nat.testBit_succ, ofBits_cons_div_two, ih, List.getElem?_cons_succ]

/-- Below the lowest 1 bit there is none. -/
theorem testBit_below_lowestSet {n v j : Nat} (h : j < lowestSet n v) : v.testBit j = false := by
  induction n generalizing v j with
  | zero => exact absurd h (Nat.not_lt_zero j)
  | succ n ih =>
    rw [lowestSet] at h
    split at h
    · exact absurd h (Nat.not_lt_zero j)
    · next odd =>
      cases j with
      | zero => simpa [Nat.testBit_zero] using odd
      | succ j =>
        rw [Nat.testBit_succ]
        exact ih (Nat.lt_of_succ_lt_succ h)

/-- The lowest 1 bit is 1, where there is one. -/
theorem testBit_lowestSet {n v : Nat} (h : lowestSet n v < n) : v.testBit (lowestSet n v) = true := by
  induction n generalizing v with
  | zero => exact absurd h (Nat.not_lt_zero _)
  | succ n ih =>
    rw [lowestSet] at h ⊢
    split at h
    · next odd =>
      rw [if_pos odd, Nat.testBit_zero]
      simpa using odd
    · next odd =>
      rw [if_neg odd, Nat.testBit_succ]
      exact ih (Nat.lt_of_succ_lt_succ h)

/-- A bit vector other than 0 has a lowest 1 bit. -/
theorem lowestSet_lt {w : Nat} {x : BitVec w} (h : x ≠ 0) : lowestSet w x.toNat < w := by
  refine Nat.lt_of_not_le fun past => h (BitVec.eq_of_getLsbD_eq fun i hi => ?_)
  rw [show (0 : BitVec w).getLsbD i = false from BitVec.getLsbD_zero]
  exact testBit_below_lowestSet (Nat.lt_of_lt_of_le hi past)

/-- The lowest 1 bit alone is what a bit vector has in common with its negation. -/
theorem and_neg_eq_lowestSet {w : Nat} {x : BitVec w} (h : x ≠ 0) : 1#w <<< lowestSet w x.toNat = x &&& (0 - x) := by
  have lt := lowestSet_lt h
  have set : x.getLsbD (lowestSet w x.toNat) = true := testBit_lowestSet lt
  have clear : ∀ j, j < lowestSet w x.toNat → x.getLsbD j = false := fun _ hj => testBit_below_lowestSet hj
  generalize lowestSet w x.toNat = k at lt set clear
  refine BitVec.eq_of_getLsbD_eq fun i hi => ?_
  have neg : (0 - x).getLsbD i = (x.getLsbD i ^^ decide (∃ j < i, x.getLsbD j = true)) := by
    rw [show (0 - x) = -x from BitVec.zero_sub x, BitVec.getLsbD_neg, decide_eq_true hi, Bool.true_and]
  rw [BitVec.getLsbD_and, neg, BitVec.getLsbD_shiftLeft, BitVec.getLsbD_one]
  rcases Nat.lt_trichotomy i k with low | rfl | high
  · simp [clear i low, low]
  · have first : ¬∃ j < i, x.getLsbD j = true := fun ⟨j, hj, e⟩ => by simp [clear j hj] at e
    simp [set, first, hi, Nat.zero_lt_of_lt hi]
  · have later : ∃ j < i, x.getLsbD j = true := ⟨k, high, set⟩
    simp [later, Nat.sub_ne_zero_of_lt high]

/-- A list with each element doubled holds element `i / 2` at place `i`. -/
theorem getElem?_flatten_doubled {α β : Type} (f : α → β) (l : List α) (i : Nat) :
    ((l.map (fun r => [f r, f r])).flatten)[i]? = (l[i / 2]?).map f := by
  induction l generalizing i with
  | nil => simp
  | cons r l ih =>
    match i with
    | 0 => rfl
    | 1 => rfl
    | i + 2 =>
      rw [Nat.add_div_right i (by decide), List.getElem?_cons_succ, ← ih i]
      rfl

theorem getElem?_upFrom_zero {n k : Nat} (h : k < n) : (upFrom 0 n)[k]? = some k := by
  rw [upFrom_eq_range', List.getElem?_range' h, Nat.zero_add, Nat.one_mul]

namespace Machine

/-- Bit `i` of a compare's mask belongs to lane `i * 32 / w` (R147). -/
theorem cmpMask_getLsbD {w : Nat} (hw : w = 32 ∨ w = 64) (mask : BitVec 16) (f : Nat → Bool × Nat) {i : Nat} (hi : i < 16) :
    (cmpMask w mask f).1.getLsbD i = (active w mask (i * 32 / w) && (f (i * 32 / w)).1) := by
  have lane_ : (if active w mask (i * 32 / w) then f (i * 32 / w) else (false, 0)).1
      = (active w mask (i * 32 / w) && (f (i * 32 / w)).1) := by
    cases active w mask (i * 32 / w) <;> rfl
  rw [← lane_]
  simp only [cmpMask, BitVec.getLsbD_ofNat, decide_eq_true hi, Bool.true_and, testBit_ofBits]
  rcases hw with rfl | rfl
  · have place : i * 32 / 32 = i := by omega
    simp only [show (32 : Nat) ≠ 64 by decide, if_false, ← List.flatMap_def, ← List.map_eq_flatMap, List.getElem?_map, place,
      getElem?_upFrom_zero (show i < 512 / 32 from hi), Option.map_some, Option.getD_some]
  · have place : i * 32 / 64 = i / 2 := by omega
    simp only [if_true, getElem?_flatten_doubled, List.getElem?_map, place,
      getElem?_upFrom_zero (show i / 2 < 512 / 64 by omega), Option.map_some, Option.getD_some]

/-- A compare writes its mask and raises the flags of the active lanes (R147). -/
theorem vCmp_done {i : Instr} {g : Sig} {d m y : BitVec 3} {a b : BitVec 5} {fi : Int → Int → Bool} (ui : Int → Int → Bool)
    (ff : FV → FV → Bool × Nat) (e : ∀ s, exec i s = vCmp g d a b m y fi ff s) (same : ∀ p q, fi p q = ui p q) :
    Done i g (fun s =>
      let r := cmpMask (tyW y) (s.regs.mAt m.toNat) (fun k =>
        if y = 7 then ff (s.vf_ a fmt32 k) (s.vf_ b fmt32 k) else (ui (tyVal y (s.vl a (tyW y) k)) (tyVal y (s.vl b (tyW y) k)), 0))
      (s.writeM d.toNat r.1).orFlags r.2) :=
  have test : fi = ui := funext fun p => funext (same p)
  fun s h => by rw [e s, test]; exact issue_done h rfl (State.ready_parts h).1

/-- A mask operation writes M d (R150). -/
theorem mOp_writeM {i : Instr} {g : Sig} {d : BitVec 5} {f u : State → BitVec 16} (e : ∀ s, exec i s = mOp g d f s)
    (hf : ∀ s, s.ready g = true → f s = u s) : Done i g (fun s => s.writeM d.toNat (u s)) := by
  intro s h
  rw [e s, mOp_done h, hf s h]

/-- MTOX writes X d (R150). -/
theorem mtox_done (sm : Bool) (d a : BitVec 5) :
    Done (.mtox sm d a) (aSigOf (.mtox sm d a)) (fun s => s.writeX d ((s.regs.mAt a.toNat).setWidth 64)) := by
  intro s h
  rw [exec_mtox, execMtox, ← sig_mtox sm]
  refine issue_done h ?_ (State.ready_parts h).1
  rw [natW, BitVec.ofNat_toNat, State.putX_dst _ h (List.mem_singleton_self _)]
  rfl

/-- Settles O12: the compares, the bits of their masks, and the mask operations. -/
theorem vectorMasks : Obligations.VectorMasks := by
  refine ⟨fun sm d a b m y => ?_, fun sm d a b => ?_⟩
  · intro w cmp
    refine ⟨?eq, ?ne, ?lt, ?le, ?gt, ?ge, ?unord, fun hw mask f i hi => cmpMask_getLsbD hw mask f hi⟩
    case eq => exact vCmp_done (fun p q => decide (p = q)) fEq (fun s => exec_vcmpEq sm d a b m y s) fun _ _ => rfl
    case ne =>
      refine vCmp_done (fun p q => decide (p ≠ q)) fNe (fun s => exec_vcmpNe sm d a b m y s) fun p q => ?_
      exact (decide_not (p := p = q)).symm
    case lt => exact vCmp_done (fun p q => decide (p < q)) fLt (fun s => exec_vcmpLt sm d a b m y s) fun _ _ => rfl
    case le => exact vCmp_done (fun p q => decide (p ≤ q)) fLe (fun s => exec_vcmpLe sm d a b m y s) fun _ _ => rfl
    case gt => exact vCmp_done (fun p q => decide (q < p)) fGt (fun s => exec_vcmpGt sm d a b m y s) fun _ _ => rfl
    case ge => exact vCmp_done (fun p q => decide (q ≤ p)) fGe (fun s => exec_vcmpGe sm d a b m y s) fun _ _ => rfl
    case unord => exact vCmp_done (fun _ _ => false) fUnord (fun s => exec_vcmpUnord sm d a b m s) fun _ _ => rfl
  · refine ⟨?and, ?or, ?xor, ?andn, ?not, ?first, ?fromx, mtox_done sm d a⟩
    case and => exact mOp_writeM (fun s => exec_mand sm d a b s) fun _ _ => rfl
    case or => exact mOp_writeM (fun s => exec_mor sm d a b s) fun _ _ => rfl
    case xor => exact mOp_writeM (fun s => exec_mxor sm d a b s) fun _ _ => rfl
    case andn => exact mOp_writeM (fun s => exec_mandn sm d a b s) fun _ _ => rfl
    case not => exact mOp_writeM (fun s => exec_mnot sm d a s) fun _ _ => rfl
    case first =>
      refine mOp_writeM (fun s => exec_mfirst sm d a s) fun s _ => ?_
      split
      · next zero =>
        rw [zero]
        exact BitVec.zero_and.symm
      · next some_ => exact and_neg_eq_lowestSet some_
    case fromx =>
      refine mOp_writeM (fun s => exec_mfromx sm d a s) fun s h => ?_
      rw [State.rx_ready _ _ h]

end Machine
end Sys2Proof
end

section
/-! PROOF. Vector conversions and code forms (R148, R149). -/

namespace Sys2Proof

/-- The first number below `n` that meets a condition. -/
theorem find?_upFrom_some {p : Nat → Bool} {n k : Nat} (hk : k < n) (hp : p k = true) (first : ∀ j, j < k → p j = false) :
    (upFrom 0 n).find? p = some k := by
  rw [upFrom_eq_range', List.find?_range'_eq_some]
  exact ⟨hp, List.mem_range'_1.2 (by omega), fun j _ hj => by rw [first j hj]; rfl⟩

namespace Machine

section Encode
variable {i : Instr} {g : Sig} {d a q : BitVec 5} {m : BitVec 3} {cw : Nat} {tab : Regs → Tab (BitVec 32)}
  (e : ∀ s, exec i s = vEncode g d a q m cw tab s)
include e

/-- Where every lane that the mask admits has a code, the codes are written to the group (R149). -/
theorem vEncode_done :
    DoneIf i g (fun s => ∀ k, k < 16 → (s.regs.mAt m.toNat).getLsbD ((16 * q.toNat + k) * cw / 32) = true →
        (encodeT (2 ^ cw) (tab s.regs) (s.vf_ a fmt32 k)).isSome = true)
      (fun s => s.encodeGroup d a q m cw (tab s.regs)) := by
  intro s h coded
  rw [e s, vEncode]
  have all : (upFrom 0 16).find? (fun k => (s.regs.mAt m.toNat).getLsbD ((16 * q.toNat + k) * cw / 32)
      && (encodeT (2 ^ cw) (tab s.regs) (s.vf_ a fmt32 k)).isNone) = none := by
    rw [List.find?_eq_none]
    intro k hk bad
    rw [Bool.and_eq_true, Option.isNone_iff_eq_none] at bad
    obtain ⟨on, none_⟩ := bad
    simpa [none_] using coded k (mem_upFrom_zero.1 hk) on
  refine issue_done h ?_ (State.ready_parts h).1
  dsimp only
  rw [all]
  rfl

/-- The first lane that the mask admits and that has no code traps ILLEGAL (R149). -/
theorem vEncode_trap {k : Nat} (hk : k < 16) :
    TrapIf i g (fun s => (s.regs.mAt m.toNat).getLsbD ((16 * q.toNat + k) * cw / 32) = true
        ∧ encodeT (2 ^ cw) (tab s.regs) (s.vf_ a fmt32 k) = none
        ∧ ∀ j, j < k → (s.regs.mAt m.toNat).getLsbD ((16 * q.toNat + j) * cw / 32) = true →
          (encodeT (2 ^ cw) (tab s.regs) (s.vf_ a fmt32 j)).isSome = true)
      (fun _ => { cause := cILLEGAL, tval := natW (2 ^ 63 + k) }) := by
  rintro s h ⟨on, none_, before⟩
  rw [e s, vEncode]
  have first : (upFrom 0 16).find? (fun k => (s.regs.mAt m.toNat).getLsbD ((16 * q.toNat + k) * cw / 32)
      && (encodeT (2 ^ cw) (tab s.regs) (s.vf_ a fmt32 k)).isNone) = some k := by
    refine find?_upFrom_some hk (by simp [on, none_]) fun j hj => ?_
    rw [Bool.and_eq_false_imp]
    intro admitted
    rw [Option.isNone_eq_false_iff]
    exact before j hj admitted
  refine issue_trap h ?_
  dsimp only
  rw [first]

end Encode

/-- Settles O13: the conversions that round, then the exact ones, then the encodes with code widths 8 and 4. -/
theorem vectorConversions : Obligations.VectorConversions := by
  intro sm d a b q m y
  refine ⟨?fi, ?int, ?nar, ?wid, ?dt8, ?dt4, ?et8, ?et4, fun k hk => ?bad8, fun k hk => ?bad4⟩
  case fi => exact vRound_roundV fun s => exec_vcvtFi sm d a m y s
  case int => exact vRound_roundV fun s => exec_vcvtIf sm d a m y s
  case nar => exact vRound_roundV fun s => exec_vcvtNar sm d a b m y s
  case wid => exact vOp_lanesDone (fun s => exec_vcvtWid sm d a q m y s) fun _ _ _ => rfl
  case dt8 => exact vOp_lanesDone_exact (fun s => exec_vcvtDt8 sm d a q m s) fun _ _ _ => rfl
  case dt4 => exact vOp_lanesDone_exact (fun s => exec_vcvtDt4 sm d a q m s) fun _ _ _ => rfl
  case et8 => exact vEncode_done fun s => exec_vcvtEt8 sm d a q m s
  case et4 => exact vEncode_done fun s => exec_vcvtEt4 sm d a q m s
  case bad8 => exact vEncode_trap (fun s => exec_vcvtEt8 sm d a q m s) hk
  case bad4 => exact vEncode_trap (fun s => exec_vcvtEt4 sm d a q m s) hk

end Machine
end Sys2Proof
end

section
/-! PROOF. Vector and hypervector loads and stores (R133, R158). -/

namespace Sys2Proof

theorem bytesOf_length (n v : Nat) : (bytesOf n v).length = n := by
  induction n generalizing v with
  | zero => rfl
  | succ n ih => rw [bytesOf, List.length_cons, ih]

/-- A signed offset in units of `m` bytes (R122, R133). -/
theorem wordOf_sextInt_mul {n : Nat} (hn : 0 < n) (o : BitVec n) (m : Nat) :
    wordOf (sextInt n o.toNat * m) = o.signExtend 64 * natW m := by
  rw [wordOf, sextInt_toNat hn, BitVec.ofInt_mul, BitVec.ofInt_natCast]
  rfl

theorem natW_toNat_mul (x : Word) (m : Nat) : natW (x.toNat * m) = x * natW m := by
  rw [natW, BitVec.ofNat_mul, BitVec.ofNat_toNat, BitVec.setWidth_eq]
  rfl

namespace Machine

/-- What REP adds to an address: the index in units of `m` bytes (R125, R158). -/
theorem Regs.repStep_eq (r : Regs) (m : Nat) :
    (if r.rc = 0 then 0 else natW (r.ri * m)) = if r.csrAt csrRC = 0 then 0 else r.csrAt csrRI * natW m := by
  rw [Regs.ri, natW_toNat_mul]
  have zero : r.rc = 0 ↔ r.csrAt csrRC = 0 := BitVec.toNat_inj (y := 0)
  simp only [zero]

/-- The address of an access with an offset of a ready word (R122, R125, R133). -/
theorem State.addrOf_offsetAddr {s : State} {g : Sig} (a : BitVec 5) (o : BitVec 8) (m : Nat) (h : s.ready g = true) :
    s.addrOf a o m = s.offsetAddr a o m := by
  rw [State.addrOf, State.rx_ready _ _ h, wordOf_sextInt_mul (by decide), Regs.repStep_eq, State.offsetAddr]

/-- The address of a hypervector access of a ready word (R158). -/
theorem State.hypAddr_ready {s : State} {g : Sig} (a : BitVec 5) (h : s.ready g = true) :
    s.hypAddr a = s.regs.xAt a.toNat + (if s.regs.csrAt csrRC = 0 then 0 else s.regs.csrAt csrRI * 512) := by
  rw [State.hypAddr, State.rx_ready _ _ h, Regs.repStep_eq]
  rfl

/-- Settles O23: each form is one load or one store at the address that the rules give. -/
theorem wideMemory : Obligations.WideMemory := by
  intro sm l d a o z w t u h m vb hb ha
  refine ⟨?vldg, ?vlds, ?vstg, ?vsts, ?hldG, ?hldS, ?hstG, ?hstS⟩
  case vldg =>
    exact loadForms_of (fun s _ => exec_vldg sm l d a o z w s) fun s hr => by
      rw [← State.addrOf_offsetAddr a o m hr]
  case vlds =>
    exact loadForms_of (fun s _ => exec_vlds sm l d a o z w s) fun s hr => by
      rw [← State.addrOf_offsetAddr a o m hr]
  case vstg =>
    exact storeForms_of (fun s _ => exec_vstg sm l d a o z w t s) (fun _ => bytesOf_length ..) fun s hr => by
      rw [← State.addrOf_offsetAddr a o m hr]
  case vsts =>
    exact storeForms_of (fun s _ => exec_vsts sm l d a o z w t s) (fun _ => bytesOf_length ..) fun s hr => by
      rw [← State.addrOf_offsetAddr a o m hr]
  case hldG => exact loadForms_of (fun s _ => exec_hldG sm l h a t s) fun s hr => by rw [State.hypAddr_ready a hr]
  case hldS => exact loadForms_of (fun s _ => exec_hldS sm l h a t s) fun s hr => by rw [State.hypAddr_ready a hr]
  case hstG =>
    exact storeForms_of (fun s _ => exec_hstG sm l a h t u s) (fun _ => bytesOf_length ..) fun s hr => by
      rw [State.hypAddr_ready a hr]
  case hstS =>
    exact storeForms_of (fun s _ => exec_hstS sm l a h t u s) (fun _ => bytesOf_length ..) fun s hr => by
      rw [State.hypAddr_ready a hr]

end Machine
end Sys2Proof
end

section
/-! PROOF. Gather and scatter (R136, R137). -/

namespace Sys2Proof.Machine

/-- The active elements of a gather or scatter: each lane and its address, the scalar base plus the lane's signed offset (R136). -/
def State.vgsElements (s : State) (a b : BitVec 5) (m : BitVec 3) : List (Nat × Word) :=
  ((upFrom 0 16).filter (fun i => (s.regs.mAt m.toNat).getLsbD i)).map (fun i =>
    (i, s.regs.xAt a.toNat + (BitVec.ofNat 32 (lane 32 i (s.regs.vAt b.toNat).toNat)).signExtend 64))

/-- The active elements of a ready word are read from its registers. -/
theorem State.vgsLanes_ready {s : State} {g : Sig} (a b : BitVec 5) (m : BitVec 3) (h : s.ready g = true) :
    s.vgsLanes a b m = s.vgsElements a b m := by
  have offset (i : Nat) : sextW 32 (lane 32 i (s.regs.vAt b.toNat).toNat)
      = (BitVec.ofNat 32 (lane 32 i (s.regs.vAt b.toNat).toNat)).signExtend 64 := by
    rw [← sextW_toNat (by decide), BitVec.toNat_ofNat, Nat.mod_eq_of_lt (lane_lt ..)]
  simp only [State.vgsLanes, State.vgsElements, State.rx_ready _ _ h, offset]

/-- They come in ascending lane order (R136). -/
theorem State.vgsElements_ascending (s : State) (a b : BitVec 5) (m : BitVec 3) :
    (s.vgsElements a b m).Pairwise (fun p q => p.1 < q.1) := by
  rw [State.vgsElements, List.pairwise_map, upFrom_eq_range']
  exact List.Pairwise.filter _ List.pairwise_lt_range'

/-- An element whose address fails the check of its space traps (R136). -/
theorem State.vgsLane_trap {s : State} {sp : Nat} {x : Word} {y : Why} (h : s.checkSpace sp x .store = some y) :
    s.vgsLane sp x true = .stop (.trap y) := by
  simp [State.vgsLane, State.checkAddr, h]

/-- An element in a scratchpad passes, and its check changes nothing (R136). -/
theorem State.vgsLane_scr {s : State} {z : Word} (space : s.checkSpace 1 z .store = none) (align : z.toNat % 4 = 0)
    (place : (s.scrLoc s.cur z.toNat 4).isSome = true) : ∃ l, s.vgsLane 1 z true = .at_ l 0 s := by
  obtain ⟨l, hl⟩ := Option.isSome_iff_exists.1 place
  exact ⟨l, by simp [State.vgsLane, State.checkAddr, alignTrap, space, align, hl]⟩

/-- The first element, in ascending lane order, that fails its check traps with its own address (R136). -/
theorem State.lanesOk_first_trap {s : State} {i : Nat} {x : Word} {y : Why} (bad : s.checkSpace 1 x .store = some y)
    {ls : List (Nat × Word)} (ascending : ls.Pairwise (fun p q => p.1 < q.1)) (mem : (i, x) ∈ ls)
    (before : ∀ j z, (j, z) ∈ ls → j < i → s.checkSpace 1 z .store = none ∧ z.toNat % 4 = 0
      ∧ (s.scrLoc s.cur z.toNat 4).isSome = true) : s.lanesOk 1 true ls = .stop (.trap y) := by
  induction ls with
  | nil => exact absurd mem List.not_mem_nil
  | cons e ls ih =>
    obtain ⟨j, z⟩ := e
    obtain ⟨least, rest⟩ := List.pairwise_cons.1 ascending
    rcases List.mem_cons.1 mem with here | later
    · cases here
      rw [State.lanesOk, State.vgsLane_trap bad]
    · obtain ⟨space, align, place⟩ := before j z List.mem_cons_self (least _ later)
      obtain ⟨l, pass⟩ := State.vgsLane_scr space align place
      rw [State.lanesOk, pass]
      exact ih rest later fun k u hk => before k u (List.mem_cons_of_mem _ hk)

section Forms
variable (sm l : Bool) (d a b : BitVec 5) (t u : Bool) (p : BitVec 2) (m : BitVec 3)

/-- A gather whose elements all pass reads them (R136, R137). -/
theorem vgath_done (q : State) (g : Gather) (s1 : State) :
    DoneIf (.vgath sm l d a b t u p m) (cSig (.vgath sm l d a b t u p m))
      (fun s => s.lanesOk p.toNat false (s.vgsElements a b m) = .ok q ∧ s.acquiring = false
        ∧ (p = 0 → ∀ x ∈ s.vgsElements a b m, s.ringOverlap x.2.toNat 4 = false)
        ∧ s.gather p.toNat { base := (s.regs.vAt d.toNat).toNat } (s.vgsElements a b m) = .ok g s1)
      (fun _ => s1.addProd 2 d.toNat false (.gather 4 g.base g.parts)) := by
  rintro s h ⟨pass, calm, ring, read⟩
  have goes : (s.acquiring || (p == 0 && (s.vgsElements a b m).any (fun x => s.ringOverlap x.2.toNat 4))) = false := by
    rw [calm, Bool.false_or, Bool.and_eq_false_imp, beq_iff_eq, List.any_eq_false]
    exact fun hp x hx => by rw [ring hp x hx]; exact Bool.false_ne_true
  rw [exec_vgath, execVgath]
  refine issue_done h ?_ ((State.gather_unit _ read).trans (State.ready_parts h).1)
  simp only [State.vgsLanes_ready a b m h, pass, goes, read, Bool.false_eq_true, if_false]

/-- A gather one of whose elements fails its check traps, and reads nothing (R136). -/
theorem vgath_trap (y : Why) : TrapIf (.vgath sm l d a b t u p m) (cSig (.vgath sm l d a b t u p m))
    (fun s => s.lanesOk p.toNat false (s.vgsElements a b m) = .stop (.trap y)) (fun _ => y) := by
  intro s h bad
  rw [exec_vgath, execVgath]
  refine issue_trap h ?_
  simp only [State.vgsLanes_ready a b m h, bad]

/-- A scatter whose elements all pass writes them (R136, R137). -/
theorem vscat_done (q s1 : State) : DoneIf (.vscat sm l d a b t u p m) (cSig (.vscat sm l d a b t u p m))
    (fun s => s.lanesOk p.toNat true (s.vgsElements a b m) = .ok q ∧ s.acquiring = false
      ∧ q.scatter p.toNat (s.regs.vAt d.toNat).toNat (s.vgsElements a b m) = .ok s1) (fun _ => s1) := by
  rintro s h ⟨pass, calm, written⟩
  rw [exec_vscat, execVscat]
  refine issue_done h ?_ ((State.scatter_unit _ written).trans ((State.lanesOk_unit _ pass).trans (State.ready_parts h).1))
  simp only [State.vgsLanes_ready a b m h, pass, calm, written, Bool.false_eq_true, if_false, Put.res]

/-- A scatter one of whose elements fails its check traps, and writes nothing (R136). -/
theorem vscat_trap (y : Why) : TrapIf (.vscat sm l d a b t u p m) (cSig (.vscat sm l d a b t u p m))
    (fun s => s.lanesOk p.toNat true (s.vgsElements a b m) = .stop (.trap y)) (fun _ => y) := by
  intro s h bad
  rw [exec_vscat, execVscat]
  refine issue_trap h ?_
  simp only [State.vgsLanes_ready a b m h, bad]

end Forms

/-- Settles O25: both forms, done and trapping, and the first element of the scratchpad that fails. -/
theorem gatherScatter : Obligations.GatherScatter := by
  intro sm l d a b t u p m lanes ga sc
  refine ⟨fun q g s1 => vgath_done sm l d a b t u p m q g s1, fun y => vgath_trap sm l d a b t u p m y,
    fun q s1 => vscat_done sm l d a b t u p m q s1, fun y => vscat_trap sm l d a b t u p m y, ?_⟩
  rintro rfl i x y s h ⟨mem, bad, before⟩
  exact vscat_trap sm l d a b t u 1 m y s h (State.lanesOk_first_trap bad (s.vgsElements_ascending a b m) mem before)

end Sys2Proof.Machine
end

section
/-! PROOF. Hypervector operations (R154 to R156). -/

namespace Sys2Proof

/-- The bits of a number, lowest first, are its test bits. -/
theorem bitsOf_eq_map (n v : Nat) : bitsOf n v = (List.range n).map v.testBit := by
  induction n generalizing v with
  | zero => rfl
  | succ n ih =>
    have low : (v % 2 == 1) = v.testBit 0 := Nat.testBit_zero v ▸ rfl
    rw [bitsOf, ih, List.range_succ_eq_map, List.map_cons, List.map_map, low]
    exact congrArg _ (List.map_congr_left fun j _ => (Nat.testBit_succ v j).symm)

/-- The lanes of a register, lowest first (R17). -/
theorem lanesOf_eq_map (w n v : Nat) : lanesOf w n v = (List.range n).map (fun j => lane w j v) := by
  induction n generalizing v with
  | zero => rfl
  | succ n ih =>
    have next (j : Nat) : lane w j (v / 2 ^ w) = lane w (j + 1) v := by
      rw [lane, lane, Nat.div_div_eq_div_mul, ← Nat.pow_add, Nat.mul_succ, Nat.add_comm w]
    have first : v % 2 ^ w = lane w 0 v := by rw [lane, Nat.mul_zero, Nat.pow_zero, Nat.div_one]
    rw [lanesOf, ih, List.range_succ_eq_map, List.map_cons, List.map_map, first]
    exact congrArg _ (List.map_congr_left fun j _ => next j)

namespace Machine

/-- Lane `k` of a register built from lanes that fit it (R17). -/
theorem lane_ofNat_ofLanes {n w k : Nat} {l : List Nat} (fit : w * l.length ≤ n) (h : k < l.length) :
    lane w k (BitVec.ofNat n (ofLanes w l)).toNat = l[k] % 2 ^ w := by
  have small := Nat.lt_of_lt_of_le (ofLanes_lt w l) (Nat.pow_le_pow_right (by decide) fit)
  rw [BitVec.toNat_ofNat, Nat.mod_eq_of_lt small, lane_ofLanes w l k h]

/-- A value clamped to the range of a counter lies in it (R155). -/
theorem clampI_byte (v : Int) : -128 ≤ clampI (-128) 127 v ∧ clampI (-128) 127 v ≤ 127 := by
  unfold clampI imax imin
  split <;> split <;> omega

/-- A counter's value written to its 8 bits is read back (R152). -/
theorem sextInt_wrapI_byte {v : Int} (h : -128 ≤ v ∧ v ≤ 127) : sextInt 8 (wrapI 8 v) = v := by
  rw [wrapI_eq, sextInt_toNat (by decide)]
  exact BitVec.toInt_ofInt_eq_self (by decide) h.1 (Int.lt_of_le_of_lt h.2 (by decide))

/-- What HBUNDLE adds to a counter (R155). -/
theorem bundle1_counter (up : Bool) (v : Nat) :
    sextInt 8 (bundle1 up v).1 = clampI (-128) 127 (sextInt 8 v + if up then 1 else -1) :=
  sextInt_wrapI_byte (clampI_byte _)

theorem bundle1_sat (up : Bool) (v : Nat) :
    (bundle1 up v).2 = true ↔
      ¬(-128 ≤ sextInt 8 v + (if up then 1 else -1) ∧ sextInt 8 v + (if up then 1 else -1) ≤ 127) := by
  rw [bundle1, decide_eq_true_iff]
  omega

/-- HBUNDLE works on each component and counter of its own (R155). -/
theorem bundle_list (h : BitVec 4096) (b : BitVec 32768) :
    ((bitsOf 4096 h.toNat).zip (lanesOf 8 4096 b.toNat)).map (fun p => bundle1 p.1 p.2)
      = (List.range 4096).map (fun j => bundle1 (h.getLsbD j) (lane 8 j b.toNat)) := by
  rw [bitsOf_eq_map, lanesOf_eq_map, List.zip_map', List.map_map]
  rfl

theorem bundle_counter (h : BitVec 4096) (b : BitVec 32768) {j : Nat} (hj : j < 4096) :
    sextInt 8 (lane 8 j (bundle h b).1.toNat)
      = clampI (-128) 127 (sextInt 8 (lane 8 j b.toNat) + if h.getLsbD j then 1 else -1) := by
  have byte : (bundle1 (h.getLsbD j) (lane 8 j b.toNat)).1 % 2 ^ 8 = (bundle1 (h.getLsbD j) (lane 8 j b.toNat)).1 := by
    rw [bundle1, wrapI_eq]
    exact Nat.mod_eq_of_lt (BitVec.isLt _)
  rw [bundle, bundle_list, lane_ofNat_ofLanes (by simp) (by simpa using hj)]
  simp only [List.getElem_map, List.getElem_range]
  rw [byte, bundle1_counter]

theorem bundle_sat (h : BitVec 4096) (b : BitVec 32768) :
    (bundle h b).2 = true ↔ ∃ j, j < 4096 ∧ ¬(-128 ≤ sextInt 8 (lane 8 j b.toNat) + (if h.getLsbD j then 1 else -1)
      ∧ sextInt 8 (lane 8 j b.toNat) + (if h.getLsbD j then 1 else -1) ≤ 127) := by
  rw [bundle, bundle_list, List.any_map, List.any_eq_true]
  simp only [List.mem_range, Function.comp_apply, bundle1_sat]

/-- Component `j` of HTHR's result (R155). -/
theorem thresh_getLsbD (b : BitVec 32768) (tie : BitVec 4096) {j : Nat} (hj : j < 4096) :
    (thresh b tie).getLsbD j =
      if sextInt 8 (lane 8 j b.toNat) = 0 then tie.getLsbD j else decide (0 < sextInt 8 (lane 8 j b.toNat)) := by
  have byte := lane_lt 8 j b.toNat
  have zero : lane 8 j b.toNat = 0 ↔ sextInt 8 (lane 8 j b.toNat) = 0 := by
    unfold sextInt
    split <;> omega
  have up (some_ : lane 8 j b.toNat ≠ 0) : lane 8 j b.toNat < 128 ↔ 0 < sextInt 8 (lane 8 j b.toNat) := by
    unfold sextInt
    split <;> omega
  rw [thresh, bitsOf_eq_map, lanesOf_eq_map, List.zip_map', List.map_map, BitVec.getLsbD_ofNat, decide_eq_true hj, Bool.true_and,
    testBit_ofBits, List.getElem?_map, List.getElem?_range hj, Option.map_some, Option.getD_some, Function.comp_apply]
  by_cases none_ : lane 8 j b.toNat = 0
  · rw [if_pos none_, if_pos (zero.1 none_)]
    rfl
  · rw [if_neg none_, if_neg (mt zero.2 none_), decide_eq_decide]
    exact up none_

/-- HPERM moves component `j - n` modulo 4096 to `j` (R154). -/
theorem hRot_getLsbD (h : BitVec 4096) {n j : Nat} (hn : n < 4096) (hj : j < 4096) :
    (hRot h n).getLsbD j = h.getLsbD ((j + (4096 - n)) % 4096) := by
  rw [hRot, BitVec.getLsbD_rotateLeft, Nat.mod_eq_of_lt hn, decide_eq_true hj, Bool.true_and]
  by_cases wraps : j < n
  · have place : (j + (4096 - n)) % 4096 = 4096 - n + j := by omega
    rw [place, decide_eq_true wraps, cond_true]
  · have place : (j + (4096 - n)) % 4096 = j - n := by omega
    rw [place, decide_eq_false wraps, cond_false]

/-- A form with an H result whose components are `v` (R154, R155). -/
theorem hOp_components {i : Instr} {g : Sig} {d : BitVec 3} {f : State → BitVec 4096} {v : State → Nat → Bool}
    (e : ∀ s, exec i s = hOp g d f s) (hv : ∀ s j, j < 4096 → (f s).getLsbD j = v s j) :
    ∀ s, s.ready g = true → ∃ r : BitVec 4096,
      exec i s = .next (s.retires g (s.writeH d r)) ∧ ∀ j, j < 4096 → r.getLsbD j = v s j :=
  fun s h => ⟨f s, (e s).trans (hOp_done h), hv s⟩

/-- A form that counts components writes X d (R156). -/
theorem count_done {i : Instr} {g : Sig} {d : BitVec 5} {v : State → Word}
    (e : ∀ s, exec i s = issue g s fun s => .done (s.putX d.toNat (v s))) (hd : ⟨0, d.toNat⟩ ∈ g.dsts) :
    Done i g (fun s => s.writeX d (v s)) := by
  intro s h
  rw [e s]
  refine issue_done h ?_ (State.ready_parts h).1
  rw [State.putX_dst _ h hd]
  rfl

/-- Settles O14: the forms with an H result, then HBUNDLE and HCLR on the counters, then the two counts. -/
theorem hyperResults : Obligations.HyperResults := by
  intro sm d a b k x t n H C one
  refine ⟨?bind, ?perm, ?not, ?mov, ?thr, ?bundle, ?clr, ?dist, ?pop⟩
  case bind => exact hOp_components (fun s => exec_hbind sm d a b t s) fun s j _ => BitVec.getLsbD_xor
  case perm => exact hOp_components (fun s => exec_hperm sm d a t n s) fun s j hj => hRot_getLsbD _ n.isLt hj
  case not =>
    refine hOp_components (fun s => exec_hnot sm d a t s) fun s j hj => ?_
    rw [BitVec.getLsbD_not, decide_eq_true hj, Bool.true_and]
  case mov => exact hOp_components (fun s => exec_hmov sm d a t s) fun _ _ _ => rfl
  case thr => exact hOp_components (fun s => exec_hthr sm d a k t s) fun s j hj => thresh_getLsbD _ _ hj
  case bundle =>
    intro s h
    refine ⟨(bundle (H s a) (s.regs.bAt k.toNat)).1, (bundle (H s a) (s.regs.bAt k.toNat)).2, ?_,
      fun j hj => bundle_counter _ _ hj, bundle_sat _ _⟩
    exact (exec_hbundle sm a k t s).trans (issue_done h rfl (State.ready_parts h).1)
  case clr => exact fun s h => (exec_hclr sm k s).trans (issue_done h rfl (State.ready_parts h).1)
  case dist => exact count_done (fun s => exec_hdist sm a b t x s) (List.mem_singleton_self _)
  case pop => exact count_done (fun s => exec_hpop sm a t x s) (List.mem_singleton_self _)

end Machine
end Sys2Proof
end

section
/-! REFUTATION. A poisoned Pod entry of a search's window (R161, R165). -/

namespace Sys2Proof.Machine

/-- PODS whose window's first poisoned entry is `j` traps MCE on a load of it (R163, R165). -/
theorem pods_poisoned_trap (sm l : Bool) (d : BitVec 5) (h : BitVec 3) (u : Bool) (f n j : Nat) :
    TrapIf (.pods sm l d h u) (cSig (.pods sm l d h u)) (fun s => s.podWindow = some (f, n) ∧ j < n ∧ s.podBad (f + j) = true
        ∧ ∀ k, k < j → s.podBad (f + k) = false)
      (fun _ => { cause := cMCE, tval := natW j, unit := 6, acc := accCode .load }) := by
  rintro s ready ⟨window, hj, bad, before⟩
  have first := find?_upFrom_some (p := fun j => s.podBad (f + j)) hj bad before
  rw [exec_pods, execPods]
  refine issue_trap ready ?_
  simp only [window, first]
  rfl

/-- Context 0 runs a task with a trap handler and a Pod window of one entry, which is poisoned. -/
def poisonedPodState : State :=
  { ctxs := [(0, { status := .run, task := some { launch := 1, ord := 0 }
                   regs := { csr := [(csrTVEC, 4096), (csrHWIN, 2 ^ 32)] } })]
    groves := [(0, { grants := [(1, (0, 1))], podPoison := [0] })] }

theorem poisonedPodState_ready : poisonedPodState.ready (cSig (.pods false false 0 0 false)) = true := by decide

theorem poisonedPodState_window : poisonedPodState.podWindow = some (0, 1) := by decide

theorem poisonedPodState_bad : poisonedPodState.podBad 0 = true := by decide

/-- The handler of its machine check finds the access code of the trap in TINFO (R393). -/
theorem poisonedPodState_tinfo (acc : BitVec 4) :
    (poisonedPodState.traps { cause := cMCE, tval := 0, unit := 6, acc := acc } false).regs.csrAt csrTINFO
      = BitVec.ofNat 64 (16 * acc.toNat + 256 * 6) := by
  revert acc
  decide

/-- Refutes O26: the machine check of a PODS that meets a poisoned entry has the access code of a load, 0, and not 4, as the
handler of `poisonedPodState` reads it in TINFO. -/
theorem not_podForms : ¬ Obligations.PodForms := by
  intro forms
  obtain ⟨-, -, -, -, -, -, -, -, -, -, -, poisoned⟩ := forms false false 0 0 0 false false
  have meets : poisonedPodState.podWindow = some (0, 1) ∧ 0 < 1 ∧ poisonedPodState.podBad (0 + 0) = true
      ∧ ∀ k, k < 0 → poisonedPodState.podBad (0 + k) = false :=
    ⟨poisonedPodState_window, Nat.one_pos, poisonedPodState_bad, fun k hk => absurd hk (Nat.not_lt_zero k)⟩
  have claimed := poisoned 0 1 0 poisonedPodState poisonedPodState_ready meets
  rw [pods_poisoned_trap false false 0 0 false 0 1 0 poisonedPodState poisonedPodState_ready meets] at claimed
  have same := congrArg (fun s => s.regs.csrAt csrTINFO) (Host.Outcome.next.inj claimed)
  exact absurd ((poisonedPodState_tinfo 0).symm.trans (same.trans (poisonedPodState_tinfo 4))) (by decide)

end Sys2Proof.Machine
end

section
/-! PROOF. Accumulator rows and edge masks (R175, R181). -/

namespace Sys2Proof

/-- A list with one place replaced is the library's. -/
theorem setNth_eq_set {α : Type} (x : α) (l : List α) (n : Nat) : setNth x l n = l.set n x := by
  induction l generalizing n with
  | nil => rfl
  | cons y l ih =>
    cases n with
    | zero => rfl
    | succ n => rw [setNth, ih, List.set_cons_succ]

namespace Machine

/-- No unit is repeated where the repeat count is 0 (R114). -/
theorem Regs.rc_eq_zero (r : Regs) : r.rc = 0 ↔ r.csrAt csrRC = 0 := BitVec.toNat_inj (y := 0)

/-- The row that MROWR and MROWW move (R181). -/
def State.rowNumber (s : State) (b : BitVec 5) : Word :=
  s.regs.xAt b.toNat + (if s.regs.csrAt csrRC = 0 then 0 else s.regs.csrAt csrRI)

theorem State.rowIx_ready {s : State} {g : Sig} (b : BitVec 5) (h : s.ready g = true) : s.rowIx b = s.rowNumber b := by
  have index : natW s.regs.ri = s.regs.csrAt csrRI := BitVec.ofNat_toNat 64 _ |>.trans (BitVec.setWidth_eq _)
  simp only [State.rowIx, State.rowNumber, State.rx_ready _ _ h, Regs.rc_eq_zero, index]

/-- Bit `i` of an edge mask (R175). -/
theorem edgeMask_getLsbD (origin side : Nat) {i : Nat} (hi : i < 16) :
    (edgeMask origin side).getLsbD i = decide (origin + i < side) := by
  rw [edgeMask, BitVec.getLsbD_ofNat, decide_eq_true hi, Bool.true_and, testBit_ofBits, List.getElem?_map,
    getElem?_upFrom_zero hi, Option.map_some, Option.getD_some]

/-- An accumulator with row `r` replaced by a V register (R181). -/
def rowPut (acc : BitVec 8192) (v : BitVec 512) (r : Nat) : BitVec 8192 :=
  BitVec.ofNat 8192 (ofLanes 512 (setNth v.toNat (lanesOf 512 16 acc.toNat) r))

theorem lane_rowPut (acc : BitVec 8192) (v : BitVec 512) (r : Nat) {k : Nat} (hk : k < 16) :
    lane 512 k (rowPut acc v r).toNat = if k = r then v.toNat else lane 512 k acc.toNat := by
  have rows : (setNth v.toNat (lanesOf 512 16 acc.toNat) r).length = 16 := by
    rw [setNth_eq_set, List.length_set, lanesOf_eq_map, List.length_map, List.length_range]
  rw [rowPut, lane_ofNat_ofLanes (Nat.le_of_eq (congrArg (512 * ·) rows)) (by rw [rows]; exact hk)]
  simp only [setNth_eq_set, lanesOf_eq_map, List.getElem_set, List.getElem_map, List.getElem_range, eq_comm (a := r)]
  split
  · simp only [BitVec.toNat_mod_cancel]
  · rw [Nat.mod_eq_of_lt (lane_lt ..)]

section Forms
variable (sm : Bool) (d a b : BitVec 5) (t u : Bool)

/-- MROWR of one of the 16 rows (R181). -/
theorem mrowr_done : DoneIf (.mrowr sm d a b u) (aSigOf (.mrowr sm d a b u)) (fun s => (s.rowNumber b).toNat < 16)
    (fun s => s.writeV d (lane 512 (s.rowNumber b).toNat (s.regs.accAt a.toNat).toNat)) := by
  intro s h row
  rw [exec_mrowr, execMrowr, ← sig_mrowr]
  refine issue_done h ?_ (State.ready_parts h).1
  simp only [State.rowIx_ready b h]
  rw [if_neg (Nat.not_le.2 row)]
  rfl

theorem mrowr_trap : TrapIf (.mrowr sm d a b u) (aSigOf (.mrowr sm d a b u)) (fun s => 16 ≤ (s.rowNumber b).toNat)
    (fun s => { cause := cILLEGAL, tval := s.rowNumber b }) := by
  intro s h row
  rw [exec_mrowr, execMrowr, ← sig_mrowr]
  refine issue_trap h ?_
  simp only [State.rowIx_ready b h]
  exact if_pos row

/-- MROWW of one of the 16 rows (R181). -/
theorem mroww_done : DoneIf (.mroww sm d a b t u) (aSigOf (.mroww sm d a b t u)) (fun s => (s.rowNumber b).toNat < 16)
    (fun s => s.setRegs (s.regs.setAcc d.toNat
      (rowPut (s.regs.accAt d.toNat) (s.regs.vAt a.toNat) (s.rowNumber b).toNat))) := by
  intro s h row
  rw [exec_mroww, execMroww, ← sig_mroww]
  refine issue_done h ?_ (State.ready_parts h).1
  simp only [State.rowIx_ready b h]
  exact if_neg (Nat.not_le.2 row)

theorem mroww_trap : TrapIf (.mroww sm d a b t u) (aSigOf (.mroww sm d a b t u)) (fun s => 16 ≤ (s.rowNumber b).toNat)
    (fun s => { cause := cILLEGAL, tval := s.rowNumber b }) := by
  intro s h row
  rw [exec_mroww, execMroww, ← sig_mroww]
  refine issue_trap h ?_
  simp only [State.rowIx_ready b h]
  exact if_pos row

/-- MEDGE writes the three edge masks (R175). -/
theorem medge_done : Done (.medge sm a t) (aSigOf (.medge sm a t)) (fun s =>
    ((s.writeM 5 (edgeMask (s.regs.csrAt csrMGOM).toNat (s.regs.csrAt csrMGM).toNat)).writeM 6
      (edgeMask (s.regs.csrAt csrMGON).toNat (s.regs.csrAt csrMGN).toNat)).writeM 7
      (edgeMask (s.regs.xAt a.toNat).toNat (s.regs.csrAt csrMGK).toNat)) := by
  intro s h
  rw [exec_medge, execMedge, ← sig_medge]
  refine issue_done h ?_ (State.ready_parts h).1
  rw [State.rx_ready _ _ h]
  rfl

end Forms

/-- Settles O15: each form's result, and the lanes and bits of what it writes. -/
theorem matrixRows : Obligations.MatrixRows := by
  intro sm d a b t u row
  refine ⟨?zero, mrowr_done sm d a b u, mrowr_trap sm d a b u, ?write, mroww_trap sm d a b t u, ?edge⟩
  case zero => exact fun s h => (exec_mzero sm d s).trans (issue_done h rfl (State.ready_parts h).1)
  case write => exact fun s h hr => ⟨_, mroww_done sm d a b t u s h hr, fun k hk => lane_rowPut _ _ _ hk⟩
  case edge =>
    exact fun s h => ⟨_, _, _, medge_done sm a t s h, fun i hi =>
      ⟨edgeMask_getLsbD _ _ hi, edgeMask_getLsbD _ _ hi, edgeMask_getLsbD _ _ hi⟩⟩

end Machine
end Sys2Proof
end

section
/-! PROOF. Claiming, releasing and filling operand slots (R169 to R172). -/

namespace Sys2Proof.Machine

/-- A destination X register of a ready word is bound to no port (R25). -/
theorem State.dst_unbound {s : State} {g : Sig} {n : Nat} (h : s.ready g = true) (hd : ⟨0, n⟩ ∈ g.dsts) :
    s.regs.boundTo n = none := by
  obtain ⟨-, -, -, -, -, -, -, writable⟩ := State.ready_parts h
  exact Regs.writable_x (writable _ hd)

/-- A slot of the current core. -/
abbrev State.coreSlot (s : State) (n : Nat) : Slot := tabGet {} (s.core (coreOf s.cur)).slots n

/-! MCLAIM (R170) -/

/-- Slot `n` claimed, and its number written. -/
def State.claims (s : State) (d : BitVec 5) (n : Nat) : State :=
  (s.setSlot n { owner := some s.cur, busy := true }).writeX d (natW n)

/-- The lowest FREE slot of the current core. -/
def State.freeSlot (s : State) : Option Nat := (upFrom 0 128).find? (fun k => (s.coreSlot k).owner.isNone)

theorem State.freeSlot_some {s : State} {k : Nat} (hk : k < 128) (free : (s.coreSlot k).owner = none)
    (before : ∀ j, j < k → (s.coreSlot j).owner ≠ none) : s.freeSlot = some k :=
  find?_upFrom_some hk (Option.isNone_iff_eq_none.2 free) fun j hj =>
    Option.isNone_eq_false_iff.2 (Option.isSome_iff_ne_none.2 (before j hj))

theorem State.freeSlot_none {s : State} (owned : ∀ j, j < 128 → (s.coreSlot j).owner ≠ none) : s.freeSlot = none :=
  List.find?_eq_none.2 fun j hj => mt Option.isNone_iff_eq_none.1 (owned j (mem_upFrom_zero.1 hj))

/-- What MCLAIM of `r` answers. -/
def State.claimRes (s : State) (d : BitVec 5) (r : Word) : Res :=
  if s.acquiring then .wait
  else if r = -1 then
    match s.freeSlot with
    | some n => .done (s.claims d n)
    | none => .done (s.writeX d (-1))
  else if 127 < r.toNat then .trap { cause := cILLEGAL, tval := r }
  else if (s.coreSlot r.toNat).owner = some s.cur then .done (s.writeX d r)
  else if (s.coreSlot r.toNat).owner.isSome then .done (s.writeX d (-1))
  else .done (s.claims d r.toNat)

section Mclaim
variable (sm l : Bool) (d a : BitVec 5) (t : Bool)

theorem mclaim_ready {s : State} (h : s.ready (cSig (.mclaim sm l d a t)) = true) : ∃ f : State → Res,
    exec (.mclaim sm l d a t) s = issue (cSig (.mclaim sm l d a t)) s f ∧ f s = s.claimRes d (s.regs.xAt a.toNat) := by
  have free : s.regs.boundTo d.toNat = none := State.dst_unbound h (List.mem_singleton.2 rfl)
  have write (v : Word) : s.putX d.toNat v = s.writeX d v := State.putX_plain v free
  have claim (n : Nat) : (s.setSlot n { owner := some s.cur, busy := true }).putX d.toNat (natW n) = s.claims d n :=
    State.putX_plain _ free
  refine ⟨_, exec_mclaim sm l d a t s, ?_⟩
  simp only [State.rx_ready _ _ h, write, claim]
  rfl

/-- MCLAIM of -1 where a slot is FREE (R170). -/
theorem mclaim_lowest (k : Nat) : DoneIf (.mclaim sm l d a t) (cSig (.mclaim sm l d a t))
    (fun s => s.acquiring = false ∧ s.regs.xAt a.toNat = -1 ∧ k < 128 ∧ (s.coreSlot k).owner = none
      ∧ ∀ j, j < k → (s.coreSlot j).owner ≠ none) (fun s => s.claims d k) := by
  rintro s h ⟨calm, any, hk, free, before⟩
  obtain ⟨f, hf, meaning⟩ := mclaim_ready sm l d a t h
  rw [hf]
  refine issue_done h ?_ (State.ready_parts h).1
  rw [meaning, State.claimRes, calm, any, State.freeSlot_some hk free before]
  rfl

theorem mclaim_none : DoneIf (.mclaim sm l d a t) (cSig (.mclaim sm l d a t))
    (fun s => s.acquiring = false ∧ s.regs.xAt a.toNat = -1 ∧ ∀ j, j < 128 → (s.coreSlot j).owner ≠ none)
    (fun s => s.writeX d (-1)) := by
  rintro s h ⟨calm, any, owned⟩
  obtain ⟨f, hf, meaning⟩ := mclaim_ready sm l d a t h
  rw [hf]
  refine issue_done h ?_ (State.ready_parts h).1
  rw [meaning, State.claimRes, calm, any, State.freeSlot_none owned]
  rfl

theorem mclaim_illegal : TrapIf (.mclaim sm l d a t) (cSig (.mclaim sm l d a t))
    (fun s => s.acquiring = false ∧ s.regs.xAt a.toNat ≠ -1 ∧ 127 < (s.regs.xAt a.toNat).toNat)
    (fun s => { cause := cILLEGAL, tval := s.regs.xAt a.toNat }) := by
  rintro s h ⟨calm, named, beyond⟩
  obtain ⟨f, hf, meaning⟩ := mclaim_ready sm l d a t h
  rw [hf]
  refine issue_trap h ?_
  rw [meaning, State.claimRes, calm, if_neg Bool.false_ne_true, if_neg named, if_pos beyond]

/-- MCLAIM of a slot's number (R170). -/
theorem State.claimRes_named {s : State} {r : Word} (calm : s.acquiring = false) (hr : r.toNat < 128) : s.claimRes d r =
    if (s.coreSlot r.toNat).owner = some s.cur then .done (s.writeX d r)
    else if (s.coreSlot r.toNat).owner.isSome then .done (s.writeX d (-1))
    else .done (s.claims d r.toNat) := by
  have named : r ≠ -1 := by
    rintro rfl
    exact absurd hr (by decide)
  rw [State.claimRes, calm, if_neg Bool.false_ne_true, if_neg named, if_neg (Nat.not_lt.2 (Nat.le_of_lt_succ hr))]

theorem mclaim_own : DoneIf (.mclaim sm l d a t) (cSig (.mclaim sm l d a t))
    (fun s => s.acquiring = false ∧ (s.regs.xAt a.toNat).toNat < 128
      ∧ (s.coreSlot (s.regs.xAt a.toNat).toNat).owner = some s.cur) (fun s => s.writeX d (s.regs.xAt a.toNat)) := by
  rintro s h ⟨calm, hr, own⟩
  obtain ⟨f, hf, meaning⟩ := mclaim_ready sm l d a t h
  rw [hf]
  refine issue_done h ?_ (State.ready_parts h).1
  rw [meaning, State.claimRes_named d calm hr, if_pos own]

theorem mclaim_other (j : Nat) : DoneIf (.mclaim sm l d a t) (cSig (.mclaim sm l d a t))
    (fun s => s.acquiring = false ∧ (s.regs.xAt a.toNat).toNat < 128
      ∧ (s.coreSlot (s.regs.xAt a.toNat).toNat).owner = some j ∧ j ≠ s.cur) (fun s => s.writeX d (-1)) := by
  rintro s h ⟨calm, hr, owner, other⟩
  obtain ⟨f, hf, meaning⟩ := mclaim_ready sm l d a t h
  rw [hf]
  refine issue_done h ?_ (State.ready_parts h).1
  rw [meaning, State.claimRes_named d calm hr, owner, if_neg (mt Option.some.inj other)]
  rfl

theorem mclaim_free : DoneIf (.mclaim sm l d a t) (cSig (.mclaim sm l d a t))
    (fun s => s.acquiring = false ∧ (s.regs.xAt a.toNat).toNat < 128
      ∧ (s.coreSlot (s.regs.xAt a.toNat).toNat).owner = none) (fun s => s.claims d (s.regs.xAt a.toNat).toNat) := by
  rintro s h ⟨calm, hr, free⟩
  obtain ⟨f, hf, meaning⟩ := mclaim_ready sm l d a t h
  rw [hf]
  refine issue_done h ?_ (State.ready_parts h).1
  rw [meaning, State.claimRes_named d calm hr, free]
  rfl

end Mclaim

/-! MREL (R170) -/

section Mrel
variable (sm l : Bool) (a : BitVec 5) (t : Bool)

theorem mrel_trap : TrapIf (.mrel sm l a t) (cSig (.mrel sm l a t))
    (fun s => 127 < (s.regs.xAt a.toNat).toNat ∨ (s.coreSlot (s.regs.xAt a.toNat).toNat).owner ≠ some s.cur)
    (fun s => { cause := cSLOT, tval := s.regs.xAt a.toNat }) := by
  intro s h bad
  rw [exec_mrel, execMrel]
  refine issue_trap h ?_
  rw [State.rx_ready _ _ h]
  exact if_pos bad

theorem mrel_waits : WaitIf (.mrel sm l a t) (cSig (.mrel sm l a t))
    (fun s => (s.regs.xAt a.toNat).toNat < 128 ∧ (s.coreSlot (s.regs.xAt a.toNat).toNat).owner = some s.cur
      ∧ (s.coreSlot (s.regs.xAt a.toNat).toNat).busy = true) := by
  rintro s h ⟨hr, own, busy⟩
  rw [exec_mrel, execMrel]
  refine issue_wait h ?_
  rw [State.rx_ready _ _ h]
  exact (if_neg (not_or.2 ⟨by omega, not_not_intro own⟩)).trans (if_pos busy)

theorem mrel_done : DoneIf (.mrel sm l a t) (cSig (.mrel sm l a t))
    (fun s => (s.regs.xAt a.toNat).toNat < 128 ∧ (s.coreSlot (s.regs.xAt a.toNat).toNat).owner = some s.cur
      ∧ (s.coreSlot (s.regs.xAt a.toNat).toNat).busy = false)
    (fun s => s.setSlot (s.regs.xAt a.toNat).toNat
      { s.coreSlot (s.regs.xAt a.toNat).toNat with owner := none, tag := none }) := by
  rintro s h ⟨hr, own, idle⟩
  rw [exec_mrel, execMrel]
  refine issue_done h ?_ (State.ready_parts h).1
  rw [State.rx_ready _ _ h]
  exact (if_neg (not_or.2 ⟨by omega, not_not_intro own⟩)).trans (if_neg (ne_true_of_eq_false idle))

end Mrel

/-! The reads of a fill (R172) -/

/-- A place in a scratchpad lies in no uncached frame. -/
theorem State.scrLoc_uc {s : State} {c a n : Nat} {p : Loc} (leaf : Nat) (h : s.scrLoc c a n = some p) : p.uc leaf = none := by
  unfold State.scrLoc at h
  dsimp only at h
  split at h
  · exact nomatch h
  split at h
  · rw [← Option.some.inj h]
    rfl
  · exact nomatch h

/-- The place of an MLD's read leaves the unit under way as it is. -/
theorem State.tileAt_unit {s t : State} {sp n : Nat} {a : Word} (h : (s.tileAt sp a n).state = .ok t) : t.unit = s.unit := by
  unfold State.tileAt at h
  split at h
  · split at h
    · exact nomatch h
    split at h
    · exact nomatch h
    · exact nomatch h
    · next reached => rw [← Put.ok.inj h, (State.reach_same reached).1]
  · split at h
    · exact nomatch h
    split at h
    · exact nomatch h
    · rw [← Put.ok.inj h]
  · dsimp only at h
    split at h
    · exact nomatch h
    · exact nomatch h
    · rw [← Put.ok.inj h, State.within_unit]

theorem State.countTile_unit {s t : State} {sp : Nat} {a : Word} {c : Option Word} (h : s.countTile sp a c = some t) :
    t.unit = s.unit := by
  unfold State.countTile at h
  split at h
  · rw [Option.some.inj h]
  · obtain ⟨r, data, side⟩ := Option.bind_eq_some_iff.1 h
    refine Eq.trans ?_ (State.countBytes_same data).1
    cases c with
    | none => rw [Option.some.inj side]
    | some k => exact (State.countBytes_same side).1

/-- The state after the place of a read has been found, `s` where it has not. -/
def TileAt.after (s : State) : TileAt → State
  | .at_ _ _ q => q
  | .win _ _ q => q
  | .stop _ => s

theorem TileAt.after_ok {s t : State} {d : TileAt} (h : d.state = .ok t) : d.after s = t := by
  cases d with
  | at_ p leaf q => exact Put.ok.inj h
  | win v bad q => exact Put.ok.inj h
  | stop r => exact nomatch h

/-- The region whose tag the fill gives (R180). -/
def State.tileTag (s : State) (sp : Nat) (a : Word) : Option Nat :=
  if sp = 0 then (s.regionAt s.me.vf a.toNat).map (·.1) else none

/-- Slot `n` marked busy with the fill `x`, begun at `s`. -/
def State.fills (s : State) (n : Nat) (x : Fill) (tag : Option Nat) : State :=
  s.setSlot n { s.coreSlot n with busy := true, fill := some (x, tag) }

theorem State.fillSlot_data {s s1 s2 : State} (n : Nat) {sp : Nat} {a : Word} {d : TileAt} (hd : d.state = .ok s1)
    (count : s1.countTile sp a none = some s2) :
    s.fillSlot n sp a d none = .done (s2.fills n { fillOf s.me.nseq a d none with since := s.tick } (s.tileTag sp a)) := by
  simp only [State.fillSlot, Option.map_none, Option.getD_none, hd, count]
  rfl

theorem State.fillSlot_side {s s1 s2 s3 : State} (n : Nat) {sp : Nat} {a b : Word} {d k : TileAt} (hd : d.state = .ok s1)
    (hk : k.state = .ok s2) (count : s2.countTile sp a (some b) = some s3) :
    s.fillSlot n sp a d (some (b, k))
      = .done (s3.fills n { fillOf s.me.nseq a d (some (b, k)) with since := s.tick } (s.tileTag sp a)) := by
  simp only [State.fillSlot, Option.map_some, Option.getD_some, hd, hk, count]
  rfl

/-! MLD (R172) -/

/-- The index that REP adds, 0 outside it (R114). -/
def State.repIndex (s : State) : Nat := if s.regs.csrAt csrRC = 0 then 0 else (s.regs.csrAt csrRI).toNat

theorem State.repIndex_eq (s : State) : (if s.regs.rc = 0 then 0 else s.regs.ri) = s.repIndex := by
  simp only [State.repIndex, Regs.ri, Regs.rc_eq_zero]

/-- The slot that MLD fills, and the addresses of its data and its sideband. -/
def State.tileNumber (s : State) (d : BitVec 5) : Nat := fld (s.regs.xAt d.toNat).toNat 0 7 + s.repIndex
def State.tileData (s : State) (a : BitVec 5) : Word := s.regs.xAt a.toNat + natW (s.repIndex * 512)
def State.tileSide (s : State) (b : BitVec 5) : Word := s.regs.xAt b.toNat + natW (s.repIndex * 32)

/-- The slot is the context's and is not busy, and no acquire load is outstanding. -/
abbrev State.tileOwned (s : State) (d : BitVec 5) : Prop :=
  s.tileNumber d ≤ 127 ∧ (s.coreSlot (s.tileNumber d)).owner = some s.cur ∧ (s.coreSlot (s.tileNumber d)).busy = false
    ∧ s.acquiring = false

/-- What MLD answers. -/
def State.tileRes (s : State) (d a b : BitVec 5) (c : Bool) (sp : Nat) : Res :=
  if 127 < s.tileNumber d ∨ (s.coreSlot (s.tileNumber d)).owner ≠ some s.cur then
    .trap { cause := cSLOT, tval := natW (s.tileNumber d) }
  else
    match s.tileCheck sp (s.tileData a) 512, (if c then s.tileCheck sp (s.tileSide b) 32 else none) with
    | some y, _ => .trap y
    | none, some y => .trap y
    | none, none =>
      if (s.coreSlot (s.tileNumber d)).busy || s.acquiring then .wait
      else
        let at1 := s.tileAt sp (s.tileData a) 512
        s.fillSlot (s.tileNumber d) sp (s.tileData a) at1
          (if c then some (s.tileSide b, (at1.after s).tileAt sp (s.tileSide b) 32) else none)

/-- An MLD whose slot and addresses pass their checks fills. -/
theorem State.tileRes_fills {s : State} {d a b : BitVec 5} {c : Bool} {sp : Nat} (owned : s.tileOwned d)
    (space : s.checkSpace sp (s.tileData a) .load = none) (align : (s.tileData a).toNat % 512 = 0)
    (side : c = true → s.checkSpace sp (s.tileSide b) .load = none ∧ (s.tileSide b).toNat % 32 = 0) :
    s.tileRes d a b c sp = s.fillSlot (s.tileNumber d) sp (s.tileData a) (s.tileAt sp (s.tileData a) 512)
      (if c then some (s.tileSide b, ((s.tileAt sp (s.tileData a) 512).after s).tileAt sp (s.tileSide b) 32) else none) := by
  obtain ⟨hn, own, idle, calm⟩ := owned
  have data : s.tileCheck sp (s.tileData a) 512 = none := State.checkAddr_ok space align
  have other : (if c then s.tileCheck sp (s.tileSide b) 32 else none) = none := by
    cases c with
    | false => rfl
    | true => exact State.checkAddr_ok (side rfl).1 (side rfl).2
  rw [State.tileRes, if_neg (not_or.2 ⟨Nat.not_lt.2 hn, not_not_intro own⟩), data, other, idle, calm]
  rfl

section Mld
variable (sm l : Bool) (d a b : BitVec 5) (t u c : Bool) (p : BitVec 2)

theorem mld_ready {s : State} (h : s.ready (cSig (.mld sm l d a b t u c p)) = true) : ∃ f : State → Res,
    exec (.mld sm l d a b t u c p) s = issue (cSig (.mld sm l d a b t u c p)) s f ∧ f s = s.tileRes d a b c p.toNat := by
  refine ⟨_, exec_mld sm l d a b t u c p s, ?_⟩
  simp only [State.rx_ready _ _ h, State.repIndex_eq]
  rfl

theorem mld_slot_trap : TrapIf (.mld sm l d a b t u c p) (cSig (.mld sm l d a b t u c p))
    (fun s => 127 < s.tileNumber d ∨ (s.coreSlot (s.tileNumber d)).owner ≠ some s.cur)
    (fun s => { cause := cSLOT, tval := natW (s.tileNumber d) }) := by
  intro s h bad
  obtain ⟨f, hf, meaning⟩ := mld_ready sm l d a b t u c p h
  rw [hf]
  exact issue_trap h (meaning.trans (if_pos bad))

/-- MLD of data without sideband (R172). -/
theorem mld_data {sp : Nat} (hp : p.toNat = sp) (d1 : TileAt) (s1 s2 : State) :
    DoneIf (.mld sm l d a b t u false p) (cSig (.mld sm l d a b t u false p))
      (fun s => s.tileOwned d ∧ s.checkSpace sp (s.tileData a) .load = none ∧ (s.tileData a).toNat % 512 = 0
        ∧ s.tileAt sp (s.tileData a) 512 = d1 ∧ d1.state = .ok s1
        ∧ s1.countTile sp (s.tileData a) none = some s2)
      (fun s => s2.fills (s.tileNumber d) { fillOf s.me.nseq (s.tileData a) d1 none with since := s.tick }
        (s.tileTag sp (s.tileData a))) := by
  rintro s h ⟨owned, space, align, rfl, found, count⟩
  obtain ⟨f, hf, meaning⟩ := mld_ready sm l d a b t u false p h
  have unit : s2.unit = {} := (State.countTile_unit count).trans ((State.tileAt_unit found).trans (State.ready_parts h).1)
  rw [hf]
  refine issue_done h ?_ unit
  rw [meaning, hp, State.tileRes_fills owned space align fun side => absurd side Bool.false_ne_true]
  exact State.fillSlot_data _ found count

/-- MLD of data and sideband (R172). -/
theorem mld_side (d1 d2 : TileAt) (s1 s2 s3 : State) :
    DoneIf (.mld sm l d a b t u true p) (cSig (.mld sm l d a b t u true p))
      (fun s => s.tileOwned d ∧ s.checkSpace p.toNat (s.tileData a) .load = none ∧ (s.tileData a).toNat % 512 = 0
        ∧ s.checkSpace p.toNat (s.tileSide b) .load = none ∧ (s.tileSide b).toNat % 32 = 0
        ∧ s.tileAt p.toNat (s.tileData a) 512 = d1 ∧ d1.state = .ok s1
        ∧ s1.tileAt p.toNat (s.tileSide b) 32 = d2 ∧ d2.state = .ok s2
        ∧ s2.countTile p.toNat (s.tileData a) (some (s.tileSide b)) = some s3)
      (fun s => s3.fills (s.tileNumber d)
        { fillOf s.me.nseq (s.tileData a) d1 (some (s.tileSide b, d2)) with since := s.tick }
        (s.tileTag p.toNat (s.tileData a))) := by
  rintro s h ⟨owned, space, align, space2, align2, rfl, found, rfl, found2, count⟩
  obtain ⟨f, hf, meaning⟩ := mld_ready sm l d a b t u true p h
  have unit : s3.unit = {} := (State.countTile_unit count).trans
    ((State.tileAt_unit found2).trans ((State.tileAt_unit found).trans (State.ready_parts h).1))
  rw [hf]
  refine issue_done h ?_ unit
  rw [meaning, State.tileRes_fills owned space align fun _ => ⟨space2, align2⟩, TileAt.after_ok found]
  exact State.fillSlot_side _ found found2 count

/-- The reads of the 512 bytes of a tile at a place, one for each granule (R172, R284). -/
def tileReads (lc : Loc) (va : Word) (uc : Option Nat) : List Piece :=
  (upFrom 0 64).map (fun k => { ix := k, loc := lc.add (8 * k), va := va, uc := uc })

/-- The fill of data that is still to be read. -/
theorem fillOf_at (n : Nat) (va : Word) (lc : Loc) (leaf : Nat) (s : State) :
    fillOf n va (.at_ lc leaf s) none = { n := n, parts := tileReads lc va (lc.uc leaf) } := rfl

/-- MLD from a scratchpad (R172). -/
theorem mld_scratchpad (lc : Loc) : DoneIf (.mld sm l d a b t u false 1) (cSig (.mld sm l d a b t u false 1))
    (fun s => s.tileOwned d ∧ s.checkSpace 1 (s.tileData a) .load = none ∧ (s.tileData a).toNat % 512 = 0
      ∧ s.scrLoc s.cur (s.tileData a).toNat 512 = some lc ∧ s.ownWaits lc = false)
    (fun s => s.fills (s.tileNumber d)
      { n := s.me.nseq, parts := tileReads lc (s.tileData a) none, since := s.tick } none) := by
  rintro s h ⟨owned, space, align, place, goes⟩
  have found : s.tileAt 1 (s.tileData a) 512 = .at_ lc 0 s := by
    simp only [State.tileAt, place, goes, Bool.false_eq_true, if_false]
  have filled := mld_data sm l d a b t u 1 (sp := 1) rfl _ s s s h ⟨owned, space, align, found, rfl, rfl⟩
  dsimp only at filled
  rw [fillOf_at, State.scrLoc_uc 0 place] at filled
  exact filled

/-- MLD from global memory (R172, R180). -/
theorem mld_global (lc : Loc) (leaf : Nat) (s1 s2 : State) :
    DoneIf (.mld sm l d a b t u false 0) (cSig (.mld sm l d a b t u false 0))
      (fun s => s.tileOwned d ∧ s.checkSpace 0 (s.tileData a) .load = none ∧ (s.tileData a).toNat % 512 = 0
        ∧ s.ringOverlap (s.tileData a).toNat 512 = false ∧ s.reach (s.tileData a) .load true = .at_ lc leaf s1
        ∧ s1.countBytes s.me.vf (s.tileData a).toNat 512 = some s2)
      (fun s => s2.fills (s.tileNumber d)
        { n := s.me.nseq, parts := tileReads lc (s.tileData a) (lc.uc leaf), since := s.tick }
        ((s.regionAt s.me.vf (s.tileData a).toNat).map (·.1))) := by
  rintro s h ⟨owned, space, align, ring, reached, count⟩
  have found : s.tileAt 0 (s.tileData a) 512 = .at_ lc leaf s1 := by
    simp only [State.tileAt, ring, reached, Bool.false_eq_true, if_false]
  have counted : s1.countTile 0 (s.tileData a) none = some s2 := by
    rw [State.countTile, if_neg (not_not_intro rfl), State.sameUnit_me (State.reach_same reached), count]
    rfl
  have filled := mld_data sm l d a b t u 0 (sp := 0) rfl _ s1 s2 s h ⟨owned, space, align, found, rfl, counted⟩
  dsimp only at filled
  rw [fillOf_at, State.tileTag, if_pos rfl] at filled
  exact filled

end Mld

/-- Settles O27: MCLAIM, MREL, and MLD of each space, with and without sideband. -/
theorem slotForms : Obligations.SlotForms := by
  intro sm l d a b t u c p A slot cl rl ld claimed ri n adr sad calm owned tag reads
  refine ⟨mclaim_lowest sm l d a t, mclaim_none sm l d a t, mclaim_illegal sm l d a t, mclaim_own sm l d a t,
    mclaim_other sm l d a t, mclaim_free sm l d a t, mrel_trap sm l a t, mrel_waits sm l a t, mrel_done sm l a t,
    mld_slot_trap sm l d a b t u c p, ?scratchpad, ?global, ?data, ?side⟩
  case scratchpad =>
    rintro rfl rfl lc
    exact mld_scratchpad sm l d a b t u lc
  case global =>
    rintro rfl rfl lc leaf s1 s2
    exact mld_global sm l d a b t u lc leaf s1 s2
  case data =>
    rintro rfl d1 s1 s2
    exact mld_data sm l d a b t u p rfl d1 s1 s2
  case side =>
    rintro rfl d1 d2 s1 s2 s3
    exact mld_side sm l d a b t u p d1 d2 s1 s2 s3

end Sys2Proof.Machine
end

section
/-! PROOF. Accumulator stores (R182 to R184). -/

namespace Sys2Proof.Machine

/-! The unit under way after the steps of a store -/

/-- Steps that leave the unit under way leave it together. -/
theorem State.foldl_unit {α : Type} {f : State → α → State} (keeps : ∀ s x, (f s x).unit = s.unit) (l : List α)
    (s : State) : (l.foldl f s).unit = s.unit := by
  induction l generalizing s with
  | nil => rfl
  | cons x l ih => exact (ih _).trans (keeps s x)

theorem State.writeOwn_unit {s t : State} {ws : List Write} (h : s.writeOwn ws = some t) : t.unit = s.unit := by
  unfold State.writeOwn at h
  split at h
  · exact State.post_unit h
  · rw [← Option.some.inj h, State.perform_unit]

theorem Placed.add_ok {e : MElt × Option Write} {q : Placed} {es : List (MElt × Option Write)} {t : State}
    (h : q.add e = .ok es t) : ∃ rest, q = .ok rest t := by
  cases q with
  | ok rest s =>
    obtain ⟨-, rfl⟩ := Placed.ok.inj h
    exact ⟨rest, rfl⟩
  | stop r => exact nomatch h

/-- The checks and translations of the elements leave the unit under way as it is (R183). -/
theorem State.mstPlace_unit {sp z : Nat} (ls : List MElt) : ∀ {s t : State} {ps : List (MElt × Option Write)},
    s.mstPlace sp z ls = .ok ps t → t.unit = s.unit := by
  induction ls with
  | nil => intro s t ps h; rw [(Placed.ok.inj h).2]
  | cons e ls ih =>
    intro s t ps h
    simp only [State.mstPlace] at h
    split at h
    · exact nomatch h
    split at h
    · split at h
      · exact nomatch h
      split at h
      · exact nomatch h
      · exact nomatch h
      · next reached =>
        obtain ⟨_, placed⟩ := Placed.add_ok h
        exact (ih placed).trans (State.reach_same reached).1
    · split at h
      · exact nomatch h
      split at h
      · exact nomatch h
      · obtain ⟨_, placed⟩ := Placed.add_ok h
        exact ih placed
    · obtain ⟨_, placed⟩ := Placed.add_ok h
      exact ih placed

/-- One row stored leaves the unit under way as it is (R184). -/
theorem State.mstRow_unit {s t : State} {sp : Nat} {es : List (MElt × Option Write)} (h : s.mstRow sp es = some t) :
    t.unit = s.unit := by
  unfold State.mstRow at h
  dsimp only at h
  split at h
  · rw [Option.some.inj h]
  split at h
  · have signed : ∀ l : List (Word × List Byte), (l.foldl (fun (r : State) k => r.sign k.1 k.2) s).unit = s.unit :=
      fun l => State.foldl_unit (fun s k => State.sign_unit s k.1 k.2) l s
    split at h
    · rw [← Option.some.inj h, signed]
    · rw [State.post_unit h, State.foldl_unit _ _ _, signed]
      intro r e
      split
      · exact State.signOld_unit ..
      · rfl
  · obtain ⟨own, stored, rest⟩ := Option.bind_eq_some_iff.1 h
    split at rest
    · rw [← Option.some.inj rest, State.writeOwn_unit stored]
    · rw [State.post_unit rest, State.writeOwn_unit stored]

/-- One element stored in the stream window after those before it. -/
def Put.andWindow (q : Put) (e : MElt × Option Write) : Put :=
  match q with
  | .ok s => s.putWindow e.1.addr e.1.bytes 0 true
  | .stop r => .stop r

theorem Put.andWindow_unit {s t : State} (es : List (MElt × Option Write)) :
    ∀ {q : Put}, (∀ r, q = .ok r → r.unit = s.unit) → es.foldl Put.andWindow q = .ok t → t.unit = s.unit := by
  induction es with
  | nil => exact fun before h => before t h
  | cons e es ih =>
    intro q before h
    refine ih (fun r stored => ?_) h
    cases q with
    | ok x => exact (State.putWindow_unit stored).trans (before x rfl)
    | stop y => exact nomatch stored

/-- The rows stored leave the unit under way as it is (R183, R184). -/
theorem State.mstWrite_unit {sp : Nat} (rows : List (List (MElt × Option Write))) : ∀ {s t : State},
    s.mstWrite sp rows = .ok t → t.unit = s.unit := by
  induction rows with
  | nil => intro s t h; rw [Put.ok.inj h]
  | cons r rows ih =>
    intro s t h
    simp only [State.mstWrite] at h
    split at h
    · split at h
      · next stored => exact (ih h).trans (Put.andWindow_unit r (q := .ok s) (fun x hx => by rw [Put.ok.inj hx]) stored)
      · exact nomatch h
    · split at h
      · next stored => exact (ih h).trans (State.mstRow_unit stored)
      · exact nomatch h

/-- Rows without an element store nothing. -/
theorem State.mstWrite_empty (s : State) (sp : Nat) {rows : List (List (MElt × Option Write))} (empty : ∀ r ∈ rows, r = []) :
    s.mstWrite sp rows = .ok s := by
  induction rows with
  | nil => rfl
  | cons r rows ih =>
    obtain rfl := empty r List.mem_cons_self
    have rest := ih fun q hq => empty q (List.mem_cons_of_mem _ hq)
    rw [State.mstWrite]
    split <;> exact rest

/-! The elements that an MST stores (R183) -/

/-- The elements that the masks let through, in ascending order. -/
def State.mstElements (s : State) (m : Bool) : List Nat :=
  (upFrom 0 256).filter (fun e => !m || ((s.regs.mAt 5).getLsbD (e / 16) && (s.regs.mAt 6).getLsbD (e % 16)))

/-- The draws of an MST that rounds, and the state after them. -/
def State.mstDraws (s : State) (fmt : Nat) : List Nat × State := if fmt = 0 then ([], s) else s.draws s.regs.frm 256

/-- Each element that is stored, with its flags. -/
def State.mstStored (s : State) (fmt : Nat) (n : BitVec 2) (a b : BitVec 5) (m : Bool) : List (MElt × Nat) :=
  (s.mstElements m).map (mstElt s fmt n a b (s.mstDraws fmt).1)

/-- The elements checked and placed in space `sp`. -/
def State.mstPlaced (s : State) (fmt : Nat) (n : BitVec 2) (a b : BitVec 5) (m : Bool) (sp : Nat) : Placed :=
  (s.mstDraws fmt).2.mstPlace sp (if fmt = 0 then 4 else 2) ((s.mstStored fmt n a b m).map (·.1))

/-- The flags of the elements together. -/
def State.mstFlags (s : State) (fmt : Nat) (n : BitVec 2) (a b : BitVec 5) (m : Bool) : Nat :=
  ((s.mstStored fmt n a b m).map (·.2)).foldl (· ||| ·) 0

/-- The placed elements, row by row. -/
def mstRows (ps : List (MElt × Option Write)) : List (List (MElt × Option Write)) :=
  (upFrom 0 16).map (fun k => ps.filter (fun w => w.1.row == k))

/-- What an MST answers once the elements have been placed. -/
def State.mstRes (s : State) (fmt : Nat) (n : BitVec 2) (a b : BitVec 5) (m : Bool) (sp : Nat) : Placed → Res
  | .stop r => r
  | .ok ps s2 =>
    if s.acquiring then .wait
    else
      match s2.mstWrite sp (mstRows ps) with
      | .stop r => r
      | .ok s3 => .done (s3.orFlags (s.mstFlags fmt n a b m))

theorem State.mstDraws_unit (s : State) (fmt : Nat) : (s.mstDraws fmt).2.unit = s.unit := by
  unfold State.mstDraws
  split
  · rfl
  · exact State.draws_unit ..

section Mst
variable {i : Instr} {fmt : Nat} {n : BitVec 2} {a b : BitVec 5} {m : Bool} {p : BitVec 2}
  (e : ∀ s, exec i s = mst (cSig i) fmt n a b m p s)
include e

/-- A ready MST checks every element before any is stored. -/
theorem mst_ready {s : State} (h : s.ready (cSig i) = true) : ∃ f : State → Res, exec i s = issue (cSig i) s f
    ∧ f s = s.mstRes fmt n a b m p.toNat (s.mstPlaced fmt n a b m p.toNat) := by
  refine ⟨_, e s, ?_⟩
  simp only [State.rx_ready _ _ h]
  match fmt with
  | 0 => rfl
  | 1 => rfl
  | k + 2 => rfl

/-- An MST whose elements all pass stores them, row by row (R183, R184). -/
theorem mst_done (ps : List (MElt × Option Write)) (s2 s3 : State) : DoneIf i (cSig i)
    (fun s => s.mstPlaced fmt n a b m p.toNat = .ok ps s2 ∧ s.acquiring = false
      ∧ s2.mstWrite p.toNat (mstRows ps) = .ok s3)
    (fun s => s3.orFlags (s.mstFlags fmt n a b m)) := by
  rintro s h ⟨placed, calm, stored⟩
  obtain ⟨f, hf, meaning⟩ := mst_ready e h
  have unit : s3.unit = {} := (State.mstWrite_unit _ stored).trans
    ((State.mstPlace_unit _ placed).trans ((s.mstDraws_unit fmt).trans (State.ready_parts h).1))
  rw [hf]
  refine issue_done h ?_ unit
  rw [meaning, placed, State.mstRes, calm, stored]
  rfl

/-- An MST one of whose elements fails its check traps, and stores nothing (R183). -/
theorem mst_trap (y : Why) :
    TrapIf i (cSig i) (fun s => s.mstPlaced fmt n a b m p.toNat = .stop (.trap y)) (fun _ => y) := by
  intro s h bad
  obtain ⟨f, hf, meaning⟩ := mst_ready e h
  rw [hf]
  refine issue_trap h ?_
  rw [meaning, bad, State.mstRes]

/-- An MST whose masks let no element through stores nothing. -/
theorem mst_masked : DoneIf i (cSig i) (fun s => s.mstElements m = [] ∧ s.acquiring = false)
    (fun s => (s.mstDraws fmt).2.orFlags 0) := by
  rintro s h ⟨masked, calm⟩
  have none_ : s.mstStored fmt n a b m = [] := by rw [State.mstStored, masked, List.map_nil]
  have rows : ∀ r ∈ mstRows [], r = [] := by
    intro r hr
    obtain ⟨k, -, rfl⟩ := List.mem_map.1 hr
    rfl
  have stored := mst_done e [] (s.mstDraws fmt).2 (s.mstDraws fmt).2 s h
    ⟨by rw [State.mstPlaced, none_]; rfl, calm, State.mstWrite_empty _ _ rows⟩
  dsimp only at stored
  rw [State.mstFlags, none_] at stored
  exact stored

end Mst

/-- Settles O28: the three element formats are one form. -/
theorem matrixStores : Obligations.MatrixStores := by
  intro sm l n a b t u m p form
  have f32 := fun s => exec_mstF32 sm l n a b t u m p s
  have fp16 := fun s => exec_mstH sm l n a b t u m p s
  have bf16 := fun s => exec_mstB sm l n a b t u m p s
  exact ⟨⟨mst_done f32, mst_trap f32, mst_masked f32⟩, ⟨mst_done fp16, mst_trap fp16, mst_masked fp16⟩,
    ⟨mst_done bf16, mst_trap bf16, mst_masked bf16⟩⟩

end Sys2Proof.Machine
end

section
/-! PROOF. Whisk reductions and MDRAIN (R185, R327 to R329, R451). -/

namespace Sys2Proof

/-- A field from bit 0 on. -/
theorem fld_zero (v n : Nat) : fld v 0 n = v % 2 ^ n := by
  rw [fld, Nat.pow_zero, Nat.div_one]

/-- The topmost field of a word. -/
theorem fld_top (x : Word) {lo n : Nat} (h : lo + n = 64) : fld x.toNat lo n = x.toNat / 2 ^ lo := by
  refine Nat.mod_eq_of_lt (Nat.div_lt_of_lt_mul ?_)
  rw [← Nat.pow_add, h]
  exact x.isLt

/-- A field of `n` bits as a bit vector. -/
theorem ofNat_fld (v lo n : Nat) : BitVec.ofNat n (fld v lo n) = BitVec.ofNat n (v / 2 ^ lo) :=
  BitVec.eq_of_toNat_eq (by rw [BitVec.toNat_ofNat, BitVec.toNat_ofNat, fld, Nat.mod_mod])

/-- A bit read by division is the library's test bit. -/
theorem bitAt_eq_testBit (v k : Nat) : bitAt v k = v.testBit k := by
  rw [bitAt, Nat.testBit_eq_decide_div_mod_eq]
  rfl

/-- The bits of a mask of `n` bits. -/
theorem bitAt_fld_zero (v : Nat) {n k : Nat} (h : k < n) : bitAt (fld v 0 n) k = bitAt v k := by
  rw [fld_zero, bitAt_eq_testBit, bitAt_eq_testBit, Nat.testBit_mod_two_pow, decide_eq_true h, Bool.true_and]

/-- The 1 bits of a number, counted. -/
theorem popcount_eq_countP (n v : Nat) : popcount n v = (List.range n).countP (bitAt v) := by
  induction n generalizing v with
  | zero => rfl
  | succ n ih =>
    have next : bitAt v ∘ Nat.succ = bitAt (v / 2) := funext fun k => by
      rw [Function.comp_apply, bitAt_eq_testBit, bitAt_eq_testBit, Nat.testBit_succ]
    have first : v % 2 = if bitAt v 0 then 1 else 0 := by
      rcases Nat.mod_two_eq_zero_or_one v with even | odd
      · simp [bitAt, even]
      · simp [bitAt, odd]
    rw [popcount, ih, List.range_succ_eq_map, List.countP_cons, List.countP_map, next, first, Nat.add_comm]

namespace Machine

/-- The rows that a mask names, in order (R185). -/
def rowsOf (x : Word) : List Nat := (upFrom 0 16).filter (fun r => x.getLsbD r)

theorem filter_rows (x : Word) : (upFrom 0 16).filter (fun r => bitAt (fld x.toNat 0 16) r) = rowsOf x :=
  List.filter_congr fun r hr => by rw [bitAt_fld_zero _ (mem_upFrom_zero.1 hr), bitAt_toNat]

theorem popcount_rows (x : Word) : popcount 16 (fld x.toNat 0 16) = (rowsOf x).length := by
  rw [← filter_rows, ← List.countP_eq_length_filter, popcount_eq_countP, upFrom_eq_range', List.range_eq_range']

/-! The checks of an identifier (R329, R442) -/

/-- An identifier that no contribution may name: ill-formed, or of a package that is absent or outside the partition. -/
abbrev State.whiskShut (s : State) (id : Word) : Prop :=
  id.toNat / 2 ^ 41 ≠ 0 ∨ id.toNat / 2 ^ 29 % 2 = 1 ∨ id.toNat % 2 ^ 8 = 0
    ∨ s.present (id.toNat / 2 ^ 32 % 2 ^ 9) = false ∨ s.spansFor s.me.vf (id.toNat / 2 ^ 32 % 2 ^ 9) = false

/-- The kind that an identifier names (R327). -/
abbrev whiskKind (id : Word) : Nat := id.toNat / 2 ^ 26 % 8

theorem State.whiskTrap_eq (s : State) (id : Word) (ok : Nat → Bool) : s.whiskTrap id ok =
    if s.whiskShut id then some { cause := cPROT, tval := id }
    else if ok (whiskKind id) then none else some { cause := cILLEGAL, tval := id } := by
  have absent (p q : Bool) : (!(p && q)) = true ↔ p = false ∨ q = false := by cases p <;> cases q <;> decide
  have bit (v : Nat) : bitAt v 29 = true ↔ v / 2 ^ 29 % 2 = 1 := beq_iff_eq
  simp only [State.whiskTrap, fld_top id (show 41 + 23 = 64 from rfl), fld_zero, absent, bit]
  by_cases shut : s.whiskShut id
  · rw [if_pos shut]
    exact if_pos shut
  · rw [if_neg shut]
    refine (if_neg shut).trans ?_
    change (if (!ok (whiskKind id)) = true then _ else _) = _
    cases ok (whiskKind id) <;> rfl

/-! Contributions (R292, R329, R451) -/

/-- The entry of a contribution in the posted window of its context. -/
def State.contribution (s : State) (id : Word) (v row : Nat) : Posted :=
  { n := s.me.nseq, clsB := true, events := [], colour := (s.core (coreOf s.cur)).colour
    tree := some (fld id.toNat 30 11), row := row
    unsent := if s.treeRoom s.me (fld id.toNat 30 11) then none
      else some { id := id, vf := s.me.vf, src := s.caddr s.cur
                  elts := (whiskElts (fld id.toNat 26 3) (fld id.toNat 18 8) v).1
                  colour := (s.core (coreOf s.cur)).colour, n := s.me.nseq, row := row } }

theorem State.contribute_me (s : State) (id : Word) (v row : Nat) : ∃ r : Regs, (s.contribute id v row).me =
    { s.me with regs := r, posted := s.me.posted ++ [s.contribution id v row], pcb := s.me.pcb + 1 } := by
  unfold State.contribute State.orFlags
  dsimp only
  rw [State.me_setRegs, State.me_setMe]
  exact ⟨_, rfl⟩

theorem State.contribute_unit (s : State) (id : Word) (v row : Nat) : (s.contribute id v row).unit = s.unit := by
  unfold State.contribute State.orFlags
  dsimp only
  rw [State.setRegs_unit, State.setMe_unit]
  split
  · rw [State.countSent_unit, State.sendPacket_unit]
  · rfl

/-- A contribution is kept back exactly where the window of its tree is full. -/
theorem State.contribution_unsent (s : State) (id : Word) (v row : Nat) : (s.contribution id v row).unsent = none ↔
    (s.me.posted.filter (fun q => q.tree == some (fld id.toNat 30 11) && q.unsent.isNone)).length
      ≤ fld s.mgmt.domain.toNat 18 6 := by
  have room := decide_eq_true_iff (p := (s.me.posted.filter (fun q => q.tree == some (fld id.toNat 30 11)
    && q.unsent.isNone)).length ≤ fld s.mgmt.domain.toNat 18 6)
  unfold State.contribution
  dsimp only
  split
  · next now => exact iff_of_true rfl (room.1 now)
  · next full => exact iff_of_false (Option.some_ne_none _) (mt room.2 full)

/-- What is kept back is the contribution's message. -/
theorem State.contribution_message {s : State} {id : Word} {v row : Nat} {m : WhiskMsg}
    (h : (s.contribution id v row).unsent = some m) : m.id = id ∧ m.n = s.me.nseq ∧ m.row = row
      ∧ m.elts = (whiskElts (fld id.toNat 26 3) (fld id.toNat 18 8) v).1 := by
  unfold State.contribution at h
  dsimp only at h
  split at h
  · exact nomatch h
  · rw [← Option.some.inj h]
    exact ⟨rfl, rfl, rfl, rfl⟩

/-- The rows of an accumulator contributed in order (R185). -/
def State.drains (s : State) (id : Word) (acc : BitVec 8192) (rows : List Nat) : State :=
  rows.foldl (fun q r => q.contribute id (lane 512 r acc.toNat) r) s

theorem State.drains_unit (s : State) (id : Word) (acc : BitVec 8192) (rows : List Nat) :
    (s.drains id acc rows).unit = s.unit :=
  State.foldl_unit (fun q r => q.contribute_unit id _ r) rows s

/-! The contributing forms -/

/-- What a word that contributes answers: its trap, the wait for room for `n` contributions, or its effects `t`. -/
def State.contributes (s : State) (id : Word) (ok : Nat → Bool) (n : Nat) (t : State) : Res :=
  match s.whiskTrap id ok with
  | some y => .trap y
  | none => if s.whiskWaits id n then .wait else .done t

theorem State.contributes_eq (s : State) (id : Word) (ok : Nat → Bool) (n : Nat) (t : State) : s.contributes id ok n t =
    if s.whiskShut id then .trap { cause := cPROT, tval := id }
    else if ok (whiskKind id) then (if s.whiskWaits id n then .wait else .done t)
    else .trap { cause := cILLEGAL, tval := id } := by
  rw [State.contributes, State.whiskTrap_eq]
  by_cases shut : s.whiskShut id
  · rw [if_pos shut, if_pos shut]
  · rw [if_neg shut, if_neg shut]
    cases ok (whiskKind id) <;> rfl

section Contributes
variable {i : Instr} {a : BitVec 5} {ok : Nat → Bool} {P : Nat → Prop} {n : State → Nat} {f : State → State}
  {F : State → Res}

/-- A word that makes `n` contributions of the kinds `P`, with the effects `f` (R185, R329). -/
theorem contributes_forms (e : ∀ s, exec i s = issue (cSig i) s F) (kinds : ∀ k, ok k = true ↔ P k)
    (meaning : ∀ s, s.ready (cSig i) = true → F s = s.contributes (s.regs.xAt a.toNat) ok (n s) (f s))
    (unit : ∀ s, (f s).unit = s.unit) :
    let A := fun (s : State) => s.regs.xAt a.toNat
    TrapIf i (cSig i) (fun s => s.whiskShut (A s)) (fun s => { cause := cPROT, tval := A s })
    ∧ TrapIf i (cSig i) (fun s => ¬s.whiskShut (A s) ∧ ¬P (whiskKind (A s))) (fun s => { cause := cILLEGAL, tval := A s })
    ∧ WaitIf i (cSig i) (fun s => ¬s.whiskShut (A s) ∧ P (whiskKind (A s)) ∧ s.whiskWaits (A s) (n s) = true)
    ∧ DoneIf i (cSig i) (fun s => ¬s.whiskShut (A s) ∧ P (whiskKind (A s)) ∧ s.whiskWaits (A s) (n s) = false) f := by
  refine ⟨fun s h shut => ?_, fun s h ⟨opens, other⟩ => ?_, fun s h ⟨opens, own, full⟩ => ?_,
    fun s h ⟨opens, own, room⟩ => ?_⟩
  all_goals rw [e s]
  · refine issue_trap h ?_
    rw [meaning s h, State.contributes_eq, if_pos shut]
  · refine issue_trap h ?_
    rw [meaning s h, State.contributes_eq, if_neg opens, if_neg (mt (kinds _).1 other)]
  · refine issue_wait h ?_
    rw [meaning s h, State.contributes_eq, if_neg opens, if_pos ((kinds _).2 own), if_pos full]
  · refine issue_done h ?_ ((unit s).trans (State.ready_parts h).1)
    rw [meaning s h, State.contributes_eq, if_neg opens, if_pos ((kinds _).2 own), room]
    rfl

end Contributes

/-- A contribution form of kind `k` (R329). -/
theorem whiskForm_forms {i : Instr} {k : Nat} {a b : BitVec 5} (e : ∀ s, exec i s = whiskForm (cSig i) k a b s) :
    let A := fun (s : State) => s.regs.xAt a.toNat
    TrapIf i (cSig i) (fun s => s.whiskShut (A s)) (fun s => { cause := cPROT, tval := A s })
    ∧ TrapIf i (cSig i) (fun s => ¬s.whiskShut (A s) ∧ whiskKind (A s) ≠ k) (fun s => { cause := cILLEGAL, tval := A s })
    ∧ WaitIf i (cSig i) (fun s => ¬s.whiskShut (A s) ∧ whiskKind (A s) = k ∧ s.whiskWaits (A s) 1 = true)
    ∧ DoneIf i (cSig i) (fun s => ¬s.whiskShut (A s) ∧ whiskKind (A s) = k ∧ s.whiskWaits (A s) 1 = false)
        (fun s => s.contribute (A s) (s.regs.vAt b.toNat).toNat 0) :=
  contributes_forms (P := fun j => j = k) e (fun _ => beq_iff_eq) (fun s h => by rw [State.rx_ready _ _ h]; rfl)
    fun s => State.contribute_unit ..

/-- MDRAIN (R185). -/
theorem mdrain_forms (sm l : Bool) (n : BitVec 2) (a b : BitVec 5) (t u : Bool) :
    let i := Instr.mdrain sm l n a b t u
    let A := fun (s : State) => s.regs.xAt a.toNat
    let rows := fun (s : State) => rowsOf (s.regs.xAt b.toNat)
    TrapIf i (cSig i) (fun s => s.whiskShut (A s)) (fun s => { cause := cPROT, tval := A s })
    ∧ TrapIf i (cSig i) (fun s => ¬s.whiskShut (A s) ∧ ¬whiskKind (A s) < 6) (fun s => { cause := cILLEGAL, tval := A s })
    ∧ WaitIf i (cSig i) (fun s => ¬s.whiskShut (A s) ∧ whiskKind (A s) < 6 ∧ s.whiskWaits (A s) (rows s).length = true)
    ∧ DoneIf i (cSig i) (fun s => ¬s.whiskShut (A s) ∧ whiskKind (A s) < 6 ∧ s.whiskWaits (A s) (rows s).length = false)
        (fun s => s.drains (A s) (s.regs.accAt n.toNat) (rows s)) :=
  contributes_forms (P := fun j => j < 6) (fun s => exec_mdrain sm l n a b t u s) (fun _ => decide_eq_true_iff)
    (fun s h => by simp only [State.rx_ready _ _ h, popcount_rows, filter_rows]; rfl) fun s => State.drains_unit ..

/-! WOPEN (R328) -/

/-- A configuration that WOPEN takes. -/
abbrev wopenGood (c : Word) : Prop :=
  c.toNat % 2 ^ 16 ≠ 0 ∧ c.toNat / 2 ^ 16 % 8 ≠ 7 ∧ (c.toNat / 2 ^ 16 % 8 = 1 ∨ c.toNat / 2 ^ 20 % 2 ^ 8 = 0)
    ∧ c.toNat / 2 ^ 19 % 2 = 0 ∧ c.toNat < 2 ^ 28

theorem wopenGood_iff (c : Word) : (fld c.toNat 0 16 = 0 ∨ fld c.toNat 16 3 = 7
      ∨ (fld c.toNat 16 3 ≠ 1 ∧ fld c.toNat 20 8 ≠ 0) ∨ bitAt c.toNat 19 = true ∨ fld c.toNat 28 36 ≠ 0) ↔ ¬wopenGood c := by
  rw [fld_zero, fld_top c (show 28 + 36 = 64 from rfl), bitAt, beq_iff_eq, fld, fld]
  omega

/-- A slot of the current die. -/
abbrev State.whiskSlot (s : State) (k : Nat) : WSlot := tabGet {} (s.die (dieOf s.cur)).wslots k

/-- The serial number that a slot takes when it is opened: never 0 (R327). -/
abbrev State.nextSerial (s : State) (k : Nat) : BitVec 8 :=
  if (s.whiskSlot k).ser = 255 then 1 else (s.whiskSlot k).ser + 1

/-- Slot `k` of the current die opened under configuration `c`. -/
def State.opensSlot (s : State) (c : Word) (k : Nat) : State :=
  let dd := s.die (dieOf s.cur)
  let w : WSlot := { ser := s.nextSerial k, opened := true, owner := s.caddr s.cur, vf := s.me.vf, kind := c.toNat / 2 ^ 16 % 8
                     fsc := BitVec.ofNat 8 (c.toNat / 2 ^ 20), n := c.toNat % 2 ^ 16 }
  s.setDie (dieOf s.cur) { dd with wslots := tabSet k w dd.wslots }

section Wopen
variable (sm l : Bool) (d a : BitVec 5) (t : Bool)

theorem wopen_trap : TrapIf (.wopen sm l d a t) (cSig (.wopen sm l d a t)) (fun s => ¬wopenGood (s.regs.xAt a.toNat))
    (fun s => { cause := cILLEGAL, tval := s.regs.xAt a.toNat }) := by
  intro s h bad
  rw [exec_wopen, execWopen]
  refine issue_trap h ?_
  rw [State.rx_ready _ _ h]
  exact if_pos ((wopenGood_iff _).2 bad)

/-- WOPEN where every slot of the die is open (R328). -/
theorem wopen_full : DoneIf (.wopen sm l d a t) (cSig (.wopen sm l d a t))
    (fun s => wopenGood (s.regs.xAt a.toNat) ∧ ∀ k, k < 1024 → (s.whiskSlot k).opened = true) (fun s => s.writeX d 0) := by
  rintro s h ⟨good, full⟩
  have none_ : (upFrom 0 1024).find? (fun k => !(tabGet {} (s.die (dieOf s.cur)).wslots k).opened) = none :=
    List.find?_eq_none.2 fun k hk => by rw [full k (mem_upFrom_zero.1 hk)]; exact Bool.false_ne_true
  rw [exec_wopen, execWopen]
  refine issue_done h ?_ (State.ready_parts h).1
  rw [State.rx_ready _ _ h, if_neg (mt (wopenGood_iff _).1 (not_not_intro good))]
  dsimp only
  rw [none_, State.putX_dst _ h (List.mem_singleton.2 rfl)]
  rfl

/-- WOPEN opens the lowest free slot (R328). -/
theorem wopen_done (k : Nat) : DoneIf (.wopen sm l d a t) (cSig (.wopen sm l d a t))
    (fun s => wopenGood (s.regs.xAt a.toNat) ∧ k < 1024 ∧ (s.whiskSlot k).opened = false
      ∧ ∀ j, j < k → (s.whiskSlot j).opened = true)
    (fun s => (s.opensSlot (s.regs.xAt a.toNat) k).writeX d
      (whiskId s.self (dieOf s.cur) ((s.regs.xAt a.toNat).toNat / 2 ^ 16 % 8) (BitVec.ofNat 8 ((s.regs.xAt a.toNat).toNat / 2 ^ 20)) k (s.nextSerial k).toNat)) := by
  rintro s h ⟨good, hk, free, before⟩
  have lowest : (upFrom 0 1024).find? (fun k => !(tabGet {} (s.die (dieOf s.cur)).wslots k).opened) = some k :=
    find?_upFrom_some hk (by rw [free]; rfl) fun j hj => by rw [before j hj]; rfl
  have unbound : (s.opensSlot (s.regs.xAt a.toNat) k).regs.boundTo d.toNat = none :=
    State.dst_unbound h (List.mem_singleton.2 rfl)
  rw [exec_wopen, execWopen]
  refine issue_done h ?_ (State.ready_parts h).1
  rw [State.rx_ready _ _ h, if_neg (mt (wopenGood_iff _).1 (not_not_intro good))]
  dsimp only
  rw [lowest]
  dsimp only
  rw [ofNat_fld, fld_zero]
  exact congrArg Res.done (State.putX_plain _ unbound)

end Wopen

/-- Settles O35: WOPEN, the contributions of each kind, MDRAIN, and the entry that a contribution posts. -/
theorem whiskForms : Obligations.WhiskForms := by
  intro sm l d a b n t u A wo md kind good slot shut of_ rows one
  obtain ⟨drain_prot, drain_kind, drain_waits, drain_done⟩ := mdrain_forms sm l n a b t u
  refine ⟨wopen_trap sm l d a t, wopen_full sm l d a t, wopen_done sm l d a t, ?sumI, ?sumF, ?maxvI, ?maxvF, ?minvI, ?minvF, ?max,
    drain_prot, fun s h ⟨opens, other⟩ => drain_kind s h ⟨opens, Nat.not_lt.2 other⟩, drain_waits, drain_done, ?posts⟩
  case sumI => exact whiskForm_forms fun s => exec_wsumI sm l a b t u s
  case sumF => exact whiskForm_forms fun s => exec_wsumF sm l a b t u s
  case maxvI => exact whiskForm_forms fun s => exec_wmaxvI sm l a b t u s
  case maxvF => exact whiskForm_forms fun s => exec_wmaxvF sm l a b t u s
  case minvI => exact whiskForm_forms fun s => exec_wminvI sm l a b t u s
  case minvF => exact whiskForm_forms fun s => exec_wminvF sm l a b t u s
  case max => exact whiskForm_forms fun s => exec_wmax sm l a b t u s
  case posts =>
    intro s id v row
    obtain ⟨r, me⟩ := s.contribute_me id v row
    refine ⟨s.contribution id v row, ?_, ?_, ?_, rfl, rfl, rfl, rfl, s.contribution_unsent id v row,
      fun m hm => State.contribution_message hm⟩
    all_goals rw [me]

end Machine
end Sys2Proof
end

section
/-! PROOF. The host's events (R196, R372, R420 to R429, R472). -/

namespace Sys2Proof.Machine

/-! The check that the function is enabled, with which every event of the host starts (R468) -/

section Enabled
variable {e : Instr} {s : State} {vf : Nat} {k : Out}

/-- An event of a function that is not enabled has no effect. -/
theorem exec_off (gate : exec e s = if !(s.vf vf).enabled then .next s else k) (off : (s.vf vf).enabled = false) :
    exec e s = .next s := by
  rw [gate, off]
  rfl

/-- An event of an enabled function has its own effect. -/
theorem exec_on {t : State} (gate : exec e s = if !(s.vf vf).enabled then .next s else k) (on : (s.vf vf).enabled = true)
    (own : k = .next t) : exec e s = .next t := by
  rw [gate, on]
  exact own

end Enabled

/-! The register page (R196, R420) -/

section Page
variable {s s1 s2 : State} {vf off k : Nat} {addr v : Word} {hdr : List Byte}

theorem State.hostSubmit_full (full : Config.submitCapacity ≤ (s.vf vf).submitQ.length) :
    s.hostSubmit vf addr = s.setVf vf { s.vf vf with submitRes := 0 } := if_pos full

/-- A header at a multiple of 256 that can be read is queued, and SUBMIT reads the launch's identifier. -/
theorem State.hostSubmit_queued (room : (s.vf vf).submitQ.length < Config.submitCapacity) (aligned : addr.toNat % 256 = 0)
    (header : s.readVirt vf 2 addr.toNat 256 = some (hdr, s1)) (queued : s1.enqueue vf hdr none = (k, s2)) :
    s.hostSubmit vf addr = s2.setVf vf { s2.vf vf with submitRes := lidOf vf k } := by
  rw [State.hostSubmit, if_neg (Nat.not_le.2 room), if_pos aligned, header]
  dsimp only
  rw [queued]

/-- A write to a register that cannot be written, or to an offset that names none, is ignored. -/
theorem State.pageWrite_ignored (other : off ∉ [0x000, 0x008, 0x010, 0x020, 0x038]) : s.pageWrite vf off v = s := by
  unfold State.pageWrite
  split
  case h_6 => rfl
  all_goals exact absurd (by decide) other

/-- An offset that names no register reads 0. -/
theorem State.pageRead_unnamed (other : off ∉ [0x000, 0x008, 0x010, 0x018, 0x020, 0x028, 0x030, 0x038]) :
    s.pageRead vf off = 0 := by
  unfold State.pageRead
  split
  case h_9 => rfl
  all_goals exact absurd (by decide) other

end Page

/-! Accesses of the host through BAR2 (R425) -/

section Bar2
variable {s s1 : State} {vf size : Nat} {va : Word} {bs : List Byte}

theorem bar2Read_region (on : (s.vf vf).enabled = true) (region : s.hostRegion vf va.toNat size = true) :
    exec (.bar2Read vf va size) s = .next ((s.postEvent vf 1 [5, 0, 0, 0, 0]).tellHost []) :=
  exec_on (exec_bar2Read vf va size s) on (if_pos region)

theorem bar2Read_read (on : (s.vf vf).enabled = true) (plain : s.hostRegion vf va.toNat size = false)
    (read : s.readVirt vf (size / 4096 + 2) va.toNat size = some (bs, s1)) :
    exec (.bar2Read vf va size) s = .next (s1.tellHost bs) := by
  refine exec_on (exec_bar2Read vf va size s) on ?_
  rw [plain, read]
  rfl

theorem bar2Write_region (on : (s.vf vf).enabled = true) (region : s.hostRegion vf va.toNat bs.length = true) :
    exec (.bar2Write vf va bs) s = .next (s.postEvent vf 1 [5, 0, 0, 0, 0]) :=
  exec_on (exec_bar2Write vf va bs s) on (if_pos region)

theorem bar2Write_write (on : (s.vf vf).enabled = true) (plain : s.hostRegion vf va.toNat bs.length = false) :
    exec (.bar2Write vf va bs) s = .next (s.writeVirt vf (bs.length / 4096 + 2) va.toNat bs) := by
  refine exec_on (exec_bar2Write vf va bs s) on ?_
  rw [plain]
  rfl

end Bar2

/-! Regions (R422 to R429) -/

section Region
variable {s s1 : State} {n vf : Nat} {x : Region} {nonce : BitVec 128} {bs : List Byte}

theorem regionRegister_registers {r : RegionReq} {k : Nat} (on : (s.vf r.vf).enabled = true) (adds : s.addRegion r = some (k, s1)) :
    exec (.regionRegister r) s = .next (s1.mailAnswer r.vf 0 (bytesOf 8 k)) := by
  refine exec_on (exec_regionRegister r s) on ?_
  rw [adds]

theorem regionRegister_refuses {r : RegionReq} (on : (s.vf r.vf).enabled = true) (none_ : s.addRegion r = none) :
    exec (.regionRegister r) s = .next (s.mailAnswer r.vf 1 []) := by
  refine exec_on (exec_regionRegister r s) on ?_
  rw [none_]

theorem meterReportRequest_own (on : (s.vf x.vf).enabled = true) (reg : tabFind s.sencha.regions n = some x)
    (report : s.meterReport 1 n x 0 nonce = (bs, s1)) :
    exec (.meterReportRequest x.vf n nonce) s = .next (s1.mailReport x.vf bs) := by
  refine exec_on (exec_meterReportRequest x.vf n nonce s) on ?_
  rw [reg]
  dsimp only
  rw [if_neg (not_not_intro rfl), report]

theorem meterReportRequest_foreign (on : (s.vf vf).enabled = true) (reg : tabFind s.sencha.regions n = some x) (foreign : x.vf ≠ vf) :
    exec (.meterReportRequest vf n nonce) s = .next (s.mailAnswer vf 1 []) := by
  refine exec_on (exec_meterReportRequest vf n nonce s) on ?_
  rw [reg]
  exact if_pos foreign

variable (reg : tabFind s.sencha.regions n = some x)
include reg

theorem exec_regionDeregister_registered (nonce : BitVec 128) (g : BitVec 10240) :
    exec (.regionDeregister n nonce g) s =
      if !(s.vf x.vf).enabled then .next s
      else if !(Config.verify x.owner (deregBytes n nonce) g) then .next (s.mailAnswer x.vf 1 [])
      else
        let u := (s.meterReport 3 n x 0 nonce).2
        .next (({ u with sencha := { u.sencha with regions := tabDel n u.sencha.regions, used := u.sencha.used ++ [(n, x.epoch)] } }
          : State).mailReport x.vf (s.meterReport 3 n x 0 nonce).1) := by
  rw [exec_regionDeregister, execRegionDeregister, reg]

theorem exec_handoverSign_registered (w : BitVec 256) (nonce : BitVec 128) :
    exec (.handover (.sign n w nonce)) s =
      if !(s.vf x.vf).enabled then .next s
      else .next (((s.meterReport 2 n x w nonce).2.setRegion n { x with frozen := true }).mailReport x.vf
        (s.meterReport 2 n x w nonce).1) := by
  rw [exec_handover, execHandover, reg]

theorem exec_handoverAccept_registered (h : HandoverReport) :
    exec (.handover (.accept n h)) s =
      if !(s.vf x.vf).enabled then .next s
      else if s.handoverOk n x h then .next ((s.acceptHandover n x h).mailAnswer x.vf 0 []) else .next (s.mailAnswer x.vf 1 []) := by
  rw [exec_handover, execHandover, reg]

theorem exec_ceilingPersist_registered (isB : Bool) : exec (.ceilingPersist n isB) s = .next (s.setRegion n (x.renew isB)) := by
  rw [exec_ceilingPersist, execCeilingPersist, reg]

end Region

/-- Settles O46: the events of a function that is not enabled, the register page, BAR2, the regions, and the function's settings. -/
theorem hostEvents : Obligations.HostEvents := by
  intro vf off n idx kib size addr v bs nonce key r g x s1 w h isB on dead reg live
  refine ⟨fun s => exec_off (exec_submit vf addr s), fun s => exec_off (exec_statusq vf v s), fun s => exec_off (exec_evtail vf v s),
    fun s => exec_off (exec_vfRegisterWrite ⟨vf, off, some v⟩ s), fun s => exec_off (exec_bar2Read vf v size s),
    fun s => exec_off (exec_bar2Write vf v bs s), fun s => exec_off (exec_mailboxAttest vf nonce s),
    fun s => exec_off (exec_okeySet vf key s), fun s => exec_off (exec_homeDescriptorSet vf idx v s), ?regionsOff,
    fun s => exec_off (exec_stashSizeSet vf n kib s), fun s => exec_off (exec_meterReportRequest vf n nonce s),
    fun s => exec_off (exec_regionRegister { r with vf := vf } s), ?full, ?queued, ?statusq, ?evtail, ?evbase, ?mailbox, ?ignored, ?unnamed,
    ?readSubmit, ?readEvhead, ?readEvlost, ?readDualcnt,
    fun s ⟨on, region⟩ => bar2Read_region on region, fun s ⟨on, plain, read⟩ => bar2Read_read on plain read,
    fun s ⟨on, region⟩ => bar2Write_region on region, fun s ⟨on, plain⟩ => bar2Write_write on plain,
    fun k s ⟨on, adds⟩ => regionRegister_registers on adds, fun s ⟨on, none_⟩ => regionRegister_refuses on none_,
    ?unsigned, ?deregisters, ?ownReport, fun s ⟨on, reg, foreign⟩ => meterReportRequest_foreign on reg foreign,
    ?signs, ?accepts, ?declines, ?attests, ?okey, ?home, ?stash, fun s reg => exec_ceilingPersist_registered reg isB⟩
  case regionsOff =>
    rintro rfl
    exact ⟨fun s ⟨reg, off⟩ => exec_off (exec_regionDeregister_registered reg nonce g) off,
      fun s ⟨reg, off⟩ => exec_off (exec_handoverSign_registered reg w nonce) off,
      fun s ⟨reg, off⟩ => exec_off (exec_handoverAccept_registered reg h) off⟩
  case full => exact fun s ⟨on, full⟩ => exec_on (exec_submit vf addr s) on (congrArg _ (State.hostSubmit_full full))
  case queued =>
    exact fun hdr s2 k s ⟨on, room, aligned, header, queued⟩ =>
      exec_on (exec_submit vf addr s) on (congrArg _ (State.hostSubmit_queued room aligned header queued))
  case statusq => exact fun s on => exec_on (exec_statusq vf v s) on rfl
  case evtail => exact fun s on => exec_on (exec_evtail vf v s) on rfl
  case evbase | mailbox => exact fun s on => exec_on (exec_vfRegisterWrite _ s) on rfl
  case ignored => exact fun other s on => exec_on (exec_vfRegisterWrite _ s) on (congrArg _ (State.pageWrite_ignored other))
  case unnamed =>
    intro other s on
    refine exec_on (exec_vfRegisterWrite _ s) on ?_
    dsimp only
    rw [State.pageRead_unnamed other]
    rfl
  case readSubmit | readEvhead | readEvlost | readDualcnt => exact fun s on => exec_on (exec_vfRegisterWrite _ s) on rfl
  case unsigned =>
    rintro s ⟨⟨reg, on⟩, bad⟩
    exact exec_on (exec_regionDeregister_registered reg nonce g) on (if_pos (congrArg not bad))
  case deregisters =>
    rintro s ⟨⟨reg, on⟩, signed, report⟩
    refine exec_on (exec_regionDeregister_registered reg nonce g) on ?_
    rw [signed, report]
    rfl
  case ownReport =>
    rintro s ⟨on, reg, rfl, report⟩
    exact meterReportRequest_own on reg report
  case signs =>
    rintro s ⟨⟨reg, on⟩, report⟩
    refine exec_on (exec_handoverSign_registered reg w nonce) on ?_
    rw [report]
  case accepts => exact fun s ⟨⟨reg, on⟩, ok⟩ => exec_on (exec_handoverAccept_registered reg h) on (if_pos ok)
  case declines =>
    exact fun s ⟨⟨reg, on⟩, bad⟩ => exec_on (exec_handoverAccept_registered reg h) on (if_neg (ne_true_of_eq_false bad))
  case attests =>
    rintro s ⟨on, report⟩
    refine exec_on (exec_mailboxAttest vf nonce s) on ?_
    rw [report]
  case okey => exact fun s on => exec_on (exec_okeySet vf key s) on rfl
  case home =>
    exact fun s ⟨on, index, row, owns⟩ => exec_on (exec_homeDescriptorSet vf idx v s) on (if_pos ⟨index, owns, row⟩)
  case stash =>
    exact fun s ⟨on, core, owns, sizes⟩ =>
      exec_on (exec_stashSizeSet vf n kib s) on (if_pos ⟨core, owns, List.contains_iff_mem.2 sizes⟩)

end Sys2Proof.Machine
end

section
/-! PROOF. Entry to a trap handler (R230, R390, R393). -/

namespace Sys2Proof.Machine

/-! Registers that differ only in the CSRs -/

/-- Two sets of registers agree but for their CSRs. -/
def Regs.sameButCsr (r q : Regs) : Prop := ∃ csr : Tab Word, q = { r with csr := csr }

theorem Regs.sameButCsr.setCsr {r q : Regs} (h : r.sameButCsr q) (a : Nat) (v : Word) : r.sameButCsr (q.setCsr a v) := by
  obtain ⟨csr, rfl⟩ := h
  exact ⟨tabSet a v csr, rfl⟩

theorem Regs.sameButCsr.foldl {r q : Regs} (h : r.sameButCsr q) (p : Nat) (f : Nat → Word) (ks : List Nat) :
    r.sameButCsr (ks.foldl (fun q j => q.setCsr (p + j) (f j)) q) := by
  induction ks generalizing q with
  | nil => exact h
  | cons j ks ih => exact ih (h.setCsr (p + j) (f j))

theorem Regs.sameButCsr.shadowLoops {r q : Regs} (h : r.sameButCsr q) : r.sameButCsr q.shadowLoops :=
  ((((h.foldl _ _ _).setCsr _ _).setCsr _ _).setCsr _ _).setCsr _ _

/-! The loop and repeat CSRs and their shadows (R390) -/

/-- A run of CSRs from `p + lo` on that takes its values from `f`: the copy to the shadows, and HRET's copy back. -/
theorem Regs.csrAt_foldl_setCsr (p : Nat) (f : Nat → Word) (lo n : Nat) (r : Regs) (k : Nat) :
    ((upFrom lo n).foldl (fun q j => q.setCsr (p + j) (f j)) r).csrAt k
      = if p + lo ≤ k ∧ k < p + lo + n then f (k - p) else r.csrAt k := by
  induction n generalizing lo r with
  | zero => exact (if_neg (by omega)).symm
  | succ n ih =>
    rw [upFrom, List.foldl_cons, ih]
    by_cases first : k = p + lo
    · subst first
      rw [if_neg (by omega), if_pos (by omega), Regs.csrAt_setCsr_same, Nat.add_sub_cancel_left]
    · rw [Regs.csrAt_setCsr_ne _ first]
      exact if_congr (by omega) rfl rfl

/-- The PC is no CSR. -/
theorem Regs.csrAt_withPc (r : Regs) (a : Word) (k : Nat) : ({ r with pc := a } : Regs).csrAt k = r.csrAt k := rfl

/-- The CSRs that entry clears, so that the handler starts with no loop or repeat armed (R390). -/
def clearedCsrs : List Nat := [csrLC0, csrLC1, csrRC, csrRI]

/-- LC0, LC1, RC and RI are cleared and the shadows take the loop and repeat CSRs; every other CSR stays. -/
theorem Regs.csrAt_shadowLoops (r : Regs) (k : Nat) : r.shadowLoops.csrAt k =
    if k ∈ clearedCsrs then 0
    else if csrTLC0 ≤ k ∧ k < csrTLC0 + 8 then r.csrAt (csrLC0 + (k - csrTLC0)) else r.csrAt k := by
  by_cases cleared : k ∈ clearedCsrs
  · rw [if_pos cleared]
    simp only [clearedCsrs, List.mem_cons, List.not_mem_nil, or_false] at cleared
    obtain rfl | rfl | rfl | rfl := cleared <;>
      simp [Regs.shadowLoops, Regs.csrAt_setCsr_ne, csrLC0, csrLC1, csrRC, csrRI]
  · rw [if_neg cleared]
    simp only [clearedCsrs, List.mem_cons, List.not_mem_nil, or_false, not_or] at cleared
    obtain ⟨lc0, lc1, rc, ri⟩ := cleared
    simp only [Regs.shadowLoops, Regs.csrAt_setCsr_ne _ ri, Regs.csrAt_setCsr_ne _ rc, Regs.csrAt_setCsr_ne _ lc1,
      Regs.csrAt_setCsr_ne _ lc0, Regs.csrAt_foldl_setCsr, Nat.add_zero]

/-- A CSR that is neither cleared nor a shadow stays. -/
theorem Regs.csrAt_shadowLoops_other (r : Regs) {k : Nat} (kept : k ∉ clearedCsrs) (plain : k < csrTLC0 ∨ csrTLC0 + 8 ≤ k) :
    r.shadowLoops.csrAt k = r.csrAt k := by
  rw [Regs.csrAt_shadowLoops, if_neg kept, if_neg (by omega)]

/-! The trap CSRs (R390, R393) -/

/-- The CSRs that describe a trap. -/
def trapCsrs : List Nat := [csrTCAUSE, csrTVAL, csrTEPC, csrTSRC, csrTITER, csrTINFO]

/-- The registers with the CSRs that describe a trap, before the loop and repeat CSRs move. -/
def Regs.describeTrap (r : Regs) (t : TrapRec) (src iter : Word) : Regs :=
  (((((r.setCsr csrTCAUSE (tcauseOf t)).setCsr csrTVAL t.tval).setCsr csrTEPC t.epc).setCsr csrTSRC src).setCsr
    csrTITER iter).setCsr csrTINFO (tinfoOf t)

section Entry
variable (r : Regs) (t : TrapRec) (src iter : Word)

theorem Regs.sameButCsr_describeTrap : r.sameButCsr (r.describeTrap t src iter) :=
  have same : r.sameButCsr r := ⟨r.csr, rfl⟩
  (((((same.setCsr _ _).setCsr _ _).setCsr _ _).setCsr _ _).setCsr _ _).setCsr _ _

theorem Regs.recordTrap_eq : r.recordTrap t src iter = (r.describeTrap t src iter).shadowLoops := rfl

theorem Regs.csrAt_describeTrap_other {k : Nat} (other : k ∉ trapCsrs) : (r.describeTrap t src iter).csrAt k = r.csrAt k := by
  simp only [trapCsrs, List.mem_cons, List.not_mem_nil, or_false, not_or] at other
  obtain ⟨cause, val, epc, tsrc, titer, info⟩ := other
  simp only [Regs.describeTrap, Regs.csrAt_setCsr_ne _ info, Regs.csrAt_setCsr_ne _ titer, Regs.csrAt_setCsr_ne _ tsrc,
    Regs.csrAt_setCsr_ne _ epc, Regs.csrAt_setCsr_ne _ val, Regs.csrAt_setCsr_ne _ cause]

/-- Entry writes TSTAT after everything else. -/
theorem Regs.csrAt_enterHandler {k : Nat} (h : k ≠ csrTSTAT) :
    (r.enterHandler t src iter).csrAt k = (r.recordTrap t src iter).csrAt k := by
  rw [Regs.enterHandler, Regs.csrAt_withPc, Regs.csrAt_setCsr_ne _ h]

theorem Regs.csrAt_enterHandler_tstat : (r.enterHandler t src iter).csrAt csrTSTAT = tstatOf true r.hm r.stepBit := by
  rw [Regs.enterHandler, Regs.csrAt_withPc, Regs.csrAt_setCsr_same]

/-- A trap CSR holds in the handler what the trap put into it: it is neither TSTAT, nor cleared, nor a shadow. -/
theorem Regs.csrAt_enterHandler_trapCsr {k : Nat} (h : k ∈ trapCsrs) :
    (r.enterHandler t src iter).csrAt k = (r.describeTrap t src iter).csrAt k := by
  have apart : ∀ k ∈ trapCsrs, k ≠ csrTSTAT ∧ k ∉ clearedCsrs ∧ (k < csrTLC0 ∨ csrTLC0 + 8 ≤ k) := by decide
  obtain ⟨mode, kept, plain⟩ := apart k h
  rw [Regs.csrAt_enterHandler r t src iter mode, Regs.recordTrap_eq, Regs.csrAt_shadowLoops_other _ kept plain]

/-- The trap CSRs in the handler (R393). -/
theorem Regs.enterHandler_trapCsrs :
    let q := r.enterHandler t src iter
    q.csrAt csrTCAUSE = tcauseOf t ∧ q.csrAt csrTVAL = t.tval ∧ q.csrAt csrTEPC = t.epc ∧ q.csrAt csrTSRC = src
      ∧ q.csrAt csrTITER = iter ∧ q.csrAt csrTINFO = tinfoOf t := by
  refine ⟨?_, ?_, ?_, ?_, ?_, ?_⟩ <;> rw [Regs.csrAt_enterHandler_trapCsr r t src iter (by decide)] <;>
    simp [Regs.describeTrap, Regs.csrAt_setCsr_ne, csrTCAUSE, csrTVAL, csrTEPC, csrTSRC, csrTITER, csrTINFO]

/-- The mode bits in the handler: HM is set, PHM takes HM, and STEP stays (R390). -/
theorem Regs.enterHandler_mode :
    let q := r.enterHandler t src iter
    q.hm = true ∧ q.phm = r.hm ∧ q.stepBit = r.stepBit := by
  simp only [Regs.hm, Regs.phm, Regs.stepBit, Regs.csrAt_enterHandler_tstat]
  generalize (r.csrAt csrTSTAT).getLsbD 0 = hm
  generalize (r.csrAt csrTSTAT).getLsbD 2 = step
  revert hm step
  decide

/-- The shadows in the handler hold the loop and repeat state of the trap (R390). -/
theorem Regs.csrAt_enterHandler_shadow {k : Nat} (h : k < 8) :
    (r.enterHandler t src iter).csrAt (csrTLC0 + k) = r.csrAt (csrLC0 + k) := by
  have apart : ∀ k < 8, csrTLC0 + k ≠ csrTSTAT ∧ csrTLC0 + k ∉ clearedCsrs ∧ csrLC0 + k ∉ trapCsrs := by decide
  obtain ⟨mode, kept, other⟩ := apart k h
  rw [Regs.csrAt_enterHandler r t src iter mode, Regs.recordTrap_eq, Regs.csrAt_shadowLoops, if_neg kept, if_pos (by omega),
    Nat.add_sub_cancel_left, Regs.csrAt_describeTrap_other r t src iter other]

/-- The handler starts with no loop or repeat armed (R390). -/
theorem Regs.csrAt_enterHandler_cleared {k : Nat} (h : k ∈ clearedCsrs) : (r.enterHandler t src iter).csrAt k = 0 := by
  have mode : ∀ k ∈ clearedCsrs, k ≠ csrTSTAT := by decide
  rw [Regs.csrAt_enterHandler r t src iter (mode k h), Regs.recordTrap_eq, Regs.csrAt_shadowLoops, if_pos h]

/-- Every other CSR is in the handler as it was at the trap. -/
theorem Regs.csrAt_enterHandler_other {k : Nat} (mode : k ≠ csrTSTAT) (other : k ∉ trapCsrs) (kept : k ∉ clearedCsrs)
    (plain : k < csrTLC0 ∨ csrTLC0 + 8 ≤ k) : (r.enterHandler t src iter).csrAt k = r.csrAt k := by
  rw [Regs.csrAt_enterHandler r t src iter mode, Regs.recordTrap_eq, Regs.csrAt_shadowLoops_other _ kept plain,
    Regs.csrAt_describeTrap_other r t src iter other]

/-- Entry changes no register but CSRs, and the PC becomes TVEC. -/
theorem Regs.enterHandler_frame :
    r.enterHandler t src iter = { r with csr := (r.enterHandler t src iter).csr, pc := r.csrAt csrTVEC } := by
  obtain ⟨csr, e⟩ := (r.sameButCsr_describeTrap t src iter).shadowLoops.setCsr csrTSTAT (tstatOf true r.hm r.stepBit)
  rw [Regs.enterHandler, Regs.recordTrap_eq, e]

end Entry

theorem tcauseOf_eq (t : TrapRec) : tcauseOf t = BitVec.ofNat 64 (t.cause.toNat + (if t.aw then 64 else 0)
    + (if t.hld then 128 else 0) + (if t.dfr then 256 else 0)) := by
  have bit : ∀ (k : Nat) (b : Bool), 2 ^ k * b2n b = if b then 2 ^ k else 0 := fun k b => by cases b <;> simp [b2n]
  simp only [tcauseOf, natW, bit]
  rfl

/-! Where the trap's unit comes from (R225, R230) -/

section Source
variable {s : State} {c : Nat} {pc : Word}

/-- A unit outside the residual window is its own source. -/
theorem State.sourceOf_outside (h : pc.toNat < residualBase ∨ residualBase + 0x10000 ≤ pc.toNat) :
    s.sourceOf c pc = (pc, 0, false) := by
  unfold State.sourceOf
  cases s.launchOf c with
  | none => rfl
  | some l => exact if_neg (by omega)

/-- A unit of residual code has the source of its back map's word. -/
theorem State.sourceOf_residual {l : Launch} {k : BitVec 128} {e : Residual} (launch : s.launchOf c = some l)
    (residual : l.residual = some k) (above : residualBase ≤ pc.toNat) (below : pc.toNat < residualBase + 0x10000)
    (cached : (s.die (dieOf c)).cache.find? (fun e => e.key == k && e.vf == l.vf) = some e) :
    let m := nth 0 e.back ((pc.toNat - residualBase) / 4)
    s.sourceOf c pc = (natW (l.kaddr + 4 * fld m 19 13), natW (fld m 4 15), bitAt m 18) := by
  simp only [State.sourceOf, launch, residual, Option.bind_some, cached, if_pos (And.intro above below)]

end Source

/-! The trap taken -/

/-- A trap of a context in task mode with a handler enters it. -/
theorem State.deliverTrap_enters {s : State} {c : Nat} {t : TrapRec} (task : (s.ctx c).regs.hm = false)
    (handler : (s.ctx c).regs.csrAt csrTVEC ≠ 0) :
    s.deliverTrap c t = s.setCtx c { s.ctx c with
      regs := (s.ctx c).regs.enterHandler t (s.sourceOf c t.epc).1 (s.sourceOf c t.epc).2.1
      status := .run, wait := 0, waitOn := none, skipBkp := false } := by
  have vector : ((s.ctx c).regs.csrAt csrTVEC == 0) = false := beq_false_of_ne handler
  simp only [State.deliverTrap, task, vector, Bool.false_eq_true, or_self, and_false, if_false]

/-- A trap with no unresolved collective branch, but PAGE, is delivered once a machine check has been reported. -/
theorem State.takeTrap_delivers {s : State} {c : Nat} {t : TrapRec} (resolved : (s.ctx c).spec = none) (page : t.cause ≠ cPAGE) :
    s.takeTrap c t = (s.checkReported c t).deliverTrap c t := by
  simp only [State.takeTrap, resolved, if_neg page]

/-- Settles O48: the trap is delivered to the handler, whose first registers are `enterHandler`'s. -/
theorem trapEntry : Obligations.TrapEntry := by
  intro s c t s1 x r b resolved task handler page
  obtain ⟨cause, val, epc, src, iter, info⟩ :=
    r.enterHandler_trapCsrs t (s1.sourceOf c t.epc).1 (s1.sourceOf c t.epc).2.1
  obtain ⟨hm, phm, step⟩ := r.enterHandler_mode t (s1.sourceOf c t.epc).1 (s1.sourceOf c t.epc).2.1
  refine ⟨r.enterHandler t (s1.sourceOf c t.epc).1 (s1.sourceOf c t.epc).2.1,
    (State.takeTrap_delivers resolved page).trans (State.deliverTrap_enters task handler), Regs.enterHandler_frame _ _ _ _,
    hm, phm.trans task, step, cause.trans (tcauseOf_eq t), val, epc, src, iter, ?outside, ?residual, info,
    fun k shadow => Regs.csrAt_enterHandler_shadow _ _ _ _ shadow, ?cleared, ?others⟩
  case outside =>
    intro outside
    rw [src, iter, State.sourceOf_outside outside]
    exact ⟨rfl, rfl⟩
  case residual =>
    intro l k e launch residual above below cached
    rw [src, iter, State.sourceOf_residual launch residual above below cached]
    exact ⟨rfl, rfl⟩
  case cleared =>
    exact fun k h => Regs.csrAt_enterHandler_cleared _ _ _ _ (by simpa [clearedCsrs] using h)
  case others =>
    intro k listed plain
    have apart : k ≠ csrTSTAT ∧ k ∉ trapCsrs ∧ k ∉ clearedCsrs := by simpa [trapCsrs, clearedCsrs, and_assoc] using listed
    obtain ⟨mode, other, kept⟩ := apart
    exact Regs.csrAt_enterHandler_other _ _ _ _ mode other kept plain

end Sys2Proof.Machine
end

section
/-! PROOF. Collective branches (R257, R258, R479). -/

namespace Sys2Proof.Machine

/-! The meaning of a collective branch, part by part -/

/-- What a collective branch contributes to the open round of group `x` (R257). -/
def State.cbrContribution (s : State) (op : BitVec 2) (a : BitVec 5) (x : Group) : Contribution :=
  { group := x.id, vf := s.me.vf, member := s.caddr s.cur, round := BitVec.ofNat 32 (s.regs.csrAt csrCSEQ).toNat, op := op
    pred := s.regs.xAt a.toNat != 0, site := BitVec.ofNat 52 (s.sourceOf s.cur s.pc).1.toNat }

/-- The contribution sent to the group's home, with CSEQ advanced. -/
def State.cbrSends (s : State) (op : BitVec 2) (a : BitVec 5) (x : Group) : State :=
  (s.sendPacket x.home (.contrib (s.cbrContribution op a x))).setCsr csrCSEQ
    (natW (((s.regs.csrAt csrCSEQ).toNat + 1) % 2 ^ 32))

/-- What the hint predicts (R258). -/
def State.cbrGuess (s : State) (a : BitVec 5) (h : BitVec 2) : Bool := if h = 0 then s.regs.xAt a.toNat != 0 else h == 1

/-- The address that a collective branch goes to where it is taken. -/
def State.cbrGoal (s : State) (o : BitVec 12) : Word := s.pc + o.signExtend 64 * 4

/-- The checkpoint of a collective branch (R258). -/
def State.cbrSpec (s : State) (op : BitVec 2) (a : BitVec 5) (h : BitVec 2) (o : BitVec 12) (x : Group) : Spec :=
  { cp := s.regs, pred := s.cbrGuess a h, own := s.regs.xAt a.toNat != 0, op := op, site := (s.cbrContribution op a x).site
    epc := s.pc, next := s.pc + 4, target := s.cbrGoal o, group := x.id
    round := BitVec.ofNat 32 (s.regs.csrAt csrCSEQ).toNat }

/-- The contribution sent, and the checkpoint kept. -/
def State.cbrSpeculates (s : State) (op : BitVec 2) (a : BitVec 5) (h : BitVec 2) (o : BitVec 12) (x : Group) : State :=
  (s.cbrSends op a x).setMe { (s.cbrSends op a x).me with spec := some (s.cbrSpec op a h o x) }

/-- A branch that goes on at its target or in sequence. -/
def State.branches (s : State) (taken : Bool) (o : BitVec 12) : Res := if taken then .jump s (s.cbrGoal o) else .done s

/-- What a collective branch answers before its operation is sent. -/
def State.cbrRes (s : State) (op : BitVec 2) (a : BitVec 5) (h : BitVec 2) (o : BitVec 12) : Res :=
  let cm := s.regs.csrAt csrCMEMB
  if s.regs.hm then .trap { cause := cCOLLNEST, tval := cm }
  else if cm = 0 then s.branches (s.regs.xAt a.toNat != 0) o
  else
    match s.groupOf s.cur with
    | none => .trap { cause := cPROT, tval := cm }
    | some x =>
      if x.id ≠ cm.toNat then .trap { cause := cPROT, tval := cm }
      else if x.aborted then .trap { cause := cCOLLABORT, tval := s.abortedAt x }
      else if s.regs.stepBit then (s.cbrSends op a x).send .cbr
      else (s.cbrSpeculates op a h o x).branches (s.cbrGuess a h) o

theorem State.cbrSends_unit (s : State) (op : BitVec 2) (a : BitVec 5) (x : Group) : (s.cbrSends op a x).unit = s.unit :=
  State.sendPacket_unit _ _ _

theorem State.cbrSends_pc (s : State) (op : BitVec 2) (a : BitVec 5) (x : Group) : (s.cbrSends op a x).pc = s.pc := by
  rw [State.pc, State.cbrSends, State.setCsr, State.regs_setRegs, State.regs, State.sendPacket_me]
  rfl

theorem State.cbrSpeculates_unit (s : State) (op : BitVec 2) (a : BitVec 5) (h : BitVec 2) (o : BitVec 12) (x : Group) :
    (s.cbrSpeculates op a h o x).unit = s.unit :=
  s.cbrSends_unit op a x

theorem State.cbrSpeculates_pc (s : State) (op : BitVec 2) (a : BitVec 5) (h : BitVec 2) (o : BitVec 12) (x : Group) :
    (s.cbrSpeculates op a h o x).pc = s.pc := by
  rw [State.pc, State.cbrSpeculates, State.regs_setMe]
  exact s.cbrSends_pc op a x

/-- The offset of a branch, in words of 4 bytes. -/
theorem wordOf_sextInt_mul_four (o : BitVec 12) : wordOf (sextInt 12 o.toNat * 4) = o.signExtend 64 * 4 :=
  wordOf_sextInt_mul (by decide) o 4

/-- TVAL of COLLABORT (R261; log entry 18). -/
theorem State.abortedAt_eq (s : State) (x : Group) : s.abortedAt x = natW (2 ^ 32 *
    (if x.home = s.self then x.round.toNat else (s.regs.csrAt csrCSEQ).toNat % 2 ^ 32) + 6) := by
  unfold State.abortedAt
  by_cases home : x.home = s.self
  · rw [if_pos home, if_pos home, Group.abortedTval]
  · rw [if_neg home, if_neg home, fld_zero]

/-- Outside handler mode, the context is a member of group `x`, which CMEMB names (R257, R479). -/
abbrev State.memberOf (s : State) (x : Group) : Prop :=
  s.regs.hm = false ∧ s.regs.csrAt csrCMEMB ≠ 0 ∧ s.groupOf s.cur = some x ∧ x.id = (s.regs.csrAt csrCMEMB).toNat

/-- A collective branch outside every group is a branch on its own X a. -/
theorem State.cbrRes_alone {s : State} (op : BitVec 2) (a : BitVec 5) (h : BitVec 2) (o : BitVec 12) (task : s.regs.hm = false)
    (alone : s.regs.csrAt csrCMEMB = 0) : s.cbrRes op a h o = s.branches (s.regs.xAt a.toNat != 0) o := by
  rw [State.cbrRes, task, if_neg Bool.false_ne_true, if_pos alone]

/-- A collective branch of a member of a group. -/
theorem State.cbrRes_member {s : State} {x : Group} (op : BitVec 2) (a : BitVec 5) (h : BitVec 2) (o : BitVec 12)
    (member : s.memberOf x) : s.cbrRes op a h o =
      if x.aborted then .trap { cause := cCOLLABORT, tval := s.abortedAt x }
      else if s.regs.stepBit then (s.cbrSends op a x).send .cbr
      else (s.cbrSpeculates op a h o x).branches (s.cbrGuess a h) o := by
  obtain ⟨task, inside, group, id⟩ := member
  rw [State.cbrRes, task, if_neg Bool.false_ne_true, if_neg inside, group]
  exact if_neg (not_not_intro id)

/-- A branch after its checkpoint is kept goes where the branch itself does. -/
theorem State.cbrSpeculates_branches (s : State) (op : BitVec 2) (a : BitVec 5) (h : BitVec 2) (o : BitVec 12) (x : Group)
    (taken : Bool) : (s.cbrSpeculates op a h o x).branches taken o =
      if taken then .jump (s.cbrSpeculates op a h o x) (s.cbrGoal o) else .done (s.cbrSpeculates op a h o x) := by
  rw [State.branches, State.cbrGoal, State.cbrSpeculates_pc, State.cbrGoal]

section Branch
variable {i : Instr} {op : BitVec 2} {a : BitVec 5} {h : BitVec 2} {o : BitVec 12}
  (e : ∀ s, exec i s = cbr (cSig i) op a h o s)
include e

theorem cbr_ready {s : State} (r : s.ready (cSig i) = true) : ∃ f : State → Res,
    exec i s = issue (cSig i) s f ∧ f s = s.cbrRes op a h o := by
  have next : s.nextSeq = s.pc + 4 := by rw [State.nextSeq, (State.ready_parts r).1]; rfl
  refine ⟨_, e s, ?_⟩
  simp only [State.whenDone_start _ _ (State.ready_parts r).2.1, State.rx_ready _ _ r, wordOf_sextInt_mul_four, next]
  rfl

/-- In handler mode (R257). -/
theorem cbr_nested : TrapIf i (cSig i) (fun s => s.regs.hm = true)
    (fun s => { cause := cCOLLNEST, tval := s.regs.csrAt csrCMEMB }) := by
  intro s r handler
  obtain ⟨f, hf, meaning⟩ := cbr_ready e r
  rw [hf]
  refine issue_trap r ?_
  rw [meaning, State.cbrRes, if_pos handler]

theorem cbr_alone_taken : JumpIf i (cSig i)
    (fun s => s.regs.hm = false ∧ s.regs.csrAt csrCMEMB = 0 ∧ (s.regs.xAt a.toNat != 0) = true) (fun s => s)
    (fun s => s.cbrGoal o) := by
  rintro s r ⟨task, alone, own⟩
  obtain ⟨f, hf, meaning⟩ := cbr_ready e r
  rw [hf]
  refine issue_jump r ?_ (State.ready_parts r).1
  rw [meaning, State.cbrRes_alone _ _ _ _ task alone, own]
  rfl

theorem cbr_alone_falls : DoneIf i (cSig i)
    (fun s => s.regs.hm = false ∧ s.regs.csrAt csrCMEMB = 0 ∧ (s.regs.xAt a.toNat != 0) = false) (fun s => s) := by
  rintro s r ⟨task, alone, own⟩
  obtain ⟨f, hf, meaning⟩ := cbr_ready e r
  rw [hf]
  refine issue_done r ?_ (State.ready_parts r).1
  rw [meaning, State.cbrRes_alone _ _ _ _ task alone, own]
  rfl

/-- CMEMB names a group of which the context is no member (R479). -/
theorem cbr_stranger : TrapIf i (cSig i)
    (fun s => s.regs.hm = false ∧ s.regs.csrAt csrCMEMB ≠ 0 ∧ s.groupOf s.cur = none)
    (fun s => { cause := cPROT, tval := s.regs.csrAt csrCMEMB }) := by
  rintro s r ⟨task, inside, none_⟩
  obtain ⟨f, hf, meaning⟩ := cbr_ready e r
  rw [hf]
  refine issue_trap r ?_
  rw [meaning, State.cbrRes, task, if_neg Bool.false_ne_true, if_neg inside, none_]

/-- The group has been aborted (R261). -/
theorem cbr_aborted (x : Group) : TrapIf i (cSig i) (fun s => s.memberOf x ∧ x.aborted = true)
    (fun s => { cause := cCOLLABORT, tval := natW (2 ^ 32 *
      (if x.home = s.self then x.round.toNat else (s.regs.csrAt csrCSEQ).toNat % 2 ^ 32) + 6) }) := by
  rintro s r ⟨member, aborted⟩
  obtain ⟨f, hf, meaning⟩ := cbr_ready e r
  rw [hf]
  refine issue_trap r ?_
  rw [meaning, State.cbrRes_member _ _ _ _ member, if_pos aborted, State.abortedAt_eq]

/-- The hint predicts that the branch is taken (R258). -/
theorem cbr_predicts_taken (x : Group) : JumpIf i (cSig i)
    (fun s => s.memberOf x ∧ x.aborted = false ∧ s.regs.stepBit = false ∧ s.cbrGuess a h = true)
    (fun s => s.cbrSpeculates op a h o x) (fun s => s.cbrGoal o) := by
  rintro s r ⟨member, sound, plain, guess⟩
  obtain ⟨f, hf, meaning⟩ := cbr_ready e r
  rw [hf]
  refine issue_jump r ?_ ((s.cbrSpeculates_unit op a h o x).trans (State.ready_parts r).1)
  rw [meaning, State.cbrRes_member _ _ _ _ member, sound, plain, State.cbrSpeculates_branches, guess]
  rfl

/-- The hint predicts that the branch falls through (R258). -/
theorem cbr_predicts_falls (x : Group) : DoneIf i (cSig i)
    (fun s => s.memberOf x ∧ x.aborted = false ∧ s.regs.stepBit = false ∧ s.cbrGuess a h = false)
    (fun s => s.cbrSpeculates op a h o x) := by
  rintro s r ⟨member, sound, plain, guess⟩
  obtain ⟨f, hf, meaning⟩ := cbr_ready e r
  rw [hf]
  refine issue_done r ?_ ((s.cbrSpeculates_unit op a h o x).trans (State.ready_parts r).1)
  rw [meaning, State.cbrRes_member _ _ _ _ member, sound, plain, State.cbrSpeculates_branches, guess]
  rfl

/-- Under STEP the branch waits for the round's result (R258). -/
theorem cbr_steps (x : Group) : SendIf i (cSig i)
    (fun s => s.memberOf x ∧ x.aborted = false ∧ s.regs.stepBit = true) (fun s => s.cbrSends op a x) (fun _ => .cbr) := by
  rintro s r ⟨member, sound, step⟩
  obtain ⟨f, hf, meaning⟩ := cbr_ready e r
  rw [hf]
  refine issue_hold r ?_
  rw [meaning, State.cbrRes_member _ _ _ _ member, sound, step]
  rfl

/-- What a collective branch under STEP does with the round's result: any value but 0 is taken. -/
theorem cbr_answered {s : State} {v jv js : Word} {fl : BitVec 6} (r : s.answered v jv js fl = true) :
    exec i s = .next (finish s (cSig i) (s.unpend.branches (v != 0) o)) := by
  rw [e, cbr, issue_answered _ r, State.whenDone_answered _ _ r, wordOf_sextInt_mul_four]
  rfl

theorem cbr_answered_taken {s : State} {v jv js : Word} {fl : BitVec 6} (r : s.answered v jv js fl = true) (taken : v ≠ 0) :
    exec i s = .next (s.redirects (cSig i) s.unpend (s.cbrGoal o)) := by
  have goal : s.unpend.cbrGoal o = s.cbrGoal o := by simp only [State.cbrGoal, State.pc, State.unpend_regs]
  rw [cbr_answered e r, bne_iff_ne.2 taken, State.branches, if_pos rfl, goal]
  exact congrArg _ (finish_jump _ _ (State.answered_parts r).1 (.inr (.inl (State.answered_performed r))))

theorem cbr_answered_falls {s : State} {jv js : Word} {fl : BitVec 6} (r : s.answered 0 jv js fl = true) :
    exec i s = .next (s.retires (cSig i) s.unpend) := by
  rw [cbr_answered e r, State.branches, bne_self_eq_false, if_neg Bool.false_ne_true]
  exact congrArg _ (finish_done _ (State.answered_parts r).1 (.inr (.inl (State.answered_performed r))))

end Branch

end Sys2Proof.Machine
end

section
/-! PROOF. Joining and leaving a group (R254, R255, R452). -/

namespace Sys2Proof.Machine

/-! What a join leaves and asks for -/

/-- The context has joined group `x`, and `v` is written (R255). -/
def State.joins (s : State) (d : BitVec 5) (x : Group) (v : Word) : State :=
  let s1 : State := { s with groups := setGroup { x with joins := x.joins + 1, members := x.members ++ [s.caddr s.cur] } s.groups }
  (((s1.setMe { s1.me with joinedGang := s1.me.joinedGang || x.gang.isSome }).writeX d v).setCsr csrCMEMB (natW x.id)).setCsr
    csrCSEQ (natW x.round.toNat)

/-- The group is asked for at a package (R452; log entry 81). -/
def State.asksFor (s : State) (g n : Word) (pkg : Nat) : State :=
  s.sendPacket pkg (.groupAsk (s.caddr s.cur) s.me.vf g.toNat n.toNat)

/-- The group that a join creates (R254). -/
def State.newGroup (s : State) (g n : Word) : Group :=
  { id := g.toNat, vf := s.me.vf, home := s.self, exp := n.toNat, created := n.toNat }

/-- The package that the directory of this one names for a group. -/
def State.knownGroup (s : State) (g : Word) : Option (Nat × Nat × Nat) :=
  s.groupDir.find? (fun e => e.1 == s.me.vf && e.2.1 == g.toNat)

/-- The gang group of a launch (R254). -/
def State.gangGroup (s : State) (k q : Nat) : Option Group := s.groups.find? (fun y => y.launch == some k && y.gang == some q)

theorem State.joins_unit (s : State) (d : BitVec 5) (x : Group) (v : Word) : (s.joins d x v).unit = s.unit := rfl

theorem State.joinGroup_joins {s : State} {d : BitVec 5} (x : Group) (v : Word) (free : s.regs.boundTo d.toNat = none) :
    s.joinGroup x d v = .done (s.joins d x v) := by
  have kept (gs : List Group) (b : Bool) : (({ s with groups := gs } : State).setMe
      { ({ s with groups := gs } : State).me with joinedGang := b }).regs.boundTo d.toNat = none := by
    rw [State.regs_setMe]
    exact free
  unfold State.joinGroup
  dsimp only
  rw [State.putX_plain _ (kept _ _)]
  rfl

/-! What COLX.JOIN answers, case by case -/

/-- COLX.JOIN of the gang group (R255). -/
def State.joinGang (s : State) (d : BitVec 5) : Res :=
  match s.gangOf s.cur with
  | none => .trap { cause := cILLEGAL, tval := 0 }
  | some (k, q) =>
    match s.gangGroup k q with
    | none => .trap { cause := cILLEGAL, tval := 0 }
    | some x =>
      if x.aborted then .trap { cause := cCOLLABORT, tval := x.abortedTval }
      else s.joinGroup x d (natW (match s.me.task, s.launchOf s.cur with
        | some t, some ln => t.ord % ln.e0
        | _, _ => 0))

/-- What COLX.JOIN answers before anything is sent. -/
def State.joinRes (s : State) (d : BitVec 5) (g n : Word) : Res :=
  if (s.groupOf s.cur).isSome then .trap { cause := cILLEGAL, tval := s.regs.csrAt csrCMEMB }
  else if g = 0 then s.joinGang d
  else if 0x7FFF < g.toNat then .trap { cause := cPROT, tval := g }
  else s.joinNamed d g n

section Named
variable {s : State} {d : BitVec 5} {g n : Word}

theorem State.joinRes_gang (out : s.groupOf s.cur = none) : s.joinRes d 0 n = s.joinGang d := by
  rw [State.joinRes, out, if_neg (by decide), if_pos rfl]

/-- The context is in no group, and names one of software. -/
abbrev State.namesGroup (s : State) (g : Word) : Prop := s.groupOf s.cur = none ∧ g ≠ 0 ∧ g.toNat ≤ 0x7FFF

theorem State.joinRes_named (named : s.namesGroup g) : s.joinRes d g n = s.joinNamed d g n := by
  obtain ⟨out, g0, low⟩ := named
  rw [State.joinRes, out, if_neg (by decide), if_neg g0, if_neg (Nat.not_lt.2 low)]

/-- The group named is known here, and this package is its home. -/
abbrev State.groupHere (s : State) (g : Word) (x : Group) : Prop :=
  s.namesGroup g ∧ s.groupById s.me.vf g.toNat = some x ∧ x.home = s.self

theorem State.joinRes_here {x : Group} (here : s.groupHere g x) : s.joinRes d g n = s.joinHere x d n := by
  obtain ⟨named, group, home⟩ := here
  rw [State.joinRes_named named, State.joinNamed, group]
  simp only [Option.filter_some, beq_iff_eq.2 home, if_true]

/-- No group of the number named has its home here. -/
abbrev State.groupAway (s : State) (g : Word) : Prop :=
  s.namesGroup g ∧ ∀ x, s.groupById s.me.vf g.toNat = some x → x.home ≠ s.self

theorem State.joinRes_away (away : s.groupAway g) : s.joinRes d g n =
    if s.dirPkg s.me.vf ≠ s.self then (s.asksFor g n (s.dirPkg s.me.vf)).send (.colx g.toNat n.toNat)
    else match s.knownGroup g with
      | some e => (s.asksFor g n e.2.2).send (.colx g.toNat n.toNat)
      | none =>
        if n.toNat < 1 ∨ 65535 < n.toNat then .trap { cause := cILLEGAL, tval := n }
        else ({ s with groups := s.groups ++ [s.newGroup g n] } : State).joinGroup (s.newGroup g n) d 0 := by
  obtain ⟨named, elsewhere⟩ := away
  have none_ : (s.groupById s.me.vf g.toNat).filter (fun x => x.home == s.self) = none :=
    Option.filter_eq_none_iff.2 fun x hx => by simpa using elsewhere x hx
  rw [State.joinRes_named named, State.joinNamed, none_]
  rfl

/-- Another package keeps the directory (log entry 81). -/
theorem State.joinRes_directory (away : s.groupAway g) (far : s.dirPkg s.me.vf ≠ s.self) :
    s.joinRes d g n = (s.asksFor g n (s.dirPkg s.me.vf)).send (.colx g.toNat n.toNat) := by
  rw [State.joinRes_away away, if_pos far]

/-- The directory of this package names the group's home. -/
theorem State.joinRes_known {e : Nat × Nat × Nat} (away : s.groupAway g) (near : s.dirPkg s.me.vf = s.self)
    (known : s.knownGroup g = some e) : s.joinRes d g n = (s.asksFor g n e.2.2).send (.colx g.toNat n.toNat) := by
  rw [State.joinRes_away away, if_neg (not_not_intro near), known]

/-- The directory of this package knows no group of that number. -/
abbrev State.groupUnknown (s : State) (g : Word) : Prop :=
  s.groupAway g ∧ s.dirPkg s.me.vf = s.self ∧ s.knownGroup g = none

theorem State.joinRes_unknown (new : s.groupUnknown g) : s.joinRes d g n =
    if n = 0 ∨ 65535 < n.toNat then .trap { cause := cILLEGAL, tval := n }
    else ({ s with groups := s.groups ++ [s.newGroup g n] } : State).joinGroup (s.newGroup g n) d 0 := by
  obtain ⟨away, near, unknown⟩ := new
  have zero : n.toNat < 1 ↔ n = 0 := by rw [Nat.lt_one_iff, BitVec.toNat_eq]; rfl
  rw [State.joinRes_away away, if_neg (not_not_intro near), unknown]
  simp only [zero]

end Named

section Join
variable (sm l : Bool) (d a b : BitVec 5) (t u : Bool)

theorem colxJoin_ready {s : State} (h : s.ready (cSig (.colxJoin sm l d a b t u)) = true) : ∃ f : State → Res,
    exec (.colxJoin sm l d a b t u) s = issue (cSig (.colxJoin sm l d a b t u)) s f
      ∧ f s = s.joinRes d (s.regs.xAt a.toNat) (s.regs.xAt b.toNat) := by
  refine ⟨_, exec_colxJoin sm l d a b t u s, ?_⟩
  simp only [State.whenDone_start _ _ (State.ready_parts h).2.1, State.rx_ready _ _ h]
  rfl

/-- A trap of COLX.JOIN. -/
theorem colxJoin_trap {p : State → Prop} {w : State → Why}
    (meaning : ∀ s, p s → s.joinRes d (s.regs.xAt a.toNat) (s.regs.xAt b.toNat) = .trap (w s)) :
    TrapIf (.colxJoin sm l d a b t u) (cSig (.colxJoin sm l d a b t u)) p w := by
  intro s h hp
  obtain ⟨f, hf, e⟩ := colxJoin_ready sm l d a b t u h
  exact hf.trans (issue_trap h (e.trans (meaning s hp)))

/-- A COLX.JOIN that is done at once; its destination is bound to no port. -/
theorem colxJoin_done {p : State → Prop} {f : State → State}
    (meaning : ∀ s, s.regs.boundTo d.toNat = none → p s →
      s.joinRes d (s.regs.xAt a.toNat) (s.regs.xAt b.toNat) = .done (f s)) (unit : ∀ s, (f s).unit = s.unit) :
    DoneIf (.colxJoin sm l d a b t u) (cSig (.colxJoin sm l d a b t u)) p f := by
  intro s h hp
  obtain ⟨g, hg, e⟩ := colxJoin_ready sm l d a b t u h
  have free : s.regs.boundTo d.toNat = none := State.dst_unbound h (List.mem_singleton.2 rfl)
  exact hg.trans (issue_done h (e.trans (meaning s free hp)) ((unit s).trans (State.ready_parts h).1))

/-- A COLX.JOIN that asks for its group elsewhere. -/
theorem colxJoin_asks {p : State → Prop} {pkg : State → Nat}
    (meaning : ∀ s, p s → s.joinRes d (s.regs.xAt a.toNat) (s.regs.xAt b.toNat) =
      (s.asksFor (s.regs.xAt a.toNat) (s.regs.xAt b.toNat) (pkg s)).send
        (.colx (s.regs.xAt a.toNat).toNat (s.regs.xAt b.toNat).toNat)) :
    SendIf (.colxJoin sm l d a b t u) (cSig (.colxJoin sm l d a b t u)) p
      (fun s => s.asksFor (s.regs.xAt a.toNat) (s.regs.xAt b.toNat) (pkg s))
      (fun s => .colx (s.regs.xAt a.toNat).toNat (s.regs.xAt b.toNat).toNat) := by
  intro s h hp
  obtain ⟨f, hf, e⟩ := colxJoin_ready sm l d a b t u h
  exact hf.trans (issue_hold h (e.trans (meaning s hp)))

/-- The answer to a join that was asked for elsewhere (R452). -/
theorem colxJoin_answered {s : State} {v round said : Word} {fl : BitVec 6} (h : s.answered v round said fl = true)
    (hw : (cSig (.colxJoin sm l d a b t u)).dsts.all s.regs.writable = true) :
    let r := s.unpend.writeX d v
    exec (.colxJoin sm l d a b t u) s = .next (s.retires (cSig (.colxJoin sm l d a b t u))
      (if said = 0 then (r.setCsr csrCMEMB (s.regs.xAt a.toNat)).setCsr csrCSEQ round else r)) := by
  have unit := (State.answered_parts h).1
  have free : s.unpend.regs.boundTo d.toNat = none := by
    rw [State.unpend_regs]
    exact Regs.writable_x (List.all_eq_true.1 hw _ (List.mem_singleton.2 rfl))
  rw [exec_colxJoin, execColxJoin]
  refine issue_answered_done h ?_ (by split <;> exact unit)
  have named : s.unpend.rx 1 a.toNat = s.regs.xAt a.toNat := by rw [State.rx_plain _ _ (by exact unit), State.unpend_regs]
  rw [State.whenDone_answered _ _ h, State.putX_plain _ free, named]
  dsimp only
  split <;> rfl

end Join

/-- COLX.LEAVE (R255). -/
theorem colxLeave_done (sm l : Bool) : Done (.colxLeave sm l) (cSig (.colxLeave sm l))
    (fun s => ((s.within (s.leaveGroup s.cur)).setCsr csrCMEMB 0).setCsr csrCSEQ 0) :=
  fun s h => (exec_colxLeave sm l s).trans (issue_done h rfl (State.ready_parts h).1)

/-- Settles O32: the collective branches, whose round's operation alone differs, then COLX.JOIN and COLX.LEAVE. -/
theorem collectiveForms : Obligations.CollectiveForms := by
  refine ⟨?branches, ?groups⟩
  case branches =>
    intro sm l a h o form
    have forms : ∀ (i : Instr) (op : BitVec 2), (∀ s, exec i s = cbr (cSig i) op a h o s) → form i op := fun i op e =>
      ⟨cbr_nested e, cbr_alone_taken e, cbr_alone_falls e, cbr_stranger e, cbr_aborted e, cbr_predicts_taken e,
        cbr_predicts_falls e, cbr_steps e, fun s v jv js fl => cbr_answered_taken e, fun s jv js fl => cbr_answered_falls e⟩
    exact ⟨forms _ 0 (exec_cbrAny sm l a h o), forms _ 1 (exec_cbrAll sm l a h o), forms _ 2 (exec_cbrMaj sm l a h o)⟩
  case groups =>
    intro sm l d a b t u i g A N joined out named here away known none_ asks fresh
    refine ⟨?member, ?noGang, ?gangAborted, ?gang, ?beyond, ?size, ?creates, ?directory, ?home, ?full, ?aborted, ?joins,
      fun s v round said fl => colxJoin_answered sm l d a b t u, colxLeave_done sm l⟩
    case member =>
      refine colxJoin_trap sm l d a b t u fun s inside => ?_
      rw [State.joinRes, if_pos (Option.isSome_iff_ne_none.2 inside)]
    case noGang =>
      refine colxJoin_trap sm l d a b t u fun s ⟨free, zero, none_⟩ => ?_
      rw [show s.regs.xAt a.toNat = 0 from zero, State.joinRes_gang free, State.joinGang, none_]
    case gangAborted =>
      refine fun x k q => colxJoin_trap sm l d a b t u fun s ⟨free, zero, gang, group, aborted⟩ => ?_
      rw [show s.regs.xAt a.toNat = 0 from zero, State.joinRes_gang free, State.joinGang, gang]
      simp only [State.gangGroup, group]
      rw [if_pos aborted, Group.abortedTval]
    case gang =>
      refine fun x k q tk ln => colxJoin_done sm l d a b t u (fun s plain ⟨free, zero, gang, task, launch, group, sound⟩ => ?_)
        fun s => s.joins_unit d x _
      rw [show s.regs.xAt a.toNat = 0 from zero, State.joinRes_gang free, State.joinGang, gang]
      simp only [State.gangGroup, group, sound, task, launch]
      exact State.joinGroup_joins x _ plain
    case beyond =>
      refine colxJoin_trap sm l d a b t u fun s ⟨free, high⟩ => ?_
      have zero : A s ≠ 0 := fun zero => by rw [zero] at high; exact absurd high (by decide)
      rw [State.joinRes, show s.groupOf s.cur = none from free, if_neg (by decide), if_neg zero, if_pos high]
    case size =>
      refine colxJoin_trap sm l d a b t u fun s ⟨new, size⟩ => ?_
      rw [State.joinRes_unknown new, if_pos size]
    case creates =>
      refine colxJoin_done sm l d a b t u (fun s plain ⟨new, some_, fits⟩ => ?_) fun s => State.joins_unit _ d _ _
      rw [State.joinRes_unknown new, if_neg (not_or.2 ⟨some_, Nat.not_lt.2 fits⟩)]
      exact State.joinGroup_joins _ _ (by exact plain)
    case directory => exact colxJoin_asks sm l d a b t u fun s ⟨elsewhere, far⟩ => State.joinRes_directory elsewhere far
    case home => exact fun e => colxJoin_asks sm l d a b t u fun s ⟨elsewhere, near, named⟩ => State.joinRes_known elsewhere near named
    case full =>
      refine fun x => colxJoin_done sm l d a b t u (fun s plain ⟨group, full⟩ => ?_) fun s => rfl
      rw [State.joinRes_here group, State.joinHere, if_pos full, State.putX_plain _ plain]
      rfl
    case aborted =>
      refine fun x => colxJoin_trap sm l d a b t u fun s ⟨group, size, room, aborted⟩ => ?_
      rw [State.joinRes_here group, State.joinHere, if_neg (not_or.2 ⟨not_not_intro size, Nat.not_le.2 room⟩), if_pos aborted,
        Group.abortedTval]
    case joins =>
      refine fun x => colxJoin_done sm l d a b t u (fun s plain ⟨group, size, room, sound⟩ => ?_) fun s => s.joins_unit d x _
      rw [State.joinRes_here group, State.joinHere, if_neg (not_or.2 ⟨not_not_intro size, Nat.not_le.2 room⟩), sound,
        State.joinGroup_joins x _ plain]
      rfl

end Sys2Proof.Machine
end

section
/-! PROOF. The better of two values, over a list (R145, R330). -/

namespace Sys2Proof

/-! Picking the element of the largest key -/

/-- `r` is an element of `l` that is not skipped, and no other such element has a larger key. -/
def BestOf {α K : Type} [LE K] (skip : α → Bool) (key : α → K) (l : List α) (r : α) : Prop :=
  r ∈ l ∧ skip r = false ∧ ∀ y ∈ l, skip y = false → key y ≤ key r

/-- `pick` takes its right argument where that is not skipped and the left one is, or has a smaller key. -/
structure Picks {α K : Type} [LinearOrder K] (skip : α → Bool) (key : α → K) (pick : α → α → α) : Prop where
  right_skipped : ∀ a b, skip b = true → pick a b = a
  left_skipped : ∀ a b, skip a = true → skip b = false → pick a b = b
  larger : ∀ a b, skip a = false → skip b = false → pick a b = if key a < key b then b else a

section Picks
variable {α K : Type} [LinearOrder K] {skip : α → Bool} {key : α → K} {pick : α → α → α} (p : Picks skip key pick)
include p

theorem Picks.foldl_skipped {l : List α} (a : α) (h : ∀ x ∈ l, skip x = true) : l.foldl pick a = a := by
  induction l with
  | nil => rfl
  | cons x l ih =>
    obtain ⟨hx, hl⟩ := List.forall_mem_cons.1 h
    rw [List.foldl_cons, p.right_skipped a x hx, ih hl]

theorem Picks.foldl_best {l : List α} {a : α} (ha : skip a = false) : BestOf skip key (a :: l) (l.foldl pick a) := by
  induction l generalizing a with
  | nil => exact ⟨List.mem_singleton.2 rfl, ha, fun y hy _ => by rw [List.mem_singleton.1 hy]; rfl⟩
  | cons x l ih =>
    have goes : ∀ w, (w = a ∨ w = x) → skip w = false → (skip x = false → key x ≤ key w) → key a ≤ key w →
        BestOf skip key (a :: x :: l) (l.foldl pick w) := by
      intro w which hw keyx keya
      obtain ⟨mem, live, best⟩ := ih hw
      have top : key w ≤ key (l.foldl pick w) := best w (List.mem_cons_self ..) hw
      refine ⟨?_, live, fun y hy live => ?_⟩
      · rcases List.mem_cons.1 mem with e | e
        · rcases which with rfl | rfl <;> simp [e]
        · simp [e]
      · rcases List.mem_cons.1 hy with rfl | hy
        · exact keya.trans top
        rcases List.mem_cons.1 hy with rfl | hy
        · exact (keyx live).trans top
        · exact best y (List.mem_cons_of_mem _ hy) live
    rw [List.foldl_cons]
    cases hx : skip x with
    | true =>
      rw [p.right_skipped a x hx]
      exact goes a (.inl rfl) ha (fun e => by rw [hx] at e; cases e) le_rfl
    | false =>
      rw [p.larger a x ha hx]
      split
      · next less => exact goes x (.inr rfl) hx (fun _ => le_rfl) less.le
      · next least => exact goes a (.inl rfl) ha (fun _ => not_lt.1 least) le_rfl

theorem Picks.foldl_best_of_skipped {l : List α} {a : α} (ha : skip a = true) (h : ∃ x ∈ l, skip x = false) :
    BestOf skip key l (l.foldl pick a) := by
  induction l with
  | nil => obtain ⟨x, hx, -⟩ := h; cases hx
  | cons x l ih =>
    rw [List.foldl_cons]
    cases hx : skip x with
    | true =>
      have rest : ∃ x ∈ l, skip x = false := by
        obtain ⟨y, hy, live⟩ := h
        rcases List.mem_cons.1 hy with rfl | hy
        · rw [hx] at live; cases live
        · exact ⟨y, hy, live⟩
      obtain ⟨mem, live, best⟩ := ih rest
      rw [p.right_skipped a x hx]
      refine ⟨List.mem_cons_of_mem _ mem, live, fun y hy liveY => ?_⟩
      rcases List.mem_cons.1 hy with rfl | hy
      · rw [hx] at liveY; cases liveY
      · exact best y hy liveY
    | false =>
      rw [p.left_skipped a x ha hx]
      exact p.foldl_best hx

end Picks

theorem picks_imax : Picks (fun _ : Int => false) id imax where
  right_skipped _ _ h := nomatch h
  left_skipped _ _ h := nomatch h
  larger a b _ _ := by simp only [imax, id]; split <;> split <;> omega

theorem picks_imin : Picks (fun _ : Int => false) OrderDual.toDual imin where
  right_skipped _ _ h := nomatch h
  left_skipped _ _ h := nomatch h
  larger a b _ _ := by simp only [imin, OrderDual.toDual_lt_toDual]; split <;> split <;> omega

/-! The order of floating-point values, -0 below +0 (R126, R145) -/

/-- A value in the order of R145: whether it is infinite, then its magnitude, then the sign of a zero. -/
def FV.rank : FV → ℤ ×ₗ ℚ ×ₗ ℤ
  | .nan _ => toLex (0, toLex (0, 0))
  | .inf n => toLex (if n then -1 else 1, toLex (0, 0))
  | .fin n m e => toLex (0, toLex ((if n then -(m : ℚ) else m) * 2 ^ e, if m = 0 ∧ n then -1 else 0))

/-- A finite value as a multiple of a smaller power of two. -/
theorem atExp_mul (n : Bool) (m : Nat) {e e0 : Int} (h : e0 ≤ e) :
    (atExp n m e e0 : ℚ) * 2 ^ e0 = (if n then -(m : ℚ) else m) * 2 ^ e := by
  have shift : (2 : ℚ) ^ (e - e0).toNat * 2 ^ e0 = 2 ^ e := by
    rw [← zpow_natCast, Int.toNat_of_nonneg (Int.sub_nonneg.2 h), ← zpow_add₀ two_ne_zero, Int.sub_add_cancel]
  unfold atExp
  cases n
  · simp only [Bool.false_eq_true, if_false]
    push_cast
    rw [mul_assoc, shift]
  · simp only [if_true]
    push_cast
    rw [neg_mul, neg_mul, mul_assoc, shift]

theorem FV.lt_fin (x y : Bool) (m n : Nat) (e g : Int) : FV.lt (.fin x m e) (.fin y n g) = true ↔
    (if x then -(m : ℚ) else m) * 2 ^ e < (if y then -(n : ℚ) else n) * 2 ^ g := by
  have common : ∀ e0, e0 ≤ e → e0 ≤ g → (atExp x m e e0 < atExp y n g e0 ↔
      (if x then -(m : ℚ) else m) * 2 ^ e < (if y then -(n : ℚ) else n) * 2 ^ g) := by
    intro e0 he hg
    rw [← atExp_mul x m he, ← atExp_mul y n hg, mul_lt_mul_iff_left₀ (zpow_pos two_pos e0), Int.cast_lt]
  simp only [FV.lt, decide_eq_true_iff]
  split
  · next h => exact common e le_rfl h
  · next h => exact common g (by omega) le_rfl

/-- A finite value is 0 exactly where its magnitude is. -/
theorem signed_mul_zpow_eq_zero (n : Bool) (m : Nat) (e : Int) : (if n then -(m : ℚ) else m) * 2 ^ e = 0 ↔ m = 0 := by
  have scale : (2 : ℚ) ^ e ≠ 0 := zpow_ne_zero e two_ne_zero
  cases n <;> simp [scale]

theorem FV.below_fin (x y : Bool) (m n : Nat) (e g : Int) : FV.below (.fin x m e) (.fin y n g) = true ↔
    (FV.fin x m e).rank < (FV.fin y n g).rank := by
  have zeroM := signed_mul_zpow_eq_zero x m e
  have zeroN := signed_mul_zpow_eq_zero y n g
  have signs : FV.below (.fin x m e) (.fin y n g) = true ↔
      FV.lt (.fin x m e) (.fin y n g) = true ∨ (m = 0 ∧ n = 0 ∧ x = true ∧ y = false) := by
    simp [FV.below, FV.isZero, FV.isNeg, and_assoc]
  rw [signs, FV.lt_fin, FV.rank, FV.rank, Prod.Lex.toLex_lt_toLex, Prod.Lex.toLex_lt_toLex]
  generalize (if x then -(m : ℚ) else m) * 2 ^ e = u at *
  generalize (if y then -(n : ℚ) else n) * 2 ^ g = v at *
  simp only [lt_self_iff_false, true_and, false_or]
  refine or_congr_right ⟨fun ⟨hm, hn, hx, hy⟩ => ?_, fun ⟨same, less⟩ => ?_⟩
  · refine ⟨(zeroM.2 hm).trans (zeroN.2 hn).symm, ?_⟩
    simp [hm, hx, hy]
  · have left : m = 0 ∧ x = true := by
      by_contra h
      rw [if_neg h] at less
      split at less <;> omega
    have right : ¬(n = 0 ∧ y = true) := by
      intro h
      rw [if_pos h] at less
      split at less <;> omega
    have hn : n = 0 := zeroN.1 (same ▸ zeroM.2 left.1)
    exact ⟨left.1, hn, left.2, by simpa [hn] using right⟩

/-- Of two values that are no NaN one lies below the other exactly where its rank does. -/
theorem FV.below_iff {a b : FV} (ha : a.isNan = false) (hb : b.isNan = false) : a.below b = true ↔ a.rank < b.rank := by
  cases a with
  | nan => cases ha
  | inf x =>
    cases b with
    | nan => cases hb
    | inf y => revert x y; simp only [FV.rank, Prod.Lex.toLex_lt_toLex]; decide
    | fin y n g => cases x <;> simp [FV.rank, FV.below, FV.lt, FV.isZero, Prod.Lex.toLex_lt_toLex]
  | fin x m e =>
    cases b with
    | nan => cases hb
    | inf y => cases y <;> simp [FV.rank, FV.below, FV.lt, FV.isZero, Prod.Lex.toLex_lt_toLex]
    | fin y n g => exact FV.below_fin x y m n e g

/-- No value is below one of a rank that is not larger. -/
theorem FV.not_below {a b : FV} (ha : a.isNan = false) (hb : b.isNan = false) : a.below b = false ↔ b.rank ≤ a.rank := by
  rw [← Bool.not_eq_true, FV.below_iff ha hb, not_lt]

end Sys2Proof
end

section
/-! PROOF. The result words of a reduction (R330, R331). -/

namespace Sys2Proof.Machine

/-! What each kind picks -/

/-- An FP32 encoding that is skipped (R145). -/
def nan32 (b : BitVec 32) : Bool := (fmt32.val b.toNat).isNan

/-- The rank of an FP32 encoding. -/
def rank32 (b : BitVec 32) : ℤ ×ₗ ℚ ×ₗ ℤ := (fmt32.val b.toNat).rank

theorem nan32_nan : nan32 0x7FC00000 = true := by decide

theorem picks_pickFp_max : Picks nan32 rank32 (pickFp true) where
  right_skipped _ _ h := if_pos h
  left_skipped _ _ ha hb := (if_neg (ne_true_of_eq_false hb)).trans (if_pos ha)
  larger a b ha hb := by
    refine (if_neg (ne_true_of_eq_false hb)).trans ((if_neg (ne_true_of_eq_false ha)).trans ?_)
    exact if_congr (FV.below_iff ha hb) rfl rfl

theorem picks_pickFp_min : Picks nan32 (OrderDual.toDual ∘ rank32) (pickFp false) where
  right_skipped _ _ h := if_pos h
  left_skipped _ _ ha hb := (if_neg (ne_true_of_eq_false hb)).trans (if_pos ha)
  larger a b ha hb := by
    refine (if_neg (ne_true_of_eq_false hb)).trans ((if_neg (ne_true_of_eq_false ha)).trans ?_)
    exact if_congr (FV.below_iff hb ha) rfl rfl

/-- A pair in the order of R330: the larger value, and of equal values the lower index. -/
def pairRank (p : BitVec 32 × BitVec 32) : (ℤ ×ₗ ℚ ×ₗ ℤ) ×ₗ ℕᵒᵈ := toLex (rank32 p.1, OrderDual.toDual p.2.toNat)

theorem picks_pickPair : Picks (fun p => nan32 p.1) pairRank pickPair where
  right_skipped _ _ h := if_pos h
  left_skipped _ _ ha hb := (if_neg (ne_true_of_eq_false hb)).trans (if_pos ha)
  larger a b ha hb := by
    refine (if_neg (ne_true_of_eq_false hb)).trans ((if_neg (ne_true_of_eq_false ha)).trans ?_)
    have up := FV.below_iff ha hb
    have down := FV.below_iff hb ha
    simp only [up, down, pairRank, Prod.Lex.toLex_lt_toLex, OrderDual.toDual_lt_toDual]
    change (if rank32 a.1 < rank32 b.1 then b else if rank32 b.1 < rank32 a.1 then a else if b.2.toNat < a.2.toNat then b else a) = _
    rcases lt_trichotomy (rank32 a.1) (rank32 b.1) with h | h | h
    · rw [if_pos h, if_pos (.inl h)]
    · simp [h]
    · rw [if_neg h.not_gt, if_pos h, if_neg (by simp [h.not_gt, h.ne'])]

/-! The words -/

theorem eltInts_int (is : List Int) : eltInts (is.map WElt.int) = is := by
  rw [eltInts, List.filterMap_map]
  exact List.filterMap_some

theorem whiskWord_sum (f : Int) (is : List Int) : whiskWord 0 f (is.map WElt.int) = BitVec.ofInt 64 is.sum := by
  rw [whiskWord, eltInts_int]
  rfl

/-- SUM.F of numbers: no mark is among them. -/
theorem whiskWord_fix (f : Int) (is : List Int) : whiskWord 1 f (is.map WElt.int) =
    if is.sum = 0 then 0 else natW (fmt32.round mRNE 0 (decide (is.sum < 0)) is.sum.natAbs f false).1 := by
  have plain : ∀ m : WElt, (∀ i, WElt.int i ≠ m) → (is.map WElt.int).contains m = false := fun m h => by simpa using fun x _ => h x
  simp only [whiskWord, plain .nan (fun _ h => nomatch h), plain .posInf (fun _ h => nomatch h),
    plain .negInf (fun _ h => nomatch h), eltInts_int]
  rfl

/-- SUM.F with the marks of NaN and of both infinities. -/
theorem whiskWord_fix_nan (f : Int) {es : List WElt} (h : WElt.nan ∈ es ∨ (WElt.posInf ∈ es ∧ WElt.negInf ∈ es)) :
    whiskWord 1 f es = 0x7FC00000 := by
  simp only [whiskWord, List.contains_iff_mem]
  rw [if_pos h]
  rfl

theorem whiskWord_fix_posInf (f : Int) {es : List WElt} (hn : WElt.nan ∉ es) (hp : WElt.posInf ∈ es) (hi : WElt.negInf ∉ es) :
    whiskWord 1 f es = 0x7F800000 := by
  simp only [whiskWord, List.contains_iff_mem]
  rw [if_neg (by simp [hn, hi]), if_pos hp]
  rfl

theorem whiskWord_fix_negInf (f : Int) {es : List WElt} (hn : WElt.nan ∉ es) (hi : WElt.negInf ∈ es) (hp : WElt.posInf ∉ es) :
    whiskWord 1 f es = 0xFF800000 := by
  simp only [whiskWord, List.contains_iff_mem]
  rw [if_neg (by simp [hn, hp]), if_neg hp, if_pos hi]
  rfl

/-- MAXV.I and MINV.I: the extreme of the integers. -/
theorem whiskWord_maxInt (f : Int) {is : List Int} (h : is ≠ []) :
    ∃ x ∈ is, whiskWord 2 f (is.map WElt.int) = BitVec.ofInt 64 x ∧ ∀ y ∈ is, y ≤ x := by
  obtain ⟨i, t, rfl⟩ := List.exists_cons_of_ne_nil h
  obtain ⟨mem, -, best⟩ := picks_imax.foldl_best (l := t) (a := i) rfl
  refine ⟨_, mem, ?_, fun y hy => best y hy rfl⟩
  rw [whiskWord, eltInts_int]
  rfl

theorem whiskWord_minInt (f : Int) {is : List Int} (h : is ≠ []) :
    ∃ x ∈ is, whiskWord 4 f (is.map WElt.int) = BitVec.ofInt 64 x ∧ ∀ y ∈ is, x ≤ y := by
  obtain ⟨i, t, rfl⟩ := List.exists_cons_of_ne_nil h
  obtain ⟨mem, -, best⟩ := picks_imin.foldl_best (l := t) (a := i) rfl
  refine ⟨_, mem, ?_, fun y hy => OrderDual.toDual_le_toDual.1 (best y hy rfl)⟩
  rw [whiskWord, eltInts_int]
  rfl

/-- MAXV.F and MINV.F pick among the values that are no NaN. -/
theorem whiskWord_maxFp (f : Int) (vs : List (BitVec 32)) : whiskWord 3 f (vs.map WElt.fp) =
    let b := vs.foldl (pickFp true) 0x7FC00000
    natW (if nan32 b then 0xFF800000 else b.toNat) := by
  simp only [whiskWord, List.foldl_map]
  rfl

theorem whiskWord_minFp (f : Int) (vs : List (BitVec 32)) : whiskWord 5 f (vs.map WElt.fp) =
    let b := vs.foldl (pickFp false) 0x7FC00000
    natW (if nan32 b then 0x7F800000 else b.toNat) := by
  simp only [whiskWord, List.foldl_map]
  rfl

/-- MAX picks among the pairs whose value is no NaN. -/
theorem whiskWord_pair (f : Int) (ps : List (BitVec 32 × BitVec 32)) : whiskWord 6 f (ps.map (fun p => WElt.pair p.1 p.2)) =
    let p := ps.foldl pickPair (0x7FC00000, 0xFFFFFFFF)
    let q := if nan32 p.1 then ((0xFF800000, 0xFFFFFFFF) : BitVec 32 × BitVec 32) else p
    natW (q.1.toNat + 2 ^ 32 * q.2.toNat) := by
  simp only [whiskWord, List.foldl_map]
  rfl

/-- The best of `vs`, under `skip` and `key`, as what MAXV.F or MINV.F answers. -/
theorem whiskWord_fp_best {k : Nat} {f : Int} {vs : List (BitVec 32)} {K : Type} [LinearOrder K] {key : BitVec 32 → K}
    {pick : BitVec 32 → BitVec 32 → BitVec 32} {none_ : Nat} (p : Picks nan32 key pick)
    (word : whiskWord k f (vs.map WElt.fp) =
      natW (if nan32 (vs.foldl pick 0x7FC00000) then none_ else (vs.foldl pick 0x7FC00000).toNat)) :
    ((∀ x ∈ vs, nan32 x = true) → whiskWord k f (vs.map WElt.fp) = natW none_)
    ∧ ((∃ x ∈ vs, nan32 x = false) → ∃ x ∈ vs, whiskWord k f (vs.map WElt.fp) = natW x.toNat ∧ nan32 x = false
        ∧ ∀ y ∈ vs, nan32 y = false → key y ≤ key x) := by
  refine ⟨fun all => ?_, fun some_ => ?_⟩
  · rw [word, p.foldl_skipped _ all, if_pos nan32_nan]
  · obtain ⟨mem, live, best⟩ := p.foldl_best_of_skipped nan32_nan some_
    exact ⟨_, mem, by rw [word, live]; rfl, live, best⟩

/-- The two halves of a result word of MAX. -/
theorem pairWord_halves (a b : BitVec 32) : (natW (a.toNat + 2 ^ 32 * b.toNat)).setWidth 32 = a
    ∧ (natW (a.toNat + 2 ^ 32 * b.toNat)).toNat / 2 ^ 32 = b.toNat := by
  have word : (natW (a.toNat + 2 ^ 32 * b.toNat)).toNat = a.toNat + 2 ^ 32 * b.toNat := by
    rw [natW, BitVec.toNat_ofNat]
    omega
  refine ⟨BitVec.eq_of_toNat_eq ?_, ?_⟩
  · rw [BitVec.toNat_setWidth, word]
    omega
  · rw [word]
    omega

/-- MAX where every value is a NaN. -/
theorem whiskWord_pair_none (f : Int) {ps : List (BitVec 32 × BitVec 32)} (all : ∀ p ∈ ps, nan32 p.1 = true) :
    whiskWord 6 f (ps.map (fun p => WElt.pair p.1 p.2)) = 0xFFFFFFFFFF800000 := by
  rw [whiskWord_pair, picks_pickPair.foldl_skipped _ all]
  dsimp only
  rw [if_pos nan32_nan]
  rfl

/-- MAX of the values that are no NaN: the best pair. -/
theorem whiskWord_pair_best (f : Int) {ps : List (BitVec 32 × BitVec 32)} (some_ : ∃ p ∈ ps, nan32 p.1 = false) :
    ∃ p, BestOf (fun p => nan32 p.1) pairRank ps p
      ∧ whiskWord 6 f (ps.map (fun p => WElt.pair p.1 p.2)) = natW (p.1.toNat + 2 ^ 32 * p.2.toNat) := by
  have best := picks_pickPair.foldl_best_of_skipped (a := (0x7FC00000, 0xFFFFFFFF)) nan32_nan some_
  refine ⟨_, best, ?_⟩
  obtain ⟨-, live, -⟩ := best
  rw [whiskWord_pair]
  dsimp only at live ⊢
  rw [live]
  rfl

/-- What it says of two pairs that the first has no smaller rank. -/
theorem pairRank_le {p q : BitVec 32 × BitVec 32} (h : pairRank q ≤ pairRank p) :
    rank32 q.1 ≤ rank32 p.1 ∧ (rank32 p.1 ≤ rank32 q.1 → p.2.toNat ≤ q.2.toNat) := by
  rw [pairRank, pairRank, Prod.Lex.toLex_le_toLex] at h
  rcases h with less | ⟨same, index⟩
  · exact ⟨less.le, fun no => absurd no less.not_ge⟩
  · exact ⟨same.le, fun _ => OrderDual.toDual_le_toDual.1 index⟩

/-! A contribution that the owner die takes (R330, R331) -/

theorem getElem?_nth {α : Type} (d : α) (l : List α) (n : Nat) : nth d l n = (l[n]?).getD d := by
  induction l generalizing n with
  | nil => rfl
  | cons x l ih =>
    cases n with
    | zero => rfl
    | succ n => exact ih n

theorem nth_map_upFrom {α : Type} (d : α) (g : Nat → α) {n i : Nat} (h : i < n) : nth d ((upFrom 0 n).map g) i = g i := by
  rw [getElem?_nth, List.getElem?_map, getElem?_upFrom_zero h]
  rfl

/-- The slot that contribution `m` names admits it. -/
abbrev WSlot.admits (w : WSlot) (m : WhiskMsg) (s : State) : Prop :=
  w.opened = true ∧ m.id = whiskId s.self (fld m.id.toNat 30 2) w.kind w.fsc (fld m.id.toNat 8 10) w.ser.toNat ∧ m.vf = w.vf
    ∧ w.got.length < w.n ∧ (s.die (fld m.id.toNat 30 2)).stopped = false

/-- The result words of a slot. -/
def WSlot.words (w : WSlot) (got : List (List WElt)) : List Word :=
  (upFrom 0 (if w.kind = 6 then 8 else 16)).map (fun i => whiskWord w.kind w.fsc.toInt (got.map (fun es => nth (.int 0) es i)))

/-- Contribution `m` put in its slot, with the result words of the last one. -/
def State.combines (s : State) (m : WhiskMsg) (w : WSlot) (rs : List Word) : State :=
  let d := fld m.id.toNat 30 2
  s.setDie d { s.die d with wslots := tabSet (fld m.id.toNat 8 10) { w with got := w.got ++ [m.elts], result := rs } (s.die d).wslots }

theorem State.takeWhisk_eq (s : State) (m : WhiskMsg) : s.takeWhisk m =
    let s1 := s.ackWhisk m.src m.n m.row
    let d := fld m.id.toNat 30 2
    let w := tabGet {} (s1.die d).wslots (fld m.id.toNat 8 10)
    if w.admits m s1 then
      s1.combines m w (if (w.got ++ [m.elts]).length = w.n then w.words (w.got ++ [m.elts]) else [])
    else s1.setDie d { s1.die d with wdrop := (s1.die d).wdrop + 1 } := by
  unfold State.takeWhisk WSlot.admits
  simp only [sextInt_toNat (by decide : 0 < 8), Bool.not_eq_true']
  rfl

end Sys2Proof.Machine
end

section
/-! PROOF. Exchanges of a barrier (R252). -/

namespace Sys2Proof.Machine

/-! The beats and their faults -/

theorem byCycle_pairwise (bs : List Beat) : (byCycle bs).Pairwise (fun y z => y.cycle ≤ z.cycle) := by
  have insert (r : List Beat) (b : Beat) (h : r.Pairwise (fun y z => y.cycle ≤ z.cycle)) :
      (r.filter (fun x => decide (x.cycle ≤ b.cycle)) ++ [b] ++ r.filter (fun x => decide (b.cycle < x.cycle))).Pairwise
        (fun y z => y.cycle ≤ z.cycle) := by
    simp only [List.append_assoc, List.singleton_append, List.pairwise_append, List.pairwise_cons, List.mem_filter,
      decide_eq_true_iff, List.mem_cons]
    refine ⟨h.filter _, ⟨fun z ⟨_, hz⟩ => hz.le, h.filter _⟩, fun y ⟨_, hy⟩ z hz => ?_⟩
    rcases hz with rfl | ⟨_, hz⟩
    · exact hy
    · exact hy.trans hz.le
  have all (bs r : List Beat) (h : r.Pairwise (fun y z => y.cycle ≤ z.cycle)) :
      (bs.foldl (fun r b => r.filter (fun x => decide (x.cycle ≤ b.cycle)) ++ [b]
        ++ r.filter (fun x => decide (b.cycle < x.cycle))) r).Pairwise (fun y z => y.cycle ≤ z.cycle) := by
    induction bs generalizing r with
    | nil => exact h
    | cons b bs ih => exact ih _ (insert r b h)
  exact all bs [] List.Pairwise.nil

theorem ExBar.mem_good {b : ExBar} {y : Beat} : y ∈ b.good ↔ y ∈ b.sent ∧ y.clashes b.sent = false := by
  rw [ExBar.good, List.mem_filter, Bool.not_eq_true']

theorem eraseDups_eq_nil {α : Type} [BEq α] {l : List α} : l.eraseDups = [] ↔ l = [] := by
  cases l with
  | nil => rfl
  | cons a l => simp [List.eraseDups_cons]

/-- A core has no fault where each beat to it arrives alone and is covered, and each of its entries receives one. -/
theorem ExBar.faults_eq_zero (b : ExBar) (k : Nat) : b.faults k = 0 ↔
    (∀ y ∈ b.sent, y.peer = k → y.clashes b.sent = false ∧ ∃ r ∈ b.recv, y.meets r = true)
    ∧ ∀ r ∈ b.recv, r.core = k → ∃ y ∈ b.sent, y.clashes b.sent = false ∧ y.meets r = true := by
  simp only [ExBar.faults, Nat.add_eq_zero_iff, List.length_eq_zero_iff, eraseDups_eq_nil, List.map_eq_nil_iff,
    List.filter_eq_nil_iff, Bool.and_eq_true, beq_iff_eq, Bool.not_eq_true', List.any_eq_false, not_and,
    ExBar.mem_good]
  constructor
  · rintro ⟨⟨alone, covered⟩, fed⟩
    refine ⟨fun y hy hk => ?_, fun r hr hk => ?_⟩
    · have clear : y.clashes b.sent = false := Bool.not_eq_true _ ▸ alone y hy hk
      exact ⟨clear, by simpa using covered y ⟨hy, clear⟩ hk⟩
    · simpa [and_assoc] using fed r hr hk
  · rintro ⟨arrive, fed⟩
    refine ⟨⟨fun y hy hk => ?_, fun y ⟨hy, _⟩ hk => ?_⟩, fun r hr hk => ?_⟩
    · simp [(arrive y hy hk).1]
    · simpa using (arrive y hy hk).2
    · simpa [and_assoc] using fed r hr hk

/-! An exchange that goes on -/

section Exchange
variable {s : State} {die e t0 : Nat} {b : ExBar} {more : List ExBar} {x : Beat}

theorem State.exchange_early (next : b.good[b.ran.getD 0]? = some x) (early : s.tick < t0 + x.cycle) :
    s.exchange die e b more t0 = s := by
  simp only [State.exchange, next]
  rw [if_pos early]

theorem State.exchange_sends (next : b.good[b.ran.getD 0]? = some x) (due : t0 + x.cycle ≤ s.tick) :
    s.exchange die e b more t0 =
      (s.sendBeat b (b.ran.getD 0) x).2.setExBars die e ((s.sendBeat b (b.ran.getD 0) x).1 :: more) := by
  simp only [State.exchange, next]
  rw [if_neg (Nat.not_lt.2 due)]

end Exchange

/-! An exchange that ends -/

theorem foldl_max_le {α : Type} (f : α → Nat) {l : List α} {a n : Nat} (start : a ≤ n) (all : ∀ x ∈ l, f x ≤ n) :
    l.foldl (fun r x => max r (f x)) a ≤ n := by
  induction l generalizing a with
  | nil => exact start
  | cons x l ih =>
    obtain ⟨hx, hl⟩ := List.forall_mem_cons.1 all
    exact ih (max_le start hx) hl

theorem State.exchange_ends {s : State} {die e t0 : Nat} {b : ExBar} {more : List ExBar} (last : b.good[b.ran.getD 0]? = none)
    (flown : ∀ f ∈ b.fly, t0 + f.cycle ≤ s.tick) (ended : ∀ a ∈ b.arrived, t0 + lastBeat a.es ≤ s.tick) (released : t0 ≤ s.tick) :
    s.exchange die e b more t0 = (s.setExBars die e more).endExchange b := by
  have tables : b.arrived.foldl (fun r p => max r (lastBeat p.es)) 0 ≤ s.tick - t0 :=
    foldl_max_le _ (Nat.zero_le _) fun a ha => by have := ended a ha; omega
  have all : (b.fly.map (·.cycle)).foldl max (b.arrived.foldl (fun r p => max r (lastBeat p.es)) 0) ≤ s.tick - t0 := by
    rw [List.foldl_map]
    exact foldl_max_le _ tables fun f hf => by have := flown f hf; omega
  simp only [State.exchange, last]
  rw [if_neg (by omega)]

theorem State.writeLoc_ctx (s : State) (l : Loc) (bs : List Byte) (c : Nat) : (s.writeLoc l bs).ctx c = s.ctx c := by
  cases l <;> rfl

theorem State.foldl_writeLoc_ctx (fl : List Flying) (s : State) (c : Nat) :
    (fl.foldl (fun r f => r.writeLoc f.loc f.bytes) s).ctx c = s.ctx c := by
  induction fl generalizing s with
  | nil => rfl
  | cons f fl ih => exact (ih _).trans (s.writeLoc_ctx ..)

/-- The end of an exchange for one participant (R252). -/
def ExBar.answers (b : ExBar) (q : State) (p : Arrived) : State :=
  let x := q.ctx p.ctx
  match x.pend with
  | some e =>
    if e.op = .ttrun then q.setCtx p.ctx { x with pend := some { e with result := some (.ok (natW (b.faults (coreOf p.ctx))) 0 0 0) } } else q
  | none => q

/-- Participant `c`, which waits in its timetable, is answered once its turn comes, and nobody else's turn answers it. -/
theorem ExBar.foldl_answers (b : ExBar) (c : Nat) (l : List Arrived) {q : State} {e : Pend} (pend : (q.ctx c).pend = some e)
    (op : e.op = .ttrun) : ((l.foldl b.answers q).ctx c).pend =
      if ∃ a ∈ l, a.ctx = c then some { e with result := some (.ok (natW (b.faults (coreOf c))) 0 0 0) } else some e := by
  induction l generalizing q e with
  | nil => simpa using pend
  | cons a l ih =>
    rw [List.foldl_cons]
    by_cases own : a.ctx = c
    · subst own
      have answered : ((b.answers q a).ctx a.ctx).pend = some { e with result := some (.ok (natW (b.faults (coreOf a.ctx))) 0 0 0) } := by
        simp only [ExBar.answers, pend, op, if_true, State.ctx_setCtx]
      rw [ih answered op]
      simp
    · have kept : ((b.answers q a).ctx c).pend = some e := by
        unfold ExBar.answers
        dsimp only
        split
        · split
          · rw [State.ctx_setCtx_ne _ (Ne.symm own), pend]
          · exact pend
        · exact pend
      rw [ih kept op]
      simp [own]

theorem State.endExchange_answers {s : State} {b : ExBar} {a : Arrived} {p : Pend} (mem : a ∈ b.arrived)
    (pend : (s.ctx a.ctx).pend = some p) (op : p.op = .ttrun) : ((s.endExchange b).ctx a.ctx).pend =
      some { p with result := some (.ok (natW (b.faults (coreOf a.ctx))) 0 0 0) } := by
  have landed : ((b.fly.foldl (fun r f => r.writeLoc f.loc f.bytes) s).ctx a.ctx).pend = some p := by
    rw [State.foldl_writeLoc_ctx, pend]
  exact (b.foldl_answers a.ctx b.arrived landed op).trans (if_pos ⟨a, mem, rfl⟩)

end Sys2Proof.Machine
end

section
/-! PROOF. Copies, contributions and messages that the engines take by themselves (R246 to R249, R321 to R323, R330, R331). -/

namespace Sys2Proof.Machine

/-! Copies (R321 to R323) -/

section Copies
variable {s : State} {g n : Nat} {k : Copy} (copy : (s.grove g).copies[n]? = some k)
include copy

theorem execCopyStart_starts (queued : k.status = 1) (runs : s.runsFor g k.vf = true)
    (first : ∀ c ∈ earlierCopies (s.grove g).copies n k, c.status ≠ 1) :
    execCopyStart g n s = .next (s.setCopy g n { k with status := 2 }) := by
  simp only [execCopyStart, copy]
  exact if_pos ⟨queued, runs, List.all_eq_true.2 fun c hc => bne_iff_ne.2 (first c hc)⟩

theorem execCopyStart_follows (before : ∃ c ∈ earlierCopies (s.grove g).copies n k, c.status = 1) :
    execCopyStart g n s = .next s := by
  obtain ⟨c, hc, queued⟩ := before
  simp only [execCopyStart, copy]
  refine if_neg fun ⟨_, _, first⟩ => ?_
  exact bne_iff_ne.1 (List.all_eq_true.1 first c hc) queued

theorem execCopyComplete_waits (wait : k.out ≠ [] ∨ ∃ c ∈ earlierCopies (s.grove g).copies n k, c.open_ = true ∧ c.classB = k.classB) :
    execCopyComplete g n s = .next s := by
  simp only [execCopyComplete, copy]
  refine if_pos (.inr (.inr (.inr ?_)))
  refine wait.imp_right fun ⟨c, hc, going, cls⟩ => List.any_eq_true.2 ⟨c, hc, ?_⟩
  rw [going, cls, beq_self_eq_true]
  rfl

theorem execCopyComplete_ends (running : k.status = 2) (kept : k.cancel = false) (read : k.allRead = true) (out : k.out = [])
    (first : ∀ c ∈ earlierCopies (s.grove g).copies n k, ¬(c.open_ = true ∧ c.classB = k.classB)) :
    execCopyComplete g n s = match s.copyAction k with
      | some s1 => .next (s1.finishCopy g n { k with status := if k.bad then 5 else 3 })
      | none => .next (s.finishCopy g n { k with status := 5 }) := by
  have alone : (earlierCopies (s.grove g).copies n k).any (fun c => c.open_ && c.classB == k.classB) = false :=
    List.any_eq_false.2 fun c hc => by simpa using first c hc
  simp only [execCopyComplete, copy]
  exact if_neg (by simp [running, kept, read, out, alone])

theorem execCancelAck_answers {s2 : State} {p : Pend} (running : k.status = 2) (cancelled : k.cancel = true)
    (ended : s.finishCopy g n { k with status := 4, out := [], fva := 0, fkind := 0, funit := 0 } = s2)
    (pend : (s2.ctx k.ctx).pend = some p) (op : p.op = .cancel g k.handle) (same : (s2.ctx k.ctx).gen = k.gen) :
    execCancelAck g n s =
      .next (s2.setCtx k.ctx { s2.ctx k.ctx with pend := some { p with result := some (.ok 4 0 0 0) } }) := by
  simp only [execCancelAck, copy]
  rw [if_neg (by simp [running, cancelled]), ended]
  simp only [pend]
  exact if_pos ⟨op, same⟩

end Copies

/-! Arrivals -/

/-- An arriving packet that its taker `f` takes, or that is not yet taken. -/
theorem State.arrives_took {s s1 : State} {a : Arrival} {q : Packet} (took : s.takePacket a = some (q, s1)) (f : State → Packet → Option State) :
    s.arrives a f = (f s1 q).getD (s.land a) := by
  rw [State.arrives, took]
  rfl

section Messages
variable {s s1 : State} {a : Arrival} {m : Msg} (took : s.takePacket a = some (.msg m, s1))
include took

theorem execMessageArrival_msg : execMessageArrival a s = .next
    (if s.msgInOrder a = false then s.land a
     else if s.inDrop (s.forwarded m.src, s.forwarded m.dst) then s1.dropBehind (s.forwarded m.src, s.forwarded m.dst) m
     else (s1.takeMsg m).getD (s.land a)) := by
  rw [execMessageArrival, State.arrives_took took]
  dsimp only
  rw [apply_ite (fun o => Option.getD o (s.land a)), apply_ite (fun o => Option.getD o (s.land a))]
  simp only [Bool.not_eq_true']
  rfl

theorem execMessageArrival_taken {s2 : State} (turn : s.msgInOrder a = true)
    (clear : s.inDrop (s.forwarded m.src, s.forwarded m.dst) = false) (taken : s1.takeMsg m = some s2) :
    execMessageArrival a s = .next s2 := by
  rw [execMessageArrival_msg took, turn, clear, taken]
  rfl

theorem execMessageArrival_dropped (turn : s.msgInOrder a = true) (behind : s.inDrop (s.forwarded m.src, s.forwarded m.dst) = true) :
    execMessageArrival a s = .next (s1.dropBehind (s.forwarded m.src, s.forwarded m.dst) m) := by
  rw [execMessageArrival_msg took, turn, behind]
  rfl

theorem execMessageArrival_waits (wait : s.msgInOrder a = false
      ∨ (s.inDrop (s.forwarded m.src, s.forwarded m.dst) = false ∧ s1.takeMsg m = none)) :
    execMessageArrival a s = .next (s.land a) := by
  rw [execMessageArrival_msg took]
  rcases wait with early | ⟨clear, full⟩
  · rw [if_pos early]
  · rw [clear, full, if_neg Bool.false_ne_true]
    exact congrArg _ (ite_self _)

end Messages

/-! Timetables (R252, R253) -/

theorem tabGet_default_or_mem {α : Type} (d : α) (t : Tab α) (k : Nat) : tabGet d t k = d ∨ (k, tabGet d t k) ∈ t := by
  induction t with
  | nil => exact .inl rfl
  | cons p t ih =>
    obtain ⟨j, v⟩ := p
    rw [tabGet]
    split
    · next same => exact .inr (same ▸ List.mem_cons_self ..)
    · exact ih.imp_right (List.mem_cons_of_mem _)

section Release
variable {s : State} {die e t0 : Nat} {b : ExBar} {more : List ExBar} (bars : tabGet [] (s.die die).bars e = b :: more) (known : b.t0 = some t0)
include bars known

theorem execTimetableRelease_early (early : s.tick < t0) : execTimetableRelease die e s = .next s := by
  simp only [execTimetableRelease, bars, known]
  exact if_pos (.inl early)

/-- Where no partition is in a gang switch, the release waits for its cycle only. -/
theorem execTimetableRelease_due (due : t0 ≤ s.tick) (calm : ∀ p ∈ s.parts, p.2.phase = 0) :
    execTimetableRelease die e s = .next (s.exchange die e b more t0) := by
  have phase : ∀ k, (tabGet {} s.parts k).phase = 0 := fun k =>
    (tabGet_default_or_mem {} s.parts k).elim (fun none_ => by rw [none_]) (calm _)
  simp only [execTimetableRelease, bars, known, phase]
  refine if_neg ?_
  simp [Nat.not_lt.2 due]

end Release

end Sys2Proof.Machine
end

section
/-! PROOF. Rounds of a group and their results (R256 to R259, R261). -/

namespace Sys2Proof.Machine

/-! The result of a round -/

theorem roundTaken_any (ps : List Bool) : roundTaken 0 ps = true ↔ ∃ p ∈ ps, p = true := by
  change decide (0 < ps.countP (fun p => p)) = true ↔ _
  rw [decide_eq_true_iff, List.countP_pos_iff]

theorem roundTaken_all (ps : List Bool) : roundTaken 1 ps = true ↔ ∀ p ∈ ps, p = true := by
  change (ps.countP (fun p => p) == ps.length) = true ↔ _
  rw [beq_iff_eq, List.countP_eq_length]

theorem roundTaken_majority (ps : List Bool) : roundTaken 2 ps = true ↔ ps.length < 2 * (ps.filter (· == true)).length := by
  change decide (ps.length < 2 * ps.countP (fun p => p)) = true ↔ _
  rw [decide_eq_true_iff, List.countP_eq_length_filter]
  simp

/-! A contribution at its group's home (R257, R261) -/

/-- A round that some contributions are still missing from. -/
theorem State.settleGroup_open (s : State) {g : Group} (more : g.got.length < g.exp) :
    s.settleGroup g = { s with groups := setGroup g s.groups } := if_pos (.inr (.inr more))

section Contribution
variable {s : State} {y : Contribution} {x : Group} (group : s.groupById y.vf y.group = some x) (home : x.home = s.self)
  (live : x.aborted = false)
include group home live

theorem State.takeContribution_other_round (other : y.round ≠ x.round) : s.takeContribution y =
    s.abortGroup { x with got := x.got ++ [y], first := if x.got = [] then s.tick else x.first } 3 := by
  have found : (s.groupById y.vf y.group).filter (fun g => g.home == s.self) = some x := by simp [group, home]
  simp only [State.takeContribution, found, live]
  rw [if_neg Bool.false_ne_true, if_pos other]

theorem State.takeContribution_first (same : y.round = x.round) (none_ : x.got = []) (more : 2 ≤ x.exp) :
    s.takeContribution y = { s with groups := setGroup { x with got := [y], first := s.tick } s.groups } := by
  have found : (s.groupById y.vf y.group).filter (fun g => g.home == s.self) = some x := by simp [group, home]
  have own : ([] : List Contribution).headD y = y := rfl
  simp only [State.takeContribution, found, live, none_, own]
  rw [if_neg Bool.false_ne_true, if_neg (not_not.2 same), if_neg (not_not.2 rfl), if_neg (not_not.2 rfl)]
  exact s.settleGroup_open (Nat.lt_of_succ_le more)

end Contribution

/-! The result at a member (R259) -/

theorem execCbrResult_none {s : State} {c : Nat} (none_ : (s.ctx c).result = none) : execCbrResult c s = .next s := by
  rw [execCbrResult, none_]

theorem execCbrResult_some {s : State} {c : Nat} {q : RoundResult} (result : (s.ctx c).result = some q) :
    execCbrResult c s = .next (s.applyResult c q) := by
  rw [execCbrResult, result]

section Result
variable {s : State} {c : Nat} {sp : Spec} (spec : (s.ctx c).spec = some sp)
include spec

/-- A result that agrees with the prediction, where no store is held. -/
theorem State.applyResult_right (empty : sp.held = []) (a : (s.ctx c).pca ≤ 1024) (b : (s.ctx c).pcb ≤ 1024) :
    s.applyResult c (.taken sp.pred) =
      let on := s.setCtx c { s.ctx c with spec := none, result := none, wait := 0, waitOn := none
                                          prods := (s.ctx c).prods.map (fun p => { p with spec := false }) }
      match sp.trap with
      | some k => (on.setCtx c { on.ctx c with pend := none }).takeTrap c { k with hld := true }
      | none => on := by
  simp only [State.applyResult, spec, empty, List.filter_nil, List.length_nil, Nat.add_zero, if_true]
  exact if_neg (by omega)

theorem State.applyResult_wrong {t : Bool} (wrong : t ≠ sp.pred) : s.applyResult c (.taken t) =
    s.restore c sp (if t then { sp.cp with pc := sp.target } else sp.cp.loopEnd sp.next false false) := by
  simp only [State.applyResult, spec]
  exact if_neg wrong

theorem State.applyResult_abort (code : Nat) : s.applyResult c (.abort code) =
    (s.restore c sp { sp.cp.setCsr csrCSEQ (natW sp.round.toNat) with pc := sp.epc }).takeTrap c
      { cause := cCOLLABORT, tval := natW (2 ^ 32 * sp.round.toNat + code), epc := sp.epc } := by
  simp only [State.applyResult, spec]

end Result

/-! The limit of a round (R261) -/

/-- The round of group `x` is past its limit under the id `n`. -/
abbrev Group.late (x : Group) (n : Nat) (s : State) : Prop := x.id = n ∧ x.got ≠ [] ∧ !x.aborted ∧ x.first + 2 ^ 30 ≤ s.tick

theorem Group.not_late {x : Group} {n : Nat} {s : State} :
    ¬x.late n s ↔ x.id ≠ n ∨ x.got = [] ∨ x.aborted = true ∨ s.tick < x.first + 2 ^ 30 := by
  simp only [Group.late, not_and_or, not_not, Bool.not_eq_true', Bool.not_eq_false, Nat.not_le]

/-- Groups within their limits change nothing. -/
theorem foldl_timeout_idle {n : Nat} {s : State} {gs : List Group} (idle : ∀ x ∈ gs, ¬x.late n s) (r : State) :
    gs.foldl (fun r x => if x.late n s then r.abortGroup x 4 else r) r = r := by
  induction gs with
  | nil => rfl
  | cons x gs ih =>
    obtain ⟨hx, hgs⟩ := List.forall_mem_cons.1 idle
    rw [List.foldl_cons, if_neg hx, ih hgs]

theorem execRoundTimeout_idle {n : Nat} {s : State} (idle : ∀ x ∈ s.groups, ¬x.late n s) : execRoundTimeout n s = .next s :=
  congrArg Host.Outcome.next (foldl_timeout_idle idle s)

theorem execRoundTimeout_one {n : Nat} {s : State} {g1 g2 : List Group} {x : Group} (groups : s.groups = g1 ++ x :: g2)
    (idle : ∀ z ∈ g1 ++ g2, ¬z.late n s) (late : x.late n s) : execRoundTimeout n s = .next (s.abortGroup x 4) := by
  obtain ⟨idle1, idle2⟩ := List.forall_mem_append.1 idle
  refine congrArg Host.Outcome.next ?_
  rw [groups, List.foldl_append, List.foldl_cons]
  refine (foldl_timeout_idle idle2 _).trans ?_
  refine (if_pos late).trans ?_
  exact congrArg (fun r => r.abortGroup x 4) (foldl_timeout_idle idle1 s)

end Sys2Proof.Machine
end

section
/-! PROOF. Knots of waiting contexts, and the scan for them (R250). -/

namespace Sys2Proof.Machine

/-! Sets that no edge leaves -/

/-- Every edge leads to a context that has an entry. -/
def EdgesStay (e : List (Nat × List Nat)) : Prop := ∀ x ∈ e, ∀ d ∈ x.2, ∃ y ∈ e, y.1 = d

/-- No edge leads out of the set `r`. -/
def ClosedIn (e : List (Nat × List Nat)) (r : List Nat) : Prop := ∀ x ∈ e, x.1 ∈ r → ∀ d ∈ x.2, d ∈ r

/-- One round of `shrink`. -/
theorem mem_shrink_filter {e : List (Nat × List Nat)} {x : Nat × List Nat} :
    x ∈ e.filter (fun x => x.2.all (fun d => e.any (fun y => y.1 == d))) ↔ x ∈ e ∧ ∀ d ∈ x.2, ∃ y ∈ e, y.1 = d := by
  simp only [List.mem_filter, List.all_eq_true, List.any_eq_true, beq_iff_eq]

theorem mem_of_mem_shrink {x : Nat × List Nat} (n : Nat) {e : List (Nat × List Nat)} (h : x ∈ shrink e n) : x ∈ e := by
  induction n generalizing e with
  | zero => exact h
  | succ n ih => exact (mem_shrink_filter.1 (ih h)).1

/-- A round that drops nothing ends the shrinking; any other makes the list shorter. -/
theorem edgesStay_shrink {n : Nat} {e : List (Nat × List Nat)} (bound : e.length ≤ n) : EdgesStay (shrink e n) := by
  induction n generalizing e with
  | zero =>
    rw [List.length_eq_zero_iff.1 (Nat.le_zero.1 bound)]
    exact fun x hx => nomatch hx
  | succ n ih =>
    rw [shrink]
    by_cases stays : EdgesStay e
    · have whole : e.filter (fun x => x.2.all (fun d => e.any (fun y => y.1 == d))) = e :=
        List.filter_eq_self.2 fun x hx => (List.mem_filter.1 (mem_shrink_filter.2 ⟨hx, stays x hx⟩)).2
      have fixed : ∀ m, shrink e m = e := fun m => by
        induction m with
        | zero => rfl
        | succ m ihm => rw [shrink, whole, ihm]
      rw [whole, fixed]
      exact stays
    · refine ih (Nat.le_of_lt_succ (lt_of_lt_of_le ?_ bound))
      refine lt_of_le_of_ne (List.length_filter_le ..) fun same => stays fun x hx => ?_
      exact (mem_shrink_filter.1 ((List.filter_sublist.eq_of_length same).symm ▸ hx)).2

/-! The contexts reached from one -/

/-- One round of `reachFrom`. -/
def reachStep (e : List (Nat × List Nat)) (r : List Nat) : List Nat :=
  (r ++ ((e.filter (fun x => r.contains x.1)).map (·.2)).flatten).eraseDups

theorem reachFrom_succ (e : List (Nat × List Nat)) (n : Nat) (r : List Nat) :
    reachFrom e (n + 1) r = reachFrom e n (reachStep e r) := rfl

theorem mem_reachStep {e : List (Nat × List Nat)} {r : List Nat} {d : Nat} :
    d ∈ reachStep e r ↔ d ∈ r ∨ ∃ x ∈ e, x.1 ∈ r ∧ d ∈ x.2 := by
  simp only [reachStep, List.mem_eraseDups, List.mem_append, List.mem_flatten, List.mem_map, List.mem_filter, List.contains_iff_mem]
  refine or_congr_right ⟨?_, fun ⟨x, hx, hr, hd⟩ => ⟨x.2, ⟨x, ⟨hx, hr⟩, rfl⟩, hd⟩⟩
  rintro ⟨_, ⟨x, ⟨hx, hr⟩, rfl⟩, hd⟩
  exact ⟨x, hx, hr, hd⟩

theorem subset_reachFrom (e : List (Nat × List Nat)) (n : Nat) (r : List Nat) : r ⊆ reachFrom e n r := by
  induction n generalizing r with
  | zero => exact List.Subset.refl r
  | succ n ih => exact fun d hd => ih _ (mem_reachStep.2 (.inl hd))

/-- What is reached has an entry, where no edge leads to a context without one. -/
theorem reachStep_subset {e : List (Nat × List Nat)} {r : List Nat} (stays : EdgesStay e) (known : r ⊆ e.map (·.1)) :
    reachStep e r ⊆ e.map (·.1) := by
  intro d hd
  rcases mem_reachStep.1 hd with old | ⟨x, hx, -, edge⟩
  · exact known old
  · exact List.mem_map.2 (stays x hx d edge)

theorem reachFrom_subset {e : List (Nat × List Nat)} (stays : EdgesStay e) (n : Nat) {r : List Nat} (known : r ⊆ e.map (·.1)) :
    reachFrom e n r ⊆ e.map (·.1) := by
  induction n generalizing r with
  | zero => exact known
  | succ n ih => exact ih (reachStep_subset stays known)

theorem ClosedIn.mem_reachStep_iff {e : List (Nat × List Nat)} {r : List Nat} (closed : ClosedIn e r) {d : Nat} :
    d ∈ reachStep e r ↔ d ∈ r := by
  rw [mem_reachStep]
  exact ⟨fun h => h.elim id fun ⟨x, hx, hr, edge⟩ => closed x hx hr d edge, .inl⟩

theorem ClosedIn.reachFrom {e : List (Nat × List Nat)} (n : Nat) {r : List Nat} (closed : ClosedIn e r) :
    ClosedIn e (reachFrom e n r) := by
  induction n generalizing r with
  | zero => exact closed
  | succ n ih =>
    refine ih fun x hx hr d edge => ?_
    exact closed.mem_reachStep_iff.2 (closed x hx (closed.mem_reachStep_iff.1 hr) d edge)

/-- Each round that an edge still leaves reaches one more context, and there are only as many as entries. -/
theorem closedIn_reachFrom {e : List (Nat × List Nat)} (stays : EdgesStay e) (n : Nat) {r : List Nat} (known : r ⊆ e.map (·.1))
    (enough : e.length < n + r.toFinset.card) : ClosedIn e (reachFrom e n r) := by
  have bound : ∀ t, t ⊆ e.map (·.1) → t.toFinset.card ≤ e.length := fun t ht => by
    calc t.toFinset.card ≤ (e.map (·.1)).toFinset.card := Finset.card_le_card fun d hd => List.mem_toFinset.2 (ht (List.mem_toFinset.1 hd))
      _ ≤ (e.map (·.1)).length := List.toFinset_card_le _
      _ = e.length := List.length_map _
  induction n generalizing r with
  | zero => exact absurd (bound r known) (by omega)
  | succ n ih =>
    by_cases closed : ClosedIn e r
    · exact closed.reachFrom _
    · rw [reachFrom_succ]
      have grows : r.toFinset.card < (reachStep e r).toFinset.card := by
        refine Finset.card_lt_card (Finset.ssubset_iff_subset_ne.2 ⟨?_, fun same => closed fun x hx hr d edge => ?_⟩)
        · exact fun d hd => List.mem_toFinset.2 (mem_reachStep.2 (.inl (List.mem_toFinset.1 hd)))
        · have reached : d ∈ (reachStep e r).toFinset := List.mem_toFinset.2 (mem_reachStep.2 (.inr ⟨x, hx, hr, edge⟩))
          exact List.mem_toFinset.1 (same ▸ reached)
      exact ih (reachStep_subset stays known) (by omega)

/-! Sorted lists -/

theorem mem_sortNat {l : List Nat} {a : Nat} : a ∈ sortNat l ↔ a ∈ l := by
  have insert (r : List Nat) (x : Nat) :
      a ∈ r.filter (fun y => decide (y < x)) ++ [x] ++ r.filter (fun y => decide (x < y)) ↔ a ∈ r ∨ a = x := by
    simp only [List.mem_append, List.mem_filter, List.mem_singleton, decide_eq_true_iff]
    rcases lt_trichotomy a x with h | h | h
    · simp [h, h.ne, h.not_gt]
    · simp [h]
    · simp [h, h.ne', h.not_gt]
  have all (l r : List Nat) : a ∈ l.foldl (fun r x => r.filter (fun y => decide (y < x)) ++ [x] ++ r.filter (fun y => decide (x < y))) r
      ↔ a ∈ r ∨ a ∈ l := by
    induction l generalizing r with
    | nil => simp
    | cons x l ih => rw [List.foldl_cons, ih, insert, or_assoc, List.mem_cons]
  exact (all l []).trans (by simp)

/-! Knots -/

/-- The wait-for edges of the waiting contexts, by address. -/
def waitEdges (ns : List Node) : List (Nat × List Nat) := ns.filterMap (fun n => (edges ns n).map (fun d => (n.addr, d)))

theorem mem_waitEdges {ns : List Node} {x : Nat × List Nat} :
    x ∈ waitEdges ns ↔ ∃ n ∈ ns, n.addr = x.1 ∧ edges ns n = some x.2 := by
  obtain ⟨a, ds⟩ := x
  simp [waitEdges, List.mem_filterMap, and_comm]

/-- The edges left when the contexts that may still go on are dropped. -/
def stuckEdges (ns : List Node) : List (Nat × List Nat) := shrink (waitEdges ns) (waitEdges ns).length

/-- A knot is what one entry of the shrunk edges reaches. -/
theorem exists_of_mem_findKnots {ns : List Node} {k : List Nat} (h : k ∈ findKnots ns) :
    ∃ c ∈ (stuckEdges ns).map (·.1), ∀ a, a ∈ k ↔ a ∈ reachFrom (stuckEdges ns) (stuckEdges ns).length [c] := by
  obtain ⟨x, hx, rfl⟩ := List.mem_map.1 (List.mem_eraseDups.1 h)
  exact ⟨x.1, List.mem_map_of_mem (List.mem_filter.1 hx).1, fun a => mem_sortNat⟩

/-- A knot is not empty, and each of its members waits for members only (R250). -/
theorem findKnots_stay {ns : List Node} {k : List Nat} (h : k ∈ findKnots ns) :
    k ≠ [] ∧ ∀ a ∈ k, ∃ x ∈ ns, x.addr = a ∧ ∃ ds, edges ns x = some ds ∧ ∀ d ∈ ds, d ∈ k := by
  obtain ⟨c, start, members⟩ := exists_of_mem_findKnots h
  have stays : EdgesStay (stuckEdges ns) := edgesStay_shrink le_rfl
  have known : [c] ⊆ (stuckEdges ns).map (·.1) := by simpa using start
  have closed := closedIn_reachFrom stays (stuckEdges ns).length known (by simp)
  refine ⟨List.ne_nil_of_mem ((members c).2 (subset_reachFrom _ _ _ (List.mem_singleton.2 rfl))), fun a ha => ?_⟩
  have reached := (members a).1 ha
  obtain ⟨y, hy, rfl⟩ := List.mem_map.1 (reachFrom_subset stays _ known reached)
  obtain ⟨n, hn, addr, waits⟩ := mem_waitEdges.1 (mem_of_mem_shrink _ hy)
  exact ⟨n, hn, addr, y.2, waits, fun d hd => (members d).2 (closed y hy reached d hd)⟩

/-! The scan -/

theorem State.scan_nothing_new {s : State} (old : ∀ k ∈ findKnots s.nodes, k ∉ s.knots ∨ k ∈ s.reported) :
    s.scan = { s with scanned := s.tick, knots := findKnots s.nodes
                      reported := s.reported.filter (fun k => (findKnots s.nodes).contains k) } := by
  have fresh : (findKnots s.nodes).filter (fun k => s.knots.contains k && !(s.reported.contains k)) = [] :=
    List.filter_eq_nil_iff.2 fun k hk => by simpa [or_iff_not_imp_left] using old k hk
  simp only [State.scan, fresh, List.foldl_nil, List.append_nil]

/-- A knot found a second time is reported to the tenant that owns its only member (R250, R404). -/
theorem State.scan_reports {s : State} {k : List Nat} {vf : Nat} {n : Node} (found : findKnots s.nodes = [k]) (again : k ∈ s.knots)
    (first : k ∉ s.reported) (member : s.nodes.filter (fun x => k.contains x.addr) = [n]) (tenant : n.ctx.vf = vf) :
    s.scan = { (s.postEvent vf 1 ([1, (n.ctx.task.map (fun t => lidOf vf t.launch)).getD 0, natW k.length] ++ (k.take 5).map natW)) with
      scanned := s.tick, knots := [k], reported := (s.reported ++ [k]).filter (fun y => [k].contains y) } := by
  have fresh : [k].filter (fun k => s.knots.contains k && !(s.reported.contains k)) = [k] :=
    List.filter_eq_self.2 fun j hj => by simpa [List.mem_singleton.1 hj, again] using first
  have owner : ([n].map (fun n => n.ctx.vf)).eraseDups = [vf] := by rw [List.map_singleton, tenant]; rfl
  have its : [n].find? (fun n => n.ctx.vf == vf) = some n := by rw [List.find?_singleton, tenant]; simp
  simp only [State.scan, found, fresh, List.foldl_cons, List.foldl_nil, member, owner, its]
  rfl

end Sys2Proof.Machine
end

section
/-! PROOF. What a waiting context waits for (R250). -/

namespace Sys2Proof.Machine

/-- The addresses of other contexts that a test keeps. -/
theorem mem_addr_filter {ns : List Node} {p : Node → Bool} {a : Nat} :
    a ∈ (ns.filter p).map (·.addr) ↔ ∃ y ∈ ns, p y = true ∧ y.addr = a := by
  simp only [List.mem_map, List.mem_filter, and_assoc]

theorem mem_boundToQueue {ns : List Node} {n : Node} {p a : Nat} : a ∈ boundToQueue ns n p ↔
    ∃ y ∈ ns, y.addr = a ∧ y.addr ≠ n.addr ∧ ∃ j, 24 ≤ j ∧ j < 32 ∧ y.ctx.regs.boundTo j = some p := by
  have bound (y : Node) : (upFrom 24 8).any (fun k => y.ctx.regs.boundTo k == some p) = true ↔
      ∃ j, 24 ≤ j ∧ j < 32 ∧ y.ctx.regs.boundTo j = some p := by
    simp only [List.any_eq_true, beq_iff_eq, upFrom_eq_range', List.mem_range'_1, and_assoc]
  simp only [boundToQueue, mem_addr_filter, Bool.and_eq_true, bne_iff_ne, bound]
  exact exists_congr fun y => and_congr_right fun _ => and_comm

/-- `y` is another context of the launch of `n`. -/
abbrev Node.mate (ns : List Node) (n y : Node) : Prop :=
  y ∈ ns ∧ y.addr ≠ n.addr ∧ ∃ t u, n.ctx.task = some t ∧ y.ctx.task = some u ∧ u.launch = t.launch

theorem mem_mates {ns : List Node} {n y : Node} : y ∈ mates ns n ↔ n.mate ns y := by
  unfold mates Node.mate
  cases n.ctx.task with
  | none => simp
  | some t =>
    simp only [List.mem_filter, Bool.and_eq_true, bne_iff_ne, Option.any_eq_true_iff_get, beq_iff_eq, Option.some.injEq,
      exists_and_left, exists_eq_left']
    refine and_congr_right fun _ => and_congr_right fun _ => ?_
    cases y.ctx.task <;> simp

/-- The members that have not contributed to the open round, as the edges of a member at the group's home (R250, R256). -/
theorem mem_cbrEdges {ns : List Node} {n : Node} {g : Group} (group : n.view.groupAt (n.view.caddr n.c) = some g)
    (home : g.home = n.view.self) (plain : g.gang = none) {a : Nat} :
    a ∈ cbrEdges ns n ↔ (∃ m ∈ g.members, m.toNat = a) ∧ ∀ k ∈ g.got, k.member.toNat ≠ a := by
  simp [cbrEdges, group, home, plain]

/-! The edges by what the context waits for -/

section Edges
variable {ns : List Node} {n : Node}

theorem edges_stopped (stopped : n.ctx.status ≠ .run) : edges ns n = none := if_pos stopped

variable (run : n.ctx.status = .run)
include run

/-- A context that has sent nothing waits as its unit says. -/
theorem edges_queue {w : WaitOn} {p c i : Nat} (pend : n.ctx.pend = none) (wait : n.ctx.waitOn = some w) (which : w = .pop p ∨ w = .push p)
    (port : portOf n.view.self p = .queue c i) : edges ns n = some (boundToQueue ns n p) := by
  rcases which with rfl | rfl <;> simp [edges, run, pend, wait, port]

theorem edges_inbox {p : Nat} (pend : n.ctx.pend = none) (wait : n.ctx.waitOn = some (.pop p)) (port : portOf n.view.self p = .inbox) :
    edges ns n = some ((mates ns n).map (·.addr)) := by
  simp [edges, run, pend, wait, port]

theorem edges_send {d : Word} (pend : n.ctx.pend = none) (wait : n.ctx.waitOn = some (.send d)) :
    edges ns n = some [(n.view.forwarded d).toNat] := by
  simp [edges, run, pend, wait]

theorem edges_ttrun {p : Pend} {b : ExBar} (pend : n.ctx.pend = some p) (op : p.op = .ttrun) (bar : n.view.barOf n.c = some b) :
    edges ns n = some (((mates ns n).filter (fun d => !(b.arrived.any (fun a => a.ctx == d.c)))).map (·.addr)) := by
  simp [edges, run, pend, Option.filter, op, bar]

theorem edges_cbr {p : Pend} (wait : (n.ctx.pend = some p ∧ p.op = .cbr) ∨ (n.ctx.pend = none ∧ n.ctx.waitOn = some .cbr)) :
    edges ns n = some (cbrEdges ns n) := by
  rcases wait with ⟨pend, op⟩ | ⟨pend, on⟩
  · simp [edges, run, pend, Option.filter, op]
  · simp [edges, run, pend, on]

end Edges

end Sys2Proof.Machine
end

section
/-! PROOF. Events of the engines and of groups (R246 to R250, R252, R257, R259, R261, R321 to R323, R330, R331). -/

namespace Sys2Proof.Machine

/-- What MAXV.F, or MINV.F, answers among values of which some is no NaN: none lies beyond it in the order of `beats`. -/
theorem extreme_fp {k : Nat} {f : Int} {vs : List (BitVec 32)} {K : Type} [LinearOrder K] {key : BitVec 32 → K}
    {pick : BitVec 32 → BitVec 32 → BitVec 32} {none_ : Nat} {beats : BitVec 32 → BitVec 32 → Bool} (p : Picks nan32 key pick)
    (word : whiskWord k f (vs.map WElt.fp) =
      natW (if nan32 (vs.foldl pick 0x7FC00000) then none_ else (vs.foldl pick 0x7FC00000).toNat))
    (order : ∀ x y, nan32 x = false → nan32 y = false → key y ≤ key x → beats x y = false) (some_ : ∃ x ∈ vs, nan32 x = false) :
    ∃ x ∈ vs, whiskWord k f (vs.map WElt.fp) = natW x.toNat ∧ nan32 x = false ∧ ∀ y ∈ vs, nan32 y = false → beats x y = false := by
  obtain ⟨x, mem, answer, live, best⟩ := (whiskWord_fp_best p word).2 some_
  exact ⟨x, mem, answer, live, fun y hy liveY => order x y live liveY (best y hy liveY)⟩

/-- The pair that MAX answers, where some value is no NaN. -/
theorem best_pair (f : Int) {ps : List (BitVec 32 × BitVec 32)} (some_ : ∃ p ∈ ps, nan32 p.1 = false) :
    ∃ p ∈ ps, (whiskWord 6 f (ps.map (fun p => WElt.pair p.1 p.2))).setWidth 32 = p.1
      ∧ (whiskWord 6 f (ps.map (fun p => WElt.pair p.1 p.2))).toNat / 2 ^ 32 = p.2.toNat ∧ nan32 p.1 = false
      ∧ ∀ q ∈ ps, nan32 q.1 = false → (fmt32.val p.1.toNat).below (fmt32.val q.1.toNat) = false
          ∧ ((fmt32.val q.1.toNat).below (fmt32.val p.1.toNat) = false → p.2.toNat ≤ q.2.toNat) := by
  obtain ⟨p, ⟨mem, live, best⟩, answer⟩ := whiskWord_pair_best f some_
  obtain ⟨low, high⟩ := pairWord_halves p.1 p.2
  refine ⟨p, mem, answer ▸ low, answer ▸ high, live, fun q hq liveQ => ?_⟩
  obtain ⟨value, index⟩ := pairRank_le (best q hq liveQ)
  exact ⟨(FV.not_below live liveQ).2 value, fun level => index ((FV.not_below liveQ live).1 level)⟩

/-- Settles O42, from what each event does in each of its cases. -/
theorem engineEvents : Obligations.EngineEvents := by
  refine ⟨?events, ?rounds, fun s y x group home live => ⟨State.takeContribution_other_round group home live,
    State.takeContribution_first group home live, ?whisk, ?words, ?exchange, ?scan, ?edges⟩⟩
  case events =>
    intro a g n c e t0 k s1 s2 m msg y b more sp p t code ms d full pk x g1 g2 took copy earlier written flow ended bar idle
      won on
    have ends (s : State) (h : written s) : execCopyComplete g n s = match s.copyAction k with
        | some s1 => .next (s1.finishCopy g n { k with status := if k.bad then 5 else 3 })
        | none => .next (s.finishCopy g n { k with status := 5 }) := by
      obtain ⟨copy, running, kept, read, out, first⟩ := h
      exact execCopyComplete_ends copy running kept read out first
    have ready (s : State) (h : won s) : execCbrResult c s = .next (match sp.trap with
        | some k => ((on s).setCtx c { (on s).ctx c with pend := none }).takeTrap c { k with hld := true }
        | none => on s) := by
      obtain ⟨result, spec, rfl, empty, pa, pb⟩ := h
      exact (execCbrResult_some result).trans (congrArg Host.Outcome.next (State.applyResult_right spec empty pa pb))
    refine ⟨?starts, ?follows, ?ordered, ?writing, ?completes, ?faults, ?rejected, ?cancelled, ?taken, ?ack, ?message, ?dropped, ?waits,
      ?room, ?early, ?due, ?contrib, ?result, ?collective, ?none_, ?right, ?held, ?wrong, ?aborted, ?idle, ?late, fun _ _ => rfl⟩
    case starts => exact fun s ⟨copy, queued, runs, first⟩ => execCopyStart_starts copy queued runs first
    case follows => exact fun s ⟨copy, before⟩ => execCopyStart_follows copy before
    case ordered => exact fun s ⟨copy, before⟩ => execCopyComplete_waits copy (.inr before)
    case writing => exact fun s ⟨copy, out⟩ => execCopyComplete_waits copy (.inl out)
    case completes =>
      intro s ⟨w, sound, action⟩
      refine (ends s w).trans ?_
      rw [action, sound]
      rfl
    case faults =>
      intro s ⟨w, bad, action⟩
      refine (ends s w).trans ?_
      rw [action, bad]
      rfl
    case rejected =>
      intro s ⟨w, action⟩
      refine (ends s w).trans ?_
      rw [action]
    case cancelled =>
      exact fun s ⟨copy, running, cancelled, ends, pend, op, same⟩ => execCancelAck_answers copy running cancelled ends pend op same
    case taken => exact fun s took => congrArg Host.Outcome.next (State.arrives_took took _)
    case ack => exact fun s took => congrArg Host.Outcome.next (State.arrives_took took _)
    case message => exact fun s ⟨turn, took, clear, taken⟩ => execMessageArrival_taken took turn clear taken
    case dropped => exact fun s ⟨turn, took, behind⟩ => execMessageArrival_dropped took turn behind
    case waits => exact fun s ⟨took, wait⟩ => execMessageArrival_waits took wait
    case room => exact fun s took => congrArg Host.Outcome.next (State.arrives_took took _)
    case early => exact fun s ⟨⟨bars, known⟩, early⟩ => execTimetableRelease_early bars known early
    case due => exact fun s ⟨⟨bars, known⟩, due, calm⟩ => execTimetableRelease_due bars known due calm
    case contrib => exact fun s took => congrArg Host.Outcome.next (State.arrives_took took _)
    case result => exact fun s took => congrArg Host.Outcome.next (State.arrives_took took _)
    case collective =>
      intro s ⟨took, taken⟩
      refine congrArg Host.Outcome.next ((State.arrives_took took _).trans ?_)
      rw [taken]
      rfl
    case none_ => exact fun s none_ => execCbrResult_none none_
    case right =>
      intro s ⟨w, sound⟩
      refine (ready s w).trans ?_
      rw [sound]
    case held =>
      intro k s ⟨w, trap⟩
      refine (ready s w).trans ?_
      rw [trap]
    case wrong =>
      exact fun s ⟨result, spec, wrong⟩ =>
        (execCbrResult_some result).trans (congrArg Host.Outcome.next (State.applyResult_wrong spec wrong))
    case aborted =>
      exact fun s ⟨result, spec⟩ =>
        (execCbrResult_some result).trans (congrArg Host.Outcome.next (State.applyResult_abort spec code))
    case idle => exact fun s within => execRoundTimeout_idle fun x hx => Group.not_late.2 (within x hx)
    case late =>
      exact fun s ⟨groups, within, past⟩ => execRoundTimeout_one groups (fun z hz => Group.not_late.2 (within z hz))
        (not_not.1 fun h => past (Group.not_late.1 h))
  case rounds => exact fun ps => ⟨roundTaken_any ps, roundTaken_all ps, roundTaken_majority ps⟩
  case whisk =>
    intro s m d k s1 w all good put
    have taken := s.takeWhisk_eq m
    refine ⟨fun ok less => ?_, fun ok last => ⟨w.words all, ?_, ?_, fun i hi => ?_⟩, fun bad => ?_⟩
    · exact taken.trans ((if_pos ok).trans (congrArg (s1.combines m w) (if_neg less.ne)))
    · exact taken.trans ((if_pos ok).trans (congrArg (s1.combines m w) (if_pos last)))
    · rw [WSlot.words, List.length_map, upFrom_length]
    · rw [WSlot.words, List.length_map, upFrom_length] at hi
      exact nth_map_upFrom 0 _ hi
    · exact taken.trans (if_neg bad)
  case words =>
    intro f is vs ps es v low ints
    have order (x y : BitVec 32) (hx : nan32 x = false) (hy : nan32 y = false) : rank32 y ≤ rank32 x → (v x).below (v y) = false :=
      (FV.not_below hx hy).2
    refine ⟨whiskWord_sum f is, fun sum => (whiskWord_fix f is).trans (if_neg sum), fun sum => (whiskWord_fix f is).trans (if_pos sum),
      whiskWord_fix_nan f, whiskWord_fix_posInf f, whiskWord_fix_negInf f, fun h => ⟨whiskWord_maxInt f h, whiskWord_minInt f h⟩,
      fun all => ⟨?_, ?_⟩, fun some_ => ⟨?_, ?_⟩, whiskWord_pair_none f, best_pair f⟩
    · exact (whiskWord_fp_best picks_pickFp_max (whiskWord_maxFp f vs)).1 all
    · exact (whiskWord_fp_best picks_pickFp_min (whiskWord_minFp f vs)).1 all
    · exact extreme_fp picks_pickFp_max (whiskWord_maxFp f vs) order some_
    · exact extreme_fp (beats := fun x y => (v y).below (v x)) picks_pickFp_min (whiskWord_minFp f vs)
        (fun x y hx hy less => order y x hy hx (OrderDual.toDual_le_toDual.1 less)) some_
  case exchange =>
    refine fun s die e t0 b more x => ⟨State.exchange_early, State.exchange_sends, fun last flown ended released a mem p pend op => ?_,
      byCycle_pairwise _, b.faults_eq_zero⟩
    rw [State.exchange_ends last flown ended released]
    exact State.endExchange_answers mem pend op
  case scan =>
    exact fun s k vf n => ⟨fun k => findKnots_stay, State.scan_nothing_new, State.scan_reports⟩
  case edges =>
    intro ns n x port mate
    refine ⟨edges_stopped, fun p c i waits => ?queue, fun p ⟨run, pend, wait, at_⟩ => ?inbox, fun d run => edges_send run,
      fun p b run pend op bar => ?timetable, fun p g run wait group home plain => ?branch⟩
    case queue =>
      have bound : edges ns n = some (boundToQueue ns n p) := by
        rcases waits with ⟨run, pend, wait, at_⟩ | ⟨run, pend, wait, at_⟩
        · exact edges_queue run pend wait (.inl rfl) at_
        · exact edges_queue run pend wait (.inr rfl) at_
      exact ⟨_, bound, fun a => mem_boundToQueue⟩
    case inbox =>
      refine ⟨_, edges_inbox run pend wait at_, fun a => ?_⟩
      simp only [List.mem_map, mem_mates]
      rfl
    case timetable =>
      refine ⟨_, edges_ttrun run pend op bar, fun a => ?_⟩
      rw [mem_addr_filter]
      refine exists_congr fun y => ?_
      rw [mem_mates, Bool.not_eq_true', List.any_eq_false]
      simp only [beq_iff_eq]
      exact and_congr_right fun _ => and_comm
    case branch => exact ⟨_, edges_cbr run wait, fun a => mem_cbrEdges group home plain⟩

end Sys2Proof.Machine
end

section
/-! PROOF. What a lone word answers, and how its unit then ends (R44, R209, R284). -/

namespace Sys2Proof.Machine

/-- The unit of the lone word `i`, once it is ready, ends as `m` answers. -/
def Means (i : Instr) (m : State → Res) : Prop :=
  ∀ s, s.ready (cSig i) = true → exec i s = .next (finish s (cSig i) (m s))

/-- The unit of the lone word `i`, once its operand has been read from memory, ends as `m` answers. -/
def MeansRead (i : Instr) (m : State → Tab Word → Res) : Prop :=
  ∀ s t, s.gathered t = true → (cSig i).dsts.all s.regs.writable = true →
    exec i s = .next (finish s (cSig i) (m s.unpend t))

section Start
variable {i : Instr} {m F : State → Res} {p : State → Prop} {f : State → State} {w : State → Why} {op : State → PendOp}

theorem Means.of_issue (e : ∀ s, exec i s = issue (cSig i) s F) (eq : ∀ s, s.ready (cSig i) = true → F s = m s) :
    Means i m := fun s h => by
  rw [e, issue_ready F h, eq s h]

theorem Means.trapIf (h : Means i m) (eq : ∀ s, p s → m s = .trap (w s)) : TrapIf i (cSig i) p w := fun s r hp => by
  rw [h s r, eq s hp]
  rfl

theorem Means.waitIf (h : Means i m) (eq : ∀ s, p s → m s = .wait) : WaitIf i (cSig i) p := fun s r hp => by
  rw [h s r, eq s hp]
  rfl

theorem Means.sendIf (h : Means i m) (eq : ∀ s, p s → m s = (f s).send (op s)) : SendIf i (cSig i) p f op := fun s r hp => by
  rw [h s r, eq s hp]
  rfl

theorem Means.doneIf (h : Means i m) (eq : ∀ s, p s → m s = .done (f s)) (unit : ∀ s, (f s).unit = s.unit) :
    DoneIf i (cSig i) p f := fun s r hp => by
  obtain ⟨start, none_, -⟩ := State.ready_parts r
  rw [h s r, eq s hp, finish_done _ ((unit s).trans start) (.inl none_)]

end Start

section Read
variable {i : Instr} {m : State → Tab Word → Res} {F : State → Res} {p : State → Tab Word → Prop}
  {f : State → Tab Word → State} {w : State → Tab Word → Why}

theorem MeansRead.of_issue (e : ∀ s, exec i s = issue (cSig i) s F)
    (eq : ∀ s t, s.gathered t = true → (cSig i).dsts.all s.regs.writable = true → F s = m s.unpend t) : MeansRead i m :=
  fun s t h hw => by rw [e, issue_gathered F h, eq s t h hw]

theorem MeansRead.trapIf (h : MeansRead i m) (eq : ∀ s t, p s t → m s t = .trap (w s t)) : ReadTrapIf i (cSig i) p w :=
  fun s t r hw hp => by
    rw [h s t r hw, eq _ t hp]
    rfl

theorem MeansRead.waitIf (h : MeansRead i m) (eq : ∀ s t, p s t → m s t = .wait) : ReadWaitIf i (cSig i) p (fun _ => none) :=
  fun s t r hw hp => by
    rw [h s t r hw, eq _ t hp]
    rfl

theorem MeansRead.doneIf (h : MeansRead i m) (eq : ∀ s t, p s t → m s t = .done (f s t))
    (unit : ∀ s t, (f s t).unit = s.unit) (pend : ∀ s t, p s t → (f s t).me.pend = s.me.pend) : ReadDoneIf i (cSig i) p f :=
  fun s t r hw hp => by
    have start : s.unpend.unit = {} := (State.gathered_parts r).1
    rw [h s t r hw, eq _ t hp, finish_done _ ((unit _ t).trans start) (.inr (.inr ((pend _ t hp).trans (State.unpend_pend s))))]

end Read

/-- A destination X register that is writable is bound to no port, whatever is pending (R25). -/
theorem State.unpend_unbound {s : State} {g : Sig} {n : Nat} (hw : g.dsts.all s.regs.writable = true) (hd : ⟨0, n⟩ ∈ g.dsts) :
    s.unpend.regs.boundTo n = none := by
  rw [State.unpend_regs]
  exact Regs.writable_x (List.all_eq_true.1 hw _ hd)

/-- A result written beside another part of the machine, to a register bound to no port. -/
theorem State.putWithin_plain {s : State} (t : State) {d : BitVec 5} (v : Word) (free : s.regs.boundTo d.toNat = none) :
    s.putWithin t d.toNat v = (s.within t).writeX d v := by
  rw [State.putWithin, free]
  rfl

theorem State.within_writeX_pend (s t : State) (d : BitVec 5) (v : Word) : ((s.within t).writeX d v).me.pend = t.me.pend := by
  rw [State.writeX, State.me_setRegs]
  rfl

end Sys2Proof.Machine
end

section
/-! PROOF. Copies of the Spout (R319 to R321). -/

namespace Sys2Proof.Machine

/-! SPT.CPY (R284, R319) -/

/-- The descriptor at `p` may be read now: every access that it must follow has been performed (R286). -/
abbrev State.copyClear (s : State) (p : Loc) : Prop :=
  s.acquiring = false ∧ s.ownBusy = false ∧ s.sptPending = false ∧ s.readBlocked s.cur s.me.nseq p 64 = false

theorem State.copyClear_iff (s : State) (p : Loc) : s.copyClear p ↔ (s.descClear p && !s.sptPending) = true := by
  simp only [State.descClear, Bool.and_eq_true, Bool.not_eq_true', and_assoc]
  exact and_congr_right fun _ => and_congr_right fun _ => and_comm

/-- What SPT.CPY answers before the descriptor at `a` is read. -/
def State.readsCopy (s : State) (a : Word) : Res :=
  match s.descAt a with
  | .error y => .trap y
  | .ok p => if s.descClear p && !s.sptPending then s.sendReads 4 [] (piecesFrom 0 p 64 a none) else .wait

/-- What SPT.CPY answers with the descriptor `t` read at `a`. -/
def State.queuesCopy (s : State) (d : BitVec 5) (a : Word) (t : Tab Word) : Res :=
  match s.submit a (wordsFrom t 0 8) with
  | .ok h s1 => .done ((s.within s1).writeX d h)
  | .trap y => .trap y
  | _ => .wait

/-- Submitting a copy leaves what the context has pending as it is. -/
theorem State.submit_pend {s t : State} {a h : Word} {d : List Word} (e : s.submit a d = .ok h t) : t.me.pend = s.me.pend := by
  obtain ⟨-, -, -, -, rfl⟩ := State.submit_ok.1 e
  change (s.setMe { s.me with sptSeq := s.me.sptSeq + 1 }).me.pend = s.me.pend
  rw [State.me_setMe]

section Copy
variable (sm l : Bool) (d a : BitVec 5) (t : Bool)

theorem sptCpy_means : Means (.sptCpy sm l d a t) (fun s => s.readsCopy (s.regs.xAt a.toNat)) :=
  .of_issue (exec_sptCpy sm l d a t) fun s h => by
    rw [State.whenRead_start _ _ _ (State.ready_parts h).2.1, State.rx_ready _ _ h]
    rfl

theorem sptCpy_meansRead : MeansRead (.sptCpy sm l d a t) (fun s w => s.queuesCopy d (s.regs.xAt a.toNat) w) :=
  .of_issue (exec_sptCpy sm l d a t) fun s w h hw => by
    have free : s.unpend.regs.boundTo d.toNat = none := State.unpend_unbound hw (List.mem_singleton.2 rfl)
    have read : s.unpend.rx 1 a.toNat = s.unpend.regs.xAt a.toNat := State.rx_plain _ _ (State.gathered_parts h).1
    rw [State.whenRead_gathered _ _ _ h, read]
    unfold State.queuesCopy
    cases s.unpend.submit (s.unpend.regs.xAt a.toNat) (wordsFrom w 0 8) with
    | ok v s1 => exact congrArg Res.done (State.putWithin_plain s1 v free)
    | trap y => rfl
    | wait => rfl
    | read p v => rfl

theorem sptCpy_stops (y : Why) : TrapIf (.sptCpy sm l d a t) (cSig (.sptCpy sm l d a t))
    (fun s => s.descAt (s.regs.xAt a.toNat) = .error y) (fun _ => y) :=
  (sptCpy_means sm l d a t).trapIf fun s place => by rw [State.readsCopy, place]

theorem sptCpy_reads (p : Loc) : SendIf (.sptCpy sm l d a t) (cSig (.sptCpy sm l d a t))
    (fun s => s.descAt (s.regs.xAt a.toNat) = .ok p ∧ s.copyClear p) (fun s => s)
    (fun s => .read 4 (granulesOf 0 p 64 (s.regs.xAt a.toNat) none)) :=
  (sptCpy_means sm l d a t).sendIf fun s ⟨place, clear⟩ => by
    rw [State.readsCopy, place]
    exact if_pos ((s.copyClear_iff p).1 clear)

theorem sptCpy_waits (p : Loc) : WaitIf (.sptCpy sm l d a t) (cSig (.sptCpy sm l d a t))
    (fun s => s.descAt (s.regs.xAt a.toNat) = .ok p ∧ ¬s.copyClear p) :=
  (sptCpy_means sm l d a t).waitIf fun s ⟨place, busy⟩ => by
    rw [State.readsCopy, place]
    exact if_neg (mt (s.copyClear_iff p).2 busy)

theorem sptCpy_queues (h : Word) (s1 : State) : ReadDoneIf (.sptCpy sm l d a t) (cSig (.sptCpy sm l d a t))
    (fun s w => s.submit (s.regs.xAt a.toNat) (wordsFrom w 0 8) = .ok h s1) (fun s _ => (s.within s1).writeX d h) :=
  (sptCpy_meansRead sm l d a t).doneIf (fun s w taken => by
    unfold State.queuesCopy
    rw [taken]) (fun _ _ => rfl)
    fun s w taken => (s.within_writeX_pend s1 d h).trans (State.submit_pend taken)

theorem sptCpy_rejects (y : Why) : ReadTrapIf (.sptCpy sm l d a t) (cSig (.sptCpy sm l d a t))
    (fun s w => s.submit (s.regs.xAt a.toNat) (wordsFrom w 0 8) = .trap y) (fun _ _ => y) :=
  (sptCpy_meansRead sm l d a t).trapIf fun s w bad => by
    unfold State.queuesCopy
    rw [bad]

theorem sptCpy_full : ReadWaitIf (.sptCpy sm l d a t) (cSig (.sptCpy sm l d a t))
    (fun s w => s.submit (s.regs.xAt a.toNat) (wordsFrom w 0 8) = .wait) (fun _ => none) :=
  (sptCpy_meansRead sm l d a t).waitIf fun s w full => by
    unfold State.queuesCopy
    rw [full]

end Copy

/-! SPT.POLL and SPT.CAN (R320, R321) -/

/-- The status word of a copy (R320). -/
def Copy.statusWord (k : Copy) : Word :=
  natW (if k.status = 5 then 2 ^ 12 * (k.fva.toNat % 2 ^ 52) + 2 ^ 8 * k.funit + 2 ^ 4 * k.fkind + 5 else k.status)

theorem copyStatus_some (k : Copy) : copyStatus (some k) = k.statusWord := (apply_ite natW ..).symm

/-- What SPT.CAN of handle `h` answers before anything is sent. -/
def State.cancelsCopy (s : State) (d : BitVec 5) (h : Word) : Res :=
  match s.copyOf h with
  | none => .done (s.writeX d 0)
  | some (c, n, k) =>
    if k.status = 1 then .done ((s.finishCopy c n { k with status := 4 }).writeX d 4)
    else if k.status = 2 then (s.setCopy c n { k with cancel := true }).send (.cancel c h)
    else .done (s.writeX d k.statusWord)

section Handle
variable (sm l : Bool) (d a : BitVec 5) (t : Bool)

theorem sptPoll_means : Means (.sptPoll sm l d a t)
    (fun s => .done (s.writeX d (copyStatus ((s.copyOf (s.regs.xAt a.toNat)).map (·.2.2))))) :=
  .of_issue (exec_sptPoll sm l d a t) fun s h => by
    rw [State.rx_ready _ _ h, State.putX_dst _ h (List.mem_singleton.2 rfl)]
    rfl

theorem sptPoll_none : DoneIf (.sptPoll sm l d a t) (cSig (.sptPoll sm l d a t))
    (fun s => s.copyOf (s.regs.xAt a.toNat) = none) (fun s => s.writeX d 0) :=
  (sptPoll_means sm l d a t).doneIf (fun s none_ => by rw [none_]; rfl) fun _ => rfl

theorem sptPoll_some (c n : Nat) (k : Copy) : DoneIf (.sptPoll sm l d a t) (cSig (.sptPoll sm l d a t))
    (fun s => s.copyOf (s.regs.xAt a.toNat) = some (c, n, k)) (fun s => s.writeX d k.statusWord) :=
  (sptPoll_means sm l d a t).doneIf (fun s found => by rw [found, Option.map_some, copyStatus_some]) fun _ => rfl

theorem sptCan_means : Means (.sptCan sm l d a t) (fun s => s.cancelsCopy d (s.regs.xAt a.toNat)) :=
  .of_issue (exec_sptCan sm l d a t) fun s h => by
    have free : s.regs.boundTo d.toNat = none := State.dst_unbound h (List.mem_singleton.2 rfl)
    rw [State.whenDone_start _ _ (State.ready_parts h).2.1, State.rx_ready _ _ h, State.cancelsCopy]
    dsimp only
    cases s.copyOf (s.regs.xAt a.toNat) with
    | none => exact congrArg Res.done (State.putX_plain _ free)
    | some x =>
      obtain ⟨c, n, k⟩ := x
      have ended : (s.finishCopy c n { k with status := 4 }).putX d.toNat (copyStatus (some { k with status := 4 }))
          = (s.finishCopy c n { k with status := 4 }).writeX d 4 := State.putX_plain _ free
      have other : s.putX d.toNat (copyStatus (some k)) = s.writeX d k.statusWord :=
        (State.putX_plain _ free).trans (congrArg (s.writeX d) (copyStatus_some k))
      simp only [ended, other]

theorem sptCan_none : DoneIf (.sptCan sm l d a t) (cSig (.sptCan sm l d a t))
    (fun s => s.copyOf (s.regs.xAt a.toNat) = none) (fun s => s.writeX d 0) :=
  (sptCan_means sm l d a t).doneIf (fun s none_ => by rw [State.cancelsCopy, none_]) fun _ => rfl

theorem sptCan_queued (c n : Nat) (k : Copy) : DoneIf (.sptCan sm l d a t) (cSig (.sptCan sm l d a t))
    (fun s => s.copyOf (s.regs.xAt a.toNat) = some (c, n, k) ∧ k.status = 1)
    (fun s => (s.finishCopy c n { k with status := 4 }).writeX d 4) :=
  (sptCan_means sm l d a t).doneIf (fun s ⟨found, queued⟩ => by
    rw [State.cancelsCopy, found]
    exact if_pos queued) fun _ => rfl

theorem sptCan_running (c n : Nat) (k : Copy) : SendIf (.sptCan sm l d a t) (cSig (.sptCan sm l d a t))
    (fun s => s.copyOf (s.regs.xAt a.toNat) = some (c, n, k) ∧ k.status = 2)
    (fun s => s.setCopy c n { k with cancel := true }) (fun s => .cancel c (s.regs.xAt a.toNat)) :=
  (sptCan_means sm l d a t).sendIf fun s ⟨found, running⟩ => by
    rw [State.cancelsCopy, found]
    exact (if_neg (by rw [running]; decide)).trans (if_pos running)

theorem sptCan_ended (c n : Nat) (k : Copy) : DoneIf (.sptCan sm l d a t) (cSig (.sptCan sm l d a t))
    (fun s => s.copyOf (s.regs.xAt a.toNat) = some (c, n, k) ∧ k.status ≠ 1 ∧ k.status ≠ 2)
    (fun s => s.writeX d k.statusWord) :=
  (sptCan_means sm l d a t).doneIf (fun s ⟨found, queued, running⟩ => by
    rw [State.cancelsCopy, found]
    exact (if_neg queued).trans (if_neg running)) fun _ => rfl

/-- The answer to the end that was asked for. -/
theorem sptCan_answered : AnswerDone (.sptCan sm l d a t) (cSig (.sptCan sm l d a t)) (fun s v _ _ _ => s.writeX d v) := by
  intro s v jv js fl h hw
  have free : s.unpend.regs.boundTo d.toNat = none := State.unpend_unbound hw (List.mem_singleton.2 rfl)
  rw [exec_sptCan, execSptCan]
  refine issue_answered_done h ?_ (State.answered_parts h).1
  rw [State.whenDone_answered _ _ h, State.putX_plain _ free]
  rfl

end Handle

end Sys2Proof.Machine
end

section
/-! PROOF. Barrier objects (R324 to R326). -/

namespace Sys2Proof

/-! The two words of an object, settled (R325) -/

/-- Both counts of an object have come. -/
abbrev barFull (w0 w1 : Nat) : Prop := w0 % 2 ^ 40 ≤ w1 % 2 ^ 40 ∧ w0 / 2 ^ 40 % 2 ^ 16 ≤ w1 / 2 ^ 40 % 2 ^ 16

theorem b2n_le_one (b : Bool) : b2n b ≤ 1 := by cases b <;> decide

theorem b2n_eq_one {b : Bool} : b2n b = 1 ↔ b = true := by cases b <;> decide

/-- A 1-bit field negated. -/
theorem b2n_not_bitAt (v k : Nat) : b2n (!(bitAt v k)) = 1 - v / 2 ^ k % 2 := by
  rcases Nat.mod_two_eq_zero_or_one (v / 2 ^ k) with even | odd
  · simp [bitAt, b2n, even]
  · simp [bitAt, b2n, odd]

/-- The fields of a word laid out as the first one of a barrier object. -/
theorem barWord_fields {phase ovr failed spare n : Nat} (ho : ovr ≤ 1) (hf : failed ≤ 1) (hs : spare < 2 ^ 5) (hn : n < 2 ^ 16) :
    let w := 2 ^ 63 * phase + 2 ^ 62 * ovr + 2 ^ 61 * failed + 2 ^ 56 * spare + 2 ^ 40 * n
    w / 2 ^ 63 = phase ∧ w % 2 ^ 40 = 0 ∧ w / 2 ^ 40 % 2 ^ 16 = n ∧ w / 2 ^ 62 % 2 = ovr := by
  omega

namespace Machine

theorem settleBar_open {w0 w1 : Nat} (h : ¬barFull w0 w1) : settleBar w0 w1 = (w0, w1) := by
  unfold settleBar
  simp only [fld_zero]
  exact if_neg h

/-- More has come than was expected, now or before. -/
abbrev barOver (w0 w1 : Nat) : Bool :=
  bitAt w0 62 || decide (w0 % 2 ^ 40 < w1 % 2 ^ 40) || decide (w0 / 2 ^ 40 % 2 ^ 16 < w1 / 2 ^ 40 % 2 ^ 16)

theorem settleBar_full {w0 w1 : Nat} (h : barFull w0 w1) : settleBar w0 w1 =
    (2 ^ 63 * b2n (!(bitAt w0 63)) + 2 ^ 62 * b2n (barOver w0 w1) + 2 ^ 61 * fld w0 61 1 + 2 ^ 56 * fld w0 56 5
      + 2 ^ 40 * fld w0 40 16, 2 ^ 56 * fld w1 56 8) := by
  unfold settleBar
  simp only [fld_zero]
  exact if_pos h

theorem barOver_iff (w0 w1 : Nat) : barOver w0 w1 = true ↔
    w0 / 2 ^ 62 % 2 = 1 ∨ w0 % 2 ^ 40 < w1 % 2 ^ 40 ∨ w0 / 2 ^ 40 % 2 ^ 16 < w1 / 2 ^ 40 % 2 ^ 16 := by
  simp only [barOver, Bool.or_eq_true, decide_eq_true_eq, bitAt, beq_iff_eq, or_assoc]

/-- An object of which both counts have come turns its phase, and its counts begin again. -/
theorem settleBar_turns {w0 w1 : Nat} (h0 : w0 < 2 ^ 64) (h : barFull w0 w1) :
    (settleBar w0 w1).1 / 2 ^ 63 = 1 - w0 / 2 ^ 63 ∧ (settleBar w0 w1).1 % 2 ^ 40 = 0
    ∧ (settleBar w0 w1).1 / 2 ^ 40 % 2 ^ 16 = w0 / 2 ^ 40 % 2 ^ 16 ∧ (settleBar w0 w1).2 % 2 ^ 56 = 0
    ∧ ((settleBar w0 w1).1 / 2 ^ 62 % 2 = 1 ↔
        w0 / 2 ^ 62 % 2 = 1 ∨ w0 % 2 ^ 40 < w1 % 2 ^ 40 ∨ w0 / 2 ^ 40 % 2 ^ 16 < w1 / 2 ^ 40 % 2 ^ 16) := by
  have field (lo n : Nat) : fld w0 lo n < 2 ^ n := Nat.mod_lt _ (Nat.two_pow_pos n)
  have turned : b2n (!(bitAt w0 63)) = 1 - w0 / 2 ^ 63 := by
    rw [b2n_not_bitAt, Nat.mod_eq_of_lt (by omega)]
  obtain ⟨phase, bytes, arrivals, past⟩ := barWord_fields (phase := b2n (!(bitAt w0 63))) (b2n_le_one (barOver w0 w1))
    (Nat.le_of_lt_succ (field 61 1)) (field 56 5) (field 40 16)
  rw [settleBar_full h]
  refine ⟨phase.trans turned, bytes, arrivals, Nat.mul_mod_right _ _, ?_⟩
  rw [past, b2n_eq_one, barOver_iff]

/-! The object that a form names -/

/-- A reserved field of the object at a place is not 0 (R324; log entry 76). -/
abbrev State.barOdd (s : State) (p : Loc) : Prop :=
  (s.barWords p).1 / 2 ^ 56 % 2 ^ 5 ≠ 0 ∨ (s.barWords p).2 / 2 ^ 56 % 2 ^ 8 ≠ 0

theorem barReserved_iff (s : State) (p : Loc) : barReserved (s.barWords p) = true ↔ s.barOdd p := by
  simp only [barReserved, Bool.or_eq_true, bne_iff_ne]
  rfl

section Object
variable {s : State} {b : Word} {p : Loc} {y : Why}

theorem State.barRead_error (h : s.barAt b = .error y) : s.barRead b = .error y := by
  rw [State.barRead, h]

theorem State.barRead_odd (h : s.barAt b = .ok p) (odd : s.barOdd p) : s.barRead b = .error { cause := cSPOUT, tval := b } := by
  rw [State.barRead, h]
  exact if_pos ((barReserved_iff s p).2 odd)

theorem State.barRead_ok (h : s.barAt b = .ok p) (even : ¬s.barOdd p) : s.barRead b = .ok p := by
  rw [State.barRead, h]
  exact if_neg (mt (barReserved_iff s p).1 even)

end Object

/-- What a barrier form answers whose object is `r`, past its checks, where `k` goes on at its place. -/
def atBar (r : Except Why Loc) (k : Loc → Res) : Res :=
  match r with
  | .error y => .trap y
  | .ok p => k p

section Checks
variable {i : Instr} {a : BitVec 5} {k : State → Loc → Res}

/-- A form that reads its object traps where there is none, and on one with a reserved field that is not 0. -/
theorem barRead_traps (e : Means i (fun s => atBar (s.barRead (s.regs.xAt a.toNat)) (k s))) :
    (∀ y, TrapIf i (cSig i) (fun s => s.barAt (s.regs.xAt a.toNat) = .error y) (fun _ => y))
    ∧ ∀ p, TrapIf i (cSig i) (fun s => s.barAt (s.regs.xAt a.toNat) = .ok p ∧ s.barOdd p)
        (fun s => { cause := cSPOUT, tval := s.regs.xAt a.toNat, acc := 4 }) :=
  ⟨fun y => e.trapIf fun s none_ => by rw [State.barRead_error none_]; rfl,
    fun p => e.trapIf fun s ⟨place, odd⟩ => by rw [State.barRead_odd place odd]; rfl⟩

/-- A form that reads its object goes on at its place. -/
theorem State.atBar_ok {s : State} {b : Word} {p : Loc} (h : s.barAt b = .ok p ∧ ¬s.barOdd p) (k : Loc → Res) :
    atBar (s.barRead b) k = k p := by
  rw [State.barRead_ok h.1 h.2]
  rfl

end Checks

theorem State.setBar_unit (s : State) (p : Loc) (w : Nat × Nat) : (s.setBar p w).unit = s.unit := State.writeLoc_unit ..

theorem State.setBar_regs (s : State) (p : Loc) (w : Nat × Nat) : (s.setBar p w).regs = s.regs := by
  have cur : (s.setBar p w).cur = s.cur := by cases p <;> rfl
  rw [State.regs, State.regs, State.me, State.me, cur]
  exact congrArg Ctx.regs (s.writeLoc_ctx ..)

theorem State.markLive_unit (s : State) (p : Loc) : (s.markLive p).unit = s.unit := by cases p <;> rfl

/-! BAR.INIT (R324, R325) -/

/-- An object of `n` arrivals written at a place. -/
def State.newBar (s : State) (p : Loc) (n : Word) : State := (s.setBar p (2 ^ 40 * n.toNat, 0)).markLive p

/-- What BAR.INIT of `n` arrivals answers at a place. -/
def State.barInits (s : State) (n : Word) (p : Loc) : Res :=
  if n = 0 ∨ 65535 < n.toNat then .trap { cause := cILLEGAL, tval := n }
  else if !(s.barClear p) then .wait
  else .done (s.newBar p n)

section Init
variable (sm l : Bool) (a b : BitVec 5) (t u : Bool)

theorem barInit_means : Means (.barInit sm l a b t u)
    (fun s => atBar (s.barAt (s.regs.xAt a.toNat)) (s.barInits (s.regs.xAt b.toNat))) :=
  .of_issue (exec_barInit sm l a b t u) fun s h => by
    rw [State.rx_ready _ _ h, State.rx_ready _ _ h]
    rfl

theorem barInit_stops (y : Why) : TrapIf (.barInit sm l a b t u) (cSig (.barInit sm l a b t u))
    (fun s => s.barAt (s.regs.xAt a.toNat) = .error y) (fun _ => y) :=
  (barInit_means sm l a b t u).trapIf fun s none_ => by rw [none_]; rfl

theorem barInit_illegal (p : Loc) : TrapIf (.barInit sm l a b t u) (cSig (.barInit sm l a b t u))
    (fun s => s.barAt (s.regs.xAt a.toNat) = .ok p ∧ (s.regs.xAt b.toNat = 0 ∨ 65535 < (s.regs.xAt b.toNat).toNat))
    (fun s => { cause := cILLEGAL, tval := s.regs.xAt b.toNat }) :=
  (barInit_means sm l a b t u).trapIf fun s ⟨place, bad⟩ => by
    rw [place]
    exact if_pos bad

theorem barInit_done (p : Loc) : DoneIf (.barInit sm l a b t u) (cSig (.barInit sm l a b t u))
    (fun s => s.barAt (s.regs.xAt a.toNat) = .ok p ∧ s.barClear p = true ∧ s.regs.xAt b.toNat ≠ 0
      ∧ (s.regs.xAt b.toNat).toNat ≤ 65535)
    (fun s => s.newBar p (s.regs.xAt b.toNat)) :=
  (barInit_means sm l a b t u).doneIf (fun s ⟨place, clear, some_, few⟩ => by
    rw [place]
    refine (if_neg (not_or.2 ⟨some_, Nat.not_lt.2 few⟩)).trans ?_
    rw [clear]
    rfl) fun s => (State.markLive_unit _ p).trans (s.setBar_unit p _)

end Init

/-! BAR.EXP (R325) -/

/-- The bytes that an object expects once `n` more are added. -/
abbrev State.barBytes (s : State) (p : Loc) (n : Word) : Int := ((s.barWords p).1 % 2 ^ 40 : Nat) + n.toInt

/-- An object whose expected bytes are `e`, settled. -/
def State.expectsBytes (s : State) (p : Loc) (e : Int) : State :=
  s.setBar p (settleBar ((s.barWords p).1 / 2 ^ 40 * 2 ^ 40 + e.toNat) (s.barWords p).2)

/-- What BAR.EXP of `n` bytes answers at a place. -/
def State.barExpects (s : State) (n : Word) (p : Loc) : Res :=
  if !(s.barClear p) then .wait
  else if s.barBytes p n < 0 ∨ 2 ^ 40 ≤ s.barBytes p n then .trap { cause := cILLEGAL, tval := n }
  else .done (s.expectsBytes p (s.barBytes p n))

section Exp
variable (sm l : Bool) (a b : BitVec 5) (t u : Bool)

theorem barExp_means : Means (.barExp sm l a b t u)
    (fun s => atBar (s.barRead (s.regs.xAt a.toNat)) (s.barExpects (s.regs.xAt b.toNat))) :=
  .of_issue (exec_barExp sm l a b t u) fun s h => by
    have rest (w : Nat) : w - w % 2 ^ 40 = w / 2 ^ 40 * 2 ^ 40 := by omega
    rw [State.rx_ready _ _ h, State.rx_ready _ _ h]
    simp only [fld_zero, rest]
    rfl

/-- The sum does not fit (R325). -/
theorem barExp_illegal (p : Loc) : TrapIf (.barExp sm l a b t u) (cSig (.barExp sm l a b t u))
    (fun s => ((s.barAt (s.regs.xAt a.toNat) = .ok p ∧ ¬s.barOdd p) ∧ s.barClear p = true)
      ∧ (s.barBytes p (s.regs.xAt b.toNat) < 0 ∨ 2 ^ 40 ≤ s.barBytes p (s.regs.xAt b.toNat)))
    (fun s => { cause := cILLEGAL, tval := s.regs.xAt b.toNat }) :=
  (barExp_means sm l a b t u).trapIf fun s ⟨⟨fine, clear⟩, beyond⟩ => by
    rw [State.atBar_ok fine, State.barExpects, clear]
    exact if_pos beyond

theorem barExp_done (p : Loc) : DoneIf (.barExp sm l a b t u) (cSig (.barExp sm l a b t u))
    (fun s => ((s.barAt (s.regs.xAt a.toNat) = .ok p ∧ ¬s.barOdd p) ∧ s.barClear p = true)
      ∧ 0 ≤ s.barBytes p (s.regs.xAt b.toNat) ∧ s.barBytes p (s.regs.xAt b.toNat) < 2 ^ 40)
    (fun s => s.expectsBytes p (s.barBytes p (s.regs.xAt b.toNat))) :=
  (barExp_means sm l a b t u).doneIf (fun s ⟨⟨fine, clear⟩, low, high⟩ => by
    rw [State.atBar_ok fine, State.barExpects, clear]
    exact if_neg (not_or.2 ⟨Int.not_lt.2 low, Int.not_le.2 high⟩)) fun s => s.setBar_unit p _

end Exp

/-! BAR.ARV (R325) -/

/-- The phase of the object at a place. -/
abbrev State.barPhase (s : State) (p : Loc) : Nat := (s.barWords p).1 / 2 ^ 63 % 2

/-- One arrival more at the object at a place, settled, and the phase before it written. -/
def State.arrivesBar (s : State) (d : BitVec 5) (p : Loc) : State :=
  let w := s.barWords p
  let n := (w.2 / 2 ^ 40 % 2 ^ 16 + 1) % 2 ^ 16
  (s.setBar p (settleBar w.1 (w.2 - 2 ^ 40 * (w.2 / 2 ^ 40 % 2 ^ 16) + 2 ^ 40 * n))).writeX d (natW (s.barPhase p))

/-- What BAR.ARV answers at a place. -/
def State.barArrival (s : State) (d : BitVec 5) (p : Loc) : Res :=
  if !(s.barClear p) || !s.storesDone || !s.loadsDone then .wait else .done (s.arrivesBar d p)

section Arv
variable (sm l : Bool) (d a : BitVec 5) (t : Bool)

theorem barArv_means : Means (.barArv sm l d a t) (fun s => atBar (s.barRead (s.regs.xAt a.toNat)) (s.barArrival d)) :=
  .of_issue (exec_barArv sm l d a t) fun s h => by
    have write (p : Loc) (w : Nat × Nat) (v : Word) : (s.setBar p w).putX d.toNat v = (s.setBar p w).writeX d v := by
      refine State.putX_plain v ?_
      rw [State.setBar_regs]
      exact State.dst_unbound h (List.mem_singleton.2 rfl)
    rw [State.rx_ready _ _ h]
    simp only [write]
    rfl

theorem barArv_done (p : Loc) : DoneIf (.barArv sm l d a t) (cSig (.barArv sm l d a t))
    (fun s => ((s.barAt (s.regs.xAt a.toNat) = .ok p ∧ ¬s.barOdd p) ∧ s.barClear p = true)
      ∧ s.storesDone = true ∧ s.loadsDone = true) (fun s => s.arrivesBar d p) :=
  (barArv_means sm l d a t).doneIf (fun s ⟨⟨fine, clear⟩, stores, loads⟩ => by
    rw [State.atBar_ok fine, State.barArrival, clear, stores, loads]
    rfl) fun s => s.setBar_unit p _

/-- An arrival is a release: it follows every earlier access (R325). -/
theorem barArv_waits (p : Loc) : WaitIf (.barArv sm l d a t) (cSig (.barArv sm l d a t))
    (fun s => (s.barAt (s.regs.xAt a.toNat) = .ok p ∧ ¬s.barOdd p)
      ∧ (s.barClear p = false ∨ ¬(s.storesDone = true ∧ s.loadsDone = true))) :=
  (barArv_means sm l d a t).waitIf fun s ⟨fine, early⟩ => by
    rw [State.atBar_ok fine, State.barArrival]
    refine if_pos ?_
    simpa only [Bool.or_eq_true, Bool.not_eq_true', Bool.not_eq_true, not_and_or, or_assoc] using early

end Arv

/-! BAR.WT (R326) -/

/-- What BAR.WT of the object at `p`, which `x` names, answers against phase `n`. -/
def State.barAwaits (s : State) (d : BitVec 5) (x n : Word) (p : Loc) : Res :=
  if !(s.barClear p) || s.ringOf s.cur != [] || s.barPhase p == n.toNat % 2 then .wait
  else if (s.barWords p).1 / 2 ^ 61 % 2 == 1 then .trap { cause := cSPOUT, tval := x }
  else .done (s.writeX d (natW (s.barPhase p)))

section Wt
variable (sm l : Bool) (d a b : BitVec 5) (t u : Bool)

theorem barWt_means : Means (.barWt sm l d a b t u)
    (fun s => atBar (s.barRead (s.regs.xAt a.toNat)) (s.barAwaits d (s.regs.xAt a.toNat) (s.regs.xAt b.toNat))) :=
  .of_issue (exec_barWt sm l d a b t u) fun s h => by
    have write (v : Word) : s.putX d.toNat v = s.writeX d v := State.putX_dst v h (List.mem_singleton.2 rfl)
    rw [State.rx_ready _ _ h, State.rx_ready _ _ h]
    simp only [write, fld_zero]
    rfl

/-- BAR.WT whose object has the other phase, past its waits. -/
theorem State.barAwaits_turned {s : State} {n : Word} {p : Loc} (d : BitVec 5) (x : Word) (clear : s.barClear p = true)
    (calm : s.ringOf s.cur = []) (turned : n.toNat % 2 ≠ s.barPhase p) : s.barAwaits d x n p =
      if (s.barWords p).1 / 2 ^ 61 % 2 == 1 then .trap { cause := cSPOUT, tval := x }
      else .done (s.writeX d (natW (s.barPhase p))) := by
  rw [State.barAwaits, clear, calm, beq_false_of_ne turned.symm]
  rfl

theorem barWt_waits (p : Loc) : WaitIf (.barWt sm l d a b t u) (cSig (.barWt sm l d a b t u))
    (fun s => (s.barAt (s.regs.xAt a.toNat) = .ok p ∧ ¬s.barOdd p) ∧ (s.regs.xAt b.toNat).toNat % 2 = s.barPhase p) :=
  (barWt_means sm l d a b t u).waitIf fun s ⟨fine, same⟩ => by
    rw [State.atBar_ok fine, State.barAwaits, same, beq_self_eq_true, Bool.or_true]
    rfl

theorem barWt_failed (p : Loc) : TrapIf (.barWt sm l d a b t u) (cSig (.barWt sm l d a b t u))
    (fun s => ((s.barAt (s.regs.xAt a.toNat) = .ok p ∧ ¬s.barOdd p) ∧ s.barClear p = true) ∧ s.ringOf s.cur = []
      ∧ (s.regs.xAt b.toNat).toNat % 2 ≠ s.barPhase p ∧ (s.barWords p).1 / 2 ^ 61 % 2 = 1)
    (fun s => { cause := cSPOUT, tval := s.regs.xAt a.toNat, acc := 4 }) :=
  (barWt_means sm l d a b t u).trapIf fun s ⟨⟨fine, clear⟩, calm, turned, failed⟩ => by
    rw [State.atBar_ok fine, State.barAwaits_turned d _ clear calm turned]
    exact if_pos (beq_iff_eq.2 failed)

theorem barWt_done (p : Loc) : DoneIf (.barWt sm l d a b t u) (cSig (.barWt sm l d a b t u))
    (fun s => ((s.barAt (s.regs.xAt a.toNat) = .ok p ∧ ¬s.barOdd p) ∧ s.barClear p = true) ∧ s.ringOf s.cur = []
      ∧ (s.regs.xAt b.toNat).toNat % 2 ≠ s.barPhase p ∧ (s.barWords p).1 / 2 ^ 61 % 2 = 0)
    (fun s => s.writeX d (natW (s.barPhase p))) :=
  (barWt_means sm l d a b t u).doneIf (fun s ⟨⟨fine, clear⟩, calm, turned, sound⟩ => by
    rw [State.atBar_ok fine, State.barAwaits_turned d _ clear calm turned, sound]
    rfl) fun _ => rfl

end Wt

/-- Settles O34: SPT.CPY, SPT.POLL and SPT.CAN, then the forms of a barrier object and its settling. -/
theorem copyForms : Obligations.CopyForms := by
  refine ⟨?copies, ?barriers⟩
  case copies =>
    exact fun sm l d a t => ⟨sptCpy_stops sm l d a t, sptCpy_reads sm l d a t, sptCpy_waits sm l d a t,
      sptCpy_queues sm l d a t, sptCpy_rejects sm l d a t, sptCpy_full sm l d a t, sptPoll_none sm l d a t,
      sptPoll_some sm l d a t, sptCan_none sm l d a t, sptCan_queued sm l d a t, sptCan_running sm l d a t,
      sptCan_ended sm l d a t, sptCan_answered sm l d a t⟩
  case barriers =>
    intro sm l d a b t u
    obtain ⟨exp_stops, exp_odd⟩ := barRead_traps (barExp_means sm l a b t u)
    obtain ⟨arv_stops, arv_odd⟩ := barRead_traps (barArv_means sm l d a t)
    obtain ⟨wt_stops, wt_odd⟩ := barRead_traps (barWt_means sm l d a b t u)
    exact ⟨barInit_stops sm l a b t u, exp_stops, arv_stops, wt_stops, exp_odd, arv_odd, wt_odd, barInit_illegal sm l a b t u,
      barInit_done sm l a b t u, barExp_illegal sm l a b t u, barExp_done sm l a b t u, barArv_done sm l d a t,
      barArv_waits sm l d a t, barWt_waits sm l d a b t u, barWt_failed sm l d a b t u, barWt_done sm l d a b t u,
      fun w0 w1 h0 _ => ⟨settleBar_open, settleBar_turns h0⟩⟩

end Machine
end Sys2Proof
end

section
/-! PROOF. REPLAY, TLBINV, CFLIP and MTRD (R284, R405 to R409). -/

namespace Sys2Proof.Machine

/-! A change of another context -/

theorem State.setOwner_cur (s : State) (c : Nat) (gen : BitVec 16) (f : Ctx → Ctx) : (s.setOwner c gen f).cur = s.cur := by
  unfold State.setOwner
  split <;> rfl

/-- A change of an occupancy that keeps what is pending leaves what the current context has pending as it is. -/
theorem State.setOwner_pend (s : State) (c : Nat) (gen : BitVec 16) {f : Ctx → Ctx} (keeps : ∀ x, (f x).pend = x.pend) :
    (s.setOwner c gen f).me.pend = s.me.pend := by
  rw [State.me, State.setOwner_cur, State.setOwner]
  split
  · by_cases own : s.cur = c
    · rw [own, State.ctx_setCtx, keeps, State.me, own]
    · rw [State.ctx_setCtx_ne s own]
      rfl
  · rfl

theorem Ctx.landRegs_pend (x : Ctx) (f : Regs → Regs) : (x.landRegs f).pend = x.pend := rfl

theorem State.replayLoad_pend (s : State) (e : RingEntry) (v : Nat) (bad : Option (BitVec 4)) :
    (s.replayLoad e v bad).me.pend = s.me.pend := by
  unfold State.replayLoad
  cases bad with
  | some u =>
    refine s.setOwner_pend _ _ fun x => ?_
    dsimp only
    split
    · rfl
    · exact Ctx.landRegs_pend _ _
  | none =>
    dsimp only
    split
    · exact s.setOwner_pend _ _ fun _ => rfl
    · exact s.setOwner_pend _ _ fun x => x.landRegs_pend _

/-! REPLAY (R284, R406) -/

/-- The parked accesses of the current grove. -/
abbrev State.ringHere (s : State) : List RingEntry := (s.grove (groveOf s.cur)).ring

/-- The entry of the current grove that a tag names. -/
def State.ringEntry (s : State) (v : Word) : Option RingEntry := s.ringHere.find? (fun e => e.tag == v.toNat)

/-- The retry of entry `e` has ended with its effects in `s1`: the entry is gone, and 0 is written. -/
def State.replayed (s s1 : State) (d : BitVec 5) (e : RingEntry) : State :=
  let y := s1.grove (groveOf s.cur)
  (s.within (s1.setGrove (groveOf s.cur) { y with ring := y.ring.filter (fun x => x.tag != e.tag) })).writeX d 0

/-- The retry of entry `e` has met fault `k`, which is noted and written. -/
def State.faultsAgain (s : State) (d : BitVec 5) (e : RingEntry) (k : Nat) : State :=
  (s.setGrove (groveOf s.cur) { s.grove (groveOf s.cur) with ring := s.ringHere.map (fun x =>
    if x.tag = e.tag then { x with kind := k, offered := true } else x) }).writeX d (natW (1 + 16 * k))

/-- What REPLAY of entry `e` answers before anything is read or sent. -/
def State.retries (s : State) (d : BitVec 5) (e : RingEntry) : Res :=
  match s.replayEntry e with
  | .wait => .wait
  | .fault k => .done (s.faultsAgain d e k)
  | .send s1 op => s1.send op
  | .ok s1 => .done (s.replayed s1 d e)

/-- What REPLAY of tag `v` answers, where `k` goes on with the entry named. -/
def State.replayRes (s : State) (d : BitVec 5) (v : Word) (k : RingEntry → Res) : Res :=
  if !s.isKettle then .trap { cause := cPROT, tval := v }
  else if v.toNat / 2 ^ 16 ≠ 0 then .trap { cause := cILLEGAL, tval := v }
  else match s.ringEntry v with
    | none => .done (s.writeX d 2)
    | some e => k e

/-- A tag that fits in 16 bits. -/
theorem tag_small {v : Word} (low : v.toNat < 2 ^ 16) : ¬v.toNat / 2 ^ 16 ≠ 0 := not_not_intro (Nat.div_eq_of_lt low)

/-- The Kettle names entry `e` by its tag. -/
abbrev State.namesEntry (s : State) (v : Word) (e : RingEntry) : Prop :=
  s.isKettle = true ∧ v.toNat < 2 ^ 16 ∧ s.ringEntry v = some e

theorem State.replayRes_named {s : State} {v : Word} {e : RingEntry} (d : BitVec 5) (h : s.namesEntry v e) (k : RingEntry → Res) :
    s.replayRes d v k = k e := by
  obtain ⟨kettle, low, found⟩ := h
  rw [State.replayRes, kettle, found]
  exact if_neg (tag_small low)

theorem State.replayed_unit (s s1 : State) (d : BitVec 5) (e : RingEntry) : (s.replayed s1 d e).unit = s.unit := rfl

theorem State.replayed_pend (s s1 : State) (d : BitVec 5) (e : RingEntry) : (s.replayed s1 d e).me.pend = s1.me.pend :=
  State.within_writeX_pend ..

/-- A retried load of more than 8 bytes brings what it has read to its destination. -/
def State.loadReplayed (s : State) (e : RingEntry) (w : Tab Word) : State :=
  s.replayLoad e ((upFrom 0 (e.size / 8)).foldr (fun j v => (tabGet 0 w j).toNat + 2 ^ 64 * v) 0)
    ((tabFind w poisonMark).map (fun u => BitVec.ofNat 4 u.toNat))

theorem State.unpend_isKettle (s : State) : s.unpend.isKettle = s.isKettle := by
  have same : s.unpend.me.handler = s.me.handler := by rw [State.unpend, State.me_setMe]
  rw [State.isKettle, same]
  rfl

theorem State.unpend_namesEntry (s : State) (v : Word) (e : RingEntry) : s.unpend.namesEntry v e ↔ s.namesEntry v e := by
  rw [State.namesEntry, State.unpend_isKettle]
  rfl

section Replay
variable (sm l : Bool) (d a : BitVec 5) (t : Bool)

theorem replay_means : Means (.replay sm l d a t) (fun s => s.replayRes d (s.regs.xAt a.toNat) (s.retries d)) :=
  .of_issue (exec_replay sm l d a t) fun s h => by
    have free : s.regs.boundTo d.toNat = none := State.dst_unbound h (List.mem_singleton.2 rfl)
    simp only [State.rx_ready _ _ h, State.whenRead_start _ _ _ (State.ready_parts h).2.1, State.putWithin_plain _ _ free]
    unfold State.replayRes State.ringEntry
    split
    · rfl
    split
    · rfl
    cases s.ringHere.find? (fun e => e.tag == (s.regs.xAt a.toNat).toNat) with
    | none => exact congrArg Res.done (State.putX_plain _ free)
    | some e =>
      unfold State.retries
      dsimp only
      cases s.replayEntry e with
      | fault k => exact congrArg Res.done (State.putX_plain _ free)
      | _ => rfl

theorem replay_foreign : TrapIf (.replay sm l d a t) (cSig (.replay sm l d a t)) (fun s => s.isKettle = false)
    (fun s => { cause := cPROT, tval := s.regs.xAt a.toNat }) :=
  (replay_means sm l d a t).trapIf fun s other => by
    rw [State.replayRes, other]
    rfl

theorem replay_illegal : TrapIf (.replay sm l d a t) (cSig (.replay sm l d a t))
    (fun s => s.isKettle = true ∧ 2 ^ 16 ≤ (s.regs.xAt a.toNat).toNat)
    (fun s => { cause := cILLEGAL, tval := s.regs.xAt a.toNat }) :=
  (replay_means sm l d a t).trapIf fun s ⟨kettle, high⟩ => by
    rw [State.replayRes, kettle]
    have beyond : (s.regs.xAt a.toNat).toNat / 2 ^ 16 ≠ 0 := by omega
    exact if_pos beyond

/-- REPLAY of a tag that no entry has. -/
theorem replay_none : DoneIf (.replay sm l d a t) (cSig (.replay sm l d a t))
    (fun s => s.isKettle = true ∧ (s.regs.xAt a.toNat).toNat < 2 ^ 16
      ∧ ∀ e ∈ s.ringHere, e.tag ≠ (s.regs.xAt a.toNat).toNat) (fun s => s.writeX d 2) :=
  (replay_means sm l d a t).doneIf (fun s ⟨kettle, low, other⟩ => by
    have none_ : s.ringEntry (s.regs.xAt a.toNat) = none :=
      List.find?_eq_none.2 fun e he => mt beq_iff_eq.1 (other e he)
    rw [State.replayRes, kettle, none_]
    exact if_neg (tag_small low)) fun _ => rfl

section Named
variable (e : RingEntry)

/-- The retry meets a fault. -/
theorem replay_faults (k : Nat) : DoneIf (.replay sm l d a t) (cSig (.replay sm l d a t))
    (fun s => s.namesEntry (s.regs.xAt a.toNat) e ∧ s.replayEntry e = .fault k) (fun s => s.faultsAgain d e k) :=
  (replay_means sm l d a t).doneIf (fun s ⟨named, fault⟩ => by rw [State.replayRes_named d named, State.retries, fault])
    fun _ => rfl

/-- The access is performed at once. -/
theorem replay_done (s1 : State) : DoneIf (.replay sm l d a t) (cSig (.replay sm l d a t))
    (fun s => s.namesEntry (s.regs.xAt a.toNat) e ∧ s.replayEntry e = .ok s1) (fun s => s.replayed s1 d e) :=
  (replay_means sm l d a t).doneIf (fun s ⟨named, performed⟩ => by
    rw [State.replayRes_named d named, State.retries, performed]) fun s => s.replayed_unit s1 d e

/-- The access is one of more than 8 bytes. -/
theorem replay_sends (s1 : State) (op : PendOp) : SendIf (.replay sm l d a t) (cSig (.replay sm l d a t))
    (fun s => s.namesEntry (s.regs.xAt a.toNat) e ∧ s.replayEntry e = .send s1 op) (fun _ => s1) (fun _ => op) :=
  (replay_means sm l d a t).sendIf fun s ⟨named, sent⟩ => by rw [State.replayRes_named d named, State.retries, sent]

theorem replay_waits : WaitIf (.replay sm l d a t) (cSig (.replay sm l d a t))
    (fun s => s.namesEntry (s.regs.xAt a.toNat) e ∧ s.replayEntry e = .wait) :=
  (replay_means sm l d a t).waitIf fun s ⟨named, early⟩ => by rw [State.replayRes_named d named, State.retries, early]

/-- REPLAY of a load whose granules have been read. -/
theorem replay_reads : ReadDoneIf (.replay sm l d a t) (cSig (.replay sm l d a t))
    (fun s _ => s.namesEntry (s.regs.xAt a.toNat) e) (fun s w => s.replayed (s.loadReplayed e w) d e) := by
  intro s w r hw named
  have unit := (State.gathered_parts r).1
  have free : s.unpend.regs.boundTo d.toNat = none := State.unpend_unbound hw (List.mem_singleton.2 rfl)
  rw [State.unpend_regs, State.unpend_namesEntry] at named
  obtain ⟨kettle, low, found⟩ := named
  have ended := finish_done (s := s) (s1 := s.unpend.replayed (s.unpend.loadReplayed e w) d e) (cSig (.replay sm l d a t)) unit
    (.inr (.inr ((State.replayed_pend _ _ d e).trans ((State.replayLoad_pend _ _ _ _).trans (State.unpend_pend s)))))
  rw [exec_replay, execReplay, issue_gathered _ r, ← ended]
  rw [State.ringEntry] at found
  simp only [State.rx_plain _ _ unit, kettle, tag_small low, State.whenRead_gathered _ _ _ r, found, ofWords_wordsFrom,
    State.putWithin_plain _ _ free]
  rfl

/-- REPLAY of a store whose granules have been written. -/
theorem replay_answered {s : State} {v jv js : Word} {fl : BitVec 6} (r : s.answered v jv js fl = true)
    (hw : (cSig (.replay sm l d a t)).dsts.all s.regs.writable = true) (named : s.namesEntry (s.regs.xAt a.toNat) e) :
    exec (.replay sm l d a t) s = .next (s.retires (cSig (.replay sm l d a t))
      (s.unpend.replayed (s.unpend.storeReplayed e) d e)) := by
  have unit := (State.answered_parts r).1
  have free : s.unpend.regs.boundTo d.toNat = none := State.unpend_unbound hw (List.mem_singleton.2 rfl)
  obtain ⟨kettle, low, found⟩ := named
  rw [exec_replay, execReplay]
  refine issue_answered_done r ?_ unit
  rw [State.ringEntry] at found
  simp only [State.rx_plain _ _ unit, kettle, tag_small low, State.whenRead_answered _ _ _ r, found, State.putWithin_plain _ _ free]
  rfl

end Named

end Replay

/-! TLBINV (R407) -/

/-- A held translation that TLBINV of address `x` under the word `v` drops. -/
abbrev namesHeld (x v : Word) (e : Xlated) : Bool :=
  decide (e.vf = v.toNat % 2 ^ 6) && (v.getLsbD 63 || decide (e.page = x.toNat / 2 ^ e.bits))

/-- What TLBINV of address `x` under the word `v` answers. -/
def State.invalidates (s : State) (x v : Word) : Res :=
  if v.toNat / 2 ^ 6 % 2 ^ 57 ≠ 0 then .trap { cause := cILLEGAL, tval := v }
  else if !s.isKettle ∧ v.toNat % 2 ^ 6 ≠ s.me.vf then .trap { cause := cPROT, tval := v }
  else .done (s.dropHeld (namesHeld x v))

section Tlbinv
variable (sm l : Bool) (a b : BitVec 5) (t u : Bool)

theorem tlbinv_means : Means (.tlbinv sm l a b t u) (fun s => s.invalidates (s.regs.xAt a.toNat) (s.regs.xAt b.toNat)) :=
  .of_issue (exec_tlbinv sm l a b t u) fun s h => by
    rw [State.rx_ready _ _ h, State.rx_ready _ _ h]
    simp only [bitAt_toNat, fld_zero]
    rfl

theorem tlbinv_illegal : TrapIf (.tlbinv sm l a b t u) (cSig (.tlbinv sm l a b t u))
    (fun s => (s.regs.xAt b.toNat).toNat / 2 ^ 6 % 2 ^ 57 ≠ 0) (fun s => { cause := cILLEGAL, tval := s.regs.xAt b.toNat }) :=
  (tlbinv_means sm l a b t u).trapIf fun _ reserved => if_pos reserved

/-- Only the Kettle drops translations of another function. -/
theorem tlbinv_foreign : TrapIf (.tlbinv sm l a b t u) (cSig (.tlbinv sm l a b t u))
    (fun s => (s.regs.xAt b.toNat).toNat / 2 ^ 6 % 2 ^ 57 = 0 ∧ s.isKettle = false ∧ (s.regs.xAt b.toNat).toNat % 2 ^ 6 ≠ s.me.vf)
    (fun s => { cause := cPROT, tval := s.regs.xAt b.toNat }) :=
  (tlbinv_means sm l a b t u).trapIf fun _ ⟨sound, other, foreign⟩ =>
    (if_neg (not_not_intro sound)).trans (if_pos ⟨(Bool.not_eq_true' _).mpr other, foreign⟩)

theorem tlbinv_done : DoneIf (.tlbinv sm l a b t u) (cSig (.tlbinv sm l a b t u))
    (fun s => (s.regs.xAt b.toNat).toNat / 2 ^ 6 % 2 ^ 57 = 0
      ∧ (s.isKettle = true ∨ (s.regs.xAt b.toNat).toNat % 2 ^ 6 = s.me.vf))
    (fun s => s.dropHeld (namesHeld (s.regs.xAt a.toNat) (s.regs.xAt b.toNat))) :=
  (tlbinv_means sm l a b t u).doneIf (fun s ⟨sound, may⟩ => by
    refine (if_neg (not_not_intro sound)).trans (if_neg fun ⟨other, foreign⟩ => ?_)
    rcases may with kettle | own
    · rw [kettle] at other
      exact absurd other Bool.false_ne_true
    · exact foreign own) fun _ => rfl

end Tlbinv

/-! CFLIP (R408) -/

/-- The colour of the current core turned, under the cut `v`. -/
def State.turnsColour (s : State) (v : Word) : State :=
  let k := s.core (coreOf s.cur)
  s.setCore (coreOf s.cur) { k with colour := !k.colour, cutid := v.setWidth 32 }

section Cflip
variable (sm l : Bool) (a : BitVec 5) (t : Bool)

theorem cflip_means : Means (.cflip sm l a t) (fun s =>
    if !s.isKettle then .trap { cause := cPROT, tval := s.regs.xAt a.toNat } else .done (s.turnsColour (s.regs.xAt a.toNat))) :=
  .of_issue (exec_cflip sm l a t) fun s h => by
    rw [State.rx_ready _ _ h]
    rfl

theorem cflip_foreign : TrapIf (.cflip sm l a t) (cSig (.cflip sm l a t)) (fun s => s.isKettle = false)
    (fun s => { cause := cPROT, tval := s.regs.xAt a.toNat }) :=
  (cflip_means sm l a t).trapIf fun _ other => if_pos ((Bool.not_eq_true' _).mpr other)

theorem cflip_done : DoneIf (.cflip sm l a t) (cSig (.cflip sm l a t)) (fun s => s.isKettle = true)
    (fun s => s.turnsColour (s.regs.xAt a.toNat)) :=
  (cflip_means sm l a t).doneIf (fun _ kettle => by rw [kettle]; rfl) fun _ => rfl

end Cflip

/-! MTRD (R409) -/

/-- The registered region of a number. -/
def State.regionOf (s : State) (r : Word) : Option Region := if r.toNat < 4096 then tabFind s.sencha.regions r.toNat else none

/-- What MTRD of count `k` of region `r` answers. -/
def State.readsMeter (s : State) (d : BitVec 5) (r k : Word) : Res :=
  match s.regionOf r with
  | none => .trap { cause := cPROT, tval := r }
  | some x =>
    if x.vf ≠ s.me.vf then .trap { cause := cPROT, tval := r }
    else if 1 < k.toNat then .trap { cause := cILLEGAL, tval := k }
    else .done (s.writeX d (natW (if k = 0 then x.ops else x.bytes)))

section Mtrd
variable (sm l : Bool) (d a b : BitVec 5) (t u : Bool)

theorem mtrd_means : Means (.mtrd sm l d a b t u) (fun s => s.readsMeter d (s.regs.xAt a.toNat) (s.regs.xAt b.toNat)) :=
  .of_issue (exec_mtrd sm l d a b t u) fun s h => by
    have write (v : Word) : s.putX d.toNat v = s.writeX d v := State.putX_dst v h (List.mem_singleton.2 rfl)
    simp only [State.rx_ready _ _ h, write]
    rfl

/-- The region is not registered, or is of another function. -/
theorem mtrd_foreign : TrapIf (.mtrd sm l d a b t u) (cSig (.mtrd sm l d a b t u))
    (fun s => s.regionOf (s.regs.xAt a.toNat) = none ∨ ∃ x, s.regionOf (s.regs.xAt a.toNat) = some x ∧ x.vf ≠ s.me.vf)
    (fun s => { cause := cPROT, tval := s.regs.xAt a.toNat }) :=
  (mtrd_means sm l d a b t u).trapIf fun s no => by
    rcases no with none_ | ⟨x, found, foreign⟩
    · rw [State.readsMeter, none_]
    · rw [State.readsMeter, found]
      exact if_pos foreign

theorem mtrd_illegal (x : Region) : TrapIf (.mtrd sm l d a b t u) (cSig (.mtrd sm l d a b t u))
    (fun s => s.regionOf (s.regs.xAt a.toNat) = some x ∧ x.vf = s.me.vf ∧ 1 < (s.regs.xAt b.toNat).toNat)
    (fun s => { cause := cILLEGAL, tval := s.regs.xAt b.toNat }) :=
  (mtrd_means sm l d a b t u).trapIf fun s ⟨found, own, beyond⟩ => by
    rw [State.readsMeter, found]
    exact (if_neg (not_not_intro own)).trans (if_pos beyond)

theorem mtrd_done (x : Region) : DoneIf (.mtrd sm l d a b t u) (cSig (.mtrd sm l d a b t u))
    (fun s => s.regionOf (s.regs.xAt a.toNat) = some x ∧ x.vf = s.me.vf ∧ (s.regs.xAt b.toNat).toNat ≤ 1)
    (fun s => s.writeX d (natW (if s.regs.xAt b.toNat = 0 then x.ops else x.bytes))) :=
  (mtrd_means sm l d a b t u).doneIf (fun s ⟨found, own, count⟩ => by
    rw [State.readsMeter, found]
    exact (if_neg (not_not_intro own)).trans (if_neg (Nat.not_lt.2 count))) fun _ => rfl

end Mtrd

/-- Settles O39: REPLAY before and after its granules are read or written, then TLBINV, CFLIP and MTRD. -/
theorem sysxForms : Obligations.SysxForms := by
  intro sm l d a b t u
  exact ⟨replay_foreign sm l d a t, replay_illegal sm l d a t, replay_none sm l d a t, replay_faults sm l d a t,
    replay_done sm l d a t, replay_sends sm l d a t, replay_reads sm l d a t,
    fun s v jv js fl e r hw named => replay_answered sm l d a t e r hw named, replay_waits sm l d a t,
    tlbinv_illegal sm l a b t u, tlbinv_foreign sm l a b t u, tlbinv_done sm l a b t u, cflip_foreign sm l a t,
    cflip_done sm l a t, mtrd_foreign sm l d a b t u, mtrd_illegal sm l d a b t u, mtrd_done sm l d a b t u⟩

end Sys2Proof.Machine
end

section
/-! PROOF. System forms (R117, R119, R120, R392). -/

namespace Sys2Proof.Machine

/-! HRET (R392) -/

/-- The shadows copied back over the loop and repeat CSRs. -/
def Regs.restoreLoops (r : Regs) : Regs :=
  (upFrom 0 8).foldl (fun q k => q.setCsr (csrLC0 + k) (r.csrAt (csrTLC0 + k))) r

section Hret
variable (r : Regs)

theorem Regs.hret_eq : r.hret =
    { r.restoreLoops.setCsr csrTSTAT (tstatOf r.phm r.phm r.stepBit) with pc := r.csrAt csrTEPC } := rfl

theorem Regs.hret_csrAt {k : Nat} (h : k ≠ csrTSTAT) : r.hret.csrAt k =
    if csrLC0 ≤ k ∧ k < csrLC0 + 8 then r.csrAt (csrTLC0 + (k - csrLC0)) else r.csrAt k := by
  rw [Regs.hret_eq, Regs.csrAt_withPc, Regs.csrAt_setCsr_ne _ h, Regs.restoreLoops,
    Regs.csrAt_foldl_setCsr csrLC0 (fun j => r.csrAt (csrTLC0 + j))]
  rfl

theorem Regs.hret_loops {k : Nat} (h : k < 8) : r.hret.csrAt (csrLC0 + k) = r.csrAt (csrTLC0 + k) := by
  have apart : ∀ k < 8, csrLC0 + k ≠ csrTSTAT := by decide
  rw [Regs.hret_csrAt r (apart k h), if_pos (by omega), Nat.add_sub_cancel_left]

theorem Regs.hret_mode : r.hret.hm = r.phm ∧ r.hret.phm = r.phm ∧ r.hret.stepBit = r.stepBit := by
  have tstat : r.hret.csrAt csrTSTAT = tstatOf r.phm r.phm r.stepBit := by
    rw [Regs.hret_eq, Regs.csrAt_withPc, Regs.csrAt_setCsr_same]
  simp only [Regs.hm, Regs.phm, Regs.stepBit] at tstat ⊢
  rw [tstat]
  generalize (r.csrAt csrTSTAT).getLsbD 1 = phm
  generalize (r.csrAt csrTSTAT).getLsbD 2 = step
  revert phm step
  decide

/-- HRET changes no register but CSRs, and the PC. -/
theorem Regs.hret_frame : ({ r.hret with csr := [], pc := 0 } : Regs) = { r with csr := [], pc := 0 } := by
  have same : r.sameButCsr r := ⟨r.csr, rfl⟩
  obtain ⟨csr, e⟩ := (same.foldl csrLC0 (fun k => r.csrAt (csrTLC0 + k)) (upFrom 0 8)).setCsr csrTSTAT
    (tstatOf r.phm r.phm r.stepBit)
  rw [Regs.hret_eq, Regs.restoreLoops, e]

end Hret

/-- The unit marked as one that resumes at a unit that a handler interrupted (R397). -/
abbrev State.resuming (s : State) : State := { s with unit := { s.unit with resume := true } }

/-- A unit that only marks that it resumes ends as `redirects` says. -/
theorem finish_jump_resuming {s s1 : State} (g : Sig) (t : Word) (start : s1.unit = {}) (none_ : s.me.pend = none) :
    finish s g (.jump s1.resuming t) = s.redirects g s1.resuming t := by
  let s2 : State := s1.resuming.setMe { s1.me with nseq := s1.me.nseq + 1 }
  have word : s1.resuming.afterWord s.regs g false = s2 := by
    have unpopped : s1.resuming.popped false = false := by simp [State.popped, start]
    simp only [State.afterWord, unpopped, Bool.false_and, Bool.false_eq_true, if_false]
    rfl
  have unit : s2.unit = { resume := true } := by
    change ({ s1.unit with resume := true } : IUnit) = _
    rw [start]
  have whole : ({ s2 with unit := { resume := true } } : State) = s2 := by rw [← unit]
  simp only [finish, retire, word, State.makePushes, unit, List.filter_nil, List.foldl_nil, State.doPushes, none_,
    Option.isSome_none, Bool.false_and, Bool.false_eq_true, if_false, State.doPops, whole]
  rfl

section System
variable (sm l : Bool)

theorem nop_done : Done (.nop sm l) (cSig (.nop sm l)) (fun s => s) := fun s h => by
  rw [exec_nop]
  exact issue_done h rfl (State.ready_parts h).1

theorem yield_done {s : State} (h : s.ready (cSig (.yield sm l)) = true) : exec (.yield sm l) s = .next
    (s.retires (cSig (.yield sm l)) (s.setMe { s.me with owed := (upFrom (4 * coreOf s.cur) 4).filter (· != s.cur) })) := by
  rw [exec_yield]
  exact issue_done h rfl (State.ready_parts h).1

/-- The contexts of a core are its four. -/
theorem mem_coreContexts {c n : Nat} : n ∈ upFrom (4 * coreOf c) 4 ↔ coreOf n = coreOf c := by
  rw [upFrom_eq_range', List.mem_range'_1, coreOf, coreOf]
  omega

theorem ecall_traps : TrapIf (.ecall sm l) (cSig (.ecall sm l)) (fun _ => True) (fun _ => { cause := cECALL, tval := 0 }) :=
  fun s h _ => by
    rw [exec_ecall]
    exact issue_trap h rfl

theorem ebreak_traps : TrapIf (.ebreak sm l) (cSig (.ebreak sm l)) (fun _ => True) (fun _ => { cause := cBREAK, tval := 0 }) :=
  fun s h _ => by
    rw [exec_ebreak]
    exact issue_trap h rfl

theorem hret_resumes {s : State} (h : s.ready (cSig (.hret sm l)) = true) : exec (.hret sm l) s = .next
    (s.redirects (cSig (.hret sm l)) (s.setRegs s.regs.hret).resuming (s.regs.csrAt csrTEPC)) := by
  obtain ⟨start, none_, -⟩ := State.ready_parts h
  rw [exec_hret]
  exact (issue_ready _ h).trans (congrArg Host.Outcome.next
    (finish_jump_resuming (s1 := s.setRegs s.regs.hret) (cSig (.hret sm l)) (s.regs.csrAt csrTEPC) start none_))

end System

/-- Settles O19: HRET's registers are `Regs.hret`, which copies the shadows back and writes TSTAT last. -/
theorem systemForms : Obligations.SystemForms := by
  intro sm l
  refine ⟨nop_done sm l, fun s h => ⟨_, yield_done sm l h, fun c => ?owed⟩, ecall_traps sm l, ebreak_traps sm l, fun s h => ?hret⟩
  case owed =>
    rw [List.mem_filter, mem_coreContexts, bne_iff_ne]
  case hret =>
    obtain ⟨hm, phm, step⟩ := s.regs.hret_mode
    refine ⟨s.regs.hret, hret_resumes sm l h, s.regs.hret_frame, fun k low => s.regs.hret_loops low, hm, phm, step,
      fun k mode other => ?_⟩
    rw [Regs.hret_csrAt _ mode, if_neg other]

end Sys2Proof.Machine
end

section
/-! PROOF. Traps that enter no handler (R391, R394 to R396, R399). -/

namespace Sys2Proof.Machine

/-! The self-test that a machine check starts (R399, R401) -/

theorem Ctx.parked_regs (x : Ctx) : x.parked.regs = x.regs := by
  unfold Ctx.parked
  split
  · split <;> rfl
  · rfl

theorem Ctx.parked_vf (x : Ctx) : x.parked.vf = x.vf := by
  unfold Ctx.parked
  split
  · split <;> rfl
  · rfl

/-- Contexts changed one after another keep what the change keeps. -/
theorem State.foldl_setCtx_keeps {α : Type} {f : Ctx → Ctx} (p : Ctx → α) (keeps : ∀ x, p (f x) = p x) (cs : List Nat)
    (s : State) (d : Nat) : p ((cs.foldl (fun (r : State) c => r.setCtx c (f (r.ctx c))) s).ctx d) = p (s.ctx d) := by
  induction cs generalizing s with
  | nil => rfl
  | cons c cs ih =>
    rw [List.foldl_cons, ih]
    by_cases same : d = c
    · rw [same, State.ctx_setCtx, keeps]
    · rw [State.ctx_setCtx_ne _ same]

theorem State.foldl_setCtx_vfs (f : Ctx → Ctx) (cs : List Nat) (s : State) :
    (cs.foldl (fun (r : State) c => r.setCtx c (f (r.ctx c))) s).vfs = s.vfs := by
  induction cs generalizing s with
  | nil => rfl
  | cons c cs ih => exact ih _

theorem State.restCore_keeps {α : Type} (p : Ctx → α) (keeps : ∀ x : Ctx, p x.parked = p x) (s : State) (k d : Nat) :
    p ((s.restCore k).ctx d) = p (s.ctx d) :=
  State.foldl_setCtx_keeps p keeps _ (s.leaveBars fun c => coreOf c == k) d

theorem State.restCore_vfs (s : State) (k : Nat) : (s.restCore k).vfs = s.vfs :=
  State.foldl_setCtx_vfs Ctx.parked _ (s.leaveBars fun c => coreOf c == k)

/-- A self-test that starts leaves of a context all that saving it leaves. -/
theorem State.setTesting_keeps {α : Type} (p : Ctx → α) (keeps : ∀ x : Ctx, p x.parked = p x) (s : State) (u : UnitId) (d : Nat) :
    p ((s.setTesting u true).ctx d) = p (s.ctx d) := by
  cases u with
  | core n =>
    simp only [State.setTesting, if_true]
    split
    · rfl
    · exact State.restCore_keeps p keeps _ n d
  | _ => rfl

theorem State.setTesting_vfs (s : State) (u : UnitId) : (s.setTesting u true).vfs = s.vfs := by
  cases u with
  | core n =>
    simp only [State.setTesting, if_true]
    split
    · rfl
    · exact State.restCore_vfs _ n
  | _ => rfl

section Report
variable (s : State) (c : Nat) (t : TrapRec)

theorem State.checkReported_other (other : t.cause ≠ cMCE) : s.checkReported c t = s := if_neg other

theorem State.checkReported_unit {u : UnitId} (check : t.cause = cMCE) (unit : s.mceUnit c t = some u) :
    s.checkReported c t = s.setTesting u true := by
  simp only [State.checkReported, if_pos check, unit]

theorem State.checkReported_keeps {α : Type} (p : Ctx → α) (keeps : ∀ x : Ctx, p x.parked = p x) (d : Nat) :
    p ((s.checkReported c t).ctx d) = p (s.ctx d) := by
  unfold State.checkReported
  split
  · split
    · exact State.setTesting_keeps p keeps s _ d
    · rfl
  · rfl

theorem State.checkReported_vfs : (s.checkReported c t).vfs = s.vfs := by
  unfold State.checkReported
  split
  · split
    · exact State.setTesting_vfs s _
    · rfl
  · rfl

theorem State.checkReported_regs : ((s.checkReported c t).ctx c).regs = (s.ctx c).regs :=
  State.checkReported_keeps s c t Ctx.regs Ctx.parked_regs c

theorem State.checkReported_debug : ((s.checkReported c t).vf ((s.checkReported c t).ctx c).vf).debug = (s.vf (s.ctx c).vf).debug := by
  rw [State.checkReported_keeps s c t Ctx.vf Ctx.parked_vf c, State.vf, State.checkReported_vfs]
  rfl

/-- The self-tests that the statement of the trap's outcomes names (R393, R399). -/
theorem State.checkReported_cases :
    (t.cause ≠ cMCE → s.checkReported c t = s)
    ∧ (t.cause = cMCE → t.unit = 1 ∨ t.unit = 2 ∨ t.unit = 5 → s.checkReported c t = s.setTesting (.core (coreOf c)) true)
    ∧ (t.cause = cMCE → t.unit = 3 → s.checkReported c t = s.setTesting (.grove (groveOf c)) true)
    ∧ (t.cause = cMCE → t.unit = 4 → ∀ k q, s.scrLoc c t.tval.toNat 1 = some (.scr k q) →
        s.checkReported c t = s.setTesting (.core k) true)
    ∧ (t.cause = cMCE → t.unit = 10 → s.checkReported c t = s) := by
  refine ⟨s.checkReported_other c t, fun check unit => s.checkReported_unit c t check ?core,
    fun check unit => s.checkReported_unit c t check ?grove, fun check unit k q place => s.checkReported_unit c t check ?scratch,
    fun check unit => ?link⟩
  case core =>
    rcases unit with unit | unit | unit <;> rw [State.mceUnit, unit] <;> rfl
  case grove =>
    rw [State.mceUnit, unit]
    rfl
  case scratch =>
    rw [State.mceUnit, unit]
    change (match s.scrLoc c t.tval.toNat 1 with
      | some (.scr k _) => some (UnitId.core k)
      | _ => some (.core (coreOf c))) = _
    rw [place]
  case link =>
    have none_ : s.mceUnit c t = none := by
      rw [State.mceUnit, unit]
      rfl
    simp only [State.checkReported, if_pos check, none_]

end Report

/-! The outcomes (R391, R394 to R396) -/

section Outcomes
variable {s : State} {c : Nat} {t : TrapRec}

theorem State.takeTrap_held {sp : Spec} (open_ : (s.ctx c).spec = some sp) : s.takeTrap c t =
    s.setCtx c { s.ctx c with spec := some { sp with trap := some (sp.trap.getD t) }, wait := 2, waitOn := some .cbr } := by
  simp only [State.takeTrap, open_]

theorem State.takeTrap_page (resolved : (s.ctx c).spec = none) (page : t.cause = cPAGE) :
    s.takeTrap c t = s.setCtx c { s.ctx c with status := .service t } := by
  simp only [State.takeTrap, resolved, if_pos page]

/-- An ECALL that no handler takes is delivered at once: it is neither PAGE nor a machine check. -/
theorem State.takeTrap_ecall (resolved : (s.ctx c).spec = none) (call : t.cause = cECALL) : s.takeTrap c t = s.deliverTrap c t := by
  have other : ∀ x : BitVec 6, x = cECALL → x ≠ cPAGE ∧ x ≠ cMCE := by decide
  obtain ⟨page, check⟩ := other t.cause call
  rw [State.takeTrap_delivers resolved page, State.checkReported_other s c t check]

/-- No handler takes the ECALL of a context: it is in handler mode, or has none (R394). -/
theorem State.unhandled_iff {r : Regs} (h : r.hm = true ∨ r.csrAt csrTVEC = 0) :
    r.hm = true ∨ (r.csrAt csrTVEC == 0) = true := h.imp_right beq_iff_eq.2

theorem State.takeTrap_service (resolved : (s.ctx c).spec = none) (call : t.cause = cECALL)
    (unhandled : (s.ctx c).regs.hm = true ∨ (s.ctx c).regs.csrAt csrTVEC = 0)
    (kettle : (s.ctx c).regs.xAt 5 = 1 ∨ (s.ctx c).regs.xAt 5 = 2) :
    s.takeTrap c t = s.setCtx c { s.ctx c with status := .service t } := by
  rw [State.takeTrap_ecall resolved call]
  simp only [State.deliverTrap, call, State.unhandled_iff unhandled, and_self, if_true, kettle]

/-- With no loop armed, a unit goes on in sequence (R112). -/
theorem Regs.loopEnd_unarmed {r : Regs} (a : Word) (b0 b1 : Bool) (lc0 : r.csrAt csrLC0 = 0) (lc1 : r.csrAt csrLC1 = 0) :
    r.loopEnd a b0 b1 = { r with pc := a } := by
  simp [Regs.loopEnd, lc0, lc1]

theorem State.takeTrap_unserved (resolved : (s.ctx c).spec = none) (call : t.cause = cECALL)
    (unhandled : (s.ctx c).regs.hm = true ∨ (s.ctx c).regs.csrAt csrTVEC = 0)
    (one : (s.ctx c).regs.xAt 5 ≠ 1) (two : (s.ctx c).regs.xAt 5 ≠ 2)
    (plain : t.lone = false ∨ ((s.ctx c).regs.csrAt csrLC0 = 0 ∧ (s.ctx c).regs.csrAt csrLC1 = 0)) :
    s.takeTrap c t = s.setCtx c { s.ctx c with
      regs := { (s.ctx c).regs.setX 5 (-1) with pc := t.epc + 4 }, status := .run, wait := 0, skipBkp := false } := by
  have unknown : ¬((s.ctx c).regs.xAt 5 = 1 ∨ (s.ctx c).regs.xAt 5 = 2) := not_or.2 ⟨one, two⟩
  have next : (if t.lone = true then ((s.ctx c).regs.setX 5 minusOne).loopEnd (t.epc + 4) false false
      else { (s.ctx c).regs.setX 5 minusOne with pc := t.epc + 4 }) = { (s.ctx c).regs.setX 5 (-1) with pc := t.epc + 4 } := by
    rcases plain with pair | ⟨lc0, lc1⟩
    · rw [if_neg (by rw [pair]; decide)]
      rfl
    · rw [Regs.loopEnd_unarmed (r := (s.ctx c).regs.setX 5 minusOne) _ _ _ lc0 lc1, ite_self]
      rfl
  rw [State.takeTrap_ecall resolved call]
  simp only [State.deliverTrap, call, State.unhandled_iff unhandled, and_self, if_true, if_neg unknown, next]

/-- The context with the trap CSRs recorded, once a machine check has been reported. -/
abbrev State.trapRecorded (s : State) (c : Nat) (t : TrapRec) : State :=
  let s1 := s.checkReported c t
  let src := s1.sourceOf c t.epc
  s1.setCtx c { s1.ctx c with regs := (s1.ctx c).regs.recordTrap t src.1 src.2.1 }

theorem State.takeTrap_double (resolved : (s.ctx c).spec = none) (page : t.cause ≠ cPAGE) (call : t.cause ≠ cECALL)
    (handler : (s.ctx c).regs.hm = true) : s.takeTrap c t = (s.trapRecorded c t).defaultAction c 6 := by
  have mode : ((s.checkReported c t).ctx c).regs.hm = true := by rw [State.checkReported_regs, handler]
  rw [State.takeTrap_delivers resolved page]
  simp only [State.deliverTrap, call, false_and, if_false, mode, if_true]

section NoHandler
variable (resolved : (s.ctx c).spec = none) (page : t.cause ≠ cPAGE) (call : t.cause ≠ cECALL)
  (task : (s.ctx c).regs.hm = false) (none_ : (s.ctx c).regs.csrAt csrTVEC = 0)
include resolved page call task none_

theorem State.takeTrap_noHandler : s.takeTrap c t =
    if (t.cause = cBREAK ∨ t.cause = cSTEP) ∧ (s.vf (s.ctx c).vf).debug = true then
      (s.trapRecorded c t).setCtx c { (s.trapRecorded c t).ctx c with status := .debug t (s.ctx c).regs.csr }
    else (s.trapRecorded c t).defaultAction c (if aborts t.cause then 7 else 6) := by
  have same := State.checkReported_regs s c t
  have mode : ((s.checkReported c t).ctx c).regs.hm = false := by rw [same, task]
  have vector : (((s.checkReported c t).ctx c).regs.csrAt csrTVEC == 0) = true := by
    rw [same, none_]
    rfl
  rw [State.takeTrap_delivers resolved page, ← State.checkReported_debug s c t, ← same]
  simp only [State.deliverTrap, call, false_and, if_false, mode, Bool.false_eq_true, vector, if_true]

theorem State.takeTrap_debugged (stop : t.cause = cBREAK ∨ t.cause = cSTEP) (debug : (s.vf (s.ctx c).vf).debug = true) :
    s.takeTrap c t =
      (s.trapRecorded c t).setCtx c { (s.trapRecorded c t).ctx c with status := .debug t (s.ctx c).regs.csr } := by
  rw [State.takeTrap_noHandler resolved page call task none_, if_pos ⟨stop, debug⟩]

theorem State.takeTrap_default (runs : (t.cause ≠ cBREAK ∧ t.cause ≠ cSTEP) ∨ (s.vf (s.ctx c).vf).debug = false) :
    s.takeTrap c t = (s.trapRecorded c t).defaultAction c (if t.cause = cQUOTA ∨ t.cause = cCOLLABORT then 7 else 6) := by
  have undebugged : ¬((t.cause = cBREAK ∨ t.cause = cSTEP) ∧ (s.vf (s.ctx c).vf).debug = true) := by
    rcases runs with ⟨break_, step⟩ | off
    · exact fun h => h.1.elim break_ step
    · exact fun h => Bool.false_ne_true (off.symm.trans h.2)
  rw [State.takeTrap_noHandler resolved page call task none_, if_neg undebugged]
  simp only [aborts, Bool.or_eq_true, beq_iff_eq]

end NoHandler
end Outcomes

/-! The end of a launch (R208, R211, R394) -/

/-- A launch keeps its other fields where its reserved run is given up. -/
theorem State.dropRun_launch {s : State} {l : Nat} {x : Launch} (at_ : tabFind s.launches l = some x) :
    tabFind (s.dropRun l).launches l = some { x with run := none } := by
  simp only [State.dropRun, at_]
  split
  case isTrue none_ =>
    rw [at_, ← Option.isNone_iff_eq_none.1 none_]
  case isFalse => exact tabFind_tabSet_same ..

theorem State.endLaunch_final {s : State} {l : Nat} {x : Launch} (st : Nat) (at_ : tabFind s.launches l = some x)
    (running : x.status = 1 ∨ x.status = 2) : ∃ n, tabFind (s.endLaunch l st).launches l =
      some { x with status := st, finished := n, run := none } := by
  have open_ : isFinal x.status = false := by rcases running with e | e <;> rw [e] <;> rfl
  simp only [State.endLaunch, State.dropRun_launch at_, open_, Bool.false_eq_true, if_false]
  exact ⟨_, tabFind_tabSet_same ..⟩

/-- Settles O49, one outcome of `takeTrap` at a time. -/
theorem trapOutcomes : Obligations.TrapOutcomes := by
  refine ⟨fun s c t => ⟨s.checkReported_regs c t, fun sp => State.takeTrap_held, fun resolved =>
      ⟨State.takeTrap_page resolved, fun call unhandled => ⟨State.takeTrap_service resolved call unhandled,
        State.takeTrap_unserved resolved call unhandled⟩, fun page call => ⟨State.takeTrap_double resolved page call,
        fun task none_ => ⟨State.takeTrap_debugged resolved page call task none_,
          State.takeTrap_default resolved page call task none_⟩⟩⟩⟩,
    State.checkReported_cases, fun s l st x at_ running => ?_⟩
  obtain ⟨n, found⟩ := State.endLaunch_final st at_ running
  exact ⟨_, found, rfl, rfl⟩

end Sys2Proof.Machine
end

section
/-! PROOF. Start, management, power and heat (R427, R443, R456, R457, R468 to R476). -/

namespace Sys2Proof.Machine

/-! Management requests (R473) -/

/-- The machine once a request has been answered with `b`: the answer is sent, and the next request waits for the service time. -/
def State.served (s : State) (b : List Byte) : State :=
  let t := s.respond b
  { t with mgmt := { t.mgmt with served := t.mgmt.served + 1, busy := t.tick + Config.serviceTime t.mgmt.served } }

/-- The request `e` is ignored before stage 0 has ended, is answered 2 while another is served, and is otherwise answered as `q`
says where `p` holds (R468, R473). -/
def Requests (e : Instr) (q : State → List Byte × State) (p : State → Prop) : Prop :=
  Happens e (fun s => s.mgmt.stage = none) (fun s => s)
  ∧ Happens e (fun s => s.mgmt.stage ≠ none ∧ s.tick < s.mgmt.busy) (fun s => s.respond [2])
  ∧ Happens e (fun s => (s.mgmt.stage ≠ none ∧ s.mgmt.busy ≤ s.tick) ∧ p s) (fun s => (q s).2.served (q s).1)

theorem requests_of {e : Instr} {f : State → Nat × List Byte × State} {q : State → List Byte × State} {p : State → Prop}
    (eq : ∀ s, exec e s = .next (s.request f))
    (answer : ∀ s, p s → (BitVec.ofNat 8 (f s).1 :: (f s).2.1, (f s).2.2) = q s) : Requests e q p := by
  refine ⟨fun s off => ?off, fun s ⟨on, busy⟩ => ?busy, fun s ⟨⟨on, idle⟩, hp⟩ => ?serve⟩
  case off => rw [eq, State.request, if_pos off]
  case busy => rw [eq, State.request, if_neg on, if_pos busy]
  case serve =>
    rw [eq, State.request, if_neg on, if_neg (Nat.not_lt.2 idle)]
    exact congrArg (fun a : List Byte × State => Host.Outcome.next (a.2.served a.1)) (answer s hp)

section Requests
variable (nonce : BitVec 128) (n watts vf b : Nat) (inf : Bool) (sig : BitVec 10240) (x : Region)

theorem sensors_requests : Requests .sensors (fun s => (0 :: (((upFrom 0 4).map (fun k => intBytes (s.temp k))).flatten
    ++ bytesOf 8 s.mgmt.watts ++ intBytes (s.temp 4) ++ intBytes (s.temp 5) ++ bytesOf 8 s.mgmt.cap), s)) (fun _ => True) :=
  requests_of exec_sensors fun _ _ => rfl

theorem fences_requests : Requests .fences (fun s => (0 :: (s.mgmt.fencedUnits.map unitBytes).flatten, s)) (fun _ => True) :=
  requests_of exec_fences fun _ _ => rfl

theorem attest_requests : Requests (.attest nonce) (fun s => (0 :: (s.attest nonce).1, (s.attest nonce).2)) (fun _ => True) :=
  requests_of (exec_attest nonce) fun _ _ => rfl

theorem meter_requests : Requests (.meter n nonce)
    (fun s => (0 :: (s.meterReport 1 n x 0 nonce).1, (s.meterReport 1 n x 0 nonce).2))
    (fun s => tabFind s.sencha.regions n = some x) :=
  requests_of (exec_meter n nonce) fun s region => by
    simp only [region]
    rfl

theorem meter_refuses : Requests (.meter n nonce) (fun s => ([1], s)) (fun s => tabFind s.sencha.regions n = none) :=
  requests_of (exec_meter n nonce) fun s region => by
    simp only [region]
    rfl

theorem powercap_requests : Requests (.powercap (.watts watts)) (fun s => ([0], { s with mgmt := { s.mgmt with cap := watts } }))
    (fun _ => 1600 ≤ watts ∧ watts ≤ 2400) :=
  requests_of (exec_powercap (.watts watts)) fun s range => by
    simp only [if_pos range]
    rfl

theorem powercap_refuses : Requests (.powercap (.watts watts)) (fun s => ([1], s)) (fun _ => watts < 1600 ∨ 2400 < watts) :=
  requests_of (exec_powercap (.watts watts)) fun s outside => by
    simp only [if_neg (show ¬(1600 ≤ watts ∧ watts ≤ 2400) by omega)]
    rfl

theorem powercap_unknown : Requests (.powercap (.unknown b)) (fun s => ([3], s)) (fun _ => b < 1 ∨ 9 < b) :=
  requests_of (exec_powercap (.unknown b)) fun s outside => by
    simp only [if_neg (show ¬(1 ≤ b ∧ b ≤ 9) by omega)]
    rfl

theorem debugAttach_requests : Requests (.debugAttach vf inf) (fun s => ([0], s.setVf vf { s.vf vf with debugAsk := some inf }))
    (fun _ => vf < 64) :=
  requests_of (exec_debugAttach vf inf) fun s known => by
    simp only [if_pos known]
    rfl

theorem debugDetach_requests : Requests (.debugDetach vf) (fun s =>
      ([0], (s.setVf vf { s.vf vf with debug := false, debugInfuse := false, debugAsk := none }).undebugAll vf))
    (fun _ => vf < 64) :=
  requests_of (exec_debugDetach vf) fun s known => by
    simp only [if_pos known]
    rfl

theorem deploy_requests : Requests (.deploy nonce sig)
    (fun s => ([0], { s with sencha := { s.sencha with deploy := nonce, deploySet := true } }))
    (fun s => s.sencha.deploySet = false ∨ Config.verify Config.operatorKey (wideBytes nonce) sig = true) :=
  requests_of (exec_deploy nonce sig) fun s allowed => by
    have accept : ¬(s.sencha.deploySet = true ∧ (!Config.verify Config.operatorKey (wideBytes nonce) sig) = true) := by
      rintro ⟨set_, bad⟩
      rcases allowed with first | signed
      · exact Bool.false_ne_true (first.symm.trans set_)
      · rw [signed] at bad
        exact Bool.false_ne_true bad
    simp only [if_neg accept]
    rfl

theorem deploy_refuses : Requests (.deploy nonce sig) (fun s => ([1], s))
    (fun s => s.sencha.deploySet = true ∧ Config.verify Config.operatorKey (wideBytes nonce) sig = false) :=
  requests_of (exec_deploy nonce sig) fun s ⟨set_, bad⟩ => by
    have refuse : s.sencha.deploySet = true ∧ (!Config.verify Config.operatorKey (wideBytes nonce) sig) = true := by
      rw [bad]
      exact ⟨set_, rfl⟩
    simp only [if_pos refuse]
    rfl

theorem reset_requests : Requests .reset (fun s => ([0], s.stage0 true)) (fun _ => True) := requests_of exec_reset fun _ _ => rfl

end Requests

/-! Firmware and stages (R443, R457, R468 to R470) -/

theorem firmwareStage_stages (f : Firmware) : Happens (.firmwareStage f) (fun s => s.mgmt.stage ≠ none ∧ s.firmwareOk f = true)
    (fun s => { s with sencha := { s.sencha with staged := tabSet f.which f s.sencha.staged } }) := fun s ok => by
  rw [exec_firmwareStage]
  exact if_pos ok

theorem firmwareStage_ignores (f : Firmware) :
    Happens (.firmwareStage f) (fun s => s.mgmt.stage = none ∨ s.firmwareOk f = false) (fun s => s) := fun s bad => by
  have refuse : ¬(s.mgmt.stage ≠ none ∧ s.firmwareOk f = true) := by
    rw [not_and_or, not_not, Bool.not_eq_true]
    exact bad
  rw [exec_firmwareStage]
  exact if_neg refuse

/-- Stage 0 ends where nothing is broken and every image is accepted (R469). -/
theorem State.stage0_stage (s : State) (o : Bool) :
    (s.stage0 o).mgmt.stage = if (!Config.freeBit s.freeIx && s.deviceReset.imagesOk) = true then some 0 else none := rfl

theorem State.stage0_keeps (s : State) (o : Bool) : let t := s.stage0 o
    t.tick = 0 ∧ t.mem = s.mem ∧ t.mgmt.powered = true ∧ (t.mgmt.stage = some 0 ∨ t.mgmt.stage = none)
    ∧ (s.deviceReset.imagesOk = false → t.mgmt.stage = none) := by
  refine ⟨rfl, rfl, rfl, ?_, fun bad => ?_⟩
  · rw [State.stage0_stage]
    exact ite_eq_or_eq ..
  · rw [State.stage0_stage, bad, Bool.and_false]
    rfl

/-- Stage `n` may end now: the one before it has, in time, and the start has not stopped (R468). -/
abbrev State.stageEnds (s : State) (n : Nat) : Prop := s.mgmt.stage = some (n - 1) ∧ s.mgmt.stuck = false ∧ s.tick ≤ stageLimit n

theorem State.endStage_idle {s : State} {n : Nat} (us : List UnitId) (h : ¬s.stageEnds n) : s.endStage n us = s := by
  rw [State.endStage, if_neg]
  simpa only [Bool.not_eq_true'] using h

theorem State.endStage_one {s : State} (h : s.stageEnds 1) :
    s.endStage 1 [] = { s with mgmt := { s.mgmt.decoders with stage := some 1 } } := by
  rw [State.endStage, if_pos (by simpa only [Bool.not_eq_true'] using h)]
  rfl

theorem State.endStage_two {s : State} (h : s.stageEnds 2) :
    s.endStage 2 [] = { s with
      mgmt := { s.mgmt with stage := some 2 }
      vfs := (upFrom 0 64).foldl (fun t v => tabSet v { tabGet {} t v with enabled := true } t) s.vfs } := by
  rw [State.endStage, if_pos (by simpa only [Bool.not_eq_true'] using h)]
  rfl

/-- A stage that may not end now: it is not its turn, or the start has stopped, or the time is over. -/
theorem State.not_stageEnds {s : State} {n : Nat}
    (h : s.mgmt.stage ≠ some (n - 1) ∨ s.mgmt.stuck = true ∨ stageLimit n < s.tick) : ¬s.stageEnds n := by
  rintro ⟨turn, runs, time⟩
  rcases h with other | stopped | late
  · exact other turn
  · exact Bool.false_ne_true (runs.symm.trans stopped)
  · omega

/-- The stage that has not ended yet (R468). -/
def State.openStage (s : State) : Nat := (s.mgmt.stage.map (· + 1)).getD 0

section Timeout
variable {s : State}

theorem stageTimeout_stops {n : Nat} (at_ : s.openStage = n) (early : n ≤ 2) (powered : s.mgmt.powered = true)
    (runs : s.mgmt.stuck = false) (late : stageLimit n < s.tick) :
    exec .stageTimeout s =
      .next (({ s with mgmt := { s.mgmt with stuck := true } } : State).respond (0x83 :: bytesOf 1 n)) := by
  subst at_
  rw [exec_stageTimeout]
  exact if_pos ⟨powered, early, by rw [runs]; rfl, late⟩

theorem stageTimeout_ignores (h : s.mgmt.stage = some 2 ∨ s.mgmt.powered = false ∨ s.mgmt.stuck = true) :
    exec .stageTimeout s = .next s := by
  rw [exec_stageTimeout]
  refine if_neg ?_
  rintro ⟨powered, early, runs, -⟩
  rcases h with last | off | stopped
  · rw [last] at early
    exact absurd early (by decide)
  · exact Bool.false_ne_true (off.symm.trans powered)
  · rw [stopped] at runs
    exact Bool.false_ne_true runs

end Timeout

/-! Heat (R475) -/

theorem bytesOf_one (d : Nat) : bytesOf 1 d = [BitVec.ofNat 8 d] := rfl

theorem State.overheat_first {s : State} {d : Nat} (runs : (s.die d).stopped = false) (none_ : s.launchesOn d = []) :
    s.overheat d = (s.setDie d { s.die d with stopped := true }).respond [0x82, BitVec.ofNat 8 d] := by
  simp only [State.overheat, runs, none_, List.foldl_nil, Bool.false_eq_true, if_false, bytesOf_one]

theorem State.overheat_again {s : State} {d : Nat} (stopped : (s.die d).stopped = true) : s.overheat d = s := by
  simp only [State.overheat, stopped, if_true]

/-- The readings of no new sensor, with the power drawn. -/
def State.readsPower (s : State) (watts : Nat) : State :=
  { s with mgmt := { s.mgmt with
      watts := watts, clock := if s.mgmt.cap < watts then max 50 (s.mgmt.clock - 5) else s.mgmt.clock } }

/-- The dies that have reached 115 °C. -/
abbrev State.hotDies (s : State) : List Nat := (upFrom 0 4).filter (fun d => decide (115 ≤ s.temp d))

theorem thermalThrottle_eq (watts : Nat) (s : State) :
    exec (.thermalThrottle [] watts) s = .next (s.hotDies.foldl State.overheat (s.readsPower watts)) := by
  rw [exec_thermalThrottle]
  simp only [execThermalThrottle, State.readsPower, List.take_nil, List.any_nil, Bool.or_false, decide_eq_true_eq]
  rfl

theorem State.hotDies_none {s : State} (cool : ∀ e, e < 4 → s.temp e < 115) : s.hotDies = [] := by
  rw [List.filter_eq_nil_iff]
  intro e mem
  have := cool e (mem_upFrom_zero.1 mem)
  rw [decide_eq_true_eq]
  omega

theorem State.hotDies_one {s : State} {d : Nat} (known : d < 4) (hot : 115 ≤ s.temp d)
    (cool : ∀ e, e < 4 → e ≠ d → s.temp e < 115) : s.hotDies = [d] := by
  have single : ∀ d < 4, (upFrom 0 4).filter (fun e => e == d) = [d] := by decide
  rw [← single d known]
  refine List.filter_congr fun e mem => ?_
  rw [Bool.eq_iff_iff, decide_eq_true_eq, beq_iff_eq]
  constructor
  · intro hot_
    by_contra other
    have := cool e (mem_upFrom_zero.1 mem) other
    omega
  · rintro rfl
    exact hot

theorem dieCooled_cools (d : Nat) : Happens (.dieCooled d []) (fun s => d < 4 ∧ (s.die d).stopped = true ∧ s.temp d < 90)
    (fun s => s.setDie d { s.die d with stopped := false }) := fun s cooled => by
  rw [exec_dieCooled]
  exact if_pos cooled

theorem dieCooled_ignores (d : Nat) (us : List UnitId) :
    Happens (.dieCooled d us) (fun s => 90 ≤ s.temp d ∨ (s.die d).stopped = false) (fun s => s) := fun s h => by
  rw [exec_dieCooled]
  refine if_neg ?_
  rintro ⟨-, stopped, cool⟩
  rcases h with hot | runs
  · omega
  · exact Bool.false_ne_true (runs.symm.trans stopped)

theorem expanderLinkDown_loses (n : Nat) : Happens (.expanderLinkDown n) (fun s => n ∉ s.mgmt.farDown)
    (fun s => { s with mgmt := { s.mgmt with farDown := s.mgmt.farDown ++ [n] } }) := fun s new => by
  have absent : s.mgmt.farDown.contains n = false := by simpa using new
  rw [exec_expanderLinkDown]
  simp only [execExpanderLinkDown, markIn, if_true, absent, Bool.false_eq_true, if_false]

/-- Settles O47: every request goes through `State.request`, every stage through `State.endStage`. -/
theorem managementEvents : Obligations.ManagementEvents := by
  intro nonce n watts vf d inf sig f us x idle say served req any cool hot done
  refine ⟨sensors_requests, fences_requests, attest_requests nonce, meter_requests nonce n x, meter_refuses nonce n,
    powercap_requests watts, powercap_unknown, powercap_refuses watts, debugAttach_requests vf inf, debugDetach_requests vf,
    deploy_requests nonce sig, deploy_refuses nonce sig, reset_requests, firmwareStage_stages f, firmwareStage_ignores f,
    fun s _ => exec_powerGood s, State.stage0_keeps, fun s h => ?one, fun s h => ?notOne, fun s h => ?two, fun s h => ?notTwo,
    fun s ⟨at_, powered, runs, late⟩ => ?late0, fun s ⟨at_, powered, runs, late⟩ => ?late1,
    fun s ⟨at_, powered, runs, late⟩ => ?late2, fun s => stageTimeout_ignores, fun s _ => exec_railFault n s, fun s ⟨exceeds, cool⟩ => ?exceeds,
    fun s ⟨under, cool⟩ => ?under, fun s ⟨under, known, hot, cool⟩ => ?hot, fun s known => ?overtemp, fun s => State.overheat_first,
    fun s => State.overheat_again, dieCooled_cools d, dieCooled_ignores d us, expanderLinkDown_loses n,
    fun s _ => exec_orderlyShutdown s⟩
  case one =>
    rw [exec_stage1, execStage1, State.endStage_one h]
  case notOne =>
    rw [exec_stage1, execStage1, State.endStage_idle us (State.not_stageEnds h)]
  case two =>
    rw [exec_stage2, execStage2, State.endStage_two h]
  case notTwo =>
    rw [exec_stage2, execStage2, State.endStage_idle us (State.not_stageEnds h)]
  case late0 => exact stageTimeout_stops (n := 0) (by rw [State.openStage, at_]; rfl) (by decide) powered runs late
  case late1 => exact stageTimeout_stops (n := 1) (by rw [State.openStage, at_]; rfl) (by decide) powered runs late
  case late2 => exact stageTimeout_stops (n := 2) (by rw [State.openStage, at_]; rfl) (by decide) powered runs late
  case exceeds => rw [thermalThrottle_eq, State.hotDies_none cool, List.foldl_nil, State.readsPower, if_pos exceeds]
  case under => rw [thermalThrottle_eq, State.hotDies_none cool, List.foldl_nil, State.readsPower, if_neg (Nat.not_lt.2 under)]
  case hot =>
    rw [thermalThrottle_eq, State.hotDies_one known hot cool, List.foldl_cons, List.foldl_nil, State.readsPower,
      if_neg (Nat.not_lt.2 under)]
  case overtemp =>
    rw [exec_dieOvertemp]
    exact if_pos known

end Sys2Proof.Machine
end

section
/-! PROOF. Gang switches and cuts (R413, R416, R418). -/

namespace Sys2Proof.Machine

/-! The colour and cut of a core (R418) -/

/-- The colour and the cut of every core are the same. -/
def State.sameCut (s t : State) : Prop := ∀ k, (t.core k).colour = (s.core k).colour ∧ (t.core k).cutid = (s.core k).cutid

theorem State.sameCut_refl (s : State) : s.sameCut s := fun _ => ⟨rfl, rfl⟩

theorem State.sameCut.trans {s t u : State} (h : s.sameCut t) (k : t.sameCut u) : s.sameCut u :=
  fun n => ⟨(k n).1.trans (h n).1, (k n).2.trans (h n).2⟩

theorem State.sameCut_of_cores {s t : State} (h : t.cores = s.cores) : s.sameCut t := fun k => by
  simp only [State.core, h, and_self]

theorem State.sameCut_setCore (s : State) {k : Nat} {x : Core} (colour : x.colour = (s.core k).colour)
    (cut : x.cutid = (s.core k).cutid) : s.sameCut (s.setCore k x) := fun n => by
  by_cases same : n = k
  · subst same
    rw [State.core_setCore]
    exact ⟨colour, cut⟩
  · rw [State.core_setCore_ne _ same]
    exact ⟨rfl, rfl⟩

theorem State.sameCut_countRecv (s : State) (k : Nat) (c : Bool) : s.sameCut (s.countRecv k c) := by
  cases c <;> exact s.sameCut_setCore rfl rfl

theorem State.sameCut_countMsg (s : State) (m : Msg) : s.sameCut (s.countMsg m) := by
  unfold State.countMsg
  split
  · exact s.sameCut_refl
  · exact s.sameCut_countRecv _ _

theorem State.sameCut_countSeed (s : State) (p : Packet) : s.sameCut (s.countSeed p) := by
  unfold State.countSeed
  split
  · exact s.sameCut_countRecv _ _
  · exact s.sameCut_refl

theorem State.sameCut_dropOne (s : State) (p : Packet) : s.sameCut (s.dropOne p).2 := by
  cases p with
  | msg m => exact s.sameCut_countMsg m
  | whisk m =>
    simp only [State.dropOne]
    split
    · exact s.sameCut_refl
    · exact (State.sameCut_of_cores (State.setCtx_cores ..)).trans (State.sameCut_countRecv _ _ _)
  | seedCtx => exact s.sameCut_countSeed _
  | seedPage => exact s.sameCut_countSeed _
  | seedEnd => exact s.sameCut_countSeed _
  | _ => exact s.sameCut_refl

theorem State.sameCut_dropAll (p : Part) (l : List Packet) (s : State) : s.sameCut (s.dropAll p l).2 := by
  induction l generalizing s with
  | nil => exact s.sameCut_refl
  | cons q l ih =>
    unfold State.dropAll
    split
    · exact (s.sameCut_dropOne q).trans (ih _)
    · exact ih s

/-- Steps that each keep colours and cuts keep them together. -/
theorem State.sameCut_foldl {α : Type} {f : State → α → State} (keeps : ∀ (s : State) (x : α), s.sameCut (f s x)) (l : List α)
    (s : State) : s.sameCut (l.foldl f s) := by
  induction l generalizing s with
  | nil => exact s.sameCut_refl
  | cons x l ih => exact (keeps s x).trans (ih _)

theorem State.sameCut_countEarly (s : State) (p : Part) : s.sameCut (s.countEarly p) := by
  refine State.sameCut.trans (t := { s with early := [] }) (State.sameCut_of_cores rfl) (State.sameCut_foldl (fun r e => ?_) _ _)
  simp only
  split
  · exact (r.sameCut_dropOne e.2.2).trans (State.sameCut_of_cores rfl)
  · exact State.sameCut_of_cores rfl

/-! The stop of a partition (R413, R418) -/

/-- Cores changed one after another, each once. -/
theorem State.core_foldl_setCore {f : Core → Core} {ks : List Nat} (once : ks.Nodup) {k : Nat} (mem : k ∈ ks) (s : State) :
    (ks.foldl (fun (r : State) j => r.setCore j (f (r.core j))) s).core k = f (s.core k) := by
  induction ks generalizing s with
  | nil => cases mem
  | cons j ks ih =>
    obtain ⟨fresh, once⟩ := List.nodup_cons.1 once
    rcases List.mem_cons.1 mem with rfl | mem
    · have rest : ∀ (l : List Nat) (r : State), k ∉ l →
          (l.foldl (fun (r : State) j => r.setCore j (f (r.core j))) r).core k = r.core k := by
        intro l
        induction l with
        | nil => exact fun _ _ => rfl
        | cons i l ih =>
          intro r out
          obtain ⟨other, out⟩ := not_or.1 (mt List.mem_cons.2 out)
          rw [List.foldl_cons, ih _ out, State.core_setCore_ne _ other]
      rw [List.foldl_cons, rest ks _ fresh, State.core_setCore]
    · have other : k ≠ j := fun e => fresh (e ▸ mem)
      rw [List.foldl_cons, ih once mem, State.core_setCore_ne _ other]

theorem Part.cores_nodup {p : Part} (once : p.groves.Nodup) : p.cores.Nodup := by
  have grove : ∀ {g k : Nat}, k ∈ upFrom (24 * g) 24 → k / 24 = g := fun {g k} mem => by
    rw [upFrom_eq_range', List.mem_range'_1] at mem
    omega
  refine List.nodup_flatten.2 ⟨fun l mem => ?_, ?_⟩
  · obtain ⟨g, -, rfl⟩ := List.mem_map.1 mem
    rw [upFrom_eq_range']
    exact List.nodup_range'
  · rw [List.pairwise_map]
    exact once.imp fun other k mem mem2 => other ((grove mem).symm.trans (grove mem2))

/-- CFLIP of a cut on every core of a partition (R418). -/
def State.flipsCores (s : State) (p : Part) (id : BitVec 32) : State :=
  p.cores.foldl (fun (r : State) k => r.setCore k { r.core k with colour := !(r.core k).colour, cutid := id }) s

theorem State.stopPart_cut {s : State} {n : Nat} {p : Part} {id : BitVec 32} (cut : p.cut = some id) :
    (s.flipsCores p id).sameCut (s.stopPart n p) := by
  have early := (s.flipsCores p id).sameCut_countEarly p
  have drop := State.sameCut_dropAll p (s.flipsCores p id).net ((s.flipsCores p id).countEarly p)
  refine (early.trans drop).trans (State.sameCut_of_cores ?_)
  simp only [State.stopPart, cut]
  rfl

theorem State.stopPart_flips {s : State} {n k : Nat} {p : Part} {id : BitVec 32} (cut : p.cut = some id) (once : p.groves.Nodup)
    (mem : k ∈ p.cores) : ((s.stopPart n p).core k).colour = !(s.core k).colour ∧ ((s.stopPart n p).core k).cutid = id := by
  obtain ⟨colour, cutid⟩ := State.stopPart_cut (s := s) (n := n) cut k
  have flipped := State.core_foldl_setCore (f := fun x => { x with colour := !x.colour, cutid := id }) (Part.cores_nodup once) mem s
  rw [colour, cutid, State.flipsCores, flipped]
  exact ⟨rfl, rfl⟩

theorem State.stopPart_plain (s : State) (n : Nat) {p : Part} (cut : p.cut = none) :
    let r := (s.countEarly p).dropAll p s.net
    s.stopPart n p = { r.2 with net := r.2.net.filter (fun x => !(s.drops p x))
                                parts := tabSet n { p with phase := 2, drop := p.drop ++ r.1 } r.2.parts } := by
  simp only [State.stopPart, cut]

/-! The save of a partition (R413, R418) -/

theorem State.checkpoint_uncut {s : State} {n : Nat} (cut : (tabGet {} s.parts n).cut = none) : s.checkpoint n = s := by
  simp only [State.checkpoint, cut, true_or, or_true, if_true]

theorem State.savePart_same (s : State) (n : Nat) {p : Part} (cut : p.cut = none) :
    let r := s.clearPart p (s.saveSet p)
    s.savePart n p.vf p = { r with parts := tabSet n { p with
      phase := 3, last := p.vf, drop := [], saved := p.saved.filter (fun x => x.vf != p.vf) ++ [s.saveSet p] } r.parts } := by
  simp only [State.savePart, if_true]
  refine State.checkpoint_uncut ?_
  rw [tabGet_tabSet_same]
  exact cut

theorem State.savePart_other (s : State) (n : Nat) {next : Nat} {p : Part} (other : next ≠ p.vf) :
    let r := s.clearPart p (s.saveSet p)
    s.savePart n next p = ((({ r with parts := tabSet n { p with
      phase := 3, vf := next, last := p.vf, drop := []
      saved := p.saved.filter (fun x => x.vf != p.vf) ++ [s.saveSet p] } r.parts } : State).cleanse p).checkpoint n) := by
  simp only [State.savePart, if_neg other]

/-! The resumption of a partition (R416) -/

section Resume
variable {s : State} {n : Nat} {p : Part}

/-- The partition runs again, with what was saved of its function taken out. -/
def State.resumed (s : State) (n : Nat) (p : Part) : State :=
  { s with parts := tabSet n { p with
      phase := 0, time := 0, cut := none, closed := false, drop := [], saved := p.saved.filter (fun x => x.vf != p.vf) } s.parts }

theorem State.resumePart_nothing (part : tabFind s.parts n = some p) (place : List (Nat × Nat))
    (saved : p.saved.find? (fun x => x.vf == p.vf) = none) : s.resumePart n place = s.resumed n p := by
  simp only [State.resumePart, tabGet_of_tabFind part, saved]
  rfl

theorem State.resumePart_saved {v : SavedSet} (part : tabFind s.parts n = some p) (place : List (Nat × Nat))
    (saved : p.saved.find? (fun x => x.vf == p.vf) = some v) :
    let s2 := (place.foldl (fun (r : State) m => r.placeOn p m) ((s.resumed n p).putSet v).dropEnded).rehome
    s.resumePart n place = { s2 with net := v.drop ++ s2.net } := by
  simp only [State.resumePart, tabGet_of_tabFind part, saved]
  rfl

end Resume

/-! The events -/

section Events
variable {p t next : Nat} {cut : Option (BitVec 32)} {q : Part} {place : List (Nat × Nat)} {others : Int} {s : State}
  (part : tabFind s.parts p = some q)
include part

theorem exec_gangSwitchPost_part : exec (.gangSwitchPost p t cut) s = .next
    (if q.phase = 0 ∧ s.tick + 60000 ≤ t then
      { s with parts := tabSet p { q with phase := 1, time := t, cut := cut, closed := false } s.parts } else s) := by
  rw [exec_gangSwitchPost, apply_ite Host.Outcome.next]
  simp only [execGangSwitchPost, part]

theorem exec_gangSwitchStop_part :
    exec (.gangSwitchStop p) s = .next (if q.phase = 1 ∧ q.time ≤ s.tick then s.stopPart p q else s) := by
  rw [exec_gangSwitchStop, apply_ite Host.Outcome.next]
  simp only [execGangSwitchStop, part]

theorem exec_partitionSave_part :
    exec (.partitionSave p next) s = .next (if q.phase = 2 ∧ s.drained q = true then s.savePart p next q else s) := by
  rw [exec_partitionSave, apply_ite Host.Outcome.next]
  simp only [execPartitionSave, part]

theorem exec_partitionResume_part : exec (.partitionResume p place) s = .next
    (if q.phase = 3 ∧ q.cut = none ∧ s.placesRest q = true then s.resumePart p place else s) := by
  rw [exec_partitionResume, apply_ite Host.Outcome.next]
  simp only [execPartitionResume, part]

theorem exec_cutEvaluation_part : exec (.cutEvaluation p others) s = .next
    (if 2 ≤ q.phase ∧ q.cut ≠ none ∧ q.closed = false ∧ s.cutSum q + others = 0 then
      ({ s with parts := tabSet p { q with closed := true } s.parts } : State).checkpoint p else s) := by
  rw [exec_cutEvaluation, apply_ite Host.Outcome.next]
  simp only [execCutEvaluation, part, Bool.not_eq_true']

end Events

/-- Settles O44, one phase of the partition at a time. -/
theorem partitionEvents : Obligations.PartitionEvents := by
  intro p t next k cut id q place others part set
  refine ⟨fun s ⟨part, phase, ahead⟩ => ?posts, fun s ⟨part, late⟩ => ?keeps, fun s ⟨part, phase, due⟩ => ?stops,
    fun s ⟨part, phase, early⟩ => ?runs, fun s plain => s.stopPart_plain p plain,
    fun s cut once mem => State.stopPart_flips cut once mem, fun s ⟨part, phase, drained⟩ => ?saves,
    fun s ⟨part, phase, busy⟩ => ?drains, fun s same plain => same ▸ s.savePart_same p plain,
    fun s other _ => s.savePart_other p other, fun s ⟨part, phase, plain, rest⟩ => ?resumes, fun s ⟨part, phase, held⟩ => ?holds,
    fun s v part => ⟨State.resumePart_nothing part place, fun saved => ?returns⟩,
    fun s ⟨part, phase, cut, open_, zero⟩ => ?closes, fun s ⟨part, sum⟩ => ?counts⟩
  case posts => rw [exec_gangSwitchPost_part part, if_pos ⟨phase, ahead⟩]
  case keeps => rw [exec_gangSwitchPost_part part, if_neg (by omega)]
  case stops => rw [exec_gangSwitchStop_part part, if_pos ⟨phase, due⟩]
  case runs => rw [exec_gangSwitchStop_part part, if_neg (by omega)]
  case saves => rw [exec_partitionSave_part part, if_pos ⟨phase, drained⟩]
  case drains => rw [exec_partitionSave_part part, if_neg (by simp [busy])]
  case resumes => rw [exec_partitionResume_part part, if_pos ⟨phase, plain, rest⟩]
  case holds =>
    rw [exec_partitionResume_part part, if_neg]
    rintro ⟨-, plain, rest⟩
    rcases held with cut | busy
    · exact cut plain
    · exact Bool.false_ne_true (busy.symm.trans rest)
  case returns =>
    rw [State.resumePart_saved part place saved]
    exact ⟨rfl, rfl, rfl, rfl⟩
  case closes => rw [exec_cutEvaluation_part part, if_pos ⟨phase, cut, open_, zero⟩]
  case counts => rw [exec_cutEvaluation_part part, if_neg (fun ⟨_, _, _, zero⟩ => sum zero)]

end Sys2Proof.Machine
end

section
/-! PROOF. Lost packages and links (R366, R446, R455, R458 to R460). -/

namespace Sys2Proof.Machine

/-- Steps none of which changes the state change nothing. -/
theorem foldl_eq_self {α β : Type} {f : β → α → β} {b : β} {l : List α} (h : ∀ x ∈ l, f b x = b) : l.foldl f b = b := by
  induction l with
  | nil => rfl
  | cons x l ih =>
    obtain ⟨first, rest⟩ := List.forall_mem_cons.1 h
    rw [List.foldl_cons, first, ih rest]

/-! Heartbeats (R458) -/

/-- The heartbeats of package `p` that its neighbours have missed, once those of `qs` have missed one more. -/
def State.beatCounts (s : State) (p : Nat) (qs : List Nat) : Tab Nat :=
  (s.neighbours p).foldl
    (fun (t : Tab Nat) q => if qs.contains q then tabSet (512 * p + q) (tabGet 0 s.mgmt.hbMissed (512 * p + q) + 1) t else t) []

/-- The neighbours of package `p` that can report (R458). -/
def State.voters (s : State) (p : Nat) : List Nat := (s.neighbours p).filter (fun q => s.present q && !(s.mgmt.failed.contains q))

/-- The heartbeats counted, with the packages `lost` failed. -/
def State.beats (s : State) (counts : Tab Nat) (lost : List Nat) : State :=
  { s with mgmt := { s.mgmt with hbMissed := counts, failed := s.mgmt.failed ++ lost } }

/-- This package's heartbeat to each of its neighbours (R458). -/
def State.tellsNeighbours (s : State) : State :=
  (s.neighbours s.self).foldl (fun (r : State) q => r.sendPacket q (.heartbeat r.self)) s

/-- Package `p` is lost: every neighbour that can report has missed three heartbeats of it. -/
def State.judgesLost (s : State) (p : Nat) (qs : List Nat) : Bool :=
  p != s.self && !(s.mgmt.failed.contains p) && s.voters p != []
    && (s.voters p).all (fun q => decide (3 ≤ tabGet 0 (s.beatCounts p qs) (512 * p + q)))

theorem State.judgesLost_iff (s : State) (p : Nat) (qs : List Nat) : s.judgesLost p qs = true ↔
    (p ≠ s.self ∧ p ∉ s.mgmt.failed ∧ s.voters p ≠ [])
      ∧ ∀ q ∈ s.voters p, 3 ≤ tabGet 0 (s.beatCounts p qs) (512 * p + q) := by
  simp [State.judgesLost, and_assoc]

theorem heartbeat_one (p : Nat) (qs : List Nat) (s : State) : exec (.heartbeat [(p, qs)]) s = .next
    (if s.judgesLost p qs = true then (s.beats (s.beatCounts p qs) [p]).losePackage p else s.beats (s.beatCounts p qs) []).tellsNeighbours := by
  have late : ∀ q, ([(p, qs)].any fun m => m.1 == p && m.2.contains q) = qs.contains q := fun q => by simp
  have counts : ([(p, qs)].map fun m => (s.neighbours m.1).map fun q => (m.1, q)).flatten
      = (s.neighbours p).map (fun q => (p, q)) := List.append_nil _
  rw [exec_heartbeat]
  simp only [execHeartbeat, counts, List.foldl_map, late]
  change Host.Outcome.next (State.tellsNeighbours
    (([p].filter (fun p => s.judgesLost p qs)).foldl State.losePackage
      (s.beats (s.beatCounts p qs) ([p].filter (fun p => s.judgesLost p qs))))) = _
  by_cases lost : s.judgesLost p qs = true
  · rw [if_pos lost, List.filter_cons_of_pos (p := fun p => s.judgesLost p qs) lost]
    rfl
  · rw [if_neg lost, List.filter_cons_of_neg (p := fun p => s.judgesLost p qs) lost]
    rfl

/-! Recovery (R459, R460) -/

/-- What recovery does with one partition that spans the failed package. -/
def State.recovers (s : State) (p : Nat × Part) : State :=
  let q := tabGet {} s.parts p.1
  match q.ckpt with
  | some k => (s.rollBack p.1 q k).resumePart p.1 []
  | none => s

/-- The failed package `n` is lost, and fenced unless a standby takes its place. -/
def State.losesTo (s : State) (n : Nat) (standby : Option Nat) : State :=
  ({ s with mgmt := { s.mgmt with
      domain := if standby = some s.self then natW (s.mgmt.domain.toNat - 512 * s.self + 512 * n) else s.mgmt.domain
      fencedPkgs := s.mgmt.fencedPkgs.filter (· != n) ++ (if standby.isSome then [] else [n])
      failed := s.mgmt.failed.filter (· != n)
      hbMissed := s.mgmt.hbMissed.filter (fun k => k.1 / 512 != n) } } : State).losePackage n

theorem domainRecovery_recovers (n : Nat) (standby : Option Nat) (s : State) : exec (.domainRecovery n standby) s = .next
    ((s.parts.filter (fun q => s.spans q.1 n)).foldl State.recovers (s.losesTo n standby)) := by
  have fence : (if standby.isSome = true then s.mgmt.fencedPkgs.filter (· != n) else s.mgmt.fencedPkgs.filter (· != n) ++ [n])
      = s.mgmt.fencedPkgs.filter (· != n) ++ (if standby.isSome = true then [] else [n]) := by
    cases standby with
    | none => rfl
    | some _ => exact (List.append_nil _).symm
  rw [exec_domainRecovery]
  simp only [execDomainRecovery, fence]
  rfl

theorem State.recovers_kept {s : State} {p : Nat} {x : Part} {k : Ckpt} (y : Part) (part : tabGet {} s.parts p = x)
    (cut : x.ckpt = some k) : s.recovers (p, y) = (s.rollBack p x k).resumePart p [] := by
  simp only [State.recovers, part, cut]

theorem State.recovers_none {s : State} {q : Nat × Part} (cut : (tabGet {} s.parts q.1).ckpt = none) : s.recovers q = s := by
  simp only [State.recovers, cut]

/-! What a roll-back leaves of memory (R460) -/

theorem State.leavePlace_mem (s : State) (c : Nat) (gen : BitVec 16) : (s.leavePlace c gen).mem = s.mem := by
  simp only [State.leavePlace]
  split <;> rfl

theorem State.emptyPlace_mem (s : State) (c : Nat) : (s.emptyPlace c).mem = s.mem := State.leavePlace_mem ..

/-- Steps that each keep memory keep it together. -/
theorem State.foldl_mem {α : Type} {f : State → α → State} (keeps : ∀ (s : State) (x : α), (f s x).mem = s.mem) (l : List α) (s : State) :
    (l.foldl f s).mem = s.mem := by
  induction l generalizing s with
  | nil => rfl
  | cons x l ih => rw [List.foldl_cons, ih, keeps]

section RollBack
variable {s : State} {p : Nat} {x : Part} {k : Ckpt} (slots : k.wslots = []) (launches : k.launches = [])
include slots launches

theorem State.rollBack_part : tabFind (s.rollBack p x k).parts p =
    some { x with phase := 3, vf := k.vf, cut := none, closed := false, time := 0, saved := k.sets, drop := k.drop } := by
  simp only [State.rollBack, slots, launches, List.foldl_nil]
  exact tabFind_tabSet_same ..

theorem State.rollBack_mem : (s.rollBack p x k).mem =
    k.near.foldl (fun m c => memPut c.1 c.2 m) (s.mem.filter (fun c => !(k.pages.contains (c.1 / 2 ^ 21)))) := by
  simp only [State.rollBack, slots, launches, List.foldl_nil]
  simp only [State.dropHeld]
  rw [State.foldl_mem (fun _ _ => State.setGrove_mem ..), State.foldl_mem (fun _ _ => State.setCore_mem ..),
    State.foldl_mem (fun r c => (State.setBind_mem ..).trans (r.emptyPlace_mem c))]
  rfl

end RollBack

/-! Routes (R445, R446) -/

theorem State.firstHop_self (s : State) : s.firstHop s.self = none := by
  have nowhere : ∀ c n : Nat, 0 < n → (c + n - c % n) % n = 0 := fun c n pos => by
    have split := Nat.div_add_mod c n
    rw [show c + n - c % n = n * (c / n + 1) by rw [Nat.mul_succ]; omega]
    exact Nat.mul_mod_right ..
  rw [State.firstHop, List.findSome?_eq_none_iff]
  exact fun k _ => if_pos (nowhere _ _ (Nat.succ_pos _))

theorem State.hasRoute_absent {s : State} {q : Nat} (absent : s.present q = false) : s.hasRoute q = false := by
  rw [State.hasRoute, absent, Bool.false_and]

theorem State.hasRoute_self {s : State} (here : s.present s.self = true) : s.hasRoute s.self = true := by
  rw [State.hasRoute, here, State.firstHop_self]
  rfl

theorem State.hasRoute_hop {s : State} {q j : Nat} {b : Bool} (there : s.present q = true) (hop : s.firstHop q = some (j, b)) :
    s.hasRoute q = true ↔
      s.portUp (4 * j + 2 * b2n b) = true ∨ s.portUp (4 * j + 2 * b2n b + 1) = true ∨ s.detour j = true := by
  rw [State.hasRoute, there, hop, Bool.true_and, Option.all_some, Bool.or_eq_true, State.dirUp, Bool.or_eq_true, or_assoc]

/-- A stream of which a lost link says nothing: it is not under way, or the package is still reached (R446, R455). -/
abbrev State.moveStays (s : State) (g c : Nat) : Prop :=
  (s.stream g c).st ≠ 5 ∧ (s.stream g c).migp = false ∧ (s.stream g c).arriving = false
    ∨ handlePkg (s.stream g c).newh.toNat = s.self ∨ s.hasRoute (handlePkg (s.stream g c).newh.toNat) = true

theorem State.abortMoves_idle {s : State} (stays : ∀ g ∈ s.groves, ∀ t ∈ g.2.streams, s.moveStays g.1 t.1) :
    s.abortMoves (fun q => !(s.hasRoute q)) = s := by
  refine foldl_eq_self fun g grove => foldl_eq_self fun t stream => ?_
  rcases stays g grove t stream with ⟨there, put, came⟩ | reached
  · simp only [there, put, came, if_false, and_false, Bool.false_eq_true, ite_self]
  · exact if_pos (reached.imp_right fun route => by simp only [route, Bool.not_true, Bool.not_false])

/-- Settles O45: one package's heartbeats, the recovery of the partitions it spanned, and the routes. -/
theorem packageLoss : Obligations.PackageLoss := by
  intro p n qs x k standby s1 counts beat tell voters able hit lose down
  refine ⟨fun s ⟨able, missed⟩ => ?lost, fun s kept => ?kept, fun s _ => exec_heartbeat [] s, fun s ⟨lost, none_⟩ => ?none,
    fun y s ⟨lost, one, part, cut⟩ => ?rolled, fun s slots launches => ⟨State.rollBack_part slots launches,
      State.rollBack_mem slots launches⟩, fun s _ => exec_linkFailure n s, fun s => State.abortMoves_idle,
    fun s q => ⟨State.hasRoute_absent, fun own here => own ▸ State.hasRoute_self (own ▸ here), fun j b => State.hasRoute_hop⟩⟩
  case lost =>
    rw [heartbeat_one, if_pos ((s.judgesLost_iff p qs).2 ⟨able, missed⟩)]
    rfl
  case kept =>
    have spared : ¬s.judgesLost p qs = true := by
      rw [State.judgesLost_iff]
      rintro ⟨judged, missed⟩
      rcases kept with unable | ⟨q, voter, few⟩
      · exact unable judged
      · exact absurd (missed q voter) (Nat.not_le.2 few)
    rw [heartbeat_one, if_neg spared]
    rfl
  case none =>
    subst lost
    rw [domainRecovery_recovers]
    exact congrArg Host.Outcome.next (foldl_eq_self fun q mem => State.recovers_none (none_ q mem))
  case rolled =>
    subst lost
    rw [domainRecovery_recovers]
    change Host.Outcome.next ((hit s).foldl _ _) = _
    rw [one]
    exact congrArg Host.Outcome.next (State.recovers_kept y part cut)

end Sys2Proof.Machine
end

section
/-! PROOF. Atomic operations (R303, R304, R307, R308, R310). -/

namespace Sys2Proof.Machine

/-! Tagged addresses (R303) -/

section Tagged
variable {s : State} {a : Word} {n : Nat} {acc : Acc}

theorem State.tagged_high (high : 2 ≤ tagOf a) : s.tagged a n acc = .trap { cause := cPROT, tval := a, acc := accCode acc } := by
  rw [State.tagged, if_pos high]

theorem State.tagged_checked {y : Why} (low : tagOf a < 2) (bad : s.checkAddr (tagOf a) (untag a) n acc = some y) :
    s.tagged a n acc = .trap { y with tval := a } := by
  rw [State.tagged, if_neg (Nat.not_le.2 low), bad]

theorem State.tagged_scratchpad {l : Loc} (own : tagOf a = 1) (space : s.checkSpace 1 (untag a) acc = none)
    (align : (untag a).toNat % n = 0) (place : s.scrLoc s.cur (untag a).toNat n = some l) : s.tagged a n acc = .at_ l 0 s := by
  have ok : s.checkAddr (tagOf a) (untag a) n acc = none := by
    rw [own]
    exact State.checkAddr_ok space align
  rw [State.tagged, if_neg (by omega), ok]
  simp only [own, if_true, place]

end Tagged

/-! The atomics as issued and answered (R304, R308, R310) -/

/-- The address of an ORD, AMO or AMOX form of `m` bytes (R304). -/
def State.atomAddr (s : State) (a : BitVec 5) (m : Nat) : Word :=
  s.regs.xAt a.toNat + (if s.regs.rc = 0 then 0 else natW (s.regs.ri * m))

theorem State.ordAddr_plain {s : State} (a : BitVec 5) (m : Nat) (start : s.unit = {}) : s.ordAddr a m = s.atomAddr a m := by
  rw [State.ordAddr, State.rx_plain _ _ start]
  rfl

/-- The low `m` bytes of a register. -/
def lowWord (m : Nat) (v : Word) : Word := natW (v.toNat % 2 ^ (8 * m))

/-- An access waits for its order code, for a parked entry of the context, or for an earlier access to its place (R281, R286, R306). -/
def State.mustWait (s : State) (o : BitVec 2) (adr : Word) (m : Nat) (p : Loc) : Bool :=
  !(s.orderOk o) || s.tagOverlap adr m || s.ownWaits p

theorem State.mustWait_iff {s : State} {o : BitVec 2} {adr : Word} {m : Nat} {p : Loc} : s.mustWait o adr m p = true ↔
    s.orderOk o = false ∨ s.tagOverlap adr m = true ∨ s.ownWaits p = true := by
  rw [State.mustWait, Bool.or_eq_true, Bool.or_eq_true, Bool.not_eq_true', or_assoc]

theorem State.not_mustWait {s : State} {o : BitVec 2} {adr : Word} {m : Nat} {p : Loc} (order : s.orderOk o = true)
    (ring : s.tagOverlap adr m = false) (own : s.ownWaits p = false) : s.mustWait o adr m p = false := by
  rw [State.mustWait, order, ring, own]
  rfl

/-- What an atomic of `m` bytes answers as it is issued. -/
def State.issuesAtomic (s : State) (op : AtomOp) (d a b : BitVec 5) (m : Nat) (o : BitVec 2) : Res :=
  let adr := s.atomAddr a m
  match s.tagged adr m .atomic with
  | .trap y => .trap y
  | .fault k => .trap (pageTrap adr .atomic k)
  | .at_ p leaf s1 =>
    if s.hostAtom op p m then .trap { cause := cHOSTATOM, tval := adr, acc := 2 }
    else if s.mustWait o adr m p then .wait
    else s1.send (.atom op p m (lowWord m (s.regs.xAt b.toNat)) (lowWord m (s.regs.xAt d.toNat)) adr (p.uc leaf))

section Atomic
variable {i : Instr} {op : AtomOp} {d a b : BitVec 5} {m : Nat} {o : BitVec 2} {p : Loc} {lf : Nat} {s1 : State}
  (e : ∀ s, exec i s = atomic (cSig i) op d a b m o s)
include e

theorem atomic_means : Means i (fun s => s.issuesAtomic op d a b m o) :=
  .of_issue e fun s h => by
    obtain ⟨start, none_, -⟩ := State.ready_parts h
    rw [State.whenDone_start _ _ none_, State.ordAddr_plain _ _ start, State.rx_plain _ _ start, State.rx_plain _ _ start,
      fld_zero, fld_zero]
    rfl

theorem atomic_traps (y : Why) :
    TrapIf i (cSig i) (fun s => s.tagged (s.atomAddr a m) m .atomic = .trap y) (fun _ => y) :=
  (atomic_means e).trapIf fun s bad => by simp only [State.issuesAtomic, bad]

theorem atomic_hostAtom :
    TrapIf i (cSig i) (fun s => s.tagged (s.atomAddr a m) m .atomic = .at_ p lf s1 ∧ s.hostAtom op p m = true)
      (fun s => { cause := cHOSTATOM, tval := s.atomAddr a m, acc := 2 }) :=
  (atomic_means e).trapIf fun s ⟨place, host⟩ => by simp only [State.issuesAtomic, place, host, if_true]

theorem atomic_waits : WaitIf i (cSig i) (fun s => s.tagged (s.atomAddr a m) m .atomic = .at_ p lf s1 ∧ s.hostAtom op p m = false
    ∧ (s.orderOk o = false ∨ s.tagOverlap (s.atomAddr a m) m = true ∨ s.ownWaits p = true)) :=
  (atomic_means e).waitIf fun s ⟨place, device, busy⟩ => by
    simp only [State.issuesAtomic, place, device, Bool.false_eq_true, if_false, State.mustWait_iff.2 busy, if_true]

theorem atomic_sends : SendIf i (cSig i) (fun s => s.tagged (s.atomAddr a m) m .atomic = .at_ p lf s1 ∧ s.hostAtom op p m = false
      ∧ s.orderOk o = true ∧ s.tagOverlap (s.atomAddr a m) m = false ∧ s.ownWaits p = false) (fun _ => s1)
    (fun s => .atom op p m (lowWord m (s.regs.xAt b.toNat)) (lowWord m (s.regs.xAt d.toNat)) (s.atomAddr a m) (p.uc lf)) :=
  (atomic_means e).sendIf fun s ⟨place, device, order, ring, own⟩ => by
    simp only [State.issuesAtomic, place, device, Bool.false_eq_true, if_false, State.not_mustWait order ring own]

theorem atomic_answered (dst : ⟨0, d.toNat⟩ ∈ (cSig i).dsts) :
    AnswerDone i (cSig i) (fun s v _ _ fl => (s.writeX d v).orFlags fl) := fun s v jv js fl r hw => by
  have free := State.unpend_unbound hw dst
  rw [e]
  refine issue_answered_done r ((State.whenDone_answered _ _ r).trans ?_) (State.answered_parts r).1
  rw [State.putX_plain _ free]
  rfl

/-- Every atomic meets the clauses of the statement. -/
theorem atomic_forms (dst : ⟨0, d.toNat⟩ ∈ (cSig i).dsts) :
    (∀ y, TrapIf i (cSig i) (fun s => s.tagged (s.atomAddr a m) m .atomic = .trap y) (fun _ => y))
    ∧ (∀ p lf s1, TrapIf i (cSig i) (fun s => s.tagged (s.atomAddr a m) m .atomic = .at_ p lf s1 ∧ s.hostAtom op p m = true)
        (fun s => { cause := cHOSTATOM, tval := s.atomAddr a m, acc := 2 }))
    ∧ (∀ p lf s1, WaitIf i (cSig i) (fun s => s.tagged (s.atomAddr a m) m .atomic = .at_ p lf s1 ∧ s.hostAtom op p m = false
        ∧ (s.orderOk o = false ∨ s.tagOverlap (s.atomAddr a m) m = true ∨ s.ownWaits p = true)))
    ∧ (∀ p lf s1, SendIf i (cSig i) (fun s => s.tagged (s.atomAddr a m) m .atomic = .at_ p lf s1 ∧ s.hostAtom op p m = false
          ∧ s.orderOk o = true ∧ s.tagOverlap (s.atomAddr a m) m = false ∧ s.ownWaits p = false) (fun _ => s1)
        (fun s => .atom op p m (lowWord m (s.regs.xAt b.toNat)) (lowWord m (s.regs.xAt d.toNat)) (s.atomAddr a m) (p.uc lf)))
    ∧ AnswerDone i (cSig i) (fun s v _ _ fl => (s.writeX d v).orFlags fl) :=
  ⟨atomic_traps e, fun _ _ _ => atomic_hostAtom e, fun _ _ _ => atomic_waits e, fun _ _ _ => atomic_sends e, atomic_answered e dst⟩

end Atomic

/-- Settles O30: every form is `atomic` with its operation and size. -/
theorem atomicForms : Obligations.AtomicForms := by
  refine ⟨fun s a n acc => ⟨State.tagged_high, fun y low bad => State.tagged_checked low (State.checkAddr_space bad),
    fun low space align => State.tagged_checked low (State.checkAddr_misaligned space align),
    fun l => State.tagged_scratchpad⟩, fun sm l d a b z o c => ?_⟩
  have dst : ⟨0, d.toNat⟩ ∈ [(⟨0, d.toNat⟩ : Dst)] := List.mem_singleton.2 rfl
  exact ⟨atomic_forms (exec_amoSwap sm l d a b z o c) dst, atomic_forms (exec_amoAdd sm l d a b z o c) dst,
    atomic_forms (exec_amoAnd sm l d a b z o c) dst, atomic_forms (exec_amoOr sm l d a b z o c) dst,
    atomic_forms (exec_amoXor sm l d a b z o c) dst, atomic_forms (exec_amoMax sm l d a b z o c) dst,
    atomic_forms (exec_amoMin sm l d a b z o c) dst, atomic_forms (exec_amoMaxu sm l d a b z o c) dst,
    atomic_forms (exec_amoxMinu sm l d a b z o c) dst, atomic_forms (exec_amoxCas sm l d a b z o c) dst,
    atomic_forms (exec_amoxFadd sm l d a b o c) dst, atomic_forms (exec_amoxFmin sm l d a b o c) dst,
    atomic_forms (exec_amoxFmax sm l d a b o c) dst⟩

end Sys2Proof.Machine
end

section
/-! PROOF. Ordered and waiting forms (R306, R311 to R313). -/

namespace Sys2Proof.Machine

/-- A word that is ready retires with the effects `f`, which leave its unit as it is where `p` holds. -/
theorem Means.doneIf_unit {i : Instr} {m : State → Res} {p : State → Prop} {f : State → State} (h : Means i m)
    (eq : ∀ s, p s → m s = .done (f s)) (unit : ∀ s, p s → (f s).unit = s.unit) : DoneIf i (cSig i) p f := fun s r hp => by
  obtain ⟨start, none_, -⟩ := State.ready_parts r
  rw [h s r, eq s hp, finish_done _ ((unit s hp).trans start) (.inl none_)]

/-- A place found for a tagged address leaves the unit and the contexts as they are. -/
theorem State.tagged_same {s s1 : State} {a : Word} {n : Nat} {acc : Acc} {p : Loc} {lf : Nat}
    (place : s.tagged a n acc = .at_ p lf s1) : s.sameUnit s1 := by
  simp only [State.tagged] at place
  split at place
  case isTrue => cases place
  case isFalse =>
    split at place
    · cases place
    · split at place
      · split at place <;> cases place
        exact s.sameUnit_refl
      · split at place
        · cases place
        · cases place
        · exact State.reach_same place

/-! LDO (R306) -/

/-- What LDO of `m` bytes answers. -/
def State.ordersLoad (s : State) (d a : BitVec 5) (m : Nat) (e : Bool) (o : BitVec 2) : Res :=
  let adr := s.atomAddr a m
  match s.tagged adr m .load with
  | .trap y => .trap y
  | .fault k => .trap (pageTrap adr .load k)
  | .at_ p leaf s1 =>
    if s.mustWait o adr m p then .wait
    else
      match (if tagOf adr = 0 then s1.countBytes s.me.vf adr.toNat m else some s1) with
      | none => .wait
      | some s2 =>
        if p.ownOf s.cur && (s.poisonedLoc p m).isNone then
          .done (s2.addProd 0 d.toNat (o == 1) (.value (loadBits m (!e) (s.readFor s.cur s.me.nseq p m))))
        else .done (s2.addProd 0 d.toNat (o == 1) (.load p m (!e) adr) (p.uc leaf))

section Ldo
variable {sm l e : Bool} {d a : BitVec 5} {z o c : BitVec 2} {p : Loc} {lf : Nat} {s1 s2 : State}

/-- The access may be made now (R281, R286, R306). -/
abbrev State.mayPass (s : State) (o : BitVec 2) (adr : Word) (m : Nat) (p : Loc) : Prop :=
  s.orderOk o = true ∧ s.tagOverlap adr m = false ∧ s.ownWaits p = false

theorem State.mayPass_goes {s : State} {adr : Word} {m : Nat} (h : s.mayPass o adr m p) : ¬s.mustWait o adr m p = true := by
  obtain ⟨order, ring, own⟩ := h
  rw [State.not_mustWait order ring own]
  exact Bool.false_ne_true

theorem ldo_means : Means (.ldo sm l d a z e o c) (fun s => s.ordersLoad d a (2 ^ z.toNat) e o) :=
  .of_issue (exec_ldo sm l d a z e o c) fun s h => by
    simp only [State.ordAddr_plain a _ (State.ready_parts h).1]
    rfl

theorem ldo_traps (y : Why) : TrapIf (.ldo sm l d a z e o c) (cSig (.ldo sm l d a z e o c))
    (fun s => s.tagged (s.atomAddr a (2 ^ z.toNat)) (2 ^ z.toNat) .load = .trap y) (fun _ => y) :=
  ldo_means.trapIf fun s bad => by simp only [State.ordersLoad, bad]

theorem ldo_waits : WaitIf (.ldo sm l d a z e o c) (cSig (.ldo sm l d a z e o c))
    (fun s => s.tagged (s.atomAddr a (2 ^ z.toNat)) (2 ^ z.toNat) .load = .at_ p lf s1
      ∧ (s.orderOk o = false ∨ s.tagOverlap (s.atomAddr a (2 ^ z.toNat)) (2 ^ z.toNat) = true ∨ s.ownWaits p = true)) :=
  ldo_means.waitIf fun s ⟨place, busy⟩ => by simp only [State.ordersLoad, place, State.mustWait_iff.2 busy, if_true]

theorem ldo_reads (q : Nat) : DoneIf (.ldo sm l d a z e o c) (cSig (.ldo sm l d a z e o c))
    (fun s => tagOf (s.atomAddr a (2 ^ z.toNat)) = 1
      ∧ s.tagged (s.atomAddr a (2 ^ z.toNat)) (2 ^ z.toNat) .load = .at_ (.scr (coreOf s.cur) q) 0 s
      ∧ s.mayPass o (s.atomAddr a (2 ^ z.toNat)) (2 ^ z.toNat) (.scr (coreOf s.cur) q)
      ∧ s.poisonedLoc (.scr (coreOf s.cur) q) (2 ^ z.toNat) = none)
    (fun s => s.addProd 0 d.toNat (o == 1)
      (.value (loadBits (2 ^ z.toNat) (!e) (s.readFor s.cur s.me.nseq (.scr (coreOf s.cur) q) (2 ^ z.toNat))))) :=
  ldo_means.doneIf (fun s ⟨own, place, free, clean⟩ => by
    have here : (Loc.scr (coreOf s.cur) q).ownOf s.cur = true := beq_self_eq_true _
    simp only [State.ordersLoad, place, if_neg (State.mayPass_goes free), own, one_ne_zero, if_false, here, clean,
      Option.isNone_none, Bool.and_self, if_true]) fun _ => rfl

theorem ldo_loads : DoneIf (.ldo sm l d a z e o c) (cSig (.ldo sm l d a z e o c))
    (fun s => s.tagged (s.atomAddr a (2 ^ z.toNat)) (2 ^ z.toNat) .load = .at_ p lf s1
      ∧ (p.ownOf s.cur = false ∨ s.poisonedLoc p (2 ^ z.toNat) ≠ none)
      ∧ s.mayPass o (s.atomAddr a (2 ^ z.toNat)) (2 ^ z.toNat) p
      ∧ (if tagOf (s.atomAddr a (2 ^ z.toNat)) = 0 then s1.countBytes s.me.vf (s.atomAddr a (2 ^ z.toNat)).toNat (2 ^ z.toNat)
          else some s1) = some s2)
    (fun s => s2.addProd 0 d.toNat (o == 1) (.load p (2 ^ z.toNat) (!e) (s.atomAddr a (2 ^ z.toNat))) (p.uc lf)) :=
  ldo_means.doneIf_unit (fun s ⟨place, far, free, counted⟩ => by
    have later : ¬(p.ownOf s.cur && (s.poisonedLoc p (2 ^ z.toNat)).isNone) = true := by
      rw [Bool.and_eq_true, Option.isNone_iff_eq_none]
      rintro ⟨own, clean⟩
      exact far.elim (fun away => Bool.false_ne_true (away.symm.trans own)) (fun bad => bad clean)
    simp only [State.ordersLoad, place, if_neg (State.mayPass_goes free), counted, if_neg later])
    fun s ⟨place, _, _, counted⟩ => by
      have same : s1.sameUnit s2 := by
        split at counted
        · exact State.countBytes_same counted
        · exact Option.some.inj counted ▸ s1.sameUnit_refl
      exact (State.sameUnit_trans (State.tagged_same place) same).1

end Ldo

/-! STO (R306) -/

/-- The state in which STO of `m` bytes has taken its copy for a DUAL task (R206). -/
def State.copiesStore (s : State) (a b : BitVec 5) (m : Nat) (p : Loc) (s1 : State) : State :=
  if tagOf (s.atomAddr a m) = 0 then
    (s1.sign (s.atomAddr a m) (bytesOf m (s.regs.xAt b.toNat).toNat)).signOld (s.atomAddr a m) p m
  else s1

theorem State.copiesStore_unit (s : State) (a b : BitVec 5) (m : Nat) (p : Loc) (s1 : State) :
    (s.copiesStore a b m p s1).unit = s1.unit := by
  unfold State.copiesStore
  split
  · rw [State.signOld_unit, State.sign_unit]
  · rfl

/-- What STO of `m` bytes answers as it is issued. -/
def State.ordersStore (s : State) (a b : BitVec 5) (m : Nat) (o : BitVec 2) : Res :=
  let adr := s.atomAddr a m
  match s.tagged adr m .store with
  | .trap y => .trap y
  | .fault k => .trap (pageTrap adr .store k)
  | .at_ p leaf s1 =>
    if s.mustWait o adr m p then .wait
    else if s.inShadow ∧ tagOf adr = 0 then .done (s.copiesStore a b m p s1)
    else (s.copiesStore a b m p s1).send (.atom .store p m (lowWord m (s.regs.xAt b.toNat)) 0 adr (p.uc leaf))

section Sto
variable {sm l : Bool} {a b : BitVec 5} {z o c : BitVec 2} {p : Loc} {lf : Nat} {s1 : State}

theorem sto_means : Means (.sto sm l a b z o c) (fun s => s.ordersStore a b (2 ^ z.toNat) o) :=
  .of_issue (exec_sto sm l a b z o c) fun s h => by
    obtain ⟨start, none_, -⟩ := State.ready_parts h
    simp only [State.whenDone_start _ _ none_, State.ordAddr_plain a _ start, State.rx_plain _ _ start, fld_zero]
    rfl

theorem sto_traps (y : Why) : TrapIf (.sto sm l a b z o c) (cSig (.sto sm l a b z o c))
    (fun s => s.tagged (s.atomAddr a (2 ^ z.toNat)) (2 ^ z.toNat) .store = .trap y) (fun _ => y) :=
  sto_means.trapIf fun s bad => by simp only [State.ordersStore, bad]

theorem sto_waits : WaitIf (.sto sm l a b z o c) (cSig (.sto sm l a b z o c))
    (fun s => s.tagged (s.atomAddr a (2 ^ z.toNat)) (2 ^ z.toNat) .store = .at_ p lf s1
      ∧ (s.orderOk o = false ∨ s.tagOverlap (s.atomAddr a (2 ^ z.toNat)) (2 ^ z.toNat) = true ∨ s.ownWaits p = true)) :=
  sto_means.waitIf fun s ⟨place, busy⟩ => by simp only [State.ordersStore, place, State.mustWait_iff.2 busy, if_true]

theorem sto_sends : SendIf (.sto sm l a b z o c) (cSig (.sto sm l a b z o c))
    (fun s => s.tagged (s.atomAddr a (2 ^ z.toNat)) (2 ^ z.toNat) .store = .at_ p lf s1
      ∧ s.mayPass o (s.atomAddr a (2 ^ z.toNat)) (2 ^ z.toNat) p
      ∧ ¬(s.inShadow = true ∧ tagOf (s.atomAddr a (2 ^ z.toNat)) = 0))
    (fun s => s.copiesStore a b (2 ^ z.toNat) p s1)
    (fun s => .atom .store p (2 ^ z.toNat) (lowWord (2 ^ z.toNat) (s.regs.xAt b.toNat)) 0 (s.atomAddr a (2 ^ z.toNat)) (p.uc lf)) :=
  sto_means.sendIf fun s ⟨place, free, real⟩ => by
    simp only [State.ordersStore, place, if_neg (State.mayPass_goes free), if_neg real]

theorem sto_shadow : DoneIf (.sto sm l a b z o c) (cSig (.sto sm l a b z o c))
    (fun s => s.tagged (s.atomAddr a (2 ^ z.toNat)) (2 ^ z.toNat) .store = .at_ p lf s1
      ∧ s.mayPass o (s.atomAddr a (2 ^ z.toNat)) (2 ^ z.toNat) p
      ∧ s.inShadow = true ∧ tagOf (s.atomAddr a (2 ^ z.toNat)) = 0)
    (fun s => s.copiesStore a b (2 ^ z.toNat) p s1) :=
  sto_means.doneIf_unit (fun s ⟨place, free, shadow⟩ => by
    simp only [State.ordersStore, place, if_neg (State.mayPass_goes free), if_pos shadow])
    fun s ⟨place, _⟩ => (s.copiesStore_unit a b _ p s1).trans (State.tagged_same place).1

theorem sto_answered : AnswerDone (.sto sm l a b z o c) (cSig (.sto sm l a b z o c)) (fun s _ _ _ _ => s) :=
  fun s v jv js fl r _ => by
    rw [exec_sto]
    exact issue_answered_done r (State.whenDone_answered _ _ r) (State.answered_parts r).1

end Sto

/-! FENCE and WAITC (R311, R312) -/

section Fence
variable {sm l : Bool} {o c : BitVec 2}

/-- What FENCE of code `o` waits for has come (R311). -/
abbrev State.fenced (s : State) (o : BitVec 2) : Prop :=
  s.acquiring = false ∧ (o.getLsbD 0 = true → s.loadsDone = true)
    ∧ (o.getLsbD 1 = true → s.storesDone = true ∧ s.loadsDone = true)

theorem State.fenced_iff (s : State) (o : BitVec 2) : s.fenced o ↔
    ¬(s.acquiring || (o.getLsbD 0 && !s.loadsDone) || (o.getLsbD 1 && !(s.storesDone && s.loadsDone))) = true := by
  simp [State.fenced, and_assoc]

theorem fence_means : Means (.fence sm l o c) (fun s =>
    if s.acquiring || (o.getLsbD 0 && !s.loadsDone) || (o.getLsbD 1 && !(s.storesDone && s.loadsDone)) then .wait else .done s) :=
  .of_issue (exec_fence sm l o c) fun _ _ => rfl

theorem fence_done : DoneIf (.fence sm l o c) (cSig (.fence sm l o c)) (fun s => s.fenced o) (fun s => s) :=
  fence_means.doneIf (fun s clear => if_neg ((s.fenced_iff o).1 clear)) fun _ => rfl

theorem fence_waits : WaitIf (.fence sm l o c) (cSig (.fence sm l o c)) (fun s => ¬s.fenced o) :=
  fence_means.waitIf fun s open_ => if_pos (not_not.1 (mt (s.fenced_iff o).2 open_))

/-- What WAITC of field `c` waits for has come (R312). -/
abbrev State.postedDone (s : State) (c : BitVec 2) : Prop :=
  s.ringOf s.cur = [] ∧ (c.getLsbD 0 = true → s.me.pca = 0) ∧ (c.getLsbD 1 = true → s.me.pcb = 0)

theorem State.postedDone_iff (s : State) (c : BitVec 2) : s.postedDone c ↔ (s.ringOf s.cur == [] && s.wField c) = true := by
  simp [State.postedDone, State.wField, imp_iff_not_or]

theorem waitc_means : Means (.waitc sm l c) (fun s => if s.ringOf s.cur == [] && s.wField c then .done s else .wait) :=
  .of_issue (exec_waitc sm l c) fun _ _ => rfl

theorem waitc_done : DoneIf (.waitc sm l c) (cSig (.waitc sm l c)) (fun s => s.postedDone c) (fun s => s) :=
  waitc_means.doneIf (fun s clear => if_pos ((s.postedDone_iff c).1 clear)) fun _ => rfl

theorem waitc_waits : WaitIf (.waitc sm l c) (cSig (.waitc sm l c))
    (fun s => s.ringOf s.cur ≠ [] ∨ (c.getLsbD 0 = true ∧ s.me.pca ≠ 0) ∨ (c.getLsbD 1 = true ∧ s.me.pcb ≠ 0)) :=
  waitc_means.waitIf fun s open_ => if_neg (mt (s.postedDone_iff c).2 (by
    rintro ⟨ring, a, b⟩
    rcases open_ with parked | ⟨one, posted⟩ | ⟨two, posted⟩
    · exact parked ring
    · exact posted (a one)
    · exact posted (b two)))

end Fence

/-! WAITA (R313) -/

/-- The place lies in the host tier (R264). -/
def Loc.onHost : Loc → Bool
  | .mem pa => fld pa 41 2 == 2
  | _ => false

/-- What WAITA of `m` bytes answers at `adr`, as it is issued and again when its place has been written, where `put` writes its
result. -/
def State.awaits (s : State) (adr : Word) (low m : Nat) (put : State → Word → State) : Res :=
  match s.tagged adr m .load with
  | .trap y => .trap y
  | .fault k => .trap (pageTrap adr .load k)
  | .at_ p leaf s1 =>
    if p.onHost || (p.uc leaf).isSome then .trap { cause := cPROT, tval := adr, acc := 0 }
    else if s.acquiring || s.ringOf s.cur != [] || s.ownWaits p || s.readBlocked s.cur s.me.nseq p m then .wait
    else
      match s.poisonedLoc p m with
      | some u => .trap { cause := cMCE, tval := adr, unit := u, acc := 0 }
      | none =>
        let x := ofBytes (s.readFor s.cur s.me.nseq p m)
        if x = low then s.send (.sleep p m low) else .done (put s1 (natW x))

/-- WAITA reads its place now: neither device, host tier nor poison stands in the way, and nothing earlier (R286, R313). -/
abbrev State.sees (s : State) (adr : Word) (m : Nat) (p : Loc) (lf : Nat) (s1 : State) : Prop :=
  s.tagged adr m .load = .at_ p lf s1 ∧ p.uc lf = none ∧ (∀ pa, p = .mem pa → pa / 2 ^ 41 % 4 ≠ 2)
    ∧ s.acquiring = false ∧ s.ringOf s.cur = [] ∧ s.ownWaits p = false ∧ s.readBlocked s.cur s.me.nseq p m = false
    ∧ s.poisonedLoc p m = none

/-- The value that WAITA of `m` bytes sees at a place. -/
abbrev State.seen (s : State) (m : Nat) (p : Loc) : Nat := ofBytes (s.readFor s.cur s.me.nseq p m)

theorem Loc.onHost_false {p : Loc} (near : ∀ pa, p = .mem pa → pa / 2 ^ 41 % 4 ≠ 2) : p.onHost = false := by
  cases p with
  | mem pa => exact beq_false_of_ne (near pa rfl)
  | _ => rfl

theorem State.awaits_sees {s s1 : State} {adr : Word} {low m lf : Nat} {p : Loc} (put : State → Word → State)
    (h : s.sees adr m p lf s1) : s.awaits adr low m put =
      if s.seen m p = low then s.send (.sleep p m low) else .done (put s1 (natW (s.seen m p))) := by
  obtain ⟨place, cached, near, calm, ring, own, clear, clean⟩ := h
  unfold State.awaits
  rw [place]
  simp only [Loc.onHost_false near, cached, calm, ring, own, clear, clean]
  rfl

section Waita
variable {sm l t u e : Bool} {d a b : BitVec 5} {c : BitVec 2} {p : Loc} {lf : Nat} {s s1 : State}

/-- The bytes that WAITA compares. -/
abbrev waitSize (e : Bool) : Nat := if e then 8 else 4

/-- The value of the low bytes of X b, with which WAITA compares its place. -/
abbrev State.waitLow (s : State) (b : BitVec 5) (e : Bool) : Nat := (s.regs.xAt b.toNat).toNat % 2 ^ (8 * waitSize e)

theorem exec_waita_awaits (s : State) : exec (.waita sm l d a b t u e c) s = issue (cSig (.waita sm l d a b t u e c)) s fun s =>
    let go := fun (q : State) =>
      q.awaits (s.rx 1 a.toNat) (fld (s.rx 2 b.toNat).toNat 0 (8 * waitSize e)) (waitSize e) (fun r x => r.putX d.toNat x)
    s.whenDone go (fun q _ _ _ _ => go q) := rfl

theorem waita_means : Means (.waita sm l d a b t u e c) (fun s =>
    s.awaits (s.regs.xAt a.toNat) (s.waitLow b e) (waitSize e) (fun r x => r.putX d.toNat x)) :=
  .of_issue exec_waita_awaits fun s h => by
    obtain ⟨start, none_, -⟩ := State.ready_parts h
    simp only [State.whenDone_start _ _ none_, State.rx_plain _ _ start, fld_zero]

theorem waita_traps (y : Why) : TrapIf (.waita sm l d a b t u e c) (cSig (.waita sm l d a b t u e c))
    (fun s => s.tagged (s.regs.xAt a.toNat) (waitSize e) .load = .trap y) (fun _ => y) :=
  waita_means.trapIf fun s bad => by
    unfold State.awaits
    rw [bad]

theorem waita_sleeps : SendIf (.waita sm l d a b t u e c) (cSig (.waita sm l d a b t u e c))
    (fun s => s.sees (s.regs.xAt a.toNat) (waitSize e) p lf s1 ∧ s.seen (waitSize e) p = s.waitLow b e)
    (fun s => s) (fun s => .sleep p (waitSize e) (s.waitLow b e)) :=
  waita_means.sendIf fun _ ⟨sees, same⟩ => (State.awaits_sees _ sees).trans (if_pos same)

/-- The result of a WAITA whose place differs: X d, bound to no port, is written in the state after the access. -/
theorem State.awaits_differs {adr : Word} {m low : Nat} (free : s.regs.boundTo d.toNat = none) (sees : s.sees adr m p lf s1)
    (other : s.seen m p ≠ low) : s.awaits adr low m (fun r x => r.putX d.toNat x) = .done (s1.writeX d (natW (s.seen m p))) := by
  have same := State.sameUnit_regs (State.tagged_same sees.1)
  rw [State.awaits_sees _ sees, if_neg other, State.putX_plain _ (same ▸ free)]
  rfl

theorem waita_differs : DoneIf (.waita sm l d a b t u e c) (cSig (.waita sm l d a b t u e c))
    (fun s => s.sees (s.regs.xAt a.toNat) (waitSize e) p lf s1 ∧ s.seen (waitSize e) p ≠ s.waitLow b e)
    (fun s => s1.writeX d (natW (s.seen (waitSize e) p))) := fun s r ⟨sees, other⟩ => by
  obtain ⟨start, none_, -⟩ := State.ready_parts r
  have unit : s1.unit = {} := (State.tagged_same sees.1).1.trans start
  have answer := State.awaits_differs (State.dst_unbound r (List.mem_singleton.2 rfl)) sees other
  exact (waita_means s r).trans (congrArg Host.Outcome.next
    ((congrArg (finish s _) answer).trans (finish_done _ unit (.inl none_))))

theorem waita_woken {v jv js : Word} {fl : BitVec 6} (r : s.answered v jv js fl = true)
    (hw : (cSig (.waita sm l d a b t u e c)).dsts.all s.regs.writable = true)
    (sees : s.unpend.sees (s.unpend.regs.xAt a.toNat) (waitSize e) p lf s1)
    (other : s.unpend.seen (waitSize e) p ≠ s.unpend.waitLow b e) :
    exec (.waita sm l d a b t u e c) s =
      .next (s.retires (cSig (.waita sm l d a b t u e c)) (s1.writeX d (natW (s.unpend.seen (waitSize e) p)))) := by
  have start : s.unit = {} := (State.answered_parts r).1
  have unit : s1.unit = {} := (State.tagged_same sees.1).1.trans start
  have answer := State.awaits_differs (State.unpend_unbound hw (List.mem_singleton.2 rfl)) sees other
  rw [exec_waita_awaits]
  refine issue_answered_done r ((State.whenDone_answered _ _ r).trans ?_) unit
  rw [State.rx_plain _ _ start, State.rx_plain _ _ start, fld_zero, ← State.unpend_regs]
  exact answer

end Waita

/-- Settles O31: one lemma for each clause of each form. -/
theorem orderedForms : Obligations.OrderedForms := by
  intro sm l d a b t u z e o c m adr A ld st fe wc wa k low free copied fence reads val
  exact ⟨ldo_traps, fun _ _ _ => ldo_waits, ldo_reads, fun _ _ _ _ => ldo_loads, sto_traps, fun _ _ _ => sto_waits,
    fun _ _ _ => sto_sends, fun _ _ _ => sto_shadow, sto_answered, fence_done, fence_waits, waitc_done, waitc_waits, waita_traps,
    fun _ _ _ => waita_differs, fun _ _ _ => waita_sleeps,
    fun _ _ _ _ _ _ _ _ => waita_woken⟩

end Sys2Proof.Machine
end

section
/-! PROOF. The resolution of a family (R363 to R366). -/

namespace Sys2Proof.Machine

/-! The order of the candidates (R365) -/

/-- The place of a member in the order of its family's OP: the lower comes first. -/
def rankPlace (op : Nat) (m : Member) : ℤ ×ₗ ℕ :=
  toLex (if op = 2 then 0 else if op = 1 then rankKey m.ret else -rankKey m.ret, m.ford.toNat)

theorem ranksFirst_iff (op : Nat) (a b : Member) : ranksFirst op a b = true ↔ rankPlace op a < rankPlace op b := by
  rw [rankPlace, rankPlace, Prod.Lex.toLex_lt_toLex]
  unfold ranksFirst
  by_cases two : op = 2
  · simp [two]
  · by_cases same : rankKey a.ret = rankKey b.ret
    · simp [two, same]
    · by_cases one : op = 1 <;> simp [two, same, one]

theorem ranksFirst_false (op : Nat) (a b : Member) : ranksFirst op a b = false ↔ rankPlace op b ≤ rankPlace op a := by
  rw [← not_lt, ← ranksFirst_iff, Bool.not_eq_true]

theorem insertRank_perm (op : Nat) (m : Member) (l : List Member) : (insertRank op m l).Perm (m :: l) := by
  induction l with
  | nil => exact List.Perm.refl _
  | cons x t ih =>
    unfold insertRank
    split
    · exact List.Perm.refl _
    · exact (ih.cons x).trans (List.Perm.swap m x t)

/-- The candidates in rank order. -/
def ranked (op : Nat) (cs : List Member) : List Member := cs.foldl (fun r m => insertRank op m r) []

theorem ranked_append (op : Nat) (cs : List Member) (m : Member) : ranked op (cs ++ [m]) = insertRank op m (ranked op cs) :=
  List.foldl_append ..

theorem ranked_perm (op : Nat) (cs : List Member) : (ranked op cs).Perm cs := by
  induction cs using List.reverseRecOn with
  | nil => exact List.Perm.refl _
  | append_singleton cs m ih =>
    rw [ranked_append]
    exact (insertRank_perm op m _).trans ((ih.cons m).trans (List.perm_append_singleton m cs).symm)

/-- The first of a list ranks no later than any other of it. -/
def FirstRanked (op : Nat) (l : List Member) : Prop := ∀ h ∈ l.head?, ∀ y ∈ l, rankPlace op h ≤ rankPlace op y

theorem firstRanked_insertRank {op : Nat} (m : Member) {l : List Member} (first : FirstRanked op l) :
    FirstRanked op (insertRank op m l) := by
  cases l with
  | nil =>
    intro h head y mem
    obtain rfl : m = h := Option.some.inj head
    obtain rfl := List.mem_singleton.1 mem
    exact le_rfl
  | cons x t =>
    have old : ∀ y ∈ x :: t, rankPlace op x ≤ rankPlace op y := first x rfl
    by_cases before : ranksFirst op m x = true
    · have placed : insertRank op m (x :: t) = m :: x :: t := if_pos before
      rw [placed]
      intro h head y mem
      obtain rfl : m = h := Option.some.inj head
      rcases List.mem_cons.1 mem with rfl | mem
      · exact le_rfl
      · exact (((ranksFirst_iff op m x).1 before).le).trans (old y mem)
    · have placed : insertRank op m (x :: t) = x :: insertRank op m t := if_neg before
      rw [placed]
      intro h head y mem
      obtain rfl : x = h := Option.some.inj head
      rcases List.mem_cons.1 mem with rfl | mem
      · exact le_rfl
      · rcases List.mem_cons.1 ((insertRank_perm op m t).mem_iff.1 mem) with rfl | mem
        · exact (ranksFirst_false op y x).1 (Bool.eq_false_iff.2 before)
        · exact old y (List.mem_cons_of_mem x mem)

theorem firstRanked_ranked (op : Nat) (cs : List Member) : FirstRanked op (ranked op cs) := by
  induction cs using List.reverseRecOn with
  | nil => exact fun h head => nomatch head
  | append_singleton cs m ih =>
    rw [ranked_append]
    exact firstRanked_insertRank m ih

/-! The winners (R365) -/

section Family
variable {f : Family}

/-- How many winners a join takes. -/
abbrev Family.places (f : Family) : Nat := if f.op = 3 then f.k else 1

/-- The value that a winner is delivered with. -/
abbrev Family.valueOf (f : Family) (cs : List Member) (m : Member) : BitVec 32 :=
  if f.op = 2 then exactTotal (cs.map (·.ret)) else m.ret

theorem Family.winners_eq (f : Family) (cs : List Member) :
    f.winners cs = ((ranked f.op.toNat cs).take f.places).map (fun m => (m, f.valueOf cs m)) := by
  have three : f.op.toNat = 3 ↔ f.op = 3 := BitVec.toNat_inj (y := 3)
  have two : f.op.toNat = 2 ↔ f.op = 2 := BitVec.toNat_inj (y := 2)
  simp only [Family.winners, three, two]
  rfl

theorem Family.winners_nil (f : Family) : f.winners [] = [] := by
  rw [Family.winners_eq]
  exact congrArg _ List.take_nil

/-- The first winner is a candidate before which no other ranks. -/
theorem Family.winners_first {cs : List Member} (some_ : cs ≠ []) (places : f.places ≠ 0) : ∃ m ws,
    f.winners cs = (m, f.valueOf cs m) :: ws ∧ m ∈ cs ∧ (∀ y ∈ cs, ranksFirst f.op.toNat y m = false)
      ∧ ws.length + 1 = min f.places cs.length := by
  have perm := ranked_perm f.op.toNat cs
  have first := firstRanked_ranked f.op.toNat cs
  have size := f.winners_eq cs
  cases list : ranked f.op.toNat cs with
  | nil =>
    rw [list] at perm
    exact absurd perm.symm.eq_nil some_
  | cons m t =>
    rw [list] at perm first
    obtain ⟨n, taken⟩ := Nat.exists_eq_succ_of_ne_zero places
    refine ⟨m, (t.take n).map (fun m => (m, f.valueOf cs m)), ?_, perm.mem_iff.1 List.mem_cons_self, fun y mem => ?_, ?_⟩
    · rw [size, list, taken]
      rfl
    · exact (ranksFirst_false _ _ _).2 (first m rfl y (perm.mem_iff.2 mem))
    · rw [← perm.length_eq, taken, List.length_map, List.length_take, List.length_cons]
      omega

/-! The classes of the members (R364) -/

theorem Family.ofClass_pending (f : Family) : f.ofClass 2 =
    f.members.filter (fun m => !(f.keeps m.ford) && !(decide (m.ver.toNat < f.curv.toNat)) && !m.done) := by
  refine List.filter_congr fun m _ => ?_
  rw [Bool.and_assoc]
  congr 1
  unfold Family.classOf
  split
  case isTrue old => simp [old]
  case isFalse new =>
    cases m.done
    · simp [new]
    · simp only [Bool.not_true, Bool.false_eq_true, if_false, Bool.and_false]
      split <;> rfl

theorem Family.ripe_iff (f : Family) (tick : Nat) :
    f.ripe tick = true ↔ f.jst = 1 ∧ (f.ofClass 2 = [] ∨ (f.dl ≠ 0 ∧ f.dl.toNat ≤ tick)) := by
  simp [Family.ripe]

/-! The resolution (R366) -/

/-- The members that leave in any case: pending, stale and infeasible. -/
def Family.rest (f : Family) : List Member := f.ofClass 2 ++ f.ofClass 1 ++ f.ofClass 3

/-- The record with the join resolved and its members counted. -/
def Family.counted (f : Family) : Family :=
  { f with jst := 2, resCand := (f.ofClass 4).length, resCut := (f.ofClass 2).length, resStale := (f.ofClass 1).length }

theorem Family.resolve_none (none_ : f.winners (f.ofClass 4) = []) : f.resolve.1 =
    ({ f.counted with resW := [], resSt := if f.ofClass 3 = [] then 3 else 4 } : Family).without (f.rest.map (·.ford)) := by
  have gone : (f.rest.map (fun m => (m.ford, m.handle))).map (·.1) = f.rest.map (·.ford) := by rw [List.map_map]; rfl
  rw [← gone]
  simp only [Family.resolve, none_, List.nil_append]
  rfl

/-- The candidates that have not won leave too, and so does the plan kept before. -/
theorem Family.resolve_some {w : Member × BitVec 32} {ws : List (Member × BitVec 32)}
    (won : f.winners (f.ofClass 4) = w :: ws) : ∃ os : List (BitVec 16), f.resolve.1 =
      ({ f.counted with
          resSt := 2, resW := (w :: ws).map (fun x => (x.1.handle, x.2, x.1.ford))
          kept := w.1.handle, kval := w.2, kord := w.1.ford } : Family).without (os ++ f.rest.map (·.ford))
      ∧ ∀ m ∈ f.ofClass 4, (∀ x ∈ w :: ws, x.1.ford ≠ m.ford) → m.ford ∈ os := by
  let lose := ((f.ofClass 4).filter (fun m => !(((w :: ws).map (·.1.ford)).contains m.ford))).map (fun m => (m.ford, m.handle))
  let out := (if f.kept = 0 then [] else [(f.kord, f.kept)]) ++ lose
  refine ⟨out.map (·.1), ?_, fun m cand lost => ?_⟩
  · have gone : (f.rest.map (fun m => (m.ford, m.handle))).map (·.1) = f.rest.map (·.ford) := by rw [List.map_map]; rfl
    rw [← gone, ← List.map_append]
    simp only [Family.resolve, won]
    rfl
  · have loses : (m.ford, m.handle) ∈ lose := by
      refine List.mem_map.2 ⟨m, List.mem_filter.2 ⟨cand, ?_⟩, rfl⟩
      rw [Bool.not_eq_true', List.contains_eq_mem, decide_eq_false_iff_not, List.mem_map]
      rintro ⟨x, mem, same⟩
      exact lost x mem same
    exact List.mem_map.2 ⟨_, List.mem_append_right _ loses, rfl⟩

theorem Family.mem_without {os : List (BitVec 16)} {m : Member} : m ∈ (f.without os).members ↔ m ∈ f.members ∧ m.ford ∉ os := by
  simp [Family.without]

theorem Family.mem_rest {m : Member} : m ∈ f.rest ↔ m ∈ f.ofClass 2 ∨ m ∈ f.ofClass 1 ∨ m ∈ f.ofClass 3 := by
  rw [Family.rest, List.mem_append, List.mem_append, or_assoc]

/-- What every resolution does: it counts, and pending, stale and infeasible members leave. -/
theorem Family.resolve_counts (f : Family) :
    f.resolve.1.jst = 2 ∧ f.resolve.1.resCand = (f.ofClass 4).length ∧ f.resolve.1.resCut = (f.ofClass 2).length
      ∧ f.resolve.1.resStale = (f.ofClass 1).length ∧ ∀ m ∈ f.rest, m ∉ f.resolve.1.members := by
  cases won : f.winners (f.ofClass 4) with
  | nil =>
    rw [Family.resolve_none won]
    exact ⟨rfl, rfl, rfl, rfl, fun m mem stays => (Family.mem_without.1 stays).2 (List.mem_map_of_mem mem)⟩
  | cons w ws =>
    obtain ⟨os, resolved, -⟩ := Family.resolve_some won
    rw [resolved]
    exact ⟨rfl, rfl, rfl, rfl, fun m mem stays =>
      (Family.mem_without.1 stays).2 (List.mem_append_right os (List.mem_map_of_mem mem))⟩

theorem Family.resolve_loses {m : Member} (cand : m ∈ f.ofClass 4) (some_ : f.winners (f.ofClass 4) ≠ [])
    (lost : ∀ w ∈ f.winners (f.ofClass 4), w.1.ford ≠ m.ford) : m ∉ f.resolve.1.members := by
  obtain ⟨w, ws, won⟩ := List.exists_cons_of_ne_nil some_
  obtain ⟨os, resolved, loses⟩ := Family.resolve_some won
  rw [resolved]
  exact fun stays => (Family.mem_without.1 stays).2 (List.mem_append_left _ (loses m cand (won ▸ lost)))

/-- The end of an event of the record of an open join that is ripe (R363, R366, R369). -/
theorem State.settleFamily_ripe {s : State} (g c : Nat) (ripe : f.ripe s.tick = true) : s.settleFamily g c f =
    f.resolve.2.foldl (fun q o => q.order g f.fam o f.vf true none)
      (f.waiters.foldl (fun q w => q.replyTo g w.1 w.2
          (.ok (f.resolve.1.deliver 0).1 (f.resolve.1.deliver 0).2.1 (f.resolve.1.deliver 0).2.2 0))
        (s.setFamily g c { f.resolve.1 with waiters := [] })) := by
  rw [State.settleFamily, ripe]
  rfl

theorem State.settleFamily_unripe {s : State} (g c : Nat) (unripe : ¬f.ripe s.tick = true) :
    s.settleFamily g c f = s.setFamily g c f := by
  rw [State.settleFamily, Bool.eq_false_iff.2 unripe]
  rfl

end Family

/-- What a resolution keeps of the candidates. -/
theorem Family.resolve_wins {f : Family} (cand : f.ofClass 4 ≠ []) (places : f.op = 3 → f.k ≠ 0) :
    f.resolve.1.resSt = 2 ∧ ∃ m val ws, f.winners (f.ofClass 4) = (m, val) :: ws ∧ m ∈ f.ofClass 4
      ∧ (∀ y ∈ f.ofClass 4, ranksFirst f.op.toNat y m = false)
      ∧ ws.length + 1 = min (if f.op = 3 then f.k else 1) (f.ofClass 4).length
      ∧ val = (if f.op = 2 then exactTotal ((f.ofClass 4).map (·.ret)) else m.ret)
      ∧ f.resolve.1.kept = m.handle ∧ f.resolve.1.kval = val ∧ f.resolve.1.kord = m.ford
      ∧ f.resolve.1.resW = ((m, val) :: ws).map (fun y => (y.1.handle, y.2, y.1.ford)) := by
  have room : f.places ≠ 0 := by
    rw [Family.places]
    split
    · next three => exact places three
    · exact one_ne_zero
  obtain ⟨m, ws, won, mem, first, length⟩ := Family.winners_first cand room
  obtain ⟨os, resolved, -⟩ := Family.resolve_some won
  rw [resolved]
  exact ⟨rfl, m, _, ws, won, mem, first, length, rfl, rfl, rfl, rfl, rfl⟩

theorem Family.resolve_empty {f : Family} (cand : f.ofClass 4 = []) :
    f.resolve.1.resSt = (if f.ofClass 3 = [] then 3 else 4) ∧ f.resolve.1.resW = [] ∧ f.resolve.1.kept = f.kept
      ∧ f.resolve.1.kval = f.kval ∧ f.resolve.1.kord = f.kord := by
  have none_ : f.winners (f.ofClass 4) = [] := by rw [cand, Family.winners_nil]
  rw [Family.resolve_none none_]
  exact ⟨rfl, rfl, rfl, rfl, rfl⟩

end Sys2Proof.Machine
end

section
/-! PROOF. Joins (R363 to R366, R368, R369). -/

namespace Sys2Proof.Machine

/-! The forms of the instructions (R368, R369) -/

/-- The result of a JOIN form written: X `d`, JVAL and JSTAT, or nothing. -/
def State.putJoin (d : Option (BitVec 5)) (s : State) (v jv js : Word) : State :=
  match d with
  | some r => ((s.writeX r v).setCsr csrJVAL jv).setCsr csrJSTAT js
  | none => s

/-- The end of a JOIN form whose own grove answers. -/
def State.endsJoin (s : State) (d : Option (BitVec 5)) (v : Word) : JoinAns → Res
  | .ok r jv js s1 => .done ((s.within s1).putJoin d r jv js)
  | .trap w => .trap w
  | .waits s1 => (s.within s1).send (.join v true)

/-- The JOIN form performed by the own grove's Strainer. -/
abbrev State.joinsHere (s : State) (f : JoinForm) (v x dl : Word) : JoinAns :=
  s.joinOp (some (groveOf s.cur)) (s.caddr s.cur) s.tick s.me.vf f v x dl

/-- What a JOIN form answers as it is issued. -/
def State.issuesJoin (s : State) (f : JoinForm) (d : Option (BitVec 5)) (v x dl : Word) : Res :=
  if s.handleProt v (some (groveOf s.cur)) then .trap { cause := cPROT, tval := v }
  else if s.acquiring then .wait
  else if handlePkg v.toNat = s.self ∧ handleGrove v.toNat = groveOf s.cur then s.endsJoin d v (s.joinsHere f v x dl)
  else (s.sendPacket (handlePkg v.toNat) (.joinReq (s.caddr s.cur) s.tick s.me.vf f v x dl)).send (.join v (f == .jwait))

theorem State.putJoin_unit (d : Option (BitVec 5)) (s : State) (v jv js : Word) : (s.putJoin d v jv js).unit = s.unit := by
  cases d <;> rfl

section Form
variable {i : Instr} {f : JoinForm} {d : Option (BitVec 5)} {a : BitVec 5} {x0 dl0 x dl : State → Word}
  (e : ∀ s, exec i s = joinForm (cSig i) f d a x0 dl0 s)
include e

section Named
variable (operands : ∀ s : State, s.unit = {} → x0 s = x s ∧ dl0 s = dl s) (dst : ∀ r ∈ d, ⟨0, r.toNat⟩ ∈ (cSig i).dsts)
include operands dst

theorem joinForm_means : Means i (fun s => s.issuesJoin f d (s.regs.xAt a.toNat) (x s) (dl s)) :=
  .of_issue e fun s h => by
    obtain ⟨start, none_, -⟩ := State.ready_parts h
    obtain ⟨second, third⟩ := operands s start
    rw [State.whenDone_start _ _ none_, State.rx_plain _ _ start, second, third]
    unfold State.issuesJoin State.joinsHere
    refine ite_congr rfl (fun _ => rfl) fun _ => ite_congr rfl (fun _ => rfl) fun _ => ite_congr rfl (fun _ => ?_) fun _ => rfl
    cases s.joinOp (some (groveOf s.cur)) (s.caddr s.cur) s.tick s.me.vf f (s.regs.xAt a.toNat) (x s) (dl s) with
    | trap w => rfl
    | waits s1 => rfl
    | ok r jv js s1 =>
      cases d with
      | none => rfl
      | some n =>
        have free : s.regs.boundTo n.toNat = none := State.dst_unbound h (dst n rfl)
        simp only [State.putWithin_plain s1 r free]
        rfl

/-- A handle that its context may use, with no acquire outstanding. -/
abbrev State.mayJoin (s : State) (a : BitVec 5) : Prop :=
  s.handleProt (s.regs.xAt a.toNat) (some (groveOf s.cur)) = false ∧ s.acquiring = false

/-- The handle is of the own grove. -/
abbrev State.joinsOwn (s : State) (a : BitVec 5) : Prop :=
  handlePkg (s.regs.xAt a.toNat).toNat = s.self ∧ handleGrove (s.regs.xAt a.toNat).toNat = groveOf s.cur

omit e operands dst in
theorem State.issuesJoin_own {s : State} (may : s.mayJoin a) (own : s.joinsOwn a) (f : JoinForm) (d : Option (BitVec 5)) (x dl : Word) :
    s.issuesJoin f d (s.regs.xAt a.toNat) x dl =
      s.endsJoin d (s.regs.xAt a.toNat) (s.joinsHere f (s.regs.xAt a.toNat) x dl) := by
  obtain ⟨may, calm⟩ := may
  simp only [State.issuesJoin, may, calm, Bool.false_eq_true, if_false, if_pos own]

/-- A JOIN form meets the clauses of the statement. -/
theorem joinForm_forms :
    TrapIf i (cSig i) (fun s => s.handleProt (s.regs.xAt a.toNat) (some (groveOf s.cur)) = true)
      (fun s => { cause := cPROT, tval := s.regs.xAt a.toNat })
    ∧ WaitIf i (cSig i) (fun s => s.handleProt (s.regs.xAt a.toNat) (some (groveOf s.cur)) = false ∧ s.acquiring = true)
    ∧ (∀ v jv js s1, DoneIf i (cSig i) (fun s => s.mayJoin a ∧ s.joinsOwn a
        ∧ s.joinsHere f (s.regs.xAt a.toNat) (x s) (dl s) = .ok v jv js s1) (fun s => (s.within s1).putJoin d v jv js))
    ∧ (∀ y, TrapIf i (cSig i) (fun s => s.mayJoin a ∧ s.joinsOwn a
        ∧ s.joinsHere f (s.regs.xAt a.toNat) (x s) (dl s) = .trap y) (fun _ => y))
    ∧ (∀ s1, SendIf i (cSig i) (fun s => s.mayJoin a ∧ s.joinsOwn a
        ∧ s.joinsHere f (s.regs.xAt a.toNat) (x s) (dl s) = .waits s1) (fun s => s.within s1)
          (fun s => .join (s.regs.xAt a.toNat) true))
    ∧ SendIf i (cSig i) (fun s => s.mayJoin a ∧ ¬s.joinsOwn a)
        (fun s => s.sendPacket (handlePkg (s.regs.xAt a.toNat).toNat)
          (.joinReq (s.caddr s.cur) s.tick s.me.vf f (s.regs.xAt a.toNat) (x s) (dl s)))
        (fun s => .join (s.regs.xAt a.toNat) (f == .jwait))
    ∧ AnswerDone i (cSig i) (fun s v jv js _ => s.putJoin d v jv js) := by
  have means := joinForm_means e operands dst
  refine ⟨means.trapIf fun s bad => ?prot, means.waitIf fun s ⟨may, busy⟩ => ?wait,
    fun v jv js s1 => means.doneIf (fun s ⟨may, own, op⟩ => ?done) fun s => State.putJoin_unit d _ v jv js,
    fun y => means.trapIf fun s ⟨may, own, op⟩ => ?trap, fun s1 => means.sendIf fun s ⟨may, own, op⟩ => ?waits,
    means.sendIf fun s ⟨⟨may, calm⟩, away⟩ => ?sent, fun s v jv js fl r hw => ?answered⟩
  case prot => simp only [State.issuesJoin, bad, if_true]
  case wait => simp only [State.issuesJoin, may, busy, Bool.false_eq_true, if_false, if_true]
  case done => rw [State.issuesJoin_own may own, op]; rfl
  case trap => rw [State.issuesJoin_own may own, op]; rfl
  case waits => rw [State.issuesJoin_own may own, op]; rfl
  case sent => simp only [State.issuesJoin, may, calm, Bool.false_eq_true, if_false, if_neg away]
  case answered =>
    rw [e]
    refine issue_answered_done r ((State.whenDone_answered _ _ r).trans ?_)
      ((State.putJoin_unit d _ v jv js).trans (State.answered_parts r).1)
    cases d with
    | none => rfl
    | some n =>
      simp only [State.putWithin_plain _ v (State.unpend_unbound hw (dst n rfl))]
      rfl

end Named
end Form

/-! The answers of a record (R363 to R366, R369) -/

section Record
variable {s0 : State} {user : Option Nat} {src : Word} {sent vf : Nat} {v x dl : Word} {g c : Nat} {f : Family}

/-- A JOIN trap with its code, as the rule writes it. -/
theorem joinWhy_eq (code : Nat) (v : Word) :
    joinWhy code v = { cause := cJOIN, tval := natW (code * 2 ^ 32 + v.toNat % 2 ^ 32) } := by
  rw [joinWhy, fld_zero]

theorem natW_toNat_self (v : Word) : natW v.toNat = v := (BitVec.ofNat_toNat 64 v).trans (BitVec.setWidth_eq v)

/-- The record as a JOIN form finds it: a deadline that has passed has been performed (R363). -/
abbrev State.atJoin (s0 : State) (v : Word) : State := s0.due (BitVec.ofNat 32 v.toNat)

/-- A JOIN form finds the record of a family of its own function. -/
abbrev State.findsRecord (s0 : State) (user : Option Nat) (vf : Nat) (v : Word) (g c : Nat) (f : Family) : Prop :=
  (s0.atJoin v).handleProt v user = false ∧ (s0.atJoin v).family (BitVec.ofNat 32 v.toNat) = some (g, c, f) ∧ f.vf = vf

theorem State.joinOp_prot (bad : ¬(s0.atJoin v).handleProt v user = false) (form : JoinForm) :
    s0.joinOp user src sent vf form v x dl = .trap { cause := cPROT, tval := natW v.toNat } := by
  rw [natW_toNat_self]
  exact if_pos (Bool.not_eq_false _ ▸ bad)

theorem State.joinOp_unknown (may : (s0.atJoin v).handleProt v user = false)
    (none_ : ∀ r, (s0.atJoin v).family (BitVec.ofNat 32 v.toNat) = some r → r.2.2.vf ≠ vf) (form : JoinForm) :
    s0.joinOp user src sent vf form v x dl = .trap (joinWhy 1 v) := by
  have filtered : ((s0.atJoin v).family (BitVec.ofNat 32 v.toNat)).filter (fun r => r.2.2.vf == vf) = none := by
    rw [Option.filter_eq_none_iff]
    exact fun r found => by simpa using none_ r found
  simp only [State.joinOp, may, filtered, Bool.false_eq_true, if_false]

theorem State.record_filter (h : s0.findsRecord user vf v g c f) :
    ((s0.atJoin v).family (BitVec.ofNat 32 v.toNat)).filter (fun r => r.2.2.vf == vf) = some (g, c, f) := by
  obtain ⟨-, found, own⟩ := h
  rw [found, Option.filter_some, if_pos (beq_iff_eq.2 own)]

/-- What a JOIN form that finds record `f` answers. -/
def State.atFamily (s : State) (src : Word) (sent : Nat) (v x dl : Word) (g c : Nat) (f : Family) : JoinForm → JoinAns
  | .jopen =>
    if x.toNat / 2 ^ 5 % 2 ^ 27 ≠ 0 ∨ (x.toNat % 2 ^ 2 ≠ 3 ∧ x.toNat / 2 ^ 2 % 2 ^ 3 ≠ 0)
        ∨ (x.toNat % 2 ^ 2 = 3 ∧ (x.toNat / 2 ^ 2 % 2 ^ 3 = 0 ∨ 4 < x.toNat / 2 ^ 2 % 2 ^ 3)) then
      .trap { cause := cILLEGAL, tval := natW x.toNat }
    else if x.toNat / 2 ^ 32 < f.curv.toNat then .trap (joinWhy 3 v)
    else if f.jst = 1 ∧ (f.op.toNat ≠ x.toNat % 2 ^ 2 ∨ f.k ≠ x.toNat / 2 ^ 2 % 2 ^ 3) then .trap (joinWhy 4 v)
    else .ok 0 0 0 (s.settleFamily g c { f with
      op := BitVec.ofNat 2 (x.toNat % 2 ^ 2), k := x.toNat / 2 ^ 2 % 2 ^ 3, curv := BitVec.ofNat 32 (x.toNat / 2 ^ 32), dl := dl, jst := 1 })
  | .jwait =>
    if f.jst = 0 then .trap (joinWhy 2 v)
    else if f.jst = 2 then .ok (f.deliver 0).1 (f.deliver 0).2.1 (f.deliver 0).2.2 s
    else if f.waiters.any (fun w => w.1 == src && decide (sent < w.2)) then .waits s
    else .waits (s.setFamily g c { f with waiters := f.waiters.filter (fun w => w.1 != src) ++ [(src, sent)] })
  | .jpoll =>
    if f.jst = 0 then .trap (joinWhy 2 v)
    else if max f.k 1 ≤ x.toNat then .trap (joinWhy 5 v)
    else if f.jst = 1 then .ok 0 0 1 s
    else .ok (f.deliver x.toNat).1 (f.deliver x.toNat).2.1 (f.deliver x.toNat).2.2 s
  | .jclose =>
    if x.toNat / 2 ≠ 0 then .trap { cause := cILLEGAL, tval := natW x.toNat }
    else
      let rk := bitAt x.toNat 0 && f.kept != 0
      let f1 := if rk then f.without [f.kord] else f
      let s1 := s.setFamily g c { f1 with jst := 0, waiters := [], kept := if rk then 0 else f.kept }
      let s2 := if rk then s1.order g f.fam f.kept f.vf false none else s1
      .ok 0 0 0 (f.waiters.foldl (fun r w => r.replyTo g w.1 w.2 (.trap cJOIN (joinWhy 6 v).tval)) s2)

theorem State.joinOp_record (h : s0.findsRecord user vf v g c f) (form : JoinForm) :
    s0.joinOp user src sent vf form v x dl = (s0.atJoin v).atFamily src sent v x dl g c f form := by
  have may : (s0.atJoin v).handleProt v user = false := h.1
  simp only [State.joinOp, may, State.record_filter h, Bool.false_eq_true, if_false]
  cases form with
  | jopen =>
    simp only [fld_zero, fld_top x (show 32 + 32 = 64 by rfl), State.atFamily, natW_toNat_self]
    rfl
  | jwait => rfl
  | jpoll => rfl
  | jclose =>
    simp only [State.atFamily, natW_toNat_self]

end Record

/-- What the record delivers, as the rule writes it (R369). -/
theorem Family.deliver_eq (f : Family) (r : Nat) :
    let w := if f.resSt = 2 then nth (0, 0, 0) f.resW r else (f.kept, f.kval, f.kord)
    f.deliver r = (natW w.1.toNat, natW (2 ^ 32 * w.2.2.toNat + (if w.1 = 0 then 0 else w.2.1.toNat)),
      natW (f.resSt + 2 ^ 8 * (f.resCand % 2 ^ 16) + 2 ^ 24 * (f.resCut % 2 ^ 16) + 2 ^ 40 * (f.resStale % 2 ^ 16))) := rfl

section Close
variable {s : State} {src v x dl : Word} {sent g c : Nat} {f : Family}

theorem State.atFamily_closes (keep : x.toNat = 0 ∨ (x.toNat = 1 ∧ f.kept = 0)) : s.atFamily src sent v x dl g c f .jclose =
    .ok 0 0 0 (f.waiters.foldl (fun r w => r.replyTo g w.1 w.2 (.trap cJOIN (natW (6 * 2 ^ 32 + v.toNat % 2 ^ 32))))
      (s.setFamily g c { f with jst := 0, waiters := [] })) := by
  have plan : (bitAt x.toNat 0 && f.kept != 0) = false := by
    rcases keep with zero | ⟨-, none_⟩
    · rw [zero]
      rfl
    · rw [none_, Bool.and_eq_false_iff]
      exact .inr rfl
  have known : ¬x.toNat / 2 ≠ 0 := by omega
  simp only [State.atFamily, if_neg known, plan, Bool.false_eq_true, if_false, joinWhy_eq]

theorem State.atFamily_closes_plan (retire : x.toNat = 1) (kept : f.kept ≠ 0) : s.atFamily src sent v x dl g c f .jclose =
    .ok 0 0 0 (f.waiters.foldl (fun r w => r.replyTo g w.1 w.2 (.trap cJOIN (natW (6 * 2 ^ 32 + v.toNat % 2 ^ 32))))
      ((s.setFamily g c { f.without [f.kord] with jst := 0, waiters := [], kept := 0 }).order g f.fam f.kept f.vf false none)) := by
  have plan : (bitAt x.toNat 0 && f.kept != 0) = true := by
    rw [retire, Bool.and_eq_true]
    exact ⟨rfl, bne_iff_ne.2 kept⟩
  have known : ¬x.toNat / 2 ≠ 0 := by omega
  simp only [State.atFamily, if_neg known, plan, if_true, joinWhy_eq]

theorem State.atFamily_waits (open_ : f.jst = 1) (new : ∀ w ∈ f.waiters, w.1 ≠ src) : s.atFamily src sent v x dl g c f .jwait =
    .waits (s.setFamily g c { f with waiters := f.waiters ++ [(src, sent)] }) := by
  have absent : f.waiters.any (fun w => w.1 == src && decide (sent < w.2)) = false := by
    rw [List.any_eq_false]
    intro w mem
    simp [new w mem]
  have others : f.waiters.filter (fun w => w.1 != src) = f.waiters := List.filter_eq_self.2 fun w mem => bne_iff_ne.2 (new w mem)
  simp only [State.atFamily, open_, one_ne_zero, if_false, show ¬(1 = 2) by decide, absent, Bool.false_eq_true, others]

end Close

/-- Settles O38: the forms go through `joinForm`, their answers through `atFamily`, and the resolution through `Family.resolve`. -/
theorem joinForms : Obligations.JoinForms := by
  refine ⟨fun sm l d a b t u => ?forms, fun s0 user src sent vf v x dl => ⟨?prot, ?unknown, ?record⟩, fun s g c f => ?resolution⟩
  case forms =>
    have none_ : ∀ (l : List Dst), ∀ r ∈ (none : Option (BitVec 5)), ⟨0, r.toNat⟩ ∈ l := fun _ _ h => nomatch h
    have one : ∀ r ∈ some d, (⟨0, r.toNat⟩ : Dst) ∈ [(⟨0, d.toNat⟩ : Dst)] := fun r h => by
      obtain rfl := Option.some.inj h
      exact List.mem_singleton.2 rfl
    intro A form X no zero B
    refine ⟨?jopen, ?jwait, ?jpoll, ?jclose⟩
    case jopen =>
      exact joinForm_forms (x := B) (dl := fun s => s.regs.xAt d.toNat) (exec_jopen sm l d a b t u)
        (fun s start => ⟨State.rx_plain _ _ start, State.rx_plain _ _ start⟩) (none_ _)
    case jwait =>
      exact joinForm_forms (x := zero) (dl := zero) (exec_jwait sm l d a t) (fun s _ => ⟨rfl, rfl⟩) one
    case jpoll =>
      exact joinForm_forms (x := B) (dl := zero) (exec_jpoll sm l d a b t u)
        (fun s start => ⟨State.rx_plain _ _ start, rfl⟩) one
    case jclose =>
      exact joinForm_forms (x := B) (dl := zero) (exec_jclose sm l a b t u)
        (fun s start => ⟨State.rx_plain _ _ start, rfl⟩) (none_ _)
  case prot => exact fun bad form => State.joinOp_prot bad form
  case unknown => exact fun may none_ form => (State.joinOp_unknown may none_ form).trans (by rw [joinWhy_eq])
  case record =>
    intro g c f named found own o k bad old other gives
    have at_ : ∀ form, s0.joinOp user src sent vf form v x dl = (s0.atJoin v).atFamily src sent v x dl g c f form :=
      State.joinOp_record ⟨named, found, own⟩
    have code : ∀ k, joinWhy k v = { cause := cJOIN, tval := natW (k * 2 ^ 32 + v.toNat % 2 ^ 32) } := fun k => joinWhy_eq k v
    simp only [at_, ← code]
    refine ⟨fun h => if_pos h, fun h1 h2 => (if_neg h1).trans (if_pos h2),
      fun h1 h2 h3 => (if_neg h1).trans ((if_neg h2).trans (if_pos h3)),
      fun h1 h2 h3 => (if_neg h1).trans ((if_neg h2).trans (if_neg h3)), fun idle => ⟨if_pos idle, if_pos idle⟩,
      fun resolved => ?delivers, fun open_ new => State.atFamily_waits open_ new, fun busy late => (if_neg busy).trans (if_pos late),
      fun open_ rank => ?early, fun resolved rank => ?polls, fun unknown => if_pos (show x.toNat / 2 ≠ 0 by omega),
      fun keep => State.atFamily_closes keep, fun retire kept => State.atFamily_closes_plan retire kept⟩
    case delivers =>
      have busy : ¬f.jst = 0 := by omega
      exact (if_neg busy).trans (if_pos resolved)
    case early =>
      have busy : ¬f.jst = 0 := by omega
      exact (if_neg busy).trans ((if_neg (Nat.not_le.2 rank)).trans (if_pos open_))
    case polls =>
      have busy : ¬f.jst = 0 := by omega
      have closed : ¬f.jst = 1 := by omega
      exact (if_neg busy).trans ((if_neg (Nat.not_le.2 rank)).trans (if_neg closed))
  case resolution =>
    intro pend cut late bad cand ripe r goes
    have pending : cut = pend := f.ofClass_pending
    have ready : f.ripe s.tick = true ↔ ripe := by
      rw [Family.ripe_iff, f.ofClass_pending]
    obtain ⟨jst, candidates, cuts, stales, leave⟩ := f.resolve_counts
    exact ⟨pending, fun unripe => State.settleFamily_unripe g c (mt ready.1 unripe),
      fun due => State.settleFamily_ripe g c (ready.2 due), jst, candidates, cuts, stales, Family.resolve_empty, Family.resolve_wins,
      fun m _ gone => leave m (Family.mem_rest.2 gone), fun m mem some_ lost => Family.resolve_loses mem some_ lost⟩

end Sys2Proof.Machine
end

section
/-! PROOF. Events of streams and batches (R339, R345 to R347, R351 to R353, R358, R363, R366, R369, R455). -/

namespace Sys2Proof.Machine

/-! A stream after a write to the same and to another one -/

theorem State.stream_setStream (s : State) (g c : Nat) (x : Stream) : (s.setStream g c x).stream g c = x := by
  rw [State.stream, State.setStream, State.grove_setGrove, tabGet_tabSet_same]

theorem State.stream_setStream_ne (s : State) (g : Nat) {c d : Nat} (other : d ≠ c) (x : Stream) :
    (s.setStream g c x).stream g d = s.stream g d := by
  rw [State.stream, State.setStream, State.grove_setGrove]
  exact tabGet_tabSet_ne _ other _ _

theorem State.grove_setStream (s : State) (g c : Nat) (x : Stream) :
    (s.setStream g c x).grove g = { s.grove g with streams := tabSet c x (s.grove g).streams } := State.grove_setGrove ..

/-! The order of a bucket (R345) -/

/-- Stream `x` parked in an earlier Caddy cycle than `y`, or in the same one with no higher handle. -/
def parkedBy (x y : Nat × Stream) : Prop := x.2.since / 2 < y.2.since / 2 ∨ (x.2.since / 2 = y.2.since / 2 ∧ x.1 ≤ y.1)

theorem parkedBy_of_parksFirst {x y : Nat × Stream} (h : parksFirst x y = true) : parkedBy x y := by
  simp only [parksFirst, Bool.or_eq_true, Bool.and_eq_true, decide_eq_true_eq, beq_iff_eq] at h
  exact h.imp_right (And.imp_right Nat.le_of_lt)

theorem parkedBy_of_not_parksFirst {x y : Nat × Stream} (h : parksFirst x y = false) : parkedBy y x := by
  simp only [parksFirst, Bool.or_eq_false_iff, Bool.and_eq_false_iff, decide_eq_false_iff_not, beq_eq_false_iff_ne] at h
  unfold parkedBy
  omega

theorem parkedBy.trans {x y z : Nat × Stream} (h : parkedBy x y) (k : parkedBy y z) : parkedBy x z := by
  unfold parkedBy at *
  omega

/-- A stream put into a bucket at its place. -/
def parkIn (r : List (Nat × Stream)) (m : Nat × Stream) : List (Nat × Stream) :=
  r.filter (fun x => parksFirst x m) ++ [m] ++ r.filter (fun x => !(parksFirst x m))

theorem parkIn_perm (r : List (Nat × Stream)) (m : Nat × Stream) : (parkIn r m).Perm (m :: r) := by
  rw [parkIn, List.append_assoc]
  exact List.perm_middle.trans ((List.filter_append_perm (fun x => parksFirst x m) r).cons m)

theorem parkIn_sorted {r : List (Nat × Stream)} (sorted : r.Pairwise parkedBy) (m : Nat × Stream) : (parkIn r m).Pairwise parkedBy := by
  have before : ∀ x ∈ r.filter (fun x => parksFirst x m), parkedBy x m := fun x mem => parkedBy_of_parksFirst (List.mem_filter.1 mem).2
  have after : ∀ x ∈ r.filter (fun x => !(parksFirst x m)), parkedBy m x := fun x mem =>
    parkedBy_of_not_parksFirst (by simpa using (List.mem_filter.1 mem).2)
  rw [parkIn, List.append_assoc, List.pairwise_append]
  refine ⟨sorted.filter _, List.pairwise_cons.2 ⟨after, sorted.filter _⟩, fun x first y rest => ?_⟩
  rcases List.mem_cons.1 rest with rfl | later
  · exact before x first
  · exact (before x first).trans (after y later)

theorem foldl_parkIn_perm (ms r : List (Nat × Stream)) : (ms.foldl parkIn r).Perm (ms ++ r) := by
  induction ms generalizing r with
  | nil => exact .refl r
  | cons m ms ih => exact (ih _).trans (((parkIn_perm r m).append_left ms).trans List.perm_middle)

theorem foldl_parkIn_sorted (ms : List (Nat × Stream)) {r : List (Nat × Stream)} (sorted : r.Pairwise parkedBy) :
    (ms.foldl parkIn r).Pairwise parkedBy := by
  induction ms generalizing r with
  | nil => exact sorted
  | cons m ms ih => exact ih (parkIn_sorted sorted m)

theorem State.bucket_perm (s : State) (g kid : Nat) (layer : BitVec 16) : (s.bucket g kid layer).Perm
    ((s.grove g).streams.filter (fun t => t.2.st == 1 && t.2.parked && t.2.kid == kid && t.2.layer == layer)) :=
  (foldl_parkIn_perm _ []).trans (.of_eq (List.append_nil _))

theorem State.bucket_sorted (s : State) (g kid : Nat) (layer : BitVec 16) : (s.bucket g kid layer).Pairwise parkedBy :=
  foldl_parkIn_sorted _ List.Pairwise.nil

/-! A batch formed (R345, R346) -/

/-- The rows of a new batch become READY. -/
def State.readies (s : State) (g : Nat) (rows : List (Nat × Stream)) : State :=
  rows.foldl (fun r x => r.setStream g x.1 { x.2 with st := 2, parked := false }) s

theorem State.readies_append (s : State) (g : Nat) (rows : List (Nat × Stream)) (x : Nat × Stream) :
    s.readies g (rows ++ [x]) = (s.readies g rows).setStream g x.1 { x.2 with st := 2, parked := false } := List.foldl_append

theorem State.readies_tables (s : State) (g : Nat) (rows : List (Nat × Stream)) :
    ((s.readies g rows).grove g).batches = (s.grove g).batches ∧ ((s.readies g rows).grove g).layers = (s.grove g).layers := by
  induction rows using List.reverseRecOn with
  | nil => exact ⟨rfl, rfl⟩
  | append_singleton rows x ih =>
    rw [State.readies_append, State.grove_setStream]
    exact ih

theorem State.readies_row (s : State) (g : Nat) {rows : List (Nat × Stream)} {c : Nat} (row : ∃ x ∈ rows, x.1 = c) :
    ∃ t, (c, t) ∈ rows ∧ (s.readies g rows).stream g c = { t with st := 2, parked := false } := by
  induction rows using List.reverseRecOn with
  | nil => exact absurd row (by simp)
  | append_singleton rows y ih =>
    rw [State.readies_append]
    by_cases last : c = y.1
    · subst last
      exact ⟨y.2, List.mem_append_right _ (List.mem_singleton.2 rfl), State.stream_setStream ..⟩
    · obtain ⟨x, mem, same⟩ := row
      have early : x ∈ rows := (List.mem_append.1 mem).resolve_right fun here =>
        last (same ▸ congrArg Prod.fst (List.mem_singleton.1 here))
      obtain ⟨t, there, ready⟩ := ih ⟨x, early, same⟩
      exact ⟨t, List.mem_append_left _ there, (State.stream_setStream_ne _ _ last _).trans ready⟩

theorem State.readies_other (s : State) (g : Nat) {rows : List (Nat × Stream)} {c : Nat} (other : ∀ x ∈ rows, x.1 ≠ c) :
    (s.readies g rows).stream g c = s.stream g c := by
  induction rows using List.reverseRecOn with
  | nil => rfl
  | append_singleton rows y ih =>
    rw [List.forall_mem_append, List.forall_mem_singleton] at other
    rw [State.readies_append, State.stream_setStream_ne _ _ other.2.symm, ih other.1]

theorem State.formBatch_rows {s : State} {g kid : Nat} {layer : BitVec 16} {l : Layer} (entry : tabFind (s.grove g).layers kid = some l)
    (some_ : (s.bucket g kid layer).take l.b ≠ []) :
    s.formBatch g kid layer =
      let rows := (s.bucket g kid layer).take l.b
      let v := (s.readies g rows).grove g
      (s.readies g rows).setGrove g { v with
        batches := v.batches ++ [{ kid := kid, layer := layer, rows := rows.map (fun x => s.handle g x.1), bser := l.bser }]
        layers := tabSet kid { l with bser := if l.bser + 1 = 2 ^ 32 then 1 else l.bser + 1 } v.layers } := by
  simp only [State.formBatch, entry, if_neg some_]
  rfl

/-- A bucket is due as R345 says. -/
theorem State.batchDue_iff {s : State} {g kid : Nat} {layer : BitVec 16} {l : Layer} (entry : tabFind (s.grove g).layers kid = some l) :
    s.batchDue g kid layer = true ↔
      (∃ z, 0 < l.b ∧ (s.bucket g kid layer)[l.b - 1]? = some z ∧ z.2.since / 2 < s.tick / 2)
      ∨ l.win ≠ 0 ∧ ∃ z, (s.bucket g kid layer)[0]? = some z ∧ z.2.since + l.win ≤ s.tick := by
  simp only [State.batchDue, entry, Bool.or_eq_true, List.head?_eq_getElem?]
  refine or_congr ?_ ?_
  · cases (s.bucket g kid layer)[l.b - 1]? <;> simp
  · cases (s.bucket g kid layer)[0]? <;> simp

/-! A layer task's start (R346) -/

/-- The rows of a batch that starts become RUNNING. -/
def State.runRow (g : Nat) (r : State) (h : BitVec 32) : State :=
  if (r.stream g (handleCtx h.toNat)).st = 2 ∧ (r.stream g (handleCtx h.toNat)).gen = fld h.toNat 0 7 then
    r.setStream g (handleCtx h.toNat) { r.stream g (handleCtx h.toNat) with st := 3 }
  else r

theorem State.runRow_idle {g c : Nat} {s : State} (idle : (s.stream g c).st ≠ 2) (h : BitVec 32) :
    (State.runRow g s h).stream g c = s.stream g c := by
  unfold State.runRow
  split
  next runs =>
    refine State.stream_setStream_ne _ _ (fun same => idle ?_) _
    rw [same]
    exact runs.1
  next => rfl

theorem State.runRows_idle {g c : Nat} {s : State} (idle : (s.stream g c).st ≠ 2) (rows : List (BitVec 32)) :
    (rows.foldl (State.runRow g) s).stream g c = s.stream g c := by
  induction rows generalizing s with
  | nil => rfl
  | cons h rows ih =>
    have kept := State.runRow_idle idle h
    exact (ih (kept ▸ idle)).trans kept

theorem State.runRows_row {g : Nat} {s : State} {rows : List (BitVec 32)} {h : BitVec 32} (row : h ∈ rows)
    (ready : (s.stream g (handleCtx h.toNat)).st = 2) (now : (s.stream g (handleCtx h.toNat)).gen = fld h.toNat 0 7) :
    (rows.foldl (State.runRow g) s).stream g (handleCtx h.toNat) = { s.stream g (handleCtx h.toNat) with st := 3 } := by
  induction rows generalizing s with
  | nil => cases row
  | cons k rows ih =>
    rw [List.foldl_cons]
    by_cases runs : handleCtx k.toNat = handleCtx h.toNat ∧ fld k.toNat 0 7 = fld h.toNat 0 7
    · have first : (State.runRow g s k).stream g (handleCtx h.toNat) = { s.stream g (handleCtx h.toNat) with st := 3 } := by
        simp only [State.runRow, runs, ready, now, and_self, if_true]
        exact State.stream_setStream ..
      rw [State.runRows_idle (first ▸ by simp), first]
    · have kept : (State.runRow g s k).stream g (handleCtx h.toNat) = s.stream g (handleCtx h.toNat) := by
        unfold State.runRow
        split
        next gen =>
          refine State.stream_setStream_ne _ _ (fun same => runs ⟨same.symm, ?_⟩) _
          rw [← gen.2, ← same, now]
        next => rfl
      have later : h ∈ rows := (List.mem_cons.1 row).resolve_left fun same => runs (same ▸ ⟨rfl, rfl⟩)
      rw [ih later (kept ▸ ready) (kept ▸ now), kept]

/-- A list with the number of each place. -/
theorem zip_upFrom {α : Type} (d : α) (l : List α) : (upFrom 0 l.length).zip l = (upFrom 0 l.length).map (fun k => (k, nth d l k)) := by
  refine List.ext_getElem? fun n => ?_
  by_cases place : n < l.length
  · have pair : ((upFrom 0 l.length).zip l)[n]? = some (n, l[n]) :=
      List.getElem?_zip_eq_some.2 ⟨getElem?_upFrom_zero place, List.getElem?_eq_getElem place⟩
    rw [pair, List.getElem?_map, getElem?_upFrom_zero place, Option.map_some, getElem?_nth, List.getElem?_eq_getElem place]
    rfl
  · rw [List.getElem?_eq_none (by simp [upFrom_length]; omega), List.getElem?_eq_none (by simp [upFrom_length]; omega)]

section LayerRegs
variable (x : Launch) (num : Nat) (b : Batch) (residual : Bool)

theorem taskRegs_wid (wid x10 : Word) : (taskRegs x num wid x10 residual).csrAt csrWID = wid := by
  rw [taskRegs, Regs.csrAt_setCsr_ne _ (by decide), Regs.csrAt_setCsr_ne _ (by decide), Regs.csrAt_setCsr_ne _ (by decide),
    Regs.csrAt_setCsr_same]

theorem taskRegs_x9 (wid x10 : Word) : (taskRegs x num wid x10 residual).xAt 9 = wid :=
  (Regs.xAt_setX_ne _ (by decide) _).trans (Regs.xAt_setX_same _ (by decide) _)

theorem taskRegs_x10 (wid x10 : Word) : (taskRegs x num wid x10 residual).xAt 10 = x10 := Regs.xAt_setX_same _ (by decide) _

/-- A layer task's registers as one run of CSR writes on those of a task. -/
theorem layerRegs_eq : layerRegs x num b residual =
    ((upFrom 0 b.rows.length).foldl (fun (q : Regs) k => q.setCsr (csrSB0 + k) (natW (nth 0 b.rows k).toNat))
      ((taskRegs x num (natW b.bser) (natW b.layer.toNat) residual).setCsr csrSCUR
        (natW (2 ^ 32 * b.bser + 2 ^ 16 * b.kid + b.layer.toNat)))).setCsr csrSBN (natW b.rows.length) := by
  rw [layerRegs, zip_upFrom 0, List.foldl_map]

theorem Regs.xAt_setCsr (r : Regs) (a : Nat) (v : Word) (n : Nat) : (r.setCsr a v).xAt n = r.xAt n := rfl

theorem layerRegs_xAt (n : Nat) :
    (layerRegs x num b residual).xAt n = (taskRegs x num (natW b.bser) (natW b.layer.toNat) residual).xAt n := by
  rw [layerRegs_eq, Regs.xAt_setCsr]
  generalize taskRegs x num (natW b.bser) (natW b.layer.toNat) residual = r
  rw [← r.xAt_setCsr csrSCUR (natW (2 ^ 32 * b.bser + 2 ^ 16 * b.kid + b.layer.toNat))]
  generalize upFrom 0 b.rows.length = l
  generalize r.setCsr csrSCUR _ = q
  induction l generalizing q with
  | nil => rfl
  | cons k l ih => exact (ih _).trans (q.xAt_setCsr ..)

/-- The CSRs of a layer task, with SBN after SB0 to SB15. -/
theorem layerRegs_csrAt {k : Nat} (h : k ≠ csrSBN) : (layerRegs x num b residual).csrAt k =
    if csrSB0 ≤ k ∧ k < csrSB0 + b.rows.length then natW (nth 0 b.rows (k - csrSB0)).toNat
    else ((taskRegs x num (natW b.bser) (natW b.layer.toNat) residual).setCsr csrSCUR
        (natW (2 ^ 32 * b.bser + 2 ^ 16 * b.kid + b.layer.toNat))).csrAt k := by
  rw [layerRegs_eq, Regs.csrAt_setCsr_ne _ h]
  exact Regs.csrAt_foldl_setCsr csrSB0 (fun k => natW (nth 0 b.rows k).toNat) 0 b.rows.length _ k

theorem layerRegs_sbn : (layerRegs x num b residual).csrAt csrSBN = natW b.rows.length := by
  rw [layerRegs_eq, Regs.csrAt_setCsr_same]

theorem layerRegs_scur : (layerRegs x num b residual).csrAt csrSCUR = natW (2 ^ 32 * b.bser + 2 ^ 16 * b.kid + b.layer.toNat) := by
  rw [layerRegs_csrAt _ _ _ _ (by decide), if_neg (fun h => absurd h.1 (by decide)), Regs.csrAt_setCsr_same]

theorem layerRegs_wid : (layerRegs x num b residual).csrAt csrWID = natW b.bser := by
  rw [layerRegs_csrAt _ _ _ _ (by decide), if_neg (fun h => absurd h.1 (by decide)), Regs.csrAt_setCsr_ne _ (by decide), taskRegs_wid]

theorem layerRegs_sb (small : b.rows.length ≤ 16) {k : Nat} (row : k < b.rows.length) :
    (layerRegs x num b residual).csrAt (csrSB0 + k) = natW (nth 0 b.rows k).toNat := by
  have free : csrSB0 + k ≠ csrSBN := by
    simp only [csrSB0, csrSBN]
    omega
  rw [layerRegs_csrAt _ _ _ _ free, if_pos ⟨Nat.le_add_right .., Nat.add_lt_add_left row _⟩, Nat.add_sub_cancel_left]

end LayerRegs

section StartBatch
variable (s : State) (c num : Nat) (x : Launch) (y : Layer) (b : Batch)

theorem State.claimPlace_groves : (s.claimPlace c).groves = s.groves := by
  simp only [State.claimPlace, State.emptyPlace, State.leavePlace]
  split
  · split <;> rfl
  · rfl

theorem State.startRegs_ctx (t : TaskOf) (r : Regs) :
    ((s.startRegs c x t r).ctx c).status = .run ∧ ((s.startRegs c x t r).ctx c).regs = r := by
  rw [State.startRegs, State.ctx_setCtx]
  exact ⟨rfl, rfl⟩

theorem State.startRegs_stream (t : TaskOf) (r : Regs) (g n : Nat) : (s.startRegs c x t r).stream g n = s.stream g n := by
  have groves : (s.startRegs c x t r).groves = s.groves := s.claimPlace_groves c
  rw [State.stream, State.grove, groves]
  rfl

/-- A batch's rows run on the context that takes it. -/
def State.runsRows : State :=
  b.rows.foldl (State.runRow (groveOf c)) (s.setGrove (groveOf c) { s.grove (groveOf c) with
    batches := (s.grove (groveOf c)).batches.map (fun y => if y.kid = b.kid ∧ y.bser = b.bser then { y with ctx := some c } else y) })

theorem State.startBatch_unlogged (unlogged : y.loga = 0) : s.startBatch c num x y b =
    (s.runsRows c b).startRegs c x { launch := num, ord := b.bser } (layerRegs x num b x.residualOn) := by
  simp only [State.startBatch, State.writeLog, if_pos unlogged]
  rfl

end StartBatch

/-! Packets that are not yet taken -/

theorem State.arrives_waits {s : State} {a : Arrival} {f : State → Packet → Option State} (waits : ∀ s1 q, f s1 q = none) :
    s.arrives a f = s.land a := by
  rw [State.arrives]
  cases s.takePacket a with
  | none => rfl
  | some p =>
    rw [Option.bind_some, waits]
    rfl

section Requests
variable {s s1 s2 : State} {a : Arrival} {q : Packet} (took : s.takePacket a = some (q, s1)) (kind : isStreamRequest q = true)
include took kind

theorem exec_remoteStreamRequest_done {s3 : State} (done : s.takeStreamRequest s1 q = (some s2, s3)) :
    exec (.remoteStreamRequest a) s = .next s2 := by
  simp only [exec_remoteStreamRequest, execRemoteStreamRequest, took, kind, done, Bool.not_true, Bool.false_eq_true, if_false]

theorem exec_remoteStreamRequest_waits (waits : s.takeStreamRequest s1 q = (none, s2)) :
    exec (.remoteStreamRequest a) s = .next (s2.land a) := by
  simp only [exec_remoteStreamRequest, execRemoteStreamRequest, took, kind, waits, Bool.not_true, Bool.false_eq_true, if_false]

end Requests

/-- What a request for a stream leads to, by what its form answers (R353): the next state, or what a wait has begun. -/
def State.answersRequest (s s1 : State) (src : Word) (sent : Nat) : StrmAns → Option State × State
  | .ok v fl s2 => (some (s2.sendReply src sent (.ok v 0 0 fl)), s)
  | .trap w => (some (s1.sendReply src sent (.trap w.cause w.tval w.unit)), s)
  | .wait => (none, s)
  | .stall g q => (none, s.startReload g q)
  | .ask pk f => (some (s1.sendPacket pk (f src sent)), s)

theorem State.takeStreamRequest_answer {s s1 : State} {src h x : Word} {sent vf : Nat} {f : StrmForm} {k : StrmAns}
    (answer : s1.strmOp (if fld src.toNat 32 9 = s.self then some (ctxOfAddr src) else none) vf f h x = k) :
    s.takeStreamRequest s1 (.strmReq src sent vf f h x) = s.answersRequest s1 src sent k := by
  simp only [State.takeStreamRequest, answer]
  cases k <;> rfl

/-- What a request for a family leads to, by what its form answers (R369). -/
def State.answersJoin (s : State) (src : Word) (sent : Nat) : JoinAns → State
  | .ok v jv js s2 => s2.sendReply src sent (.ok v jv js 0)
  | .trap w => s.sendReply src sent (.trap w.cause w.tval w.unit)
  | .waits s2 => s2

theorem State.remoteJoin_answer {s s1 : State} {a : Arrival} {src h x dl : Word} {sent vf : Nat} {f : JoinForm} {k : JoinAns}
    (took : s.takePacket a = some (.joinReq src sent vf f h x dl, s1))
    (answer : s1.joinOp (if fld src.toNat 32 9 = s.self then some (groveOf (ctxOfAddr src)) else none) src sent vf f h x dl = k) :
    exec (.remoteJoinRequest a) s = .next (s1.answersJoin src sent k) := by
  rw [exec_remoteJoinRequest, execRemoteJoinRequest, State.arrives_took took]
  simp only [answer, Option.getD_some]
  cases k <;> rfl

theorem exec_layerTaskStart_ready {c num kid : Nat} {l : Launch} {b : Batch} {y : Layer} {s : State}
    (bound : (s.bind c).launch = some num) (launch : tabFind s.launches num = some l) (layer : l.layerOf = some (groveOf c, kid))
    (batch : s.nextBatch (groveOf c) kid = some b) (entry : tabFind (s.grove (groveOf c)).layers kid = some y)
    (free : (s.ctx c).status = .free) (ready : s.readyOn l (dieOf c) = true) (serves : s.serves c l.vf = true) :
    exec (.layerTaskStart c) s = .next (s.startBatch c num l y b) := by
  simp only [exec_layerTaskStart, execLayerTaskStart, bound, launch, layer, batch, entry, free, ready, serves, and_self, if_true]

theorem exec_familyReport_took {s s1 s2 : State} {a : Arrival} {q : Packet} (took : s.takePacket a = some (q, s1))
    (inTurn : s.reportInOrder a = true) (done : s1.takeFamilyReport q = some s2) : exec (.familyReport a) s = .next s2 := by
  rw [exec_familyReport, execFamilyReport, State.arrives_took took, if_pos inTurn, done, Option.getD_some]

theorem exec_retireOrder_took {s s1 : State} {a : Arrival} {o h : BitVec 32} {vf : Nat} {res : Bool} {ack : Option (Word × Nat)}
    (took : s.takePacket a = some (.retire o h vf res ack, s1)) : exec (.retireOrder a) s = .next
      (if s.orderInOrder a = true ∧ (handlePkg h.toNat = s.self ∨ s.hasRoute (handlePkg h.toNat) = true) then
        if handlePkg h.toNat = s.self then s1.performRetire o h vf res ack
        else s1.sendPacket (handlePkg h.toNat) (.retire o h vf res ack)
      else s.land a) := by
  rw [exec_retireOrder, execRetireOrder, State.arrives_took took]
  dsimp only
  cases s.orderInOrder a with
  | false => simp
  | true =>
    by_cases here : handlePkg h.toNat = s.self
    · simp [here]
    · cases route : s.hasRoute (handlePkg h.toNat) <;> simp [here]

theorem exec_joinDeadline_family {g n : Nat} {t : Family} {s : State} (family : tabFind (s.grove g).families n = some t) :
    exec (.joinDeadline g n) s = .next (s.settleFamily g n t) := by
  simp only [exec_joinDeadline, execJoinDeadline, family]

/-! Spills (R351, R352) -/

/-- A grove that spills in the background, or no longer does. -/
def State.setDraining (s : State) (g : Nat) (d : Bool) : State := s.setGrove g { s.grove g with draining := d }

theorem State.beginSpill_enough {s : State} {g : Nat} (enough : 64 ≤ s.framesFree g) (idle : (s.grove g).draining = false) :
    s.beginSpill g = s.setDraining g false := by
  have off : (decide (s.framesFree g < 64) || ((s.grove g).draining && decide (s.framesFree g < 128))) = false := by
    rw [idle, decide_eq_false (Nat.not_lt.2 enough)]
    rfl
  simp only [State.beginSpill, off, Bool.not_false, true_or, if_true, State.setDraining]

section Short
variable {s s2 : State} {g m p k : Nat} {e : Census} (few : s.framesFree g < 64)
  (idle : s.framesFree g + ((s.grove g).census.filter (fun p => p.2.spilling == 1)).length < 128)
  (oldest : oldestPage ((((s.setDraining g true).residents.filter (fun x => x.1 == g && x.2.2.spilling == 0))).filter
    (s.setDraining g true).spillable) = some (m, p, e))
  (slot : (s.setDraining g true).takeSlot g p = some (k, s2))
include few idle oldest slot

theorem State.beginSpill_short : s.beginSpill g =
    if e.dirty = false ∧ e.slot ≠ none then s2.spilled g p k
    else (s2.writeSlot g p k).setPage g p { (s2.writeSlot g p k).page g p with spilling := 1 } := by
  have on : (decide (s.framesFree g < 64) || ((s.grove g).draining && decide (s.framesFree g < 128))) = true := by
    rw [decide_eq_true few, Bool.true_or]
  have begins : ¬((!true) = true ∨ 128 ≤ s.framesFree g + ((s.grove g).census.filter (fun p => p.2.spilling == 1)).length) := by
    simpa using idle
  simp only [State.beginSpill, on]
  rw [if_neg begins]
  simp only [State.setDraining] at oldest slot
  simp only [oldest, slot, Bool.not_eq_true', Option.isSome_iff_ne_none]

end Short

theorem State.endSpill_free {s : State} {g n k : Nat} (slot : (s.page g n).slot = some k) (writing : (s.page g n).spilling = 1)
    (loose : (s.page g n).pin = false) (unheld : s.heldPage g n = false) : s.endSpill g n = s.spilled g n k := by
  simp only [State.endSpill, slot, writing, loose, unheld, Bool.not_false, and_self, if_true]

theorem State.reloaded_into {s : State} {g n f : Nat} (into : (s.page g n).into = some f) : s.reloaded g n =
    (s.putBlock (.frame g f 0) pageSize (s.cells (s.pageLoc g n) pageSize) (s.poisonOf (s.pageLoc g n) pageSize)).setPage g n
      { s.page g n with spl := false, dirty := false, loc := f, into := none, slot := some (s.page g n).loc, last := s.tick } := by
  simp only [State.reloaded, into]

/-! A row settled (R347) -/

theorem State.settleRow_now {s : State} {g k : Nat} {h : BitVec 32} (now : (s.stream g (handleCtx h.toNat)).gen = fld h.toNat 0 7) :
    s.settleRow g h k =
      if (s.stream g (handleCtx h.toNat)).st = 7 then s.freeStream g (handleCtx h.toNat)
      else if (s.stream g (handleCtx h.toNat)).st ≠ 3 then s
      else if (s.stream g (handleCtx h.toNat)).migp = true then s.depart g (handleCtx h.toNat)
      else s.parkStream g (handleCtx h.toNat) k := if_neg (not_not.2 now)

theorem State.parkStream_ended {s : State} {g c k : Nat} (ended : (s.stream g c).hor = 0 ∨ (s.stream g c).inf = true) :
    s.parkStream g c k = (s.setStream g c { s.stream g c with st := 4, parked := false }).report g c := if_pos ended

theorem State.parkStream_parks {s : State} {g c k : Nat} (left : (s.stream g c).hor ≠ 0) (feasible : (s.stream g c).inf = false) :
    s.parkStream g c k = s.setStream g c { s.stream g c with st := 1, parked := true, since := s.tick + 2 * k } := by
  simp only [State.parkStream, left, feasible, Bool.false_eq_true, or_self, if_false]

theorem State.settleRow_cases (s : State) (g k : Nat) (h : BitVec 32) :
    let c := handleCtx h.toNat
    let t := s.stream g c
    t.gen = fld h.toNat 0 7 →
    (t.st = 7 → s.settleRow g h k = s.freeStream g c)
    ∧ (t.st = 3 → t.migp = true → s.settleRow g h k = s.depart g c)
    ∧ (t.st = 3 → t.migp = false → t.hor = 0 ∨ t.inf = true →
        s.settleRow g h k = (s.setStream g c { t with st := 4, parked := false }).report g c)
    ∧ (t.st = 3 → t.migp = false → t.hor ≠ 0 → t.inf = false →
        s.settleRow g h k = s.setStream g c { t with st := 1, parked := true, since := s.tick + 2 * k }) := by
  intro c t now
  have parks : t.st = 3 → t.migp = false → s.settleRow g h k = s.parkStream g c k := fun runs stays => by
    rw [State.settleRow_now now, if_neg (by rw [runs]; decide), if_neg (not_not.2 runs), if_neg (by rw [stays]; decide)]
  refine ⟨fun retired => ?_, fun runs leaves => ?_, fun runs stays ended => (parks runs stays).trans (State.parkStream_ended ended),
    fun runs stays left feasible => (parks runs stays).trans (State.parkStream_parks left feasible)⟩
  · rw [State.settleRow_now now, if_pos retired]
  · rw [State.settleRow_now now, if_neg (by rw [runs]; decide), if_neg (not_not.2 runs), if_pos leaves]

/-- What a batch formed does to its bucket's grove. -/
theorem State.formBatch_cases (s : State) (g kid : Nat) (layer : BitVec 16) (y : Layer)
    (entry : tabFind (s.grove g).layers kid = some y) (some_ : (s.bucket g kid layer).take y.b ≠ []) :
    let rows := (s.bucket g kid layer).take y.b
    let r := s.formBatch g kid layer
    (r.grove g).batches = (s.grove g).batches ++ [{ kid := kid, layer := layer, rows := rows.map (fun x => s.handle g x.1), bser := y.bser }]
    ∧ tabFind (r.grove g).layers kid = some { y with bser := if y.bser + 1 = 2 ^ 32 then 1 else y.bser + 1 }
    ∧ (∀ x ∈ rows, ∃ t, (x.1, t) ∈ rows ∧ r.stream g x.1 = { t with st := 2, parked := false })
    ∧ ∀ c, (∀ x ∈ rows, x.1 ≠ c) → r.stream g c = s.stream g c := by
  intro rows r
  obtain ⟨batches, layers⟩ := s.readies_tables g rows
  have formed : r = _ := State.formBatch_rows entry some_
  have stream : ∀ c, r.stream g c = (s.readies g rows).stream g c := fun c => by
    rw [formed, State.stream, State.grove_setGrove]
    rfl
  refine ⟨?_, ?_, fun x row => ?_, fun c other => (stream c).trans (s.readies_other g other)⟩
  · rw [formed, State.grove_setGrove]
    exact congrArg (· ++ _) batches
  · rw [formed, State.grove_setGrove]
    exact tabFind_tabSet_same ..
  · obtain ⟨t, mem, ready⟩ := s.readies_row g ⟨x, row, rfl⟩
    exact ⟨t, mem, (stream _).trans ready⟩

/-- What a layer task starts with (R346). -/
theorem State.startBatch_cases (s : State) (c num : Nat) (l : Launch) (y : Layer) (b : Batch) (unlogged : y.loga = 0)
    (small : b.rows.length ≤ 16) :
    let r := s.startBatch c num l y b
    let q := (r.ctx c).regs
    (r.ctx c).status = .run ∧ q.xAt 9 = natW b.bser ∧ q.csrAt csrWID = natW b.bser ∧ q.xAt 10 = natW b.layer.toNat
    ∧ q.csrAt csrSCUR = natW (2 ^ 32 * b.bser + 2 ^ 16 * b.kid + b.layer.toNat) ∧ q.csrAt csrSBN = natW b.rows.length
    ∧ (∀ k, k < b.rows.length → q.csrAt (csrSB0 + k) = natW (nth 0 b.rows k).toNat)
    ∧ ∀ h ∈ b.rows, let t := s.stream (groveOf c) (handleCtx h.toNat)
        t.st = 2 → t.gen = fld h.toNat 0 7 → r.stream (groveOf c) (handleCtx h.toNat) = { t with st := 3 } := by
  intro r q
  have start : r = _ := State.startBatch_unlogged s c num l y b unlogged
  have regs : q = layerRegs l num b l.residualOn := by
    simp only [q, start]
    exact (State.startRegs_ctx ..).2
  have noted : ∀ n, (s.setGrove (groveOf c) { s.grove (groveOf c) with
      batches := (s.grove (groveOf c)).batches.map (fun y => if y.kid = b.kid ∧ y.bser = b.bser then { y with ctx := some c } else y)
      }).stream (groveOf c) n = s.stream (groveOf c) n := fun n => by
    rw [State.stream, State.grove_setGrove]
    rfl
  rw [regs]
  refine ⟨start ▸ (State.startRegs_ctx ..).1, ?_, layerRegs_wid .., ?_, layerRegs_scur .., layerRegs_sbn ..,
    fun k row => layerRegs_sb l num b _ small row, fun h row => ?_⟩
  · rw [layerRegs_xAt, taskRegs_x9]
  · rw [layerRegs_xAt, taskRegs_x10]
  · intro t ready now
    rw [start, State.startRegs_stream, State.runsRows,
      State.runRows_row row ((congrArg Stream.st (noted _)).trans ready) ((congrArg Stream.gen (noted _)).trans now), noted]

/-- Settles O41: each event by what it takes, then the bucket's order, the batch formed, its start, and a row settled. -/
theorem streamEvents : Obligations.StreamEvents := by
  refine ⟨?_, fun s g kid layer => ⟨s.bucket_perm g kid layer, s.bucket_sorted g kid layer, fun y entry some_ =>
    s.formBatch_cases g kid layer y entry some_⟩, fun s c num l y b => s.startBatch_cases c num l y b, State.settleRow_cases⟩
  intro a g c n m kid sent layer s1 s2 s3 src dst v fl vf num f j h x dl jv js w p r slot fam nh o ret ver ford inf l y b t ask ack e res
    took pkg iss user asked joined draining busy oldest short due report order
  refine ⟨?ok, ?trap, ?asks, ?waits, ?stalls, ?other, ?joinOk, ?joinTrap, ?joinWaits, ?reply, ?seed, ?early, ?ack, ?expired, ?kept, ?due,
    ?open_, ?start, ?enough, ?writes, ?clean, ?spilled, ?reloaded, ?reports, ?gone, ?moved, ?family, ?later, ?deadline, ?retire, ?forward, ?queued⟩
  case ok => exact fun s ⟨took, answer⟩ => exec_remoteStreamRequest_done took rfl (State.takeStreamRequest_answer answer)
  case trap => exact fun s ⟨took, answer⟩ => exec_remoteStreamRequest_done took rfl (State.takeStreamRequest_answer answer)
  case asks => exact fun s ⟨took, answer⟩ => exec_remoteStreamRequest_done took rfl (State.takeStreamRequest_answer answer)
  case waits => exact fun s ⟨took, answer⟩ => exec_remoteStreamRequest_waits took rfl (State.takeStreamRequest_answer answer)
  case stalls => exact fun s ⟨took, answer⟩ => exec_remoteStreamRequest_waits took rfl (State.takeStreamRequest_answer answer)
  case other => exact fun s ⟨took, kind, done⟩ => exec_remoteStreamRequest_done took kind done
  case joinOk => exact fun s ⟨took, answer⟩ => State.remoteJoin_answer took answer
  case joinTrap => exact fun s ⟨took, answer⟩ => State.remoteJoin_answer took answer
  case joinWaits => exact fun s ⟨took, answer⟩ => State.remoteJoin_answer took answer
  case reply => exact fun s took => congrArg Host.Outcome.next (State.arrives_took took _)
  case seed =>
    intro s ⟨inTurn, took, _⟩
    rw [exec_seedPacketArrival, execSeedPacketArrival, State.arrives_took took, if_pos inTurn, Option.getD_some]
  case early => exact fun s late => congrArg Host.Outcome.next (State.arrives_waits fun s1 q => if_neg (by simp [late]))
  case ack => exact fun s took => congrArg Host.Outcome.next (State.arrives_took took _)
  case expired => exact fun s expired => if_pos expired
  case kept => exact fun s kept => if_neg (by omega)
  case due =>
    intro s ⟨entry, due⟩
    rw [exec_batchWindowExpiry, execBatchWindowExpiry, BitVec.ofNat_toNat, BitVec.setWidth_eq,
      if_pos ((State.batchDue_iff entry).2 due)]
  case open_ =>
    intro s ⟨entry, due⟩
    rw [exec_batchWindowExpiry, execBatchWindowExpiry, BitVec.ofNat_toNat, BitVec.setWidth_eq,
      if_neg (mt (State.batchDue_iff entry).1 due)]
  case start =>
    exact fun s ⟨bound, launch, layer, batch, entry, free, ready, serves⟩ =>
      exec_layerTaskStart_ready bound launch layer batch entry free ready serves
  case enough => exact fun s ⟨enough, idle⟩ => congrArg Host.Outcome.next (State.beginSpill_enough enough idle)
  case writes =>
    intro s ⟨⟨few, idle, oldest, slot⟩, dirty⟩
    have writes : ¬(e.dirty = false ∧ e.slot ≠ none) := fun ⟨clean, kept⟩ => dirty.elim (by simp [clean]) kept
    rw [exec_backgroundSpill, execBackgroundSpill, State.beginSpill_short few idle oldest slot, if_neg writes]
  case clean =>
    intro s ⟨⟨few, idle, oldest, slot⟩, clean⟩
    rw [exec_backgroundSpill, execBackgroundSpill, State.beginSpill_short few idle oldest slot, if_pos clean]
  case spilled =>
    exact fun s ⟨slot, writing, loose, unheld⟩ => congrArg Host.Outcome.next (State.endSpill_free slot writing loose unheld)
  case reloaded => exact fun s into => congrArg Host.Outcome.next (State.reloaded_into into)
  case reports => exact fun s ⟨inTurn, took⟩ => exec_familyReport_took took inTurn rfl
  case gone => exact fun s ⟨inTurn, took⟩ => exec_familyReport_took took inTurn rfl
  case moved => exact fun s ⟨inTurn, took⟩ => exec_familyReport_took took inTurn rfl
  case family => exact fun s ⟨⟨inTurn, took⟩, done⟩ => exec_familyReport_took took inTurn done
  case later => exact fun s late => congrArg Host.Outcome.next (State.arrives_waits fun s1 q => if_neg (by simp [late]))
  case deadline => exact fun s family => exec_joinDeadline_family family
  case retire =>
    intro s ⟨⟨took, inTurn⟩, here⟩
    rw [exec_retireOrder_took took, if_pos ⟨inTurn, .inl here⟩, if_pos here]
  case forward =>
    intro s ⟨⟨took, inTurn⟩, away, route⟩
    rw [exec_retireOrder_took took, if_pos ⟨inTurn, .inr route⟩, if_neg away]
  case queued =>
    intro s ⟨took, late⟩
    rw [exec_retireOrder_took took, if_neg (fun order => by simp [late] at order)]

end Sys2Proof.Machine
end

section
/-! PROOF. The STRM forms as issued and answered (R353 to R357). -/

namespace Sys2Proof.Machine

/-- The result of a STRM form written: X `d`, or nothing. -/
def State.putStrm (d : Option (BitVec 5)) (s : State) (v : Word) : State :=
  match d with
  | some r => s.writeX r v
  | none => s

theorem State.putStrm_unit (d : Option (BitVec 5)) (s : State) (v : Word) : (s.putStrm d v).unit = s.unit := by
  cases d <;> rfl

/-- The end of a STRM form whose own grove answers. -/
def State.endsStrm (s : State) (d : Option (BitVec 5)) (v : Word) : StrmAns → Res
  | .ok r fl s1 => .done (((s.within s1).putStrm d r).orFlags fl.toNat)
  | .trap w => .trap w
  | .wait => .wait
  | .stall h p => .stall h p
  | .ask pkg q => (s.sendPacket pkg (q (s.caddr s.cur) s.tick)).send (.strm v)

/-- The STRM form performed by the own grove's Samovar. -/
abbrev State.strmHere (s : State) (f : StrmForm) (v x : Word) : StrmAns := s.strmOp (some s.cur) s.me.vf f v x

/-- What a STRM form answers as it is issued. -/
def State.issuesStrm (s : State) (f : StrmForm) (d : Option (BitVec 5)) (v x : Word) : Res :=
  if s.handleProt v (some (groveOf s.cur)) then .trap { cause := cPROT, tval := v }
  else if s.acquiring then .wait
  else if handlePkg v.toNat = s.self ∧ handleGrove v.toNat = groveOf s.cur then s.endsStrm d v (s.strmHere f v x)
  else (s.sendPacket (handlePkg v.toNat) (.strmReq (s.caddr s.cur) s.tick s.me.vf f v x)).send (.strm v)

/-- The second operand of a STRM form: X `b`, or nothing. -/
def State.strmOperand (s : State) (b : Option (BitVec 5)) : Word :=
  match b with
  | some r => s.regs.xAt r.toNat
  | none => 0

section Form
variable {i : Instr} {f : StrmForm} {d : Option (BitVec 5)} {a : BitVec 5} {b : Option (BitVec 5)}
  (e : ∀ s, exec i s = strmForm (cSig i) f d a b s)
  (dst : ∀ r ∈ d, ⟨0, r.toNat⟩ ∈ (cSig i).dsts)
include e dst

theorem strmForm_means : Means i (fun s => s.issuesStrm f d (s.regs.xAt a.toNat) (s.strmOperand b)) :=
  .of_issue e fun s h => by
    obtain ⟨start, none_, -⟩ := State.ready_parts h
    rw [State.whenDone_start _ _ none_]
    simp only [State.rx_plain _ _ start]
    unfold State.issuesStrm
    refine ite_congr rfl (fun _ => rfl) fun _ => ite_congr rfl (fun _ => rfl) fun _ => ite_congr rfl (fun _ => ?_) fun _ => rfl
    change (s.strmHere f (s.regs.xAt a.toNat) (s.strmOperand b)).res (s.regs.xAt a.toNat) d s = _
    cases s.strmHere f (s.regs.xAt a.toNat) (s.strmOperand b) with
    | trap w => rfl
    | wait => rfl
    | stall h p => rfl
    | ask pkg q => rfl
    | ok r fl s1 =>
      cases d with
      | none => rfl
      | some n =>
        have free : s.regs.boundTo n.toNat = none := State.dst_unbound h (dst n rfl)
        simp only [StrmAns.res, State.putWithin_plain s1 r free]
        rfl

omit e dst in
theorem State.issuesStrm_own {s : State} (may : s.mayJoin a) (own : s.joinsOwn a) (f : StrmForm) (d : Option (BitVec 5)) (x : Word) :
    s.issuesStrm f d (s.regs.xAt a.toNat) x = s.endsStrm d (s.regs.xAt a.toNat) (s.strmHere f (s.regs.xAt a.toNat) x) := by
  obtain ⟨may, calm⟩ := may
  simp only [State.issuesStrm, may, calm, Bool.false_eq_true, if_false, if_pos own]

/-- A STRM form meets the clauses of the statement. -/
theorem strmForm_forms :
    TrapIf i (cSig i) (fun s => s.handleProt (s.regs.xAt a.toNat) (some (groveOf s.cur)) = true)
      (fun s => { cause := cPROT, tval := s.regs.xAt a.toNat })
    ∧ WaitIf i (cSig i) (fun s => s.handleProt (s.regs.xAt a.toNat) (some (groveOf s.cur)) = false ∧ s.acquiring = true)
    ∧ (∀ v fl s1, DoneIf i (cSig i) (fun s => s.mayJoin a ∧ s.joinsOwn a ∧ s.strmHere f (s.regs.xAt a.toNat) (s.strmOperand b) = .ok v fl s1)
        (fun s => ((s.within s1).putStrm d v).orFlags fl.toNat))
    ∧ (∀ y, TrapIf i (cSig i) (fun s => s.mayJoin a ∧ s.joinsOwn a ∧ s.strmHere f (s.regs.xAt a.toNat) (s.strmOperand b) = .trap y)
        (fun _ => y))
    ∧ WaitIf i (cSig i) (fun s => s.mayJoin a ∧ s.joinsOwn a ∧ s.strmHere f (s.regs.xAt a.toNat) (s.strmOperand b) = .wait)
    ∧ SendIf i (cSig i) (fun s => s.mayJoin a ∧ ¬s.joinsOwn a)
        (fun s => s.sendPacket (handlePkg (s.regs.xAt a.toNat).toNat)
          (.strmReq (s.caddr s.cur) s.tick s.me.vf f (s.regs.xAt a.toNat) (s.strmOperand b)))
        (fun s => .strm (s.regs.xAt a.toNat))
    ∧ AnswerDone i (cSig i) (fun s v _ _ fl => (s.putStrm d v).orFlags fl)
    ∧ (∀ h p s, s.ready (cSig i) = true → s.mayJoin a → s.joinsOwn a → s.strmHere f (s.regs.xAt a.toNat) (s.strmOperand b) = .stall h p →
        exec i s = .next ((s.startReload h p).waits))
    ∧ (∀ pkg q, SendIf i (cSig i) (fun s => s.mayJoin a ∧ s.joinsOwn a ∧ s.strmHere f (s.regs.xAt a.toNat) (s.strmOperand b) = .ask pkg q)
        (fun s => s.sendPacket pkg (q (s.caddr s.cur) s.tick)) (fun s => .strm (s.regs.xAt a.toNat))) := by
  have means := strmForm_means e dst
  refine ⟨means.trapIf fun s bad => ?prot, means.waitIf fun s ⟨may, busy⟩ => ?wait,
    fun v fl s1 => means.doneIf (fun s ⟨may, own, op⟩ => ?done) fun s => State.putStrm_unit d _ v,
    fun y => means.trapIf fun s ⟨may, own, op⟩ => ?trap, means.waitIf fun s ⟨may, own, op⟩ => ?held,
    means.sendIf fun s ⟨⟨may, calm⟩, away⟩ => ?sent, fun s v jv js fl r hw => ?answered,
    fun h p s ready may own op => ?stalled, fun pkg q => means.sendIf fun s ⟨may, own, op⟩ => ?asked⟩
  case prot => simp only [State.issuesStrm, bad, if_true]
  case wait => simp only [State.issuesStrm, may, busy, Bool.false_eq_true, if_false, if_true]
  case done => rw [State.issuesStrm_own may own, op]; rfl
  case trap => rw [State.issuesStrm_own may own, op]; rfl
  case held => rw [State.issuesStrm_own may own, op]; rfl
  case sent => simp only [State.issuesStrm, may, calm, Bool.false_eq_true, if_false, if_neg away]
  case answered =>
    rw [e]
    refine issue_answered_done r ((State.whenDone_answered _ _ r).trans ?_)
      ((State.putStrm_unit d _ v).trans (State.answered_parts r).1)
    cases d with
    | none => rfl
    | some n =>
      simp only [State.putX_plain v (State.unpend_unbound hw (dst n rfl))]
      rfl
  case stalled =>
    rw [means s ready]
    dsimp only
    rw [State.issuesStrm_own may own, op]
    rfl
  case asked => rw [State.issuesStrm_own may own, op]; rfl

end Form

end Sys2Proof.Machine
end

section
/-! PROOF. What the STRM forms answer at a stream (R339, R354 to R357). -/

namespace Sys2Proof.Machine

/-! Steps that leave streams and maps as they are -/

/-- The streams and the maps of every grove are the same. -/
def State.sameStreams (s t : State) : Prop := ∀ g, (t.grove g).streams = (s.grove g).streams ∧ (t.grove g).maps = (s.grove g).maps

theorem State.sameStreams.trans {s t u : State} (h : s.sameStreams t) (k : t.sameStreams u) : s.sameStreams u :=
  fun g => ⟨(k g).1.trans (h g).1, (k g).2.trans (h g).2⟩

theorem State.sameStreams_of_groves {s t : State} (h : t.groves = s.groves) : s.sameStreams t := fun g => by
  simp only [State.grove, h, and_self]

theorem State.sameStreams_refl (s : State) : s.sameStreams s := State.sameStreams_of_groves rfl

theorem State.sameStreams_setGrove (s : State) {g : Nat} {x : Grove} (streams : x.streams = (s.grove g).streams)
    (maps : x.maps = (s.grove g).maps) : s.sameStreams (s.setGrove g x) := fun j => by
  by_cases same : j = g
  · subst same
    rw [State.grove_setGrove]
    exact ⟨streams, maps⟩
  · rw [State.grove_setGrove_ne _ same]
    exact ⟨rfl, rfl⟩

theorem State.sameStreams.stream {s t : State} (h : s.sameStreams t) (g c : Nat) : t.stream g c = s.stream g c := by
  simp only [State.stream, (h g).1]

theorem State.sameStreams.smap {s t : State} (h : s.sameStreams t) (g m : Nat) : t.smap g m = s.smap g m := by
  simp only [State.smap, (h g).2]

theorem State.sameStreams_sendPacket (s : State) (n : Nat) (p : Packet) : s.sameStreams (s.sendPacket n p) :=
  State.sameStreams_of_groves (by unfold State.sendPacket; split <;> rfl)

theorem State.sameStreams_setFamily (s : State) (g c : Nat) (f : Family) : s.sameStreams (s.setFamily g c f) :=
  s.sameStreams_setGrove rfl rfl

theorem State.sameStreams_noteFork (s : State) (g : Nat) (row child : BitVec 32) : s.sameStreams (s.noteFork g row child) :=
  s.sameStreams_setGrove rfl rfl

theorem State.sameStreams_addMember (s : State) (fam : BitVec 32) (o : BitVec 16) (m : Member) : s.sameStreams (s.addMember fam o m) := by
  unfold State.addMember
  split
  · exact s.sameStreams_setFamily _ _ _
  · exact s.sameStreams_refl

theorem State.sameStreams_foldl {α : Type} {f : State → α → State} (keeps : ∀ (s : State) (x : α), s.sameStreams (f s x)) (l : List α)
    (s : State) : s.sameStreams (l.foldl f s) := by
  induction l generalizing s with
  | nil => exact s.sameStreams_refl
  | cons x l ih => exact (keeps s x).trans (ih _)

theorem State.sameStreams_unbind (s : State) (c : Nat) : s.sameStreams (s.unbind c) := by
  unfold State.unbind
  split
  · exact s.sameStreams_refl
  · dsimp only
    split
    · exact State.sameStreams_setGrove (s.setBind c _) rfl rfl
    · exact State.sameStreams_of_groves rfl

theorem State.sameStreams_setLayers (s : State) (g : Nat) (ls : Tab Layer) :
    s.sameStreams (s.setGrove g { s.grove g with layers := ls }) := s.sameStreams_setGrove rfl rfl

theorem State.sameStreams_layerCheck (s : State) (g kid : Nat) : s.sameStreams (s.layerCheck g kid) := by
  unfold State.layerCheck
  dsimp only
  split
  · exact s.sameStreams_refl
  · split
    · exact s.sameStreams_refl
    · next l _ _ =>
      have freed := State.sameStreams_foldl (f := fun r (b : Nat × Bind) => r.unbind b.1) (fun r b => r.sameStreams_unbind b.1)
        (s.binds.filter (fun b => b.2.launch == some l.launch && (s.ctx b.1).status == .free)) s
      refine freed.trans ?_
      split
      · exact (State.sameStreams_setLayers _ g _).trans (State.sameStreams_of_groves rfl)
      · exact State.sameStreams_setLayers _ g _

/-! A stream written, and one written twice -/

theorem State.setStream_setStream (s : State) (g c : Nat) (x y : Stream) : (s.setStream g c x).setStream g c y = s.setStream g c y := by
  simp only [State.setStream, State.grove_setGrove, tabSet_tabSet]
  exact congrArg (fun v => { s with groves := v }) (tabSet_tabSet g _ _ s.groves)

theorem State.smap_setStream (s : State) (g c m : Nat) (x : Stream) : (s.setStream g c x).smap g m = s.smap g m := by
  rw [State.smap, State.grove_setStream]
  rfl

theorem State.smap_setMap (s : State) (g m : Nat) (x : SMap) : (s.setMap g m x).smap g m = x := by
  rw [State.smap, State.setMap, State.grove_setGrove, tabGet_tabSet_same]

theorem State.stream_setMap (s : State) (g m c : Nat) (x : SMap) : (s.setMap g m x).stream g c = s.stream g c := by
  rw [State.stream, State.setMap, State.grove_setGrove]
  rfl

theorem State.becomeDone_setStream (s : State) (g c : Nat) (x : Stream) :
    (s.setStream g c x).becomeDone g c = (s.setStream g c { x with st := 4, parked := false }).report g c := by
  rw [State.becomeDone, State.stream_setStream, State.setStream_setStream]

theorem State.freeStream_stream (s : State) (g c : Nat) : (s.freeStream g c).stream g c = { gen := nextGen (s.stream g c).gen } :=
  ((State.sameStreams_layerCheck _ _ _).stream g c).trans (State.stream_setStream ..)

/-! The checks, in the order of R354 -/

/-- What SPIN of a spilled page answers: it waits for the reload, where a frame can be found. -/
def State.reloadAns (s : State) (g p : Nat) (v : Word) : StrmAns :=
  match s.reachPage g p with
  | .noFrame => .trap { cause := cQUOTA, tval := v }
  | _ => .stall g p

theorem State.reloadAns_noFrame {s : State} {g p : Nat} (full : s.reachPage g p = .noFrame) (v : Word) :
    s.reloadAns g p v = .trap { cause := cQUOTA, tval := v } := by
  simp only [State.reloadAns, full]

theorem State.reloadAns_stall {s : State} {g p : Nat} (room : s.reachPage g p ≠ .noFrame) (v : Word) : s.reloadAns g p v = .stall g p := by
  unfold State.reloadAns
  split
  next full => exact absurd full room
  next => rfl

/-- What a STRM form answers that has passed the checks. -/
def State.samovar (s : State) (user : Option Nat) (vf : Nat) (v x : Word) (h : BitVec 32) (g c : Nat) (t : Stream) : StrmForm → StrmAns
  | .stat => .ok (statWord t) 0 s
  | .fork => s.fork g c
  | .mig => s.migrate g c user x
  | .next =>
    if x.toNat / 2 ^ 22 % 2 ^ 41 ≠ 0 ∨ !((tabFind (s.grove g).layers (x.toNat / 2 ^ 16 % 2 ^ 6)).any (fun l => l.vf == vf))
        ∨ (x.getLsbD 63 ∧ t.hor = 0) then
      .trap { cause := cILLEGAL, tval := x }
    else .ok 0 0 ((s.setStream g c { t with
      layer := BitVec.ofNat 16 x.toNat, kid := x.toNat / 2 ^ 16 % 2 ^ 6, hor := if x.getLsbD 63 then t.hor - 1 else t.hor }).layerCheck g t.kid)
  | .ret =>
    let r := fmt32.add mRNE 0 (fmt32.val t.ret.toNat) (fmt32.val (x.toNat % 2 ^ 32))
    let s1 := s.setStream g c { t with ret := BitVec.ofNat 32 r.1 }
    .ok 0 (BitVec.ofNat 6 r.2) (if t.st = 4 then s1.report g c else s1)
  | .infeas => .ok 0 0 (if t.st = 1 then (s.setStream g c { t with inf := true }).becomeDone g c else s.setStream g c { t with inf := true })
  | .retire => .ok 0 0 ((s.retireHere t.fam h vf).tellGone t h)
  | .retireSub =>
    if handlePkg t.fam.toNat = s.self then .ok 0 0 (s.retireTree t.fam h t.ford vf none)
    else .ask (handlePkg t.fam.toNat) (fun src n => .subAsk src n vf t.fam h t.ford)
  | .apush => if t.aq.length < 16 then .ok 1 0 (s.setStream g c { t with aq := t.aq ++ [x] }) else .ok 0 0 s
  | .apop =>
    match t.aq with
    | [] => .trap (streamWhy 4 v)
    | w :: r => .ok w 0 (s.setStream g c { t with aq := r })
  | .pin =>
    if t.npg ≤ x.toNat then .trap (streamWhy 5 v)
    else
      let p := nth 0 (s.smap g t.map).pages x.toNat
      if (s.page g p).spl then s.reloadAns g p v
      else .ok 0 0 (s.setPage g p { s.page g p with pin := true })
  | .unpin =>
    if t.npg ≤ x.toNat then .trap (streamWhy 5 v)
    else
      let p := nth 0 (s.smap g t.map).pages x.toNat
      .ok 0 0 (s.setPage g p { s.page g p with pin := false })

/-- A context of this package issues the form, and the handle is a row of its batch. -/
theorem isRow_iff (s : State) (iss : Option Nat) (h : BitVec 32) :
    iss.any (fun k => s.isRow k h) = true ↔ ∃ k, iss = some k ∧ s.isRow k h = true := by
  cases iss <;> simp

theorem not_stray {f : StrmForm} {b : Bool} (row : f = .next → b = true) : ¬(f = .next ∧ (!b) = true) := by
  rintro ⟨next, out⟩
  rw [row next] at out
  cases out

section Checks
variable {s : State} {iss : Option Nat} {vf : Nat} {v x : Word}

/-- The handle that a STRM form names. -/
abbrev named (v : Word) : BitVec 32 := BitVec.ofNat 32 v.toNat

/-- The stream that a STRM form names. -/
abbrev State.namedStream (s : State) (v : Word) : Stream := s.stream (handleGrove (named v).toNat) (handleCtx (named v).toNat)

theorem streamWhy_eq (code : Nat) (v : Word) :
    streamWhy code v = { cause := cSTREAM, tval := natW (code * 2 ^ 32 + v.toNat % 2 ^ 32) } := by
  rw [streamWhy, fld_zero]

theorem State.strmOp_prot (bad : ¬s.handleProt v (iss.map groveOf) = false) (f : StrmForm) :
    s.strmOp iss vf f v x = .trap { cause := cPROT, tval := natW v.toNat } := by
  rw [natW_toNat_self]
  exact if_pos (Bool.not_eq_false _ ▸ bad)

variable (may : s.handleProt v (iss.map groveOf) = false)
include may

theorem State.strmOp_stale (stale : s.stale (named v) vf = true) (f : StrmForm) :
    s.strmOp iss vf f v x = if f = .stat then .ok 0 0 s else .trap (streamWhy 1 v) := by
  simp only [State.strmOp, may, Bool.false_eq_true, if_false]
  exact if_pos stale

variable (fresh : s.stale (named v) vf = false)
include fresh

theorem State.strmOp_moved (moved : (s.namedStream v).st = 5 ∨ (s.namedStream v).st = 6) {f : StrmForm} (other : f ≠ .stat) :
    s.strmOp iss vf f v x = .trap { cause := cMOVED, tval := natW (s.namedStream v).newh.toNat } := by
  simp only [State.strmOp, may, fresh, Bool.false_eq_true, if_false]
  exact if_pos ⟨moved, other⟩

/-- The checks of the status, of the row and of what the form allows. -/
theorem State.strmOp_here {f : StrmForm} (here : f = .stat ∨ ((s.namedStream v).st ≠ 5 ∧ (s.namedStream v).st ≠ 6)) :
    s.strmOp iss vf f v x =
      if f = .next ∧ !(iss.any (fun k => s.isRow k (named v))) then .trap (streamWhy 6 v)
      else if f = .fork ∧ (s.namedStream v).st = 7 ∧ (s.namedStream v).resolved then .trap (streamWhy 1 v)
      else if !(formAllows f (s.namedStream v).st) then .trap (streamWhy 3 v)
      else s.samovar (iss.map groveOf) vf v x (named v) (handleGrove (named v).toNat) (handleCtx (named v).toNat) (s.namedStream v) f := by
  have stays : ¬(((s.namedStream v).st = 5 ∨ (s.namedStream v).st = 6) ∧ f ≠ .stat) := by
    rintro ⟨moved, other⟩
    obtain ⟨five, six⟩ := here.resolve_left other
    exact moved.elim five six
  simp only [State.strmOp, may, fresh, Bool.false_eq_true, if_false]
  refine (if_neg stays).trans ?_
  refine ite_congr rfl (fun _ => rfl) fun _ => ite_congr rfl (fun _ => rfl) fun _ => ite_congr rfl (fun _ => rfl) fun _ => ?_
  cases f with
  | next => simp only [State.samovar, fld, bitAt_toNat]
  | ret => simp only [State.samovar, fld_zero]
  | _ => rfl

/-- What a form that passes every check answers. -/
theorem State.strmOp_performs {f : StrmForm} (here : f = .stat ∨ ((s.namedStream v).st ≠ 5 ∧ (s.namedStream v).st ≠ 6))
    (row : f = .next → iss.any (fun k => s.isRow k (named v)) = true) (allowed : formAllows f (s.namedStream v).st = true) :
    s.strmOp iss vf f v x =
      s.samovar (iss.map groveOf) vf v x (named v) (handleGrove (named v).toNat) (handleCtx (named v).toNat) (s.namedStream v) f := by
  have lives : ¬(f = .fork ∧ (s.namedStream v).st = 7 ∧ (s.namedStream v).resolved = true) := by
    rintro ⟨rfl, seven, -⟩
    rw [seven] at allowed
    exact absurd allowed (by decide)
  rw [State.strmOp_here may fresh here, if_neg (not_stray row), if_neg lives, allowed]
  rfl

/-- A form that the status does not allow. -/
theorem State.strmOp_refused {f : StrmForm} (here : (s.namedStream v).st ≠ 5 ∧ (s.namedStream v).st ≠ 6)
    (row : f = .next → iss.any (fun k => s.isRow k (named v)) = true)
    (unresolved : f = .fork → ¬((s.namedStream v).st = 7 ∧ (s.namedStream v).resolved = true))
    (refused : formAllows f (s.namedStream v).st = false) : s.strmOp iss vf f v x = .trap (streamWhy 3 v) := by
  rw [State.strmOp_here may fresh (.inr here), if_neg (not_stray row), if_neg (fun h => unresolved h.1 h.2), refused]
  rfl

end Checks

/-! The retirement of a stream (R339, R355) -/

section Retire
variable {s : State} {fam h : BitVec 32} {vf : Nat} (settled : s.arrivingAt h = none) (fresh : s.stale h vf = false)
include settled fresh

theorem State.retireHere_frees (idle : (s.stream (handleGrove h.toNat) (handleCtx h.toNat)).st = 1
    ∨ (s.stream (handleGrove h.toNat) (handleCtx h.toNat)).st = 4) :
    s.retireHere fam h vf = s.freeStream (handleGrove h.toNat) (handleCtx h.toNat) := by
  rcases idle with st | st <;> simp only [State.retireHere, settled, fresh, st, Bool.false_eq_true, if_false]

theorem State.retireHere_waits (busy : (s.stream (handleGrove h.toNat) (handleCtx h.toNat)).st = 2
    ∨ (s.stream (handleGrove h.toNat) (handleCtx h.toNat)).st = 3) :
    s.retireHere fam h vf = s.setStream (handleGrove h.toNat) (handleCtx h.toNat)
      { s.stream (handleGrove h.toNat) (handleCtx h.toNat) with st := 7, resolved := false } := by
  rcases busy with st | st <;> simp only [State.retireHere, settled, fresh, st, Bool.false_eq_true, if_false]

end Retire

/-! A fork (R356) -/

section Fork
variable (s : State) (g c k : Nat) (o : BitVec 16) (v : BitVec 32)

/-- The child of a fork on context `k`, before it parks. -/
def State.child : Stream :=
  let t := s.stream g c
  { st := 1, gen := (s.stream g k).gen, vf := t.vf, own := t.own, map := t.map, npg := t.npg, aq := t.aq, hor := t.hor, kid := t.kid
    layer := t.layer, ret := t.ret, hash := t.hash, ver := v, fam := t.fam, ford := o, par := s.handle g c, inf := t.inf }

/-- The child on its context, with one more reference to the map. -/
def State.bears : State :=
  (s.setStream g k (s.child g c k o v)).setMap g (s.stream g c).map
    { s.smap g (s.stream g c).map with mref := (s.smap g (s.stream g c).map).mref + 1 }

theorem State.bears_stream : (s.bears g c k o v).stream g k = s.child g c k o v := by
  rw [State.bears, State.stream_setMap, State.stream_setStream]

theorem State.bears_handle : (s.bears g c k o v).handle g k = s.handle g k := by
  rw [State.handle, State.bears_stream]
  rfl

theorem State.bears_map : (s.bears g c k o v).smap g (s.stream g c).map =
    { s.smap g (s.stream g c).map with mref := (s.smap g (s.stream g c).map).mref + 1 } := State.smap_setMap ..

/-- What parking leaves of a stream: its status, and when it parked. -/
theorem State.parkStream_keeps (r : State) (n : Nat) : ∃ parked since,
    (r.parkStream g k n).stream g k = { r.stream g k with
      st := if (r.stream g k).hor = 0 ∨ (r.stream g k).inf = true then 4 else 1, parked := parked, since := since }
    ∧ ∀ m, (r.parkStream g k n).smap g m = r.smap g m := by
  by_cases ended : (r.stream g k).hor = 0 ∨ (r.stream g k).inf = true
  · have same := State.sameStreams_sendPacket (r.setStream g k { r.stream g k with st := 4, parked := false })
    rw [State.parkStream_ended ended, if_pos ended]
    refine ⟨false, (r.stream g k).since, ((same _ _).stream g k).trans (State.stream_setStream ..), fun m => ?_⟩
    exact ((same _ _).smap g m).trans (State.smap_setStream ..)
  · obtain ⟨left, feasible⟩ := not_or.1 ended
    rw [State.parkStream_parks left (Bool.eq_false_iff.2 feasible), if_neg ended]
    exact ⟨true, r.tick + 2 * n, State.stream_setStream .., fun m => State.smap_setStream ..⟩

theorem State.birth_none (full : s.freeStreamCtx g false = none) : s.birth g c o v = none := by
  rw [State.birth, full]
  rfl

theorem State.birth_child (free : s.freeStreamCtx g false = some k) : ∃ s2 parked since,
    s.birth g c o v = some (s.handle g k, s2)
    ∧ s2.stream g k = { s.child g c k o v with
        st := if (s.stream g c).st ≠ 2 ∧ (s.stream g c).st ≠ 3 ∧ ((s.stream g c).hor = 0 ∨ (s.stream g c).inf = true) then 4 else 1
        parked := parked, since := since }
    ∧ (s2.smap g (s.stream g c).map).mref = (s.smap g (s.stream g c).map).mref + 1 := by
  have born : s.birth g c o v = some (s.handle g k, if (s.stream g c).st = 2 ∨ (s.stream g c).st = 3 then
      (s.bears g c k o v).noteFork g (s.handle g c) (s.handle g k) else (s.bears g c k o v).parkStream g k) := by
    rw [← s.bears_handle g c k o v, State.birth, free]
    rfl
  by_cases busy : (s.stream g c).st = 2 ∨ (s.stream g c).st = 3
  · have noted := State.sameStreams_noteFork (s.bears g c k o v) g (s.handle g c) (s.handle g k)
    have stays : ¬((s.stream g c).st ≠ 2 ∧ (s.stream g c).st ≠ 3 ∧ ((s.stream g c).hor = 0 ∨ (s.stream g c).inf = true)) :=
      fun ⟨two, three, _⟩ => busy.elim two three
    rw [born, if_pos busy, if_neg stays]
    refine ⟨_, false, 0, rfl, ?_, ?_⟩
    · rw [noted.stream, State.bears_stream]
      rfl
    · rw [noted.smap, State.bears_map]
  · obtain ⟨two, three⟩ := not_or.1 busy
    obtain ⟨parked, since, stream, maps⟩ := State.parkStream_keeps g k (s.bears g c k o v) 0
    rw [born, if_neg busy]
    refine ⟨_, parked, since, rfl, ?_, ?_⟩
    · rw [stream, State.bears_stream]
      simp only [ne_eq, two, three, not_false_eq_true, true_and]
      rfl
    · rw [maps, State.bears_map]

end Fork

/-- The record as a fork finds it: a deadline that has passed has been performed (R363). -/
abbrev State.atFork (s : State) (g c : Nat) : State := s.due (s.stream g c).fam

/-- The stream is a member of its family still, and no order that retires it is under way. -/
abbrev State.stillOwn (s : State) (g c : Nat) : Prop :=
  (s.atFork g c).ordered (s.stream g c).fam (s.stream g c).ford = false ∧ (s.atFork g c).orderLeft (s.stream g c).fam (s.handle g c) = false

section ForkHere
variable {s : State} {g c : Nat} (loose : s.mapHeld g (s.stream g c).map = false)
  (home : handlePkg (s.stream g c).fam.toNat = s.self)
include loose home

theorem State.fork_ordered (left : ¬s.stillOwn g c) : s.fork g c = .trap (streamWhy 1 (natW (s.handle g c).toNat)) := by
  have gone : (s.atFork g c).ordered (s.stream g c).fam (s.stream g c).ford = true
      ∨ (s.atFork g c).orderLeft (s.stream g c).fam (s.handle g c) = true := by
    simpa [or_iff_not_imp_left] using left
  simp only [State.fork, loose, home, Bool.false_eq_true, if_false, ne_eq, not_true_eq_false]
  exact if_pos gone

variable (own : s.stillOwn g c)
include own

theorem State.fork_spent (spent : (s.atFork g c).takeOrdinal (s.stream g c).fam = none) : s.fork g c = .ok 0 0 (s.atFork g c) := by
  simp only [State.fork, loose, home, own, spent, Bool.false_eq_true, if_false, ne_eq, not_true_eq_false, or_self]

variable {o : BitVec 16} {v : BitVec 32} {s1 : State} (next : (s.atFork g c).takeOrdinal (s.stream g c).fam = some (o, v, s1))
include next

theorem State.fork_full (full : s1.birth g c o v = none) : s.fork g c = .ok 0 0 s1 := by
  simp only [State.fork, loose, home, own, next, full, Bool.false_eq_true, if_false, ne_eq, not_true_eq_false, or_self]

theorem State.fork_bears {ch : BitVec 32} {s2 : State} (born : s1.birth g c o v = some (ch, s2)) :
    s.fork g c = .ok (natW ch.toNat) 0 (s2.addMember (s.stream g c).fam (s.stream g c).ford
      { handle := ch, ford := o, ver := v, ret := (s.stream g c).ret, inf := (s.stream g c).inf, par := s.handle g c }) := by
  simp only [State.fork, loose, home, own, next, born, Bool.false_eq_true, if_false, ne_eq, not_true_eq_false, or_self]

end ForkHere

/-! A migration (R357) -/

/-- What the destination grove of this package reserves. -/
abbrev State.moveRoom (s : State) (g c : Nat) (x : Word) (l : Layer) : Option (BitVec 32 × State) :=
  s.reserveMove (handleGrove x.toNat) (s.stream g c).vf (s.stream g c).own (s.stream g c).npg (s.handle g c) l.hdrA l.b l.win l.loga l.logn

section Move
variable {s : State} {g c : Nat} {user : Option Nat} {x : Word}

/-- The destination is no other grove. -/
abbrev State.badPlace (s : State) (g : Nat) (x : Word) : Prop :=
  x.toNat % 2 ^ 17 ≠ 0 ∨ (handlePkg x.toNat = s.self ∧ x.toNat < 2 ^ 32 ∧ x.toNat / 2 ^ 17 % 2 ^ 4 < 12 ∧ handleGrove x.toNat = g)

theorem State.migrate_bad (bad : s.badPlace g x) : s.migrate g c user x = .trap { cause := cILLEGAL, tval := x } := by
  have fails : s.migTrap g user x = some { cause := cILLEGAL, tval := x } := if_pos bad
  simp only [State.migrate, fails]

variable (fine : ¬s.badPlace g x)
include fine

theorem State.migrate_prot (prot : s.handleProt x user = true) : s.migrate g c user x = .trap { cause := cPROT, tval := x } := by
  have fails : s.migTrap g user x = some { cause := cPROT, tval := x } := (if_neg fine).trans (if_pos prot)
  simp only [State.migrate, fails]

variable (may : s.handleProt x user = false)
include may

theorem State.migTrap_none : s.migTrap g user x = none := (if_neg fine).trans (if_neg (Bool.not_eq_true _ ▸ may))

theorem State.migrate_unlayered (gone : tabFind (s.grove g).layers (s.stream g c).kid = none) : s.migrate g c user x = .ok 0 0 s := by
  simp only [State.migrate, State.migTrap_none fine may, gone]

variable {l : Layer} (layer : tabFind (s.grove g).layers (s.stream g c).kid = some l) (here : handlePkg x.toNat = s.self)
include layer here

theorem State.migrate_full (full : s.moveRoom g c x l = none) : s.migrate g c user x = .ok 0 0 s := by
  simp only [State.migrate, State.migTrap_none fine may, layer, here, ne_eq, not_true_eq_false, if_false, full]

theorem State.migrate_room {nh : BitVec 32} {s1 : State} (room : s.moveRoom g c x l = some (nh, s1)) :
    s.migrate g c user x = .ok (natW nh.toNat) 0 (s1.startMove g c nh) := by
  simp only [State.migrate, State.migTrap_none fine may, layer, here, ne_eq, not_true_eq_false, if_false, room]

end Move

theorem State.startMove_first {s : State} {g c : Nat} (first : (s.stream g c).migp = false) (newh : BitVec 32) :
    s.startMove g c newh =
      let s2 := s.setStream g c { s.stream g c with newh := newh, migp := true }
      if (s.stream g c).st = 1 ∨ (s.stream g c).st = 4 then s2.depart g c else s2 := by
  simp only [State.startMove, first, Bool.false_eq_true, if_false]

/-- The statuses of a stream that is neither on its way nor retired. -/
theorem works_iff (n : Nat) : (n == 1 || n == 2 || n == 3 || n == 4) = true ↔ n = 1 ∨ n = 2 ∨ n = 3 ∨ n = 4 := by
  simp only [Bool.or_eq_true, beq_iff_eq, or_assoc]

/-- A handle's low 32 bits are the handle. -/
theorem natW_handle (h : BitVec 32) : (natW h.toNat).toNat % 2 ^ 32 = h.toNat := by
  have bound := h.isLt
  rw [natW, BitVec.toNat_ofNat]
  omega

/-- SNEXT names no layer entry of the function. -/
theorem unlayered_iff (o : Option Layer) (vf : Nat) : (!(o.any (fun l => l.vf == vf))) = true ↔ ∀ l, o = some l → l.vf ≠ vf := by
  cases o <;> simp

end Sys2Proof.Machine
end

section
/-! PROOF. SSPAWN (R284, R343, R344). -/

namespace Sys2Proof.Machine

/-! What registering a layer and reserving pages leave of the contexts -/

/-- The contexts and the current one are the same. -/
def State.sameCtxs (s t : State) : Prop := t.ctxs = s.ctxs ∧ t.cur = s.cur

theorem State.sameCtxs_refl (s : State) : s.sameCtxs s := ⟨rfl, rfl⟩

theorem State.sameCtxs.trans {s t u : State} (h : s.sameCtxs t) (k : t.sameCtxs u) : s.sameCtxs u := ⟨k.1.trans h.1, k.2.trans h.2⟩

theorem State.sameCtxs.me {s t : State} (h : s.sameCtxs t) : t.me = s.me := by simp only [State.me, State.ctx, h.1, h.2]

theorem State.sameUnit.ctxs {s t : State} (h : s.sameUnit t) : s.sameCtxs t := by
  obtain ⟨-, cur, ctxs, -⟩ := h
  exact ⟨ctxs, cur⟩

theorem State.sameCtxs_readVirt {s t : State} {vf f va n : Nat} {bs : List Byte} (read : s.readVirt vf f va n = some (bs, t)) :
    s.sameCtxs t := by
  induction f generalizing s va n bs with
  | zero =>
    obtain ⟨-, pair⟩ := Option.ite_none_right_eq_some.1 read
    cases pair
    exact State.sameCtxs_refl _
  | succ f ih =>
    simp only [State.readVirt] at read
    split at read
    · cases read
      exact State.sameCtxs_refl _
    · split at read
      · cases read
      · split at read
        · cases read
        · next pa lf ea s1 walked =>
          split at read
          · cases read
          · obtain ⟨r, rest, pair⟩ := Option.map_eq_some_iff.1 read
            cases pair
            exact (State.walkFrom_same _ walked).ctxs.trans (ih rest)

theorem State.sameCtxs_headerCheck (s : State) (l : Launch) (layer : Bool) : s.sameCtxs (s.headerCheck l layer).2 := by
  unfold State.headerCheck
  split
  · exact s.sameCtxs_refl
  · split
    · exact s.sameCtxs_refl
    · next read => exact State.sameCtxs_readVirt read

theorem State.sameCtxs_layerFor {s t : State} {g vf b win logn kid : Nat} {hdr loga : Word}
    (entry : s.layerFor g vf hdr b win loga logn = .entry kid t) : s.sameCtxs t := by
  simp only [State.layerFor] at entry
  split at entry
  · split at entry
    · cases entry
      exact s.sameCtxs_refl
    · cases entry
  · split at entry
    · cases entry
    · next bs s1 read =>
      split at entry
      · cases entry
      · next image s2 checked =>
        split at entry
        · cases entry
        · cases entry
          have header := s1.sameCtxs_headerCheck { vf := vf, hdr := bs, status := 2, split := true, queued := s.tick, lastCtx := s.tick } true
          rw [checked] at header
          exact (State.sameCtxs_readVirt read).trans header

theorem State.sameCtxs_putBlock (s : State) (l : Loc) (n : Nat) (cs : List Host.Cell) (ps : List Nat) : s.sameCtxs (s.putBlock l n cs ps) := by
  cases l <;> exact ⟨rfl, rfl⟩

theorem State.sameCtxs_takeSlot {s t : State} {g p k : Nat} (taken : s.takeSlot g p = some (k, t)) : s.sameCtxs t := by
  simp only [State.takeSlot] at taken
  split at taken
  · cases taken
    exact s.sameCtxs_refl
  · split at taken
    · cases taken
    · cases taken
      exact ⟨rfl, rfl⟩

theorem State.sameCtxs_spillNow {s t : State} {g p : Nat} (spilled : s.spillNow g p = some t) : s.sameCtxs t := by
  obtain ⟨⟨k, r⟩, taken, rfl⟩ := Option.map_eq_some_iff.1 spilled
  refine (State.sameCtxs_takeSlot taken).trans (State.sameCtxs.trans (t := if _ then r else r.writeSlot g p k) ?_ ⟨rfl, rfl⟩)
  split
  · exact r.sameCtxs_refl
  · exact r.sameCtxs_putBlock _ _ _ _

theorem State.sameCtxs_reserveFrame {s t : State} {g own f : Nat} (reserved : s.reserveFrame g own = some (f, t)) : s.sameCtxs t := by
  obtain ⟨r, quota, frame⟩ := Option.bind_eq_some_iff.1 reserved
  have first : s.sameCtxs r := by
    split at quota
    · cases quota
      exact s.sameCtxs_refl
    · split at quota
      · exact State.sameCtxs_spillNow quota
      · cases quota
  split at frame
  · cases frame
    exact first
  · split at frame
    · cases frame
    · obtain ⟨q, spilled, free⟩ := Option.bind_eq_some_iff.1 frame
      obtain ⟨_, -, pair⟩ := Option.map_eq_some_iff.1 free
      cases pair
      exact first.trans (State.sameCtxs_spillNow spilled)

theorem State.sameCtxs_newPage {s t : State} {g vf own p : Nat} {cs : List Host.Cell} {ps : List Nat}
    (new : s.newPage g vf own cs ps = some (p, t)) : s.sameCtxs t := by
  simp only [State.newPage] at new
  split at new
  · cases new
  · obtain ⟨⟨f, r⟩, reserved, pair⟩ := Option.map_eq_some_iff.1 new
    cases pair
    exact (State.sameCtxs_reserveFrame reserved).trans (State.sameCtxs.trans ⟨rfl, rfl⟩ (State.sameCtxs_putBlock _ _ _ _ _))

theorem State.sameCtxs_newPages {s t : State} {g vf own : Nat} {bs : List (List Host.Cell × List Nat)} {ps : List Nat}
    (new : s.newPages g vf own bs = some (ps, t)) : s.sameCtxs t := by
  induction bs generalizing s t ps with
  | nil =>
    cases new
    exact s.sameCtxs_refl
  | cons b bs ih =>
    simp only [State.newPages] at new
    split at new
    · cases new
    · next p s1 first =>
      obtain ⟨⟨qs, r⟩, rest, pair⟩ := Option.map_eq_some_iff.1 new
      cases pair
      exact (State.sameCtxs_newPage first).trans (State.sameCtxs.trans (t := s1.setPage g p _) ⟨rfl, rfl⟩ ((ih rest).trans ⟨rfl, rfl⟩))

theorem State.sameCtxs_sendPacket (s : State) (n : Nat) (p : Packet) : s.sameCtxs (s.sendPacket n p) := by
  unfold State.sendPacket
  split <;> exact ⟨rfl, rfl⟩

theorem State.sameCtxs_parkStream (s : State) (g c k : Nat) : s.sameCtxs (s.parkStream g c k) := by
  unfold State.parkStream
  dsimp only
  split
  · exact State.sameCtxs_sendPacket (s.setStream g c _) _ _
  · exact ⟨rfl, rfl⟩

theorem State.sameCtxs_spawn (s : State) (g c own kid : Nat) (d : SpawnDesc) (ps : List Nat) :
    s.sameCtxs (s.spawn g c own kid d ps).2 := by
  unfold State.spawn
  split
  · exact s.sameCtxs_refl
  · exact State.sameCtxs_parkStream (State.setFamily (State.setStream (State.setMap s g _ _) g c _) g c _) g c 0

/-! What SSPAWN answers -/

/-- What SSPAWN answers before its descriptor is read. -/
def State.readsSpawn (s : State) (a : Word) : Res :=
  match s.checkAddr 1 a 64 .load, s.scrLoc s.cur a.toNat 64 with
  | some y, _ => .trap y
  | none, none => .trap { cause := cPROT, tval := a, acc := accCode .load }
  | none, some l =>
    match s.poisonedLoc l 64 with
    | some u => .trap { cause := cMCE, tval := a, unit := u, acc := accCode .load }
    | none =>
      if s.acquiring || s.ownWaits l || s.readBlocked s.cur s.me.nseq l 64 then .wait
      else s.sendReads (accCode .load) [] (piecesFrom 0 l 64 a none)

/-- The stream made with pages of the given contents, where they can be reserved. -/
def State.fillsSpawn (s : State) (d : BitVec 5) (a : Word) (own kid c : Nat) (y : SpawnDesc) (q : State)
    (ps : List (List Host.Cell × List Nat)) : Res :=
  match q.newPages (groveOf s.cur) s.me.vf own ps with
  | none => .trap { cause := cQUOTA, tval := a }
  | some (qs, s2) =>
    .done ((s.within (s2.spawn (groveOf s.cur) c own kid y qs).2).writeX d (s2.spawn (groveOf s.cur) c own kid y qs).1)

/-- What SSPAWN answers with its layer entry and its context found. -/
def State.pagesSpawn (s : State) (d : BitVec 5) (a : Word) (w : Tab Word) (own kid c : Nat) (y : SpawnDesc) (s1 : State) : Res :=
  let blank := (upFrom 0 y.npg).map (fun _ => (([] : List Host.Cell), ([] : List Nat)))
  if y.zf || y.npg == 0 then s.fillsSpawn d a own kid c y s1 blank
  else if (tabFind w 8).isSome then s.fillsSpawn d a own kid c y s1 (pagesOf w y.npg 8)
  else
    match s.fillsSpawn d a own kid c y s1 blank, s.readTagged (256 * y.npg) 8 y.src with
    | .done _, .reads ps s3 => s3.sendReads (accCode .load) w ps
    | .done _, .trap y => .trap y
    | .done _, .wait => .wait
    | r, _ => r

/-- What SSPAWN answers with its descriptor `w` read at `a`. -/
def State.spawnsDesc (s : State) (d : BitVec 5) (a : Word) (w : Tab Word) : Res :=
  match spawnDesc (wordsFrom w 0 8), s.me.task, s.launchOf s.cur with
  | none, _, _ => .trap { cause := cILLEGAL, tval := a }
  | some y, some t, some ln =>
    if ln.quota = 0 then .trap { cause := cQUOTA, tval := a }
    else
      match s.layerFor (groveOf s.cur) s.me.vf y.hdr y.b y.win y.loga y.logn with
      | .bad => .trap { cause := cILLEGAL, tval := a }
      | .full => .done (s.writeX d 0)
      | .entry kid s1 =>
        match s1.freeStreamCtx (groveOf s.cur) true with
        | none => .done (s.writeX d 0)
        | some c => s.pagesSpawn d a w t.launch kid c y s1
  | some _, _, _ => .trap { cause := cQUOTA, tval := a }

/-! Before the descriptor is read (R284, R344) -/

/-- The descriptor of a spawn at `a` passes the checks of its address, and lies at `p`. -/
abbrev State.spawnAt (s : State) (a : Word) (p : Loc) : Prop :=
  s.checkSpace 1 a .load = none ∧ a.toNat % 64 = 0 ∧ s.scrLoc s.cur a.toNat 64 = some p

/-- The descriptor of a spawn may be read now. -/
abbrev State.spawnCalm (s : State) (p : Loc) : Prop :=
  s.acquiring = false ∧ s.ownWaits p = false ∧ s.readBlocked s.cur s.me.nseq p 64 = false

section Reads
variable {s : State} {a : Word} {p : Loc} {u : BitVec 4}

theorem State.readsSpawn_trap {y : Why} (bad : s.checkAddr 1 a 64 .load = some y) : s.readsSpawn a = .trap y := by
  simp only [State.readsSpawn, bad]

theorem State.readsSpawn_poison (place : s.spawnAt a p) (bad : s.poisonedLoc p 64 = some u) :
    s.readsSpawn a = .trap { cause := cMCE, tval := a, unit := u, acc := 0 } := by
  obtain ⟨space, even, place⟩ := place
  simp only [State.readsSpawn, State.checkAddr_ok space even, place, bad]
  rfl

theorem State.readsSpawn_clean (place : s.spawnAt a p) (clean : s.poisonedLoc p 64 = none) :
    s.readsSpawn a = if s.acquiring || s.ownWaits p || s.readBlocked s.cur s.me.nseq p 64 then .wait
      else s.sendReads (accCode .load) [] (piecesFrom 0 p 64 a none) := by
  obtain ⟨space, even, place⟩ := place
  simp only [State.readsSpawn, State.checkAddr_ok space even, place, clean]

theorem State.spawnCalm_iff : s.spawnCalm p ↔ ¬(s.acquiring || s.ownWaits p || s.readBlocked s.cur s.me.nseq p 64) = true := by
  simp only [Bool.or_eq_true, not_or, Bool.not_eq_true, and_assoc]

end Reads

/-! With the descriptor read (R343, R344) -/

/-- The descriptor that has been read. -/
abbrev descOf (w : Tab Word) : Option SpawnDesc := spawnDesc ((upFrom 0 8).map (tabGet 0 w))

/-- A spawn whose pages are not read: they start as zeros. -/
abbrev SpawnDesc.fresh (y : SpawnDesc) : Prop := y.zf = true ∨ y.npg = 0

/-- As many blank pages as a spawn asks for. -/
abbrev SpawnDesc.blank (y : SpawnDesc) : List (List Host.Cell × List Nat) := (upFrom 0 y.npg).map (fun _ => ([], []))

/-- The layer entry of a spawn. -/
abbrev State.spawnLayer (s : State) (y : SpawnDesc) : LayerAt := s.layerFor (groveOf s.cur) s.me.vf y.hdr y.b y.win y.loga y.logn

/-- The descriptor `y` has been read, by a task whose launch has a quota of pages. -/
abbrev State.spawnTask (s : State) (w : Tab Word) (y : SpawnDesc) (k : TaskOf) (ln : Launch) : Prop :=
  s.me.task = some k ∧ s.launchOf s.cur = some ln ∧ ln.quota ≠ 0 ∧ descOf w = some y

/-- The layer entry and the context of a spawn have been found. -/
abbrev State.spawnFound (s : State) (w : Tab Word) (y : SpawnDesc) (k : TaskOf) (ln : Launch) (kid : Nat) (s1 : State) (c : Nat) : Prop :=
  s.spawnTask w y k ln ∧ s.spawnLayer y = .entry kid s1 ∧ s1.freeStreamCtx (groveOf s.cur) true = some c

section Desc
variable {s s1 s2 s3 : State} {d : BitVec 5} {a v : Word} {w : Tab Word} {y : SpawnDesc} {k : TaskOf} {ln : Launch} {kid c : Nat}

theorem State.spawnsDesc_bad (bad : descOf w = none) : s.spawnsDesc d a w = .trap { cause := cILLEGAL, tval := a } := by
  rw [descOf, ← wordsFrom] at bad
  simp only [State.spawnsDesc, bad]

theorem State.spawnsDesc_quota (desc : descOf w = some y) (task : s.me.task = some k) (launch : s.launchOf s.cur = some ln)
    (none_ : ln.quota = 0) : s.spawnsDesc d a w = .trap { cause := cQUOTA, tval := a } := by
  rw [descOf, ← wordsFrom] at desc
  simp only [State.spawnsDesc, desc, task, launch, none_, if_true]

section Task
variable (task : s.spawnTask w y k ln)
include task

theorem State.spawnsDesc_layerBad (bad : s.spawnLayer y = .bad) : s.spawnsDesc d a w = .trap { cause := cILLEGAL, tval := a } := by
  obtain ⟨task, launch, quota, desc⟩ := task
  rw [descOf, ← wordsFrom] at desc
  simp only [State.spawnsDesc, desc, task, launch, quota, bad, if_false]

theorem State.spawnsDesc_layerFull (full : s.spawnLayer y = .full) : s.spawnsDesc d a w = .done (s.writeX d 0) := by
  obtain ⟨task, launch, quota, desc⟩ := task
  rw [descOf, ← wordsFrom] at desc
  simp only [State.spawnsDesc, desc, task, launch, quota, full, if_false]

theorem State.spawnsDesc_noCtx (entry : s.spawnLayer y = .entry kid s1) (full : s1.freeStreamCtx (groveOf s.cur) true = none) :
    s.spawnsDesc d a w = .done (s.writeX d 0) := by
  obtain ⟨task, launch, quota, desc⟩ := task
  rw [descOf, ← wordsFrom] at desc
  simp only [State.spawnsDesc, desc, task, launch, quota, entry, full, if_false]

end Task

theorem State.spawnsDesc_found (found : s.spawnFound w y k ln kid s1 c) :
    s.spawnsDesc d a w = s.pagesSpawn d a w k.launch kid c y s1 := by
  obtain ⟨⟨task, launch, quota, desc⟩, entry, free⟩ := found
  rw [descOf, ← wordsFrom] at desc
  simp only [State.spawnsDesc, desc, task, launch, quota, entry, free, if_false]

theorem SpawnDesc.fresh_iff (y : SpawnDesc) : (y.zf || y.npg == 0) = true ↔ y.fresh := by
  rw [Bool.or_eq_true, beq_iff_eq]

theorem State.pagesSpawn_fresh {own : Nat} (fresh : y.fresh) :
    s.pagesSpawn d a w own kid c y s1 = s.fillsSpawn d a own kid c y s1 y.blank := if_pos ((y.fresh_iff).2 fresh)

theorem State.pagesSpawn_got {own : Nat} (reads : ¬y.fresh) (got : tabFind w 8 ≠ none) :
    s.pagesSpawn d a w own kid c y s1 = s.fillsSpawn d a own kid c y s1 (pagesOf w y.npg 8) :=
  (if_neg (mt (y.fresh_iff).1 reads)).trans (if_pos (Option.isSome_iff_ne_none.2 got))

section Pages
variable {own : Nat} {ps : List (List Host.Cell × List Nat)} {qs : List Nat}

theorem State.fillsSpawn_none (full : s1.newPages (groveOf s.cur) s.me.vf own ps = none) :
    s.fillsSpawn d a own kid c y s1 ps = .trap { cause := cQUOTA, tval := a } := by
  simp only [State.fillsSpawn, full]

theorem State.fillsSpawn_some (pages : s1.newPages (groveOf s.cur) s.me.vf own ps = some (qs, s2)) :
    s.fillsSpawn d a own kid c y s1 ps =
      .done ((s.within (s2.spawn (groveOf s.cur) c own kid y qs).2).writeX d (s2.spawn (groveOf s.cur) c own kid y qs).1) := by
  simp only [State.fillsSpawn, pages]

theorem State.fillsSpawn_spawn (pages : s1.newPages (groveOf s.cur) s.me.vf own ps = some (qs, s2))
    (spawn : s2.spawn (groveOf s.cur) c own kid y qs = (v, s3)) :
    s.fillsSpawn d a own kid c y s1 ps = .done ((s.within s3).writeX d v) := by
  rw [State.fillsSpawn_some pages, spawn]

/-- The pages are asked for before they are read, so a spawn without room for them traps at once. -/
theorem State.pagesSpawn_full (ask : y.fresh ∨ tabFind w 8 = none) (full : s1.newPages (groveOf s.cur) s.me.vf own y.blank = none) :
    s.pagesSpawn d a w own kid c y s1 = .trap { cause := cQUOTA, tval := a } := by
  by_cases fresh : y.fresh
  · rw [State.pagesSpawn_fresh fresh, State.fillsSpawn_none full]
  · have first : tabFind w 8 = none := ask.resolve_left fresh
    refine (if_neg (mt (y.fresh_iff).1 fresh)).trans ((if_neg (by simp [first])).trans ?_)
    rw [State.fillsSpawn_none full]

theorem State.pagesSpawn_reads {rs : List Piece} {t : State} (reads : ¬y.fresh) (first : tabFind w 8 = none)
    (pages : s1.newPages (groveOf s.cur) s.me.vf own y.blank = some (qs, s2)) (src : s.readTagged (256 * y.npg) 8 y.src = .reads rs t) :
    s.pagesSpawn d a w own kid c y s1 = t.sendReads (accCode .load) w rs := by
  refine (if_neg (mt (y.fresh_iff).1 reads)).trans ((if_neg (by simp [first])).trans ?_)
  rw [State.fillsSpawn_some pages, src]

/-- What a spawn that has been made leaves pending. -/
theorem State.spawned_pend (found : s.spawnFound w y k ln kid s1 c) (pages : s1.newPages (groveOf s.cur) s.me.vf own ps = some (qs, s2))
    (spawn : s2.spawn (groveOf s.cur) c own kid y qs = (v, s3)) : ((s.within s3).writeX d v).me.pend = s.me.pend := by
  obtain ⟨-, entry, -⟩ := found
  have made := s2.sameCtxs_spawn (groveOf s.cur) c own kid y qs
  rw [spawn] at made
  rw [State.within_writeX_pend, (((State.sameCtxs_layerFor entry).trans (State.sameCtxs_newPages pages)).trans made).me]

end Pages
end Desc

section Spawn
variable (sm l : Bool) (d a : BitVec 5) (t : Bool)

theorem sspawn_means : Means (.sspawn sm l d a t) (fun s => s.readsSpawn (s.regs.xAt a.toNat)) :=
  .of_issue (exec_sspawn sm l d a t) fun s h => by
    rw [State.whenRead_start _ _ _ (State.ready_parts h).2.1, State.rx_ready _ _ h]
    rfl

theorem sspawn_meansRead : MeansRead (.sspawn sm l d a t) (fun s w => s.spawnsDesc d (s.regs.xAt a.toNat) w) :=
  .of_issue (exec_sspawn sm l d a t) fun s w h hw => by
    have free : s.unpend.regs.boundTo d.toNat = none := State.unpend_unbound hw (List.mem_singleton.2 rfl)
    have read : s.rx 1 a.toNat = s.unpend.regs.xAt a.toNat :=
      (State.rx_plain _ _ (State.gathered_parts h).1).trans (by rw [State.unpend_regs])
    have cur : groveOf s.cur = groveOf s.unpend.cur := rfl
    rw [State.whenRead_gathered _ _ _ h, read, cur]
    simp only [State.putX_plain _ free, State.putWithin_plain _ _ free]
    rfl

/-- SSPAWN before its descriptor is read. -/
theorem sspawn_starts : let i := Instr.sspawn sm l d a t
    let A := fun (s : State) => s.regs.xAt a.toNat
    (∀ y, TrapIf i (cSig i) (fun s => s.checkSpace 1 (A s) .load = some y) (fun _ => y))
    ∧ TrapIf i (cSig i) (fun s => s.checkSpace 1 (A s) .load = none ∧ (A s).toNat % 64 ≠ 0)
        (fun s => { cause := cMISALIGN, tval := A s, acc := 0 })
    ∧ (∀ p u, TrapIf i (cSig i) (fun s => s.spawnAt (A s) p ∧ s.poisonedLoc p 64 = some u)
        (fun s => { cause := cMCE, tval := A s, unit := u, acc := 0 }))
    ∧ (∀ p, WaitIf i (cSig i) (fun s => s.spawnAt (A s) p ∧ s.poisonedLoc p 64 = none ∧ ¬s.spawnCalm p))
    ∧ (∀ p, SendIf i (cSig i) (fun s => s.spawnAt (A s) p ∧ s.poisonedLoc p 64 = none ∧ s.spawnCalm p) (fun s => s)
        (fun s => .read 0 (granulesOf 0 p 64 (A s) none))) := by
  have means := sspawn_means sm l d a t
  refine ⟨fun y => means.trapIf fun s bad => State.readsSpawn_trap (State.checkAddr_space bad),
    means.trapIf fun s ⟨space, odd⟩ => State.readsSpawn_trap (State.checkAddr_misaligned space odd),
    fun p u => means.trapIf fun s ⟨place, bad⟩ => State.readsSpawn_poison place bad,
    fun p => means.waitIf fun s ⟨place, clean, busy⟩ => ?waits, fun p => means.sendIf fun s ⟨place, clean, quiet⟩ => ?reads⟩
  case waits => exact (State.readsSpawn_clean place clean).trans (if_pos (not_not.1 (mt State.spawnCalm_iff.2 busy)))
  case reads => exact (State.readsSpawn_clean place clean).trans (if_neg (State.spawnCalm_iff.1 quiet))

/-- SSPAWN with its descriptor read. -/
theorem sspawn_ends : let i := Instr.sspawn sm l d a t
    let A := fun (s : State) => s.regs.xAt a.toNat
    ReadTrapIf i (cSig i) (fun _ w => descOf w = none) (fun s _ => { cause := cILLEGAL, tval := A s })
    ∧ (∀ y k ln, ReadTrapIf i (cSig i) (fun s w => descOf w = some y ∧ s.me.task = some k ∧ s.launchOf s.cur = some ln ∧ ln.quota = 0)
        (fun s _ => { cause := cQUOTA, tval := A s }))
    ∧ (∀ y k ln, ReadTrapIf i (cSig i) (fun s w => s.spawnTask w y k ln ∧ s.spawnLayer y = .bad)
        (fun s _ => { cause := cILLEGAL, tval := A s }))
    ∧ (∀ y k ln, ReadDoneIf i (cSig i) (fun s w => s.spawnTask w y k ln ∧ s.spawnLayer y = .full) (fun s _ => s.writeX d 0))
    ∧ (∀ y k ln kid s1, ReadDoneIf i (cSig i)
        (fun s w => s.spawnTask w y k ln ∧ s.spawnLayer y = .entry kid s1 ∧ s1.freeStreamCtx (groveOf s.cur) true = none)
        (fun s _ => s.writeX d 0))
    ∧ (∀ y k ln kid s1 c, ReadTrapIf i (cSig i) (fun s w => s.spawnFound w y k ln kid s1 c ∧ (y.fresh ∨ tabFind w 8 = none)
          ∧ s1.newPages (groveOf s.cur) s.me.vf k.launch y.blank = none)
        (fun s _ => { cause := cQUOTA, tval := A s }))
    ∧ (∀ y k ln kid s1 c ps s2 v s3, ReadDoneIf i (cSig i) (fun s w => s.spawnFound w y k ln kid s1 c ∧ y.fresh
          ∧ s1.newPages (groveOf s.cur) s.me.vf k.launch y.blank = some (ps, s2) ∧ s2.spawn (groveOf s.cur) c k.launch kid y ps = (v, s3))
        (fun s _ => (s.within s3).writeX d v))
    ∧ (∀ y k ln kid s1 c qs s2 ps s3, ReadSendIf i (cSig i) (fun s w => s.spawnFound w y k ln kid s1 c ∧ ¬y.fresh ∧ tabFind w 8 = none
          ∧ s1.newPages (groveOf s.cur) s.me.vf k.launch y.blank = some (qs, s2) ∧ s.readTagged (256 * y.npg) 8 y.src = .reads ps s3)
        (fun _ _ => s3) (fun _ _ => .read 0 ps) true)
    ∧ (∀ y k ln kid s1 c ps s2 v s3, ReadDoneIf i (cSig i) (fun s w => s.spawnFound w y k ln kid s1 c ∧ ¬y.fresh ∧ tabFind w 8 ≠ none
          ∧ s1.newPages (groveOf s.cur) s.me.vf k.launch (pagesOf w y.npg 8) = some (ps, s2)
          ∧ s2.spawn (groveOf s.cur) c k.launch kid y ps = (v, s3))
        (fun s _ => (s.within s3).writeX d v)) := by
  intro i A
  have means := sspawn_meansRead sm l d a t
  have zero : ∀ s : State, (s.writeX d 0).me.pend = s.me.pend := fun s => s.within_writeX_pend s d 0
  refine ⟨means.trapIf fun s w bad => State.spawnsDesc_bad bad,
    fun y k ln => means.trapIf fun s w ⟨desc, task, launch, quota⟩ => State.spawnsDesc_quota desc task launch quota,
    fun y k ln => means.trapIf fun s w ⟨task, bad⟩ => State.spawnsDesc_layerBad task bad,
    fun y k ln => means.doneIf (fun s w ⟨task, full⟩ => State.spawnsDesc_layerFull task full) (fun _ _ => rfl) fun s _ _ => zero s,
    fun y k ln kid s1 => means.doneIf (fun s w ⟨task, entry, full⟩ => State.spawnsDesc_noCtx task entry full) (fun _ _ => rfl)
      fun s _ _ => zero s,
    fun y k ln kid s1 c => means.trapIf fun s w ⟨found, ask, full⟩ =>
      (State.spawnsDesc_found found).trans (State.pagesSpawn_full ask full),
    fun y k ln kid s1 c ps s2 v s3 => means.doneIf (fun s w ⟨found, fresh, pages, spawn⟩ => (State.spawnsDesc_found found).trans
      ((State.pagesSpawn_fresh fresh).trans (State.fillsSpawn_spawn pages spawn))) (fun _ _ => rfl)
      fun s w ⟨found, _, pages, spawn⟩ => State.spawned_pend found pages spawn,
    fun y k ln kid s1 c qs s2 ps s3 s w gathered writable ⟨found, reads, first, pages, src⟩ => ?sends,
    fun y k ln kid s1 c ps s2 v s3 => means.doneIf (fun s w ⟨found, reads, got, pages, spawn⟩ => (State.spawnsDesc_found found).trans
      ((State.pagesSpawn_got reads got).trans (State.fillsSpawn_spawn pages spawn))) (fun _ _ => rfl)
      fun s w ⟨found, _, _, pages, spawn⟩ => State.spawned_pend found pages spawn⟩
  case sends =>
    exact (means s w gathered writable).trans (congrArg (fun r => Host.Outcome.next (finish s _ r))
      ((State.spawnsDesc_found found).trans (State.pagesSpawn_reads reads first pages src)))

end Spawn

/-! The stream that a spawn makes (R344, R362) -/

section Root
variable (s : State) (g c own kid m : Nat) (y : SpawnDesc) (ps : List Nat)

/-- The root stream of a spawn, before it parks. -/
def State.root : Stream :=
  { st := 1, gen := (s.stream g c).gen, vf := s.me.vf, own := own, map := m, npg := y.npg, hor := y.hor, kid := kid
    layer := y.layer, hash := y.hash, ver := y.ver, fam := s.handle g c }

/-- The record of the family of a spawn. -/
def State.rootFamily : Family :=
  { fam := s.handle g c, vf := s.me.vf, own := own, curv := y.ver, members := [{ handle := s.handle g c, ford := 0, ver := y.ver }] }

/-- A spawn's map, stream and record. -/
def State.plants : State :=
  ((s.setMap g m { mref := 1, pages := ps }).setStream g c (s.root g c own kid m y)).setFamily g c (s.rootFamily g c own y)

theorem State.spawn_plants (free : s.freeMap g = some m) :
    s.spawn g c own kid y ps = (natW (s.handle g c).toNat, (s.plants g c own kid m y ps).parkStream g c) := by
  simp only [State.spawn, free]
  rfl

theorem State.plants_stream : (s.plants g c own kid m y ps).stream g c = s.root g c own kid m y :=
  ((State.sameStreams_setFamily _ _ _ _).stream g c).trans (State.stream_setStream ..)

theorem State.plants_map : (s.plants g c own kid m y ps).smap g m = { mref := 1, pages := ps } :=
  ((State.sameStreams_setFamily _ _ _ _).smap g m).trans ((State.smap_setStream ..).trans (State.smap_setMap ..))

/-- The stream that a spawn makes waits in its bucket. -/
theorem State.spawn_stream (free : s.freeMap g = some m) (left : y.hor ≠ 0) :
    (s.spawn g c own kid y ps).2.stream g c =
      { s.root g c own kid m y with st := 1, parked := true, since := (s.plants g c own kid m y ps).tick + 2 * 0 } := by
  have planted := s.plants_stream g c own kid m y ps
  have hor : ((s.plants g c own kid m y ps).stream g c).hor ≠ 0 := by rw [planted]; exact left
  have inf : ((s.plants g c own kid m y ps).stream g c).inf = false := by rw [planted]; rfl
  rw [State.spawn_plants _ _ _ _ _ _ _ _ free, State.parkStream_parks hor inf, State.stream_setStream, planted]

theorem State.spawn_map (free : s.freeMap g = some m) : (s.spawn g c own kid y ps).2.smap g m = { mref := 1, pages := ps } := by
  obtain ⟨-, -, -, maps⟩ := State.parkStream_keeps g c (s.plants g c own kid m y ps) 0
  rw [State.spawn_plants _ _ _ _ _ _ _ _ free]
  exact (maps m).trans (s.plants_map g c own kid m y ps)

end Root

/-- Settles O37: the forms go through `strmForm`, a spawn through `spawnsDesc`, and the answers through `samovar`. -/
theorem streamForms : Obligations.StreamForms := by
  refine ⟨fun sm l d a b t u => ?forms, fun sm l d a t => ?spawn, fun s iss vf v x => ?answers⟩
  case forms =>
    have none_ : ∀ (l : List Dst), ∀ r ∈ (none : Option (BitVec 5)), ⟨0, r.toNat⟩ ∈ l := fun _ _ h => nomatch h
    have one : ∀ r ∈ some d, (⟨0, r.toNat⟩ : Dst) ∈ [(⟨0, d.toNat⟩ : Dst)] := fun r h => by
      obtain rfl := Option.some.inj h
      exact List.mem_singleton.2 rfl
    intro A form X no zero B
    refine ⟨?fork, ?next, ?ret, ?retire, ?retireSub, ?mig, ?infeas, ?apush, ?apop, ?stat, ?pin, ?unpin⟩
    case fork => exact strmForm_forms (d := some d) (b := none) (exec_sfork sm l d a t) one
    case next => exact strmForm_forms (d := none) (b := some b) (exec_snext sm l a b t u) (none_ _)
    case ret => exact strmForm_forms (d := none) (b := some b) (exec_sret sm l a b t u) (none_ _)
    case retire => exact strmForm_forms (d := none) (b := none) (exec_sretire sm l a t) (none_ _)
    case retireSub => exact strmForm_forms (d := none) (b := none) (exec_sretireSub sm l a t) (none_ _)
    case mig => exact strmForm_forms (d := some d) (b := some b) (exec_smig sm l d a b t u) one
    case infeas => exact strmForm_forms (d := none) (b := none) (exec_sinfeas sm l a t) (none_ _)
    case apush => exact strmForm_forms (d := some d) (b := some b) (exec_sapush sm l d a b t u) one
    case apop => exact strmForm_forms (d := some d) (b := none) (exec_sapop sm l d a t) one
    case stat => exact strmForm_forms (d := some d) (b := none) (exec_sstat sm l d a t) one
    case pin => exact strmForm_forms (d := none) (b := some b) (exec_spin sm l a b t u) (none_ _)
    case unpin => exact strmForm_forms (d := none) (b := some b) (exec_sunpin sm l a b t u) (none_ _)
  case spawn =>
    obtain ⟨space, odd, poison, waits, reads⟩ := sspawn_starts sm l d a t
    obtain ⟨bad, quota, layerBad, layerFull, noCtx, noPages, blank, source, filled⟩ := sspawn_ends sm l d a t
    refine ⟨space, odd, poison, waits, reads, bad, quota, layerBad, layerFull, noCtx, noPages, blank, source, filled,
      fun s g c own kid y ps m free left => ?_⟩
    intro r x
    have root : x = _ := State.spawn_stream s g c own kid m y ps free left
    rw [root]
    exact ⟨congrArg Prod.fst (State.spawn_plants s g c own kid m y ps free), rfl, rfl, rfl, rfl, rfl, rfl, rfl, rfl, rfl, rfl, rfl, rfl, rfl,
      rfl, rfl, rfl, rfl, State.spawn_map s g c own kid m y ps free⟩
  case answers =>
    intro h g c t op trap code named live row works put page
    have named_ : ∀ k (w : Word), StrmAns.trap { cause := k, tval := w } = trap k w.toNat := fun k w =>
      congrArg (fun z => StrmAns.trap { cause := k, tval := z }) (natW_toNat_self w).symm
    have code_ : ∀ k, StrmAns.trap (streamWhy k v) = code k := fun k => congrArg StrmAns.trap (streamWhy_eq k v)
    have at_ : ∀ f, live → (f = .next → row) → formAllows f t.st = true → op f = s.samovar (iss.map groveOf) vf v x h g c t f :=
      fun f ⟨may, fresh, here⟩ rows allowed => State.strmOp_performs may fresh (.inr here)
        (fun next => (isRow_iff s iss h).2 (rows next)) allowed
    have three : ∀ f, live → (f = .next → row) → (f = .fork → ¬(t.st = 7 ∧ t.resolved = true)) → formAllows f t.st = false →
        op f = code 3 :=
      fun f ⟨may, fresh, here⟩ rows lives refused => (State.strmOp_refused may fresh here
        (fun next => (isRow_iff s iss h).2 (rows next)) lives refused).trans (code_ 3)
    refine ⟨fun bad f => State.strmOp_prot bad f,
      fun may stale => ⟨(State.strmOp_stale may stale .stat).trans (if_pos rfl), fun f other => ?stale⟩,
      fun may fresh moved f other => State.strmOp_moved may fresh moved other,
      fun may fresh => State.strmOp_performs may fresh (.inl rfl) nofun rfl, fun ⟨may, fresh, here⟩ out => ?stray, fun live rows idle => ?unrun,
      fun live retired => ⟨?retired, ?unpushed, ?unpopped⟩, fun live idle => ⟨?ret_, ?retire_, ?retireSub_, ?mig_⟩,
      fun live one two three_ => ?settled, fun live rows runs => ?next, fun live works => ?ret, fun live one => ?parked,
      fun live busy => ?running, fun live settled idle => ⟨?frees, State.freeStream_stream ..⟩,
      fun live settled busy => ?retires, fun live stays => ?push, fun live stays => ?pop,
      fun live out => ⟨?unpinned, ?unheld⟩, fun live inside => ⟨?unpin, fun here => ?pin, fun away none_ => ?quota, fun away room => ?stalls⟩,
      fun live works loose home => ⟨fun left => ?ordered, fun own spent => ?spent,
        fun o ver s1 own next => ⟨fun full => ?full, fun k free => ?born⟩⟩,
      fun live works => ⟨fun bad => ?bad, fun fine prot => ?prot, fun fine gone => ?unlayered,
        fun l fine layer here => ⟨fun full => ?none_, fun nh s1 room first => ?moves⟩⟩⟩
    case stale => exact (State.strmOp_stale may stale f).trans ((if_neg other).trans (code_ 1))
    case stray =>
      have stray : (!(iss.any (fun k => s.isRow k h))) = true := by
        rw [Bool.eq_false_iff.2 (mt (isRow_iff s iss h).1 out)]
        rfl
      exact (State.strmOp_here may fresh (.inr here)).trans ((if_pos ⟨rfl, stray⟩).trans (code_ 6))
    case unrun => exact three .next live (fun _ => rows) nofun (beq_eq_false_iff_ne.2 idle)
    case retired =>
      by_cases res : t.resolved = true
      · obtain ⟨may, fresh, here⟩ := live
        rw [if_pos res]
        exact (State.strmOp_here may fresh (.inr here)).trans ((if_neg nofun).trans ((if_pos ⟨rfl, retired, res⟩).trans (code_ 1)))
      · rw [if_neg res]
        exact three .fork live nofun (fun _ gone => res gone.2) (by rw [retired]; rfl)
    case unpushed => exact three .apush live nofun nofun (by rw [retired]; rfl)
    case unpopped => exact three .apop live nofun nofun (by rw [retired]; rfl)
    case ret_ => exact three .ret live nofun nofun (Bool.eq_false_iff.2 (mt (works_iff _).1 idle))
    case retire_ => exact three .retire live nofun nofun (Bool.eq_false_iff.2 (mt (works_iff _).1 idle))
    case retireSub_ => exact three .retireSub live nofun nofun (Bool.eq_false_iff.2 (mt (works_iff _).1 idle))
    case mig_ => exact three .mig live nofun nofun (Bool.eq_false_iff.2 (mt (works_iff _).1 idle))
    case settled => exact three .infeas live nofun nofun (by simp [formAllows, one, two, three_])
    case next =>
      intro kid bad
      have bad_iff : bad ↔ x.toNat / 2 ^ 22 % 2 ^ 41 ≠ 0 ∨ (!((tabFind (s.grove g).layers kid).any (fun l => l.vf == vf))) = true
          ∨ (x.getLsbD 63 = true ∧ t.hor = 0) := or_congr_right (or_congr_left (unlayered_iff _ vf).symm)
      have next := at_ .next live (fun _ => rows) (beq_iff_eq.2 runs)
      refine ⟨fun is => next.trans ((if_pos (bad_iff.1 is)).trans (named_ _ x)), fun isnt => next.trans (if_neg (mt bad_iff.2 isnt))⟩
    case ret => exact at_ .ret live nofun ((works_iff _).2 works)
    case parked =>
      refine (at_ .infeas live nofun (by rw [one]; rfl)).trans (congrArg (StrmAns.ok 0 0) ((if_pos one).trans ?_))
      exact State.becomeDone_setStream ..
    case running =>
      exact (at_ .infeas live nofun (by rcases busy with st | st <;> rw [st] <;> rfl)).trans
        (congrArg (StrmAns.ok 0 0) (if_neg (by omega)))
    case frees =>
      have fresh : s.stale h vf = false := live.2.1
      refine (at_ .retire live nofun ((works_iff _).2 (by omega))).trans ?_
      exact congrArg (fun r => StrmAns.ok 0 0 (State.tellGone r t h)) (State.retireHere_frees settled fresh idle)
    case retires =>
      have fresh : s.stale h vf = false := live.2.1
      refine (at_ .retire live nofun ((works_iff _).2 (by omega))).trans ?_
      exact congrArg (fun r => StrmAns.ok 0 0 (State.tellGone r t h)) (State.retireHere_waits settled fresh busy)
    case push => exact at_ .apush live nofun (bne_iff_ne.2 stays)
    case pop =>
      refine (at_ .apop live nofun (bne_iff_ne.2 stays)).trans ?_
      simp only [State.samovar, code_] <;> rfl
    case unpinned => exact (at_ .pin live nofun rfl).trans ((if_pos out).trans (code_ 5))
    case unheld => exact (at_ .unpin live nofun rfl).trans ((if_pos out).trans (code_ 5))
    case unpin => exact (at_ .unpin live nofun rfl).trans (if_neg (Nat.not_le.2 inside))
    case pin => exact (at_ .pin live nofun rfl).trans ((if_neg (Nat.not_le.2 inside)).trans (if_neg (by rw [here]; decide)))
    case quota =>
      refine (at_ .pin live nofun rfl).trans ((if_neg (Nat.not_le.2 inside)).trans ((if_pos away).trans ?_))
      exact (State.reloadAns_noFrame none_ _).trans (named_ _ v)
    case stalls =>
      refine (at_ .pin live nofun rfl).trans ((if_neg (Nat.not_le.2 inside)).trans ((if_pos away).trans ?_))
      exact State.reloadAns_stall room _
    case ordered =>
      refine ((at_ .fork live nofun ((works_iff _).2 works)).trans (State.fork_ordered loose home left)).trans ?_
      rw [streamWhy_eq, natW_handle]
      rfl
    case spent => exact (at_ .fork live nofun ((works_iff _).2 works)).trans (State.fork_spent loose home own spent)
    case full => exact (at_ .fork live nofun ((works_iff _).2 works)).trans (State.fork_full loose home own next (State.birth_none _ _ _ _ _ full))
    case born =>
      obtain ⟨s2, parked, since, born, stream, refs⟩ := State.birth_child s1 g c k o ver free
      have kept := s2.sameStreams_addMember t.fam t.ford
        { handle := s1.handle g k, ford := o, ver := ver, ret := t.ret, inf := t.inf, par := s.handle g c }
      refine ⟨_, (at_ .fork live nofun ((works_iff _).2 works)).trans (State.fork_bears loose home own next born), ?_⟩
      rw [kept.stream, stream, kept.smap]
      exact ⟨rfl, rfl, rfl, rfl, rfl, rfl, rfl, rfl, rfl, rfl, rfl, rfl, rfl, rfl, rfl, refs⟩
    case bad =>
      exact ((at_ .mig live nofun ((works_iff _).2 works)).trans (State.migrate_bad bad)).trans (named_ _ x)
    case prot =>
      exact ((at_ .mig live nofun ((works_iff _).2 works)).trans (State.migrate_prot fine prot)).trans (named_ _ x)
    case unlayered => exact (at_ .mig live nofun ((works_iff _).2 works)).trans (State.migrate_unlayered fine.1 fine.2 gone)
    case none_ => exact (at_ .mig live nofun ((works_iff _).2 works)).trans (State.migrate_full fine.1 fine.2 layer here full)
    case moves =>
      intro s2
      exact ((at_ .mig live nofun ((works_iff _).2 works)).trans (State.migrate_room fine.1 fine.2 layer here room)).trans
        (congrArg (StrmAns.ok _ 0) (State.startMove_first first nh))

end Sys2Proof.Machine
end
